-- ==== Sys2Proof/Word.lean ====
section
/-!
DEFINITION. The word types of the Psimen T16 fabric and their plainest arithmetic.
-/
namespace Sys2Proof

/-- A byte (R5). -/
abbrev Byte := BitVec 8
/-- The contents of one 32-bit register (R7). -/
abbrev Word := BitVec 32
/-- A 64-bit value: an event value, an atomic operand, a data word of a line (R2). -/
abbrev Dword := BitVec 64
/-- One 64-byte line, byte `i` in bits `[8i+7 : 8i]` (R2, R5). -/
abbrev Line := BitVec 512

/-- Number of a cove, C0 to C15 (R2). -/
abbrev CoveId := Fin 16
/-- Number of a stack, a stack channel controller, a shoal pair or a sweep engine (R3). -/
abbrev StackId := Fin 32
/-- Number of a tide master: 0 to 15 the coves', 16 the management tide (R70). -/
abbrev TideId := Fin 17
/-- Number of a tide tap (R74). -/
abbrev TapId := Fin 292
/-- Number of a beacon source (R290). -/
abbrev SourceId := Fin 1024
/-- Number of a beacon target (R2). -/
abbrev TargetId := Fin 64
/-- Number of a voltage island (R2). -/
abbrev IslandId := Fin 6
/-- Number of a clock domain (R2). -/
abbrev DomainId := Fin 100
/-- Number of a queue of a cove, or of a table slot, or of a GP engine: 0 to 63. -/
abbrev Idx64 := Fin 64

end Sys2Proof
end

