-- ==== Sys2Proof/Syntax.lean ====
section
/-!
DEFINITION. The commands of the block: one constructor of `Instr` for each row of the table of operations and events,
with the operands the row's rule names. Where a command is an event whose time or whose measured value the outside
decides, the measured value is an operand.
-/
namespace Sys2Proof

/-- Who performs a register access (R11, R17). -/
inductive Requester where
  | ibpin
  | pf
  | vf (cove : CoveId)
deriving DecidableEq, Repr

/-- The atomic operations (R102). -/
inductive AtomOp where
  | add | swap | cas | umin | umax | and | or | xor
deriving DecidableEq, Repr

/-- One access to one 64-byte line (R101, R102, R122, R123). -/
inductive Access where
  /-- A line read. -/
  | read
  /-- A write of the bytes whose enables are set; with all 64 set it is a full-line write. -/
  | write (en : BitVec 64) (data : Line)
  /-- An atomic on the naturally aligned 32-bit (`wide` false) or 64-bit operand number `idx` of the line. -/
  | atomic (op : AtomOp) (wide : Bool) (idx : Fin 16) (opnd cmp : Dword)
deriving DecidableEq, Repr

/-- What a transaction is issued from: a translated transfer of a client, or an untranslated access by FPA (R137, R275). -/
inductive Issue where
  | xfer (id : Nat) (mesh : Bool)
  | raw (tag : Fin 32) (src : BitVec 16) (fpa : BitVec 41) (acc : Access)
deriving DecidableEq, Repr

/-- One measurement of a calibration: a tap, a source, the one-way delay in 125 ps steps and the acknowledge time (R78, R79). -/
structure CalMeas where
  tap : TapId
  src : TideId
  delay : Nat
  ackNs : Nat
deriving DecidableEq, Repr

/-- The SPDM requests with no row of their own (R313). -/
inductive SpdmReq where
  | getVersion | getCapabilities | negotiateAlgorithms
  | getDigests
  | getCertificate (slot : BitVec 4)
  | challenge (slot : BitVec 4)
  /-- PSK exchange, encapsulated requests, CSR, SET_CERTIFICATE and every other code. -/
  | other
deriving DecidableEq, Repr

/-- A group of control flops in a scan segment (R364). -/
inductive CtlFlop where
  /-- A register field, by the register's offset, low bit and width. -/
  | field (off low width : Nat)
  /-- A counter held whole, by its offset. -/
  | count (off : Nat)
  /-- The edge count of a tide master. -/
  | edges (m : Fin 17)
  /-- Another group: a state machine, an index, a tag, an FPA or a count, by its place in the segment and its width. -/
  | other (place : BitVec 32) (width : Nat)
deriving DecidableEq, Repr

/-- An array the dump instrument of the 1687 network reaches (R364). -/
inductive DumpArr where
  /-- A word of a tidepool bank. -/
  | tidepool (bank : Fin 512) (word : BitVec 15)
  /-- An entry of a stack's metadata cache, by set and recency (R105). -/
  | metadata (n : StackId) (set : BitVec 9) (way : Fin 16)
  /-- A line of a unit's buffers. -/
  | buffer (unit : BitVec 16) (line : BitVec 14)
deriving DecidableEq, Repr

/-- What a register write carries: the word, and in `late` the status bits of the register that the fabric sets in the same
cycle (R10). -/
structure WriteData where
  word : Word
  late : Word
deriving DecidableEq, Repr

/-- A sweep engine's turn on its stack, and whether its patrol is more than 1/24 of its interval behind schedule (R213). -/
structure SweepTurn where
  stack : StackId
  behind : Bool
deriving DecidableEq, Repr

/-- A unit, and the engine time in ns that its work has taken (R258). -/
structure UnitTime where
  unit : BitVec 16
  ns : Nat
deriving DecidableEq, Repr

/-- An engine port, and the engine time in ns that its work has taken (R258). -/
structure PortTime where
  port : Fin 128
  ns : Nat
deriving DecidableEq, Repr

/-- A step, and the time in ns at which it has come to a boundary. -/
structure StepTime where
  step : Nat
  now : Nat
deriving DecidableEq, Repr

/-- A master's read buffer: the bytes it holds, and the bytes its current tile still needs to read (R281). -/
structure ReadBuffer where
  held : Nat
  need : Nat
deriving DecidableEq, Repr

/-- The commands, one constructor for each row of the table of operations and events. -/
inductive Instr where
  /-- A register write to a register with no row of its own sets, clears or ignores fields by their access codes, serialised among requesters (R9). -/
  | regWrite (q : Requester) (off : BitVec 25) (v : WriteData)
  /-- A misaligned or non-32-bit register access changes nothing and completes with Unsupported Request or the Ibpin error status (R7). -/
  | regAccessBadSize (q : Requester) (off : BitVec 25) (size : Nat) (write : Bool)
  /-- A read of a 64-bit counter's low word latches its high word for the requester, and clears the counter if it is ROC (R12). -/
  | counterLoRead (q : Requester) (off : BitVec 25)
  /-- A write of CH_CTL.CLAIM in IDLE gives the staging buffer to the writer and moves STATE to LOADING (R50). -/
  | chClaim (q : Requester) (v : Word)
  /-- A write of CH_CTL.RELEASE returns a LOADING buffer to IDLE without a verdict (R53). -/
  | chRelease (q : Requester) (v : Word)
  /-- A write of CH_CTL.EN checks length and pointer, then starts the fetch or sounding, or refuses at once in Scrapped or without firmware (R53). -/
  | chEn (q : Requester) (v : Word)
  /-- A write to CH_WDATA in LOADING stores four image bytes at CH_WPTR and advances it (R51). -/
  | chWdata (q : Requester) (v : Word)
  /-- The last image byte of a host fetch arrives and sounding begins (R53). -/
  | chartFetchDone (image : List Byte)
  /-- A completion error or the 10 ms timeout of the chart fetch returns STATE to IDLE with verdict 0x7F (R53). -/
  | chartFetchFail
  /-- A chart held in SOUNDING because start-up was not complete begins sounding when CK_STATUS.UP sets (R335). -/
  | soundingStart
  /-- Sounding finishes and either refuses the image with the first failing rule's code or accepts it and moves to APPLYING (R60). -/
  | soundingDone (stagingBad : Bool)
  /-- Firmware fails to finish sounding within its bound and the image is refused with 0x7F (R54). -/
  | soundingTimeout
  /-- The apply generates reserved KID keys, switches masks, retargets taps and starts the zero-fills and, for a full chart, the loops (R61). -/
  | applyStart
  /-- A full-chart apply resumes once its enabled loops run, switching domains and starting every tide master at count 0 (R68). -/
  | applyContinue
  /-- After the zero-fills, the apply updates key ranges, rewrites manifests, sets CH_GEN and the verdict, lifts fences and raises source 512 (R59). -/
  | applyFinish
  /-- A CH_FENCE write with UNFENCE 0 starts fencing the named units, granules or beacon targets (R55). -/
  | chFence (q : Requester) (v : Word)
  /-- A CH_FENCE write with UNFENCE 1 returns the named resources to service, or is ignored during sounding or apply (R58). -/
  | chUnfence (q : Requester) (v : Word)
  /-- A fenced resource has no traffic in flight; PENDING falls and source 518 is raised when it reaches 0 (R55). -/
  | fenceDone (space : Fin 3) (id : BitVec 16)
  /-- A tide master's cycle count reaches its period, increments the count and emits an edge with its DUE bits (R70). -/
  | tideEdge (m : TideId) (now : Nat)
  /-- A tap receives an edge message and schedules its launch at its lag, or detects a missed edge (R76). -/
  | tapEdgeReceive (t : TapId) (flips : BitVec 84)
  /-- A tap launches the due entries of an edge on its local cycle, in the order parameters, window restart, flips, preemption, step starts (R85). -/
  | tapLaunch (t : TapId) (now : Nat)
  /-- A tap's launch acknowledgement reaches the master, is timed for lateness, and frees the entry when all have acknowledged (R84). -/
  | tapAck (t : TapId) (ns : Nat)
  /-- An arming unit takes a free slate entry with a target count, or is refused FULL (R83). -/
  | slateArm (m : TideId)
  /-- A tap stores an action sent for a slate entry and acknowledges it to the master (R83). -/
  | tapArmAction (t : TapId) (e : Idx64)
  /-- A tap that missed an edge discards its actions and asks the master for resynchronisation (R89). -/
  | tapResyncRequest (t : TapId)
  /-- A tap loads the full count, generations and regulator parameters sent by the master and launches again from the next edge (R89). -/
  | tapResyncLoad (t : TapId)
  /-- A write of TD_CTL.RESUME after XA loss reloads periods in FIO cycles and resumes the masters (R73). -/
  | tdResume (q : Requester)
  /-- A write of TD_CTL.CAL starts calibration of every tap and source (R78). -/
  | tdCal (q : Requester)
  /-- A calibration completes, loading delays, lags and SETTLE, clamping lags out of range (R79). -/
  | calibrationDone (meas : List CalMeas)
  /-- A stack channel controller performs a line read with ownership, metadata, tag, KID and word checks (R118). -/
  | scRead (id : Nat) (linkBad : Bool)
  /-- A full-line write is mixed under the current KID, encoded and written, clearing poison and counting key use (R122). -/
  | scFullWrite (id : Nat)
  /-- A partial write reads, checks, merges and rewrites the whole line under the current KID (R123). -/
  | scPartialWrite (id : Nat) (linkBad : Bool)
  /-- An ADD atomic is performed as a read-modify-write of one line and returns the old value (R102). -/
  | atomicAdd (id : Nat)
  /-- A SWAP atomic is performed as a read-modify-write of one line and returns the old value (R102). -/
  | atomicSwap (id : Nat)
  /-- A CAS atomic is performed as a read-modify-write of one line and returns the old value (R102). -/
  | atomicCas (id : Nat)
  /-- A UMIN atomic is performed as a read-modify-write of one line and returns the old value (R102). -/
  | atomicUmin (id : Nat)
  /-- A UMAX atomic is performed as a read-modify-write of one line and returns the old value (R102). -/
  | atomicUmax (id : Nat)
  /-- An AND atomic is performed as a read-modify-write of one line and returns the old value (R102). -/
  | atomicAnd (id : Nat)
  /-- An OR atomic is performed as a read-modify-write of one line and returns the old value (R102). -/
  | atomicOr (id : Nat)
  /-- An XOR atomic is performed as a read-modify-write of one line and returns the old value (R102). -/
  | atomicXor (id : Nat)
  /-- A controller issues HBM3 refresh at the rate its stack temperature requires (R103). -/
  | refresh (n : StackId)
  /-- A controller reads its stack's temperature at least every 10 ms and sets the refresh rate (R103). -/
  | scTempRead (n : StackId) (temp : Byte) (rate : Fin 3)
  /-- A write of SC_CTL.MDC_FLUSH writes back every dirty metadata line (R105). -/
  | scMdcFlush (q : Requester) (n : StackId)
  /-- A write of SC_OUTST.PEAK_CLR sets PEAK to CUR (R101). -/
  | scPeakClr (q : Requester) (n : StackId)
  /-- A write of SC_KR_CMD.REKEY starts or queues a re-key of a scrambled range (R115). -/
  | scKrCmdRekey (q : Requester) (r : Idx64)
  /-- A waiting re-key takes a newly Free KID, loads it and makes it current, moving the old KID to Draining (R115). -/
  | rekeyKidTake
  /-- A sweep engine rewrites one line tagged with the old KID under the new KID (R115). -/
  | rekeySweepLine (n : StackId) (g : BitVec 13) (line : BitVec 22)
  /-- Every sweep of a re-key reports done; the old KID enters Flushing and refused writes resume (R114). -/
  | rekeySweepDone (r : Idx64)
  /-- Every controller has drained and removed a Flushing KID; it becomes Retired and its key is zeroised (R114). -/
  | kidRetire (k : Fin 64)
  /-- A verify pass reads one line covered by a Retired KID and checks it does not carry that KID (R114). -/
  | verifyLine (n : StackId) (k : Fin 64) (j : Nat) (line : BitVec 22)
  /-- A verify pass completes and the Retired KID returns to Free (R114). -/
  | kidVerifyDone (k : Fin 64)
  /-- A sweep engine writes one zero line under the KID the granule will carry (R66). -/
  | zeroFillLine (n : StackId) (g : BitVec 13) (line : BitVec 22)
  /-- The zero-fill of a granule set completes and the waiting apply or reset may continue (R66). -/
  | zeroFillDone (g : BitVec 13)
  /-- A sweep engine reads one line of its stack as patrol, counting, poisoning or writing back corrections (R125). -/
  | patrolVisit (n : SweepTurn)
  /-- A patrol pass ends, is counted, and sets SW_STATUS.LATE if it exceeded its interval (R213). -/
  | patrolPassEnd (n : StackId) (late : Bool)
  /-- A tidepool read is checked against ownership, returns zeros for unwritten lines and poisons uncorrectable words (R127). -/
  | tidepoolRead (id : Nat)
  /-- A tidepool write stores data, sets the line's written bit and clears poison of whole words (R128). -/
  | tidepoolWrite (id : Nat)
  /-- A tidepool bank scrubs a word in an idle cycle, correcting it or setting its poison bit (R127). -/
  | tidepoolScrubVisit (bank : Fin 512) (word : BitVec 15)
  /-- A master issues a transaction to a controller, charging one unit of its regulator or being held without credit (R275). -/
  | transferIssue (iss : Issue)
  /-- A client looks a DVA up in its TLB and the shared L2, checks rights, or queues a miss for the walker (R138). -/
  | translateRequest (src : BitVec 16) (cove : CoveId) (ctx : BitVec 12) (dva : BitVec 64) (len : Nat) (acc : Access)
  /-- The walker takes a queued miss, coalescing misses of the same page, and issues its first host read (R140). -/
  | walkStart
  /-- A host read of a walk returns and the walker faults, continues or fills a leaf (R135). -/
  | walkReadDone (w : Nat) (data : Option Dword)
  /-- A walk host read exceeds 50 µs and the walk ends with fault 0x06 (R140). -/
  | walkTimeout (w : Nat)
  /-- A transfer's data, error or write performance returns to its client, which marks the dirty log and updates invalidation waits (R144). -/
  | transferComplete (id : Nat)
  /-- A write of XL_INV_GO latches and starts an invalidation, or is ignored with FULL (R143). -/
  | xlInvGo (q : Requester) (c : CoveId)
  /-- A participant acknowledges an invalidation; after the last the event is signalled (R143). -/
  | invAck (c : CoveId) (client : Fin 228)
  /-- An invalidation not complete 1 ms after GO sets SLOW and raises the translation source (R147). -/
  | invSlow (c : CoveId)
  /-- A write of the wrack consumer index is accepted or ignored with BADCONS (R149). -/
  | xlWqCons (q : Requester) (c : CoveId) (v : Word)
  /-- A XL_WQ_RESOLVE replay re-translates every held transfer of the context (R152). -/
  | xlWqReplay (q : Requester) (c : CoveId) (ctx : BitVec 12)
  /-- A XL_WQ_RESOLVE kill completes held transfers with error and kills the context (R152). -/
  | xlWqKill (q : Requester) (c : CoveId) (ctx : BitVec 12)
  /-- A write of XL_DL_CTL.SWAP toggles the cove's dirty-log epoch to the next bitmap (R159). -/
  | xlDlSwap (q : Requester) (c : CoveId)
  /-- A write of XL_DL_CTL.STOP toggles the epoch and turns logging off (R159). -/
  | xlDlStop (q : Requester) (c : CoveId)
  /-- The old bitmap's cached lines are written back, DONE is set and the translation source is raised (R159). -/
  | dirtyLogSwapDone (c : CoveId)
  /-- A missed bitmap line read from host memory arrives and pending marks are ORed into it (R158). -/
  | dirtyLogLineFill (c : CoveId) (addr : BitVec 64) (data : Line)
  /-- A host-bus error on a bitmap access sets ERR, stops logging and raises the translation source (R160). -/
  | dirtyLogHostError (c : CoveId)
  /-- A shoal engine reads its gather command and table descriptor and fails the tile on a bad descriptor (R167). -/
  | gatherTileStart (gp : Idx64)
  /-- A dedup slice reads indices, hashes keys and builds a pass of up to 8,192 unique rows (R171). -/
  | dedupPass (gp : Idx64)
  /-- A unique row arrives from overlay, hot copy, arena or escape row and is dequantised into the row buffer (R168). -/
  | rowFetchDone (gp : Idx64) (row : BitVec 40)
  /-- The engine pools row occurrences of a bag into its FP32 accumulator (R180). -/
  | rowPool (gp : Idx64) (pos : BitVec 17)
  /-- A bag's last occurrence is pooled and the accumulator guard decides whether to replay it (R185). -/
  | bagEnd (gp : Idx64) (bag : BitVec 12)
  /-- A paired-FP32 replay of a bag completes (R186). -/
  | bagReplayDone (gp : Idx64) (bag : BitVec 12)
  /-- A completed bag's output is converted and written to memory or delivered to an engine port, in bag order (R169). -/
  | bagOutput (gp : Idx64)
  /-- A write of HD_CTL.ARB sets arbitration, or ARB 0 is ignored with ARB_REF when two coves own the pairs (R172). -/
  | hdCtlArb (q : Requester) (k : Fin 16) (on : Bool)
  /-- TU_BIND_CTL OP 1 binds a table to a slot and engine, or is refused (R193). -/
  | tuBind (q : Requester) (c : CoveId) (slot : Idx64) (ctx : BitVec 12) (eng : Fin 8)
  /-- The engine has zero-filled the overlay index and free map; PUB is 0 and the slot is BOUND (R193). -/
  | tuBindDone
  /-- TU_BIND_CTL OP 2 unbinds a slot, or is refused with code 4 (R194). -/
  | tuUnbind (q : Requester) (c : CoveId) (slot : Idx64)
  /-- TU_BIND_CTL OP 3 removes every pending-generation entry, sends their slots to limbo and clears INCOMPLETE (R203). -/
  | tuDiscardPending (q : Requester) (c : CoveId) (slot : Idx64)
  /-- TU_BIND_CTL OP 4 starts compaction of a bound table (R207). -/
  | tuCompactNow (q : Requester) (c : CoveId) (slot : Idx64)
  /-- A table update engine reads a delta command and fails it when malformed or its slot is unbound (R201). -/
  | deltaTileStart (tu : Fin 8)
  /-- The engine applies one delta record, writing the row and inserting or updating its pending index entry (R202). -/
  | deltaRecord (tu : Fin 8)
  /-- A write of TU_FLIP_GO latches and requests a flip of the masked slots, or refuses it (R204). -/
  | tuFlipGo (q : Requester) (c : CoveId)
  /-- Once pins and delta tiles clear, the lowest bound engine arms the flip's slate entry (R204). -/
  | flipArm (c : CoveId)
  /-- A flip's slate outcome records the launch count and signals the event, or leaves PUB unchanged if cancelled (R204). -/
  | flipOutcome (c : CoveId)
  /-- A shoal pair acknowledges drain of an edge once its earlier overlay hits have yielded rows (R206). -/
  | pairDrainAck (pair : Fin 32)
  /-- Arena slots leave limbo for the free map once every pair has acknowledged drain (R206). -/
  | limboRelease (tu : Fin 8)
  /-- A compaction move's writes complete; the entry is cleared and its arena slot sent to limbo (R207). -/
  | compactionMoveDone (c : CoveId) (slot : Idx64)
  /-- A mover reads its command and fails malformed tiles with reason 0x50 (R209). -/
  | moverTileStart (rm : Fin 16)
  /-- A mover reads a 64×64 block and writes it, or ends the tile on an error (R209). -/
  | moverBlock (rm : Fin 16)
  /-- A ranker reads its command and fails malformed tiles with reason 0x60 (R212). -/
  | rankerTileStart (tk : Fin 8)
  /-- A ranker selects and writes the K best entries of one segment (R211). -/
  | rankerSegment (tk : Fin 8)
  /-- A write of SW_CV_MV_GO queues a prefetch or advice move, drops advice, or refuses the GO (R214). -/
  | swCvMvGo (q : Requester) (c : CoveId)
  /-- A sweep engine moves one line of a move under its BG regulator (R214). -/
  | moveLine (n : SweepTurn)
  /-- A move ends by completing, faulting or erroring, writing any record and signalling its event (R214). -/
  | moveEnd (id : Nat)
  /-- A write of OB_AREA with EN 1 checks granule ownership and starts area initialisation, or sets ERR (R218). -/
  | obAreaEnable (q : Requester) (c : CoveId) (v : Word)
  /-- The object area's events are zeroed and the free list built; READY is set (R218). -/
  | obAreaInitDone (c : CoveId)
  /-- OB_CMD CREATE takes the head of the free list as a Live object, or fails NOSPACE (R227). -/
  | obCreate (q : Requester) (c : CoveId)
  /-- OB_CMD HOLD increments an object's host reference (R226). -/
  | obHold (q : Requester) (c : CoveId)
  /-- OB_CMD DROP decrements an object's host reference, reclaiming a Zombie at zero (R226). -/
  | obDrop (q : Requester) (c : CoveId)
  /-- OB_CMD FREE turns a Live object into a Zombie with its reclaim event (R227). -/
  | obFree (q : Requester) (c : CoveId)
  /-- OB_CMD QUERY returns words of an object-table entry (R224). -/
  | obQuery (q : Requester) (c : CoveId)
  /-- OB_CMD Q_CREATE makes a Free queue Active with its kind, share and reserve (R231). -/
  | qCreate (q : Requester) (c : CoveId)
  /-- OB_CMD Q_DESTROY drains a queue under FINISH or ABORT (R244). -/
  | qDestroy (q : Requester) (c : CoveId)
  /-- OB_CMD G_SET installs a graph image in a slot and advances its generation (R242). -/
  | gSet (q : Requester) (c : CoveId)
  /-- OB_CMD G_CLEAR drops a slot's image reference and sets its generation to 0 (R242). -/
  | gClear (q : Requester) (c : CoveId)
  /-- OB_CTX_CMD OP 1 kills a context (R243). -/
  | obCtxKill (q : Requester) (c : CoveId) (ctx : BitVec 12)
  /-- OB_CTX_CMD OP 2 revives a KILLED context with no tile left to IDLE (R243). -/
  | obCtxRevive (q : Requester) (c : CoveId) (ctx : BitVec 12)
  /-- A context needing a hardware slot takes a free one, evicts a victim or waits (R222). -/
  | slotRequest (c : CoveId) (ctx : BitVec 12)
  /-- A victim's save record is written and its slot passes to the waiting context (R223). -/
  | ctxEvictDone (c : CoveId) (ctx : BitVec 12)
  /-- A context's save record is read back into its slot and it becomes RESIDENT (R223). -/
  | ctxLoadDone (c : CoveId) (ctx : BitVec 12)
  /-- A lookup request relocates an HREF and offset to a DVA, or returns an error status (R230). -/
  | cpLookup (c : CoveId) (ctx : BitVec 12) (href : Word) (ofs : BitVec 48)
  /-- A submitted queue entry is accepted at the tail with its references, or refused with a status (R233). -/
  | cpSubmit (c : CoveId) (entry : Line) (now : Nat)
  /-- A command processor signal request is applied to an event and answered KIND 0 (R236). -/
  | cpEventSignal (c : CoveId) (e : BitVec 16) (v : Dword) (tag : BitVec 22)
  /-- A command processor wait request is installed and answered KIND 0, or BUSY (R238). -/
  | cpEventWait (c : CoveId) (e : BitVec 16) (v : Dword) (tag : BitVec 22)
  /-- A write to a queue's doorbell page is forwarded to the command processor with cove and queue (R235). -/
  | doorbellWrite (q : Requester) (c : CoveId) (queue : Idx64) (v : Word)
  /-- A queue's head entry whose event and slot conditions hold is released to the scheduler (R255). -/
  | queueHeadRelease (c : CoveId) (queue : Idx64)
  /-- An entry whose steps are complete and predecessors retired signals CEV and drops its references (R235). -/
  | entryRetire (c : CoveId) (queue : Idx64) (now : Nat)
  /-- A signal applies UMAX to an event, completing waits, exhausting it or counting a regression (R236). -/
  | eventSignal (c : CoveId) (e : BitVec 16) (v : Dword)
  /-- EV_OP 1 signals an event with the staged value (R236). -/
  | evOpSignal (q : Requester) (c : CoveId)
  /-- EV_OP 2 installs a host wait, or sets WFULL (R238). -/
  | evOpWait (q : Requester) (c : CoveId)
  /-- EV_OP 3 writes 0 to an event and cancels every wait on it (R237). -/
  | evOpReset (q : Requester) (c : CoveId)
  /-- EV_OP 4 reads an event's value into EV_RES (R236). -/
  | evOpRead (q : Requester) (c : CoveId)
  /-- A write of the completion ring CONS is checked and lets stalled records be written (R239). -/
  | evCringCons (q : Requester) (c : CoveId) (v : Word)
  /-- A write of EV_CRING_LO sets the ring and retries records held after a host-bus error (R239). -/
  | evCringBase (q : Requester) (c : CoveId) (v : Word)
  /-- An engine acknowledges a queue destruction; after the last the queue is Free and its event signalled (R244). -/
  | qdestroyEngineAck (c : CoveId) (queue : Idx64) (unit : BitVec 16)
  /-- A destruction not complete after 1 ms sets STUCK and raises the objects source (R244). -/
  | qdestroyStuck (c : CoveId) (queue : Idx64)
  /-- A released entry's descriptors are read and checked, its path chosen and its step placed (R250). -/
  | stepRelease (c : CoveId) (queue : Idx64) (now : Nat) (far : Bool)
  /-- An engine at a tile boundary takes its next eligible tile by priority and starts it (R261). -/
  | engineTileBoundary (unit : BitVec 16) (now : Nat)
  /-- A tile completes DONE, ERROR or ABORTED, is charged, and later stages become eligible (R263). -/
  | tileComplete (unit : BitVec 16) (ns : Nat)
  /-- A tile's watchdog expires; the tile is aborted with a 0x30 record (R262). -/
  | tileWatchdog (unit : BitVec 16)
  /-- A tile still running at twice the watchdog causes an engine reset after drain (R262). -/
  | tileWatchdogLimit2 (unit : UnitTime)
  /-- A normal step holds a port beyond SLICE while a lower-VT step waits, and is chosen as a victim (R264). -/
  | sliceExpiry (port : Fin 128) (now : Nat) (far : Bool)
  /-- A victim reaches a stop point and reserves spill space, or defers to the next CHEAP boundary (R265). -/
  | preemptStopPoint (step : StepTime)
  /-- A port's ranges are saved and freed; after the last the victim is PREEMPTED (R265). -/
  | saveDone (step : Nat) (port : PortTime) (now : Nat)
  /-- A chunk of a chunked step ends and the step continues or yields under MIX (R269). -/
  | chunkEnd (step : StepTime)
  /-- A preempted or yielded step finds ports free, is remapped and starts restoring (R267). -/
  | stepResume (step : Nat) (now : Nat)
  /-- A resuming step's ranges are restored, its spill units freed and it runs again (R267). -/
  | restoreDone (step : Nat) (port : PortTime)
  /-- A write of SQ_SPILL with EN 1 enables the spill area when its granules are owned, or sets ERR (R266). -/
  | sqSpillEnable (q : Requester) (c : CoveId) (v : Word)
  /-- A regulator's window ends at its WINDOW-th tick, the monitor judges it, and credit resets (R278). -/
  | regWindowEnd (r : Fin 256)
  /-- A master's URG rises to 3 and controllers raise its waiting requests to level 1 (R282). -/
  | urgUpgrade (r : Fin 256) (b : ReadBuffer)
  /-- Firmware recomputes stack deliverable bandwidth and all cove scale factors after a frequency or refresh change (R285). -/
  | dbRecompute
  /-- A beacon source is raised, setting PENDING and entering hold-off and routing (R292). -/
  | sourceRaise (src : SourceId)
  /-- A group hold-off timer expires and releases every HELD source of the group (R293). -/
  | holdoffExpire (g : Idx64)
  /-- A read of a target's claim register returns and activates its best pending source (R298). -/
  | bcClaim (q : Requester) (t : TargetId)
  /-- A write of a target's end-of-interrupt register ends service of a source or sets BADEOI (R299). -/
  | bcEoi (q : Requester) (t : TargetId) (v : Word)
  /-- A write to BC_CV_SWI raises the cove's software sources (R290). -/
  | bcCvSwi (q : Requester) (c : CoveId) (v : Word)
  /-- A write of a source's configuration sets PRIO, EN and TARGET, handling a newly enabled pending source, or sets BADCFG (R292). -/
  | bcSrcCfgWrite (q : Requester) (src : SourceId) (v : Word)
  /-- A write of a target's configuration sets its mode, vector and EN, withdrawing it when EN goes 0 (R296). -/
  | bcTgtCfgWrite (q : Requester) (t : TargetId) (v : Word)
  /-- A write of BC_NMI.TEST sets or clears the test cause of NMI_OUT in Maker and Integrator (R301). -/
  | bcNmiTest (q : Requester) (on : Bool)
  /-- While attention stays asserted, IB_RDY gives a further 2 µs low pulse every 1 ms (R300). -/
  | ibAttentionPulse
  /-- A write of CV_QUIESCE.REQ starts or upgrades a FINISH or ABORT quiesce, or sets BADSEQ (R306). -/
  | cvQuiesceReq (q : Requester) (c : CoveId) (v : Word)
  /-- A write of CV_QUIESCE.RELEASE returns a FINISH-quiesced cove to ACTIVE, or sets BADSEQ (R305). -/
  | cvQuiesceRelease (q : Requester) (c : CoveId) (v : Word)
  /-- A quiescing cove's drain completes; it becomes QUIESCED and its attention source is raised (R306). -/
  | quiesceAck (c : CoveId)
  /-- A quiesce not complete 2 ms after REQ sets STUCK and raises the cove attention source (R307). -/
  | quiesceStuck (c : CoveId)
  /-- A write of CV_RESET.GO in QUIESCED starts a cove reset, with or without scrub (R310). -/
  | cvResetGo (q : Requester) (c : CoveId) (v : Word)
  /-- A cove reset completes; the cove is ACTIVE, CLEAN, RESETS advances and attention is raised (R310). -/
  | coveResetDone (c : CoveId)
  /-- An FLR of a virtual function quiesces with ABORT and resets its cove without scrub (R311). -/
  | vfFlr (c : CoveId)
  /-- An SPDM measurement request returns the firmware, manifest and lifecycle measurements (R314). -/
  | spdmGetMeasurements (c : CoveId) (index : Byte)
  /-- An SPDM version, capability, algorithm, certificate or challenge request is answered within the supported profile (R313). -/
  | spdmOtherRequest (c : CoveId) (req : SpdmReq)
  /-- An SPDM KEY_EXCHANGE starts a cove's session, or is refused when one exists or the TRNG fails (R313). -/
  | spdmKeyExchange (c : CoveId)
  /-- An SPDM FINISH completes the session and loads KH and KD with counters 0 (R315). -/
  | spdmFinish (c : CoveId) (good : Bool)
  /-- An SPDM KEY_UPDATE replaces a direction's key between chunks and resets its counter (R315). -/
  | spdmKeyUpdate (c : CoveId) (h2d d2h : Bool)
  /-- An SPDM heartbeat keeps the session alive (R313). -/
  | spdmHeartbeat (c : CoveId)
  /-- An SPDM END_SESSION ends the session and zeroises its keys (R315). -/
  | spdmEndSession (c : CoveId)
  /-- A missed heartbeat period ends the session and zeroises its keys (R313). -/
  | heartbeatLoss (c : CoveId)
  /-- A write of CV_BX_GO queues a bounce copy, or refuses it without a session (R319). -/
  | cvBxGo (q : Requester) (c : CoveId)
  /-- A bounce engine seals or opens one chunk, checking tag and counter, and ends the copy on any failure (R317). -/
  | bounceChunk (b : Fin 4) (data : List Byte) (entry : BitVec 256) (hostErr : Bool)
  /-- CV_MIG_CTL OP 1 seals cove-relative pages to host memory (R320). -/
  | migCopyOut (q : Requester) (c : CoveId)
  /-- CV_MIG_CTL OP 2 opens sealed pages into the cove's granules (R320). -/
  | migCopyIn (q : Requester) (c : CoveId)
  /-- CV_MIG_CTL OP 3 writes the migration record of a FINISH-quiesced cove (R321). -/
  | migExport (q : Requester) (c : CoveId)
  /-- CV_MIG_CTL OP 4 imports a migration record, or refuses it with a code (R322). -/
  | migImport (q : Requester) (c : CoveId)
  /-- A migration operation finishes and sets DONE or ERR with its code (R320). -/
  | migOperationDone (c : CoveId) (chunks : List (List Byte × BitVec 256)) (fail : Option Nat)
  /-- A write of FAB_FW_COMMIT raises the fused SVN or is refused with COMMIT_ERR (R325). -/
  | fabFwCommit (q : Requester) (v : Word)
  /-- Fuse programming of a firmware SVN commit completes (R325). -/
  | fwCommitDone
  /-- A TRNG health test starts or stops failing, setting or clearing TRNG_FAIL (R327). -/
  | trngHealthChange (failing : Bool)
  /-- A 10 µs monitor gate ends and a source outside its window twice is declared failed (R336). -/
  | clockMonitorGate (src : Fin 10) (inside : Bool)
  /-- A loop loses lock and is declared failed at once (R336). -/
  | loopLockLoss (p : Fin 6)
  /-- A loop's lock detector has held lock for 10 µs and it becomes a running source (R330). -/
  | loopLocked (p : Fin 6)
  /-- A glitch-free mux completes a normal switch to the new clock (R337). -/
  | muxSwitchDone (d : DomainId) (tidepool : Bool)
  /-- A normal switch incomplete after 10 µs is completed on the forced path (R337). -/
  | muxSwitchTimeout (d : DomainId) (tidepool : Bool)
  /-- An island whose target differs from its point starts a voltage-first or frequency-first transition (R343). -/
  | islandTransitionStart (isl : IslandId)
  /-- A slewing loop moves MULT by one unit every 0.5 µs (R342). -/
  | loopSlewStep (p : Fin 6)
  /-- Every clock tap of the island acknowledges the new frequency, and a lowering then writes the voltage (R343). -/
  | freqChangeDone (isl : IslandId)
  /-- Settling time ends and the rail readback is accepted, retried, or fails with AVS_ERR (R344). -/
  | voltageSettled (isl : IslandId) (readback : Nat)
  /-- A write of 1 to VS_STATUS.AVS_ERR clears it and retries the stuck transition (R344). -/
  | vsAvsRetry (q : Requester)
  /-- A write of a cove's operating-point request recomputes the island target (R341). -/
  | vsCoveReq (q : Requester) (isl : IslandId) (c : CoveId) (v : Word)
  /-- A write of an island request recomputes the target of an island without member coves (R341). -/
  | vsIslReq (q : Requester) (isl : IslandId) (v : Word)
  /-- A write of the manager's island cap recomputes the island target (R341). -/
  | vsIslCap (q : Requester) (isl : IslandId) (v : Word)
  /-- Telemetry reads the junction sensors of every island every 100 µs (R345). -/
  | tjSample (temps : List Byte)
  /-- The thermal ceiling falls one point each 1 ms while hot or rises one each 10 ms while cool (R345). -/
  | thermalCeilingStep (isl : IslandId)
  /-- Every 10 ms the throttle state is sampled and counted (R346). -/
  | throttleSample
  /-- Every 100 ms firmware reads each island's power over PMBus and reports it in 5 W steps (R346). -/
  | powerRead (watts : List (Option Nat))
  /-- PMB_ALERT_N falling starts an immediate power read and sets PMB_ERR if it fails (R373). -/
  | pmbAlert (watts : List (Option Nat))
  /-- Every 15 powered minutes the sensors are measured and a large drift rise triggers a replan (R348). -/
  | scarpMeasure (ratios : List Nat)
  /-- Every 168 powered hours a freeboard replan is started (R348). -/
  | replanPeriodic
  /-- A write of FB_CTL.REPLAN requests a freeboard replan (R348). -/
  | fbReplan (q : Requester)
  /-- A replan measures drift, sets ADD_MV, removes points, moves islands, recalibrates taps and logs KIND 2, or defers during sounding (R349). -/
  | freeboardReplan (ratios : List Nat)
  /-- Every 900 powered seconds firmware writes a periodic logbook entry (R354). -/
  | logbookPeriodic
  /-- A write of LB_CTL.SHUTDOWN writes a shutdown entry and then sets SAFE (R354). -/
  | lbShutdown (q : Requester)
  /-- A write of LB_CTL.WRITE writes a requested logbook entry (R354). -/
  | lbWrite (q : Requester)
  /-- A logbook entry or sector erase completes, retiring a failing sector or setting WORN (R352). -/
  | logbookWriteDone (ok : Bool)
  /-- A write of LB_HOSTTIME_HI sets UTC seconds and UTC_VALID (R356). -/
  | lbHosttime (q : Requester) (v : Word)
  /-- Each D96 second advances powered seconds and host time (R356). -/
  | secondTick
  /-- A write of LC_NEXT starts an accepted lifecycle transition or is refused with a code (R358). -/
  | lcNext (q : Requester) (v : Word)
  /-- Fuse programming ends, clearing PROG_BUSY or setting PROG_ERR (R359). -/
  | fuseProgramDone (uid fwk state : Bool)
  /-- A write of LC_DBG.OPEN in Fielded grants or withdraws IJTAG access (R365). -/
  | lcDbgOpen (q : Requester) (v : Word)
  /-- A write of SL_CTL.FREEZE holds the HOLD cause of slack (R367). -/
  | slFreeze (q : Requester) (v : Word)
  /-- SLACK_N held low for 16 FIO cycles holds the PIN cause (R367). -/
  | slackNAssert
  /-- SLACK_N held high for 16 FIO cycles clears the PIN cause (R367). -/
  | slackNDeassert
  /-- The first slack cause is held; ingress closes, stacks begin self-refresh entry and wave A begins (R368). -/
  | slackT0
  /-- A wave's domains are gated and the next wave begins, or FROZEN is set after wave E (R368). -/
  | slackWaveStopped (fio : Nat)
  /-- At T0 + 2 µs wave C begins regardless and a stack out of self-refresh sets SR_MISS (R368). -/
  | slackSrDeadline
  /-- With no cause held after FROZEN, the fabric resumes in Maker or Integrator or undergoes a fabric reset (R370). -/
  | slackRelease
  /-- The TAP enters Test-Logic-Reset and IDCODE is selected (R363). -/
  | jtagTapReset
  /-- The EXTEST instruction selects boundary scan in Maker and Integrator (R363). -/
  | jtagExtest
  /-- The SAMPLE/PRELOAD instruction selects boundary scan (R363). -/
  | jtagSamplePreload
  /-- The IDCODE instruction selects the 32-bit identification register (R363). -/
  | jtagIdcode
  /-- The IJTAG instruction selects the 1687 network, or a bypass without consent or in Scrapped (R364). -/
  | jtagIjtag
  /-- The SLACK instruction sets the HOLD cause at Run-Test/Idle (R363). -/
  | jtagSlack
  /-- The RELEASE instruction clears the HOLD cause at Run-Test/Idle (R363). -/
  | jtagRelease
  /-- The STATUS instruction returns lifecycle, slack and halt summary bits (R363). -/
  | jtagStatus
  /-- BYPASS or an unknown opcode selects the 1-bit bypass register (R363). -/
  | jtagBypass
  /-- A frozen domain's scan segment is shifted, with data flops masked as the state requires (R364). -/
  | scanSegmentAccess (d : DomainId) (ctl : List CtlFlop) (data : Nat) (write : Option (List Nat))
  /-- A tidepool, metadata cache or buffer array is dumped or written while frozen, as the state permits (R364). -/
  | arrayDumpAccess (arr : DumpArr) (write : Option (Line × BitVec 80))
  /-- The memory instrument reads a raw line and its metadata by FPA without checks, or returns zeros with ERR (R366). -/
  | memInstrRead (fpa : BitVec 41)
  /-- The memory instrument writes a raw line and its metadata by FPA, or stores nothing with ERR (R366). -/
  | memInstrWrite (fpa : BitVec 41) (data : Line) (pin inl : Dword)
  /-- POR_N low starts a power-on reset, cutting short fuse programming (R375). -/
  | porAssert
  /-- FAB_RST_N low for 16 FIO cycles starts a fabric reset (R375). -/
  | fabRstNAssert
  /-- A write of FAB_RST_CTL.GO with KEY 0xA5 starts a fabric reset, with full boot if RELOAD (R376). -/
  | fabRstCtlGo (q : Requester) (v : Word)
  /-- An FLR of the physical function causes a fabric reset (R396). -/
  | pfFlr
  /-- A conventional reset or link-down of the host link causes a fabric reset (R396). -/
  | hostLinkReset
  /-- A fabric reset records its causes, waits for fuse programming and asserts the internal reset (R376). -/
  | fabricResetStart
  /-- The internal reset ends after 1 µs and the reset pins' release, and start-up begins (R376). -/
  | fabricResetRelease
  /-- The boot ROM verifies and loads firmware from slot A or B, keeps the loaded image, or sets FW_FAIL (R324). -/
  | bootRomDone (slotA slotB : List Byte)
  /-- Firmware checks XA against the strap and stops start-up with STRAP_ERR on mismatch (R334). -/
  | xaStrapCheck (khz : Nat) (xb : Bool)
  /-- The sequencer has set every island to VBOOT and checked the readback (R334). -/
  | vbootSetDone
  /-- Every domain has moved to its start-up source, D94 last (R334). -/
  | startupDomainsSwitched
  /-- Controllers finish PHY training and zero initialisation and FAB_CONFIG.READY is set (R104). -/
  | stackTrainingDone (trained : BitVec 32) (size36 : Bool)
  /-- On Returned entry firmware reads every line back and sets SCRUBBED or VERIFY_ERR (R362). -/
  | returnedScrubVerify (clean : Bool)
  /-- At start-up firmware reads sector headers, restores counters and writes a start entry (R355). -/
  | logbookOpen (sfdpOk : Bool) (headers : List (List Byte)) (entries : List (Nat × Nat × List Byte))
  /-- Start-up reaches step 11 and CK_STATUS.UP sets (R334). -/
  | startupComplete
  /-- An Ibpin read frame performs a register read and returns STATUS and data (R378). -/
  | ibpinRead (addr : Word)
  /-- An Ibpin write frame performs a register write and returns STATUS (R378). -/
  | ibpinWrite (addr v : Word)
  /-- An Ibpin frame with an unknown opcode does nothing and returns STATUS 0x02 (R380). -/
  | ibpinBadOpcode (opcode : Byte)
  /-- IB_CS_N rises before the frame's result, setting SHORT or abandoning the result (R380). -/
  | ibpinFrameAbort (phaseDone : Bool) (wr : Option (Word × Word))
  /-- An Ibpin result not ready after 100 µs ends the frame with STATUS 0x03 (R379). -/
  | ibpinTimeout (wr : Option (Word × Word))
  /-- An edge agent reads an engine-port command and mask, fails bad commands with 0x39, or sends the command beat (R384). -/
  | epTileStart (port : Fin 128)
  /-- The edge agent feeds one row to the array, fetched or as ZERO beats for masked or faulted lanes (R387). -/
  | epFeedRow (port : Fin 128)
  /-- The array returns an output row, which the edge agent translates and writes back (R386). -/
  | arrOutputRow (port : Fin 128) (lane : Bool) (row : BitVec 13) (data : List Byte)
  /-- The array acknowledges the tile boundary; after write-backs drain the tile completes (R386). -/
  | arrTbAck (port : Fin 128)
  /-- The array reports an internal error and the tile ends ERROR with a 0x3B record (R389). -/
  | arrErr (port : Fin 128)
  /-- A gather or mover output is delivered into a mapped port's input buffer, waiting while another step occupies it (R385). -/
  | epDelivery (port : Fin 128) (now : Nat)
  /-- An edge agent saves or restores one scratchpad line between tiles (R382). -/
  | epScratchpadAccess (port : Fin 128) (data : Line)
  /-- An edge agent zeroes its input buffer and raises EA_CLR after engine reset, owner change or cove reset (R390). -/
  | arrayClear (port : Fin 128)
  /-- The array completes a clear and the port enters service (R390). -/
  | arrClrDone (port : Fin 128)
  /-- A clear not done within 1 ms keeps the port out of service and sets CLRFAIL with an attention source (R391). -/
  | arrayClearTimeout (port : Fin 128)
  /-- A rising CP_HANG escalates to a cove quiesce and reset, or to a fabric reset when shared state is held (R394). -/
  | cpHang (c : CoveId) (shared : Bool)
  /-- CP_IDLE high for 16 CPCLK cycles lets the cove reset release CP_RST_N (R394). -/
  | cpResetRelease (c : CoveId)
  /-- A stack PHY requests an update through the DFI PHY-update handshake, and the controller grants it within 2 µs at a refresh slot while requests wait (R398). -/
  | phyUpdateRequest (n : StackId)
  /-- The last stack controller completes self-refresh entry during a freeze, and wave C begins if wave B has already stopped (R368). -/
  | selfRefreshEntered (n : StackId)
  /-- A cove reset started by an FLR that has not completed within 100 ms sets STUCK and the reset continues (R311). -/
  | flrResetStuck (c : CoveId)
  /-- A bounce copy's host-bus access has no completion after 50 µs, and the copy ends with status HOSTERR (R319). -/
  | bounceHostTimeout (b : Fin 4)
deriving DecidableEq, Repr

end Sys2Proof
end

