-- ==== Sys2Proof/Decode.lean ====
section
/-!
DEFINITION. Command words. The table of operations gives its rows no bits, so no word spells a command.
-/
namespace Sys2Proof

/-- The command a word of `nbits` bits spells: no row of the table has an encoding, so none. Log entry 3 (DESIGN CHOICE). -/
def decodeTableWord (nbits w : Nat) : Option Instr :=
  match nbits, w with
  | _, _ => none

end Sys2Proof
end

