-- ==== Sys2Proof/Machine/Bits.lean ====
section
/-!
DEFINITION. Bit fields, little-endian bytes and rotations (R5), over natural numbers and bit vectors.
-/
namespace Sys2Proof.Machine

/-- Bits `[lo+w-1 : lo]` of `x` (R5). -/
def bits (x lo w : Nat) : Nat := (x >>> lo) % 2 ^ w

/-- Bit `i` of `x`. -/
def bit (x i : Nat) : Bool := x.testBit i

/-- `1` for true, `0` for false: a one-bit field's value. -/
def b2n (b : Bool) : Nat := if b then 1 else 0

/-- The bytes of `x`, `n` of them, lowest first (R5). -/
def toBytes : Nat → Nat → List Byte
  | 0, _ => []
  | n + 1, x => BitVec.ofNat 8 x :: toBytes n (x / 256)

/-- The number that bytes spell, lowest first (R5). -/
def ofBytes : List Byte → Nat
  | [] => 0
  | b :: bs => b.toNat + 256 * ofBytes bs

/-- `n` bytes from offset `off` of a byte string, absent bytes reading zero. -/
def leAt (bs : List Byte) (off n : Nat) : Nat := ofBytes ((bs.drop off).take n)

/-- Bit `i` of `x` set to `v`. -/
def setBit (x i : Nat) (v : Bool) : Nat :=
  if v then x ||| 2 ^ i else x - (if x.testBit i then 2 ^ i else 0)

/-- Number of set bits among the lowest `n`. -/
def popcount : Nat → Nat → Nat
  | 0, _ => 0
  | n + 1, x => x % 2 + popcount n (x / 2)

/-- The positions of the set bits among the lowest `n`, ascending. -/
def bitList (n x : Nat) : List Nat := (List.range n).filter (fun i => x.testBit i)

/-- Rotations of a 32-bit value (R111, R170). -/
def rol32 (x : BitVec 32) (n : Nat) : BitVec 32 := x.rotateLeft n
/-- Right rotation of a 32-bit value (R111). -/
def ror32 (x : BitVec 32) (n : Nat) : BitVec 32 := x.rotateRight n
/-- Left rotation of a 64-bit value (R111). -/
def rol64 (x : BitVec 64) (n : Nat) : BitVec 64 := x.rotateLeft n

/-- Word `w` of a line (R2). -/
def lineWord (l : Line) (w : Nat) : Dword := l.extractLsb' (64 * w) 64

/-- Line with its word `w` replaced. -/
def setLineWord (l : Line) (w : Nat) (v : Dword) : Line :=
  (l &&& ~~~((BitVec.allOnes 64).setWidth 512 <<< (64 * w))) ||| ((v.setWidth 512) <<< (64 * w))

/-- The eight words of a line, lowest first. -/
def lineWords (l : Line) : List Dword := (List.range 8).map (lineWord l)

/-- The line that eight words make. -/
def lineOfWords : List Dword → Line
  | [] => 0
  | w :: ws => (w.setWidth 512) ||| (lineOfWords ws <<< 64)

/-- Byte enables widened to a bit mask over a line: byte `i` in bits `[8i+7:8i]`. -/
def byteMask (en : BitVec 64) : Line :=
  (List.range 64).foldl (fun m i => if en.getLsbD i then m ||| ((0xFF : Line) <<< (8 * i)) else m) 0

/-- `new` where the byte enables are set, `old` elsewhere. -/
def mergeLine (old new : Line) (en : BitVec 64) : Line :=
  let m := byteMask en
  (old &&& ~~~m) ||| (new &&& m)

/-- The bytes of a line, lowest address first. -/
def lineBytes (l : Line) : List Byte := toBytes 64 l.toNat

/-- The line that up to 64 bytes spell, lowest address first. -/
def lineOfBytes (bs : List Byte) : Line := BitVec.ofNat 512 (ofBytes (bs.take 64))

/-- Byte enables of `len` bytes from byte `off` of a line. -/
def enables (off len : Nat) : BitVec 64 :=
  BitVec.ofNat 64 (((2 ^ len - 1) <<< off) % 2 ^ 64)

end Sys2Proof.Machine
end

