-- ==== Sys2Proof/Machine/Code.lean ====
section
/-!
DEFINITION. The word code (R109, R110), the metadata code (R108), the tag byte (R107) and the keyed mix (R111).
-/
namespace Sys2Proof.Machine

/-! ### The field GF(2^7), R109, R110 -/

/-- Multiplication by the root of x^7 + x^3 + 1 (R110). -/
def gfX (a : Nat) : Nat := if a.testBit 6 then ((a <<< 1) ^^^ 0x89) % 128 else a <<< 1

/-- The power `j` of the root (R110). -/
def gfAlpha : Nat → Nat
  | 0 => 1
  | j + 1 => gfX (gfAlpha j)

/-- Product of two field elements, from the bits of the second (`n` of them). -/
def gfMulAux : Nat → Nat → Nat → Nat
  | 0, _, _ => 0
  | n + 1, a, b => (if b % 2 = 1 then a else 0) ^^^ gfMulAux n (gfX a) (b / 2)

/-- Product in GF(2^7). -/
def gfMul (a b : Nat) : Nat := gfMulAux 7 a b

/-- The square of an element. -/
def gfSq (a : Nat) : Nat := gfMul a a

/-- The inverse of a non-zero element: its power 126 = 2 + 4 + 8 + 16 + 32 + 64. -/
def gfInv (a : Nat) : Nat :=
  let a2 := gfSq a; let a4 := gfSq a2; let a8 := gfSq a4
  let a16 := gfSq a8; let a32 := gfSq a16; let a64 := gfSq a32
  gfMul a2 (gfMul a4 (gfMul a8 (gfMul a16 (gfMul a32 a64))))

/-- Parity of the lowest `n` bits. -/
def parity (n x : Nat) : Nat := popcount n x % 2

/-- The syndrome of `n` received bits, the coefficient of x^i taking `pw * step^i`. -/
def syndrome (mul : Nat → Nat) : Nat → Nat → Nat → Nat
  | 0, _, _ => 0
  | n + 1, pw, r => (if r % 2 = 1 then pw else 0) ^^^ syndrome mul n (mul pw) (r / 2)

/-! ### The word code, R109 -/

/-- One step of the remainder computation, for one data bit (R109). -/
def bchStep (r : Nat) (b : Bool) : Nat :=
  let fb := r.testBit 13 != b
  let r' := (r <<< 1) % 0x4000
  if fb then r' ^^^ 0x0377 else r'

/-- The 14 check bits of a data word (R109). -/
def bchCheck (d : Dword) : Nat :=
  (List.range 64).foldl (fun r k => bchStep r (d.getLsbD (63 - k))) 0

/-- The 15 code bits of a data word: the check bits and, in bit 14, the even parity over the 78 (R109). -/
def wordCode (d : Dword) : Nat :=
  let c := bchCheck d
  c ||| (((parity 64 d.toNat + parity 14 c) % 2) <<< 14)

/-- What the decoder of R110 finds in one word. -/
inductive Decoded where
  /-- No error. -/
  | clean
  /-- Corrected; `flips` counts the stored bits it flipped, P included (R110). -/
  | corrected (data : Dword) (code : Nat) (flips : Nat)
  /-- No correction is possible. -/
  | uncorrectable
deriving DecidableEq, Repr

/-- The three values the decoder forms: S1, S3 and the parity of all 79 bits (R110). -/
def wordSyndromes (d : Dword) (code : Nat) : Nat × Nat × Nat :=
  let r := (code % 0x4000) ||| (d.toNat <<< 14)
  (syndrome gfX 78 1 r,
   syndrome (fun a => gfX (gfX (gfX a))) 78 1 r,
   (parity 78 r + code / 0x4000) % 2)

/-- Flip codeword position `j` (0–77), or P at 78, of a stored word; other positions name nothing (R109). -/
def flipPos (d : Dword) (code j : Nat) : Dword × Nat :=
  if j < 14 then (d, code ^^^ 2 ^ j)
  else if j < 78 then (d ^^^ (1#64 <<< (j - 14)), code)
  else if j = 78 then (d, code ^^^ 0x4000)
  else (d, code)

/-- The position, 0 to 77, whose locator is `s`. -/
def locate (s : Nat) : Option Nat := (List.range 78).find? (fun j => gfAlpha j = s)

/-- The positions whose locators are roots of x^2 + S1·x + c (R110). -/
def locateRoots (s1 c : Nat) : List Nat :=
  (List.range 78).filter (fun j =>
    let x := gfAlpha j
    (gfSq x ^^^ gfMul s1 x ^^^ c) = 0)

/-- The decoder of R110. -/
def decodeWord (d : Dword) (code : Nat) : Decoded :=
  let (s1, s3, pp) := wordSyndromes d code
  let fix (js : List Nat) : Decoded :=
    let (d', c') := js.foldl (fun (x : Dword × Nat) j => flipPos x.1 x.2 j) (d, code)
    .corrected d' c' js.length
  if s1 = 0 then
    if s3 = 0 then (if pp = 0 then .clean else fix [78]) else .uncorrectable
  else if s3 = gfMul s1 (gfSq s1) then
    match locate s1 with
    | some j => if pp = 1 then fix [j] else fix [j, 78]
    | none => .uncorrectable
  else if pp = 0 then
    match locateRoots s1 (gfSq s1 ^^^ gfMul s3 (gfInv s1)) with
    | [j, k] => fix [j, k]
    | _ => .uncorrectable
  else .uncorrectable

/-! ### Metadata words, R108 -/

/-- One step of the remainder modulo x^7 + x^3 + 1. -/
def hamStep (r : Nat) (b : Bool) : Nat :=
  let fb := r.testBit 6 != b
  let r' := (r <<< 1) % 128
  if fb then r' ^^^ 0x09 else r'

/-- The pin byte of a metadata word: 7 check bits and the even parity over word and check bits (R108). -/
def metaCheck (d : Dword) : Nat :=
  let c := (List.range 64).foldl (fun r k => hamStep r (d.getLsbD (63 - k))) 0
  c ||| (((parity 64 d.toNat + parity 7 c) % 2) <<< 7)

/-- The decoder of R108: the corrected word and its check byte, or nothing. The flag says that a bit was corrected. -/
def decodeMeta (d : Dword) (chk : Nat) : Option (Dword × Nat × Bool) :=
  let r := (chk % 128) ||| (d.toNat <<< 7)
  let s := syndrome gfX 71 1 r
  let pp := (parity 71 r + chk / 128) % 2
  if s = 0 then
    if pp = 0 then some (d, chk, false) else some (d, chk ^^^ 128, true)
  else if pp = 1 then
    match (List.range 71).find? (fun j => gfAlpha j = s) with
    | some j => if j < 7 then some (d, chk ^^^ 2 ^ j, true) else some (d ^^^ (1#64 <<< (j - 7)), chk, true)
    | none => none
  else none

/-! ### The tag byte, R107 -/

/-- TE of a KID (R107). -/
def tagTE (kid : Nat) : Bool := kid.testBit 0 ^^ kid.testBit 2 ^^ kid.testBit 4
/-- TO of a KID (R107). -/
def tagTO (kid : Nat) : Bool := kid.testBit 1 ^^ kid.testBit 3 ^^ kid.testBit 5

/-- The tag byte of a KID (R107). -/
def tagByte (kid : Nat) : Nat := kid % 64 + 64 * b2n (tagTE kid) + 128 * b2n (tagTO kid)
/-- The poison signature over a KID: both check bits disagree (R107). -/
def poisonTag (kid : Nat) : Nat := kid % 64 + 64 * b2n (!tagTE kid) + 128 * b2n (!tagTO kid)

/-- The three readings of a tag byte (R107). -/
inductive TagState where
  | valid (kid : Nat)
  | poison (kid : Nat)
  | fails (kid : Nat)
deriving DecidableEq, Repr

/-- The tag check of R107. -/
def readTag (t : Nat) : TagState :=
  let kid := t % 64
  let e := t.testBit 6 == tagTE kid
  let o := t.testBit 7 == tagTO kid
  if e && o then .valid kid else if !e && !o then .poison kid else .fails kid

/-! ### Layout of the two halves, R106 -/

/-- PIN of a line from the eight words' code bits (R106). -/
def pinOf (codes : List Nat) : Nat :=
  (codes.zipIdx).foldl (fun p (x : Nat × Nat) =>
    p ||| ((x.1 % 128) <<< (8 * x.2)) ||| ((x.1 / 0x4000) <<< (8 * x.2 + 7))) 0

/-- INL of a line from the eight words' code bits and the tag byte (R106). -/
def inlOf (codes : List Nat) (tag : Nat) : Nat :=
  (codes.zipIdx).foldl (fun p (x : Nat × Nat) => p ||| (bits x.1 7 7 <<< (7 * x.2))) 0 ||| (tag <<< 56)

/-- The code bits of word `w` from the two halves (R106). -/
def codeAt (pin inl w : Nat) : Nat :=
  bits pin (8 * w) 7 ||| (bits inl (7 * w) 7 <<< 7) ||| (bits pin (8 * w + 7) 1 <<< 14)

/-! ### The keyed mix, R111 -/

/-- Round keys with the rotated tweak of each round, rounds 0 to 3 (R111). -/
def roundKeys (key : BitVec 256) (tw : Dword) : List Dword :=
  [key.extractLsb' 0 64 ^^^ tw, key.extractLsb' 64 64 ^^^ rol64 tw 17,
   key.extractLsb' 128 64 ^^^ rol64 tw 34, key.extractLsb' 192 64 ^^^ rol64 tw 51]

/-- One round of the mix (R111). -/
def mixRound (x : Word × Word) (rk : Dword) : Word × Word :=
  let a := (ror32 x.1 8 + x.2) ^^^ rk.setWidth 32
  let b := rol32 x.2 3 ^^^ a ^^^ (rk >>> 32).setWidth 32
  (a, b)

/-- The inverse of one round (R111). -/
def unmixRound (x : Word × Word) (rk : Dword) : Word × Word :=
  let b := ror32 (x.2 ^^^ x.1 ^^^ (rk >>> 32).setWidth 32) 3
  let a := rol32 ((x.1 ^^^ rk.setWidth 32) - b) 8
  (a, b)

/-- The halves of a 64-bit word. -/
def splitWord (x : Dword) : Word × Word := ((x >>> 32).setWidth 32, x.setWidth 32)
/-- The 64-bit word of two halves. -/
def joinWord (x : Word × Word) : Dword := (x.1.setWidth 64 <<< 32) ||| x.2.setWidth 64

/-- The mix of one word under a key and a tweak (R111). -/
def mix (x : Dword) (key : BitVec 256) (tw : Dword) : Dword :=
  joinWord ((roundKeys key tw).foldl mixRound (splitWord x))

/-- The exact inverse of the mix (R111). -/
def unmix (x : Dword) (key : BitVec 256) (tw : Dword) : Dword :=
  joinWord ((roundKeys key tw).reverse.foldl unmixRound (splitWord x))

/-- The tweak of word `w` of the line at `fpa` (R111). -/
def tweak (fpa w : Nat) : Dword := BitVec.ofNat 64 (((fpa / 64) <<< 3) ||| w)

/-- A line mixed word by word; KID 0 stores it unchanged (R111). -/
def mixLine (l : Line) (kid : Nat) (key : BitVec 256) (fpa : Nat) : Line :=
  if kid = 0 then l else lineOfWords ((lineWords l).zipIdx.map (fun x => mix x.1 key (tweak fpa x.2)))

/-- A line unmixed word by word (R111). -/
def unmixLine (l : Line) (kid : Nat) (key : BitVec 256) (fpa : Nat) : Line :=
  if kid = 0 then l else lineOfWords ((lineWords l).zipIdx.map (fun x => unmix x.1 key (tweak fpa x.2)))

end Sys2Proof.Machine
end

