-- ==== Sys2Proof/Config.lean ====
section
/-!
DEFINITION. What the spec leaves to each implementation and the free values: constants without a body, so that
nothing can be proved of the value they take.
-/
namespace Sys2Proof

/-- The free value of `w` bits drawn as number `n`: a value the spec leaves open. Log entry 2 (DESIGN CHOICE). -/
opaque Config.freeValue : Nat → (w : Nat) → BitVec w

/-- The fused RATIO of a scarp sensor, recorded at manufacture (R347). Log entries 1 (DESIGN CHOICE), 24 (DESIGN CHOICE). -/
opaque Config.sensorBase : Nat → BitVec 16

/-- The fused digest of a firmware key slot, 48 bytes with the first lowest (R323, R324). Log entry 1 (DESIGN CHOICE). -/
opaque Config.fwKeyDigest : Nat → BitVec 384

/-- Whether a firmware key slot is revoked (R324). Log entry 1 (DESIGN CHOICE). -/
opaque Config.fwKeyRevoked : Nat → Bool

/-- The fused digest of a chart key slot, 48 bytes with the first lowest (R46). Log entry 1 (DESIGN CHOICE). -/
opaque Config.chartKeyDigest : Nat → BitVec 384

/-- Whether a chart key slot is revoked (R46). Log entry 1 (DESIGN CHOICE). -/
opaque Config.chartKeyRevoked : Nat → Bool

/-- The device identity key that the fused unique secret gives (R326). Log entry 1 (DESIGN CHOICE). -/
opaque Config.deviceKey : BitVec 384

/-- The certificate chain of slot 0, which ends in a device identity key (R313). Log entry 1 (DESIGN CHOICE). -/
opaque Config.certChain : BitVec 384 → List (BitVec 8)

/-- The fused firmware key FWK (R324, R326). Log entry 1 (DESIGN CHOICE). -/
opaque Config.fwk : BitVec 256

/-- The silicon revision, FAB_ID.REV. Log entry 1 (DESIGN CHOICE). -/
opaque Config.siliconRev : BitVec 8

/-- The frequency strap XA_SEL (R333, R373). Log entry 1 (DESIGN CHOICE). -/
opaque Config.xaSel : BitVec 2

/-- The array scratchpad size, ARR_SP_MIB (R373). Log entry 1 (DESIGN CHOICE). -/
opaque Config.arrSpMib : BitVec 5

/-- The fused VBOOT of an island in mV (R333, VS_ISL_LIMIT). Log entry 1 (DESIGN CHOICE). -/
opaque Config.vbootMv : Nat → BitVec 12

/-- The fused VMAX of an island in mV (VS_ISL_LIMIT). Log entry 1 (DESIGN CHOICE). -/
opaque Config.vmaxMv : Nat → BitVec 12

/-- The fused slew rate of an island (VS_ISL_LIMIT). Log entry 1 (DESIGN CHOICE). -/
opaque Config.avsSlew : Nat → BitVec 4

/-- The fused margin of an island in mV per 1,000 ppm of drift, KMV (R348). Log entry 1 (DESIGN CHOICE). -/
opaque Config.kmv : Nat → BitVec 8

/-- Bytes of the read buffer of a mover, a table update engine or a top-K ranker, by the KIND of the unit (R281).
Log entry 1 (DESIGN CHOICE). -/
opaque Config.readBuffer : Nat → Nat

/-- The AVSBus rail of an island (R340). Log entry 1 (DESIGN CHOICE). -/
opaque Config.avsRail : Nat → BitVec 4

/-- The PMBus address of the regulator of an island (R340). Log entry 1 (DESIGN CHOICE). -/
opaque Config.pmbAddr : Nat → BitVec 7

/-- The integrator's JEP106 code, IDCODE_MFR (R363, R373). Log entry 1 (DESIGN CHOICE). -/
opaque Config.idcodeMfr : BitVec 11

end Sys2Proof
end

