-- ==== Sys2Proof/Machine/Regs.lean ====
section
/-!
DEFINITION. The registers of the fabric, from the register tables of the spec: every field with its place, width,
access code and reset value (`F`; what a fuse, a strap or the silicon gives is a constant of Config), every 64-bit counter by the offset of its low word (`C`), and the table of rows
that a register access looks its offset up in (R6, R7, R9, R12, R25, R26).
-/
namespace Sys2Proof.Machine

/-- The access codes of R9. -/
inductive AccCode where
  | ro | rw | rw1c | rw1s | wo | roc
deriving DecidableEq, Repr

/-- A register field: the register's offset, the field's low bit and width, its reset value and access code. -/
structure Fld where
  off : Nat
  lo : Nat
  w : Nat
  rst : Nat
  acc : AccCode
deriving DecidableEq, Repr

/-- What stands at an offset: a register of fields, or the low or the high word of a 64-bit counter (R12). -/
inductive RowKind where
  | plain | ctrLo | ctrHi
deriving DecidableEq, Repr

/-- A row of the register map: base offset, up to two dimensions (count, stride), and the fields
(low bit, width, reset value, access code). -/
structure RegRow where
  base : Nat
  n1 : Nat
  s1 : Nat
  n2 : Nat
  s2 : Nat
  kind : RowKind
  flds : List (Nat × Nat × Nat × AccCode)
deriving DecidableEq, Repr

abbrev F.CV_MANIFEST_COVE (i0 : Nat) : Fld := ⟨0x1000000 + 0x100000 * i0, 0, 4, 0, .ro⟩
abbrev F.CV_MANIFEST_FORMAT (i0 : Nat) : Fld := ⟨0x1000000 + 0x100000 * i0, 8, 8, 0, .ro⟩
abbrev F.CV_MANIFEST_VALID (i0 : Nat) : Fld := ⟨0x1000000 + 0x100000 * i0, 16, 1, 0, .ro⟩
abbrev F.CV_MANIFEST_SEQ (i0 : Nat) : Fld := ⟨0x1000004 + 0x100000 * i0, 0, 32, 0, .ro⟩
abbrev F.CV_MANIFEST_GEN (i0 : Nat) : Fld := ⟨0x1000008 + 0x100000 * i0, 0, 32, 0, .ro⟩
abbrev F.CV_MANIFEST_DEVNO (i0 : Nat) : Fld := ⟨0x100000C + 0x100000 * i0, 0, 10, 0, .ro⟩
abbrev F.CV_MANIFEST_PART (i0 : Nat) : Fld := ⟨0x100000C + 0x100000 * i0, 16, 16, 0, .ro⟩
abbrev F.CV_MANIFEST_LABEL (i0 : Nat) : Fld := ⟨0x1000010 + 0x100000 * i0, 0, 32, 0, .ro⟩
abbrev F.CV_MANIFEST_CTX_MIN (i0 : Nat) : Fld := ⟨0x1000014 + 0x100000 * i0, 0, 6, 0, .ro⟩
abbrev F.CV_MANIFEST_PRIO (i0 : Nat) : Fld := ⟨0x1000014 + 0x100000 * i0, 8, 4, 0, .ro⟩
abbrev F.CV_MANIFEST_RT_OK (i0 : Nat) : Fld := ⟨0x1000014 + 0x100000 * i0, 12, 1, 0, .ro⟩
abbrev F.CV_MANIFEST_VF (i0 : Nat) : Fld := ⟨0x1000014 + 0x100000 * i0, 16, 8, 0, .ro⟩
abbrev F.CV_MANIFEST_TIDE_PERIOD (i0 : Nat) : Fld := ⟨0x1000018 + 0x100000 * i0, 0, 32, 0, .ro⟩
abbrev F.CV_MANIFEST_XA_KHZ (i0 : Nat) : Fld := ⟨0x100001C + 0x100000 * i0, 0, 24, 0, .ro⟩
abbrev F.CV_MANIFEST_EP (i0 i1 : Nat) : Fld := ⟨0x1000020 + 0x100000 * i0 + 0x4 * i1, 0, 32, 0, .ro⟩
abbrev F.CV_MANIFEST_SH (i0 : Nat) : Fld := ⟨0x1000030 + 0x100000 * i0, 0, 32, 0, .ro⟩
abbrev F.CV_MANIFEST_RM (i0 : Nat) : Fld := ⟨0x1000034 + 0x100000 * i0, 0, 16, 0, .ro⟩
abbrev F.CV_MANIFEST_TU (i0 : Nat) : Fld := ⟨0x1000034 + 0x100000 * i0, 16, 8, 0, .ro⟩
abbrev F.CV_MANIFEST_TK (i0 : Nat) : Fld := ⟨0x1000034 + 0x100000 * i0, 24, 8, 0, .ro⟩
abbrev F.CV_MANIFEST_IRQ (i0 i1 : Nat) : Fld := ⟨0x1000038 + 0x100000 * i0 + 0x4 * i1, 0, 32, 0, .ro⟩
abbrev F.CV_MANIFEST_KR (i0 i1 : Nat) : Fld := ⟨0x1000040 + 0x100000 * i0 + 0x4 * i1, 0, 32, 0, .ro⟩
abbrev F.CV_MANIFEST_GOWN_N (i0 : Nat) : Fld := ⟨0x1000048 + 0x100000 * i0, 0, 13, 0, .ro⟩
abbrev F.CV_MANIFEST_GSHR_N (i0 : Nat) : Fld := ⟨0x1000048 + 0x100000 * i0, 16, 13, 0, .ro⟩
abbrev F.CV_MANIFEST_DVFS (i0 i1 : Nat) : Fld := ⟨0x100004C + 0x100000 * i0 + 0x4 * i1, 0, 32, 0, .ro⟩
abbrev F.CV_MANIFEST_RTBW (i0 : Nat) : Fld := ⟨0x1000054 + 0x100000 * i0, 0, 32, 0, .ro⟩
abbrev F.CV_MANIFEST_REG (i0 i1 : Nat) : Fld := ⟨0x1000060 + 0x100000 * i0 + 0x4 * i1, 0, 32, 0, .ro⟩
abbrev F.CV_MANIFEST_TP (i0 i1 : Nat) : Fld := ⟨0x1000080 + 0x100000 * i0 + 0x4 * i1, 0, 32, 0, .ro⟩
abbrev F.CV_MANIFEST_GOWN (i0 i1 : Nat) : Fld := ⟨0x1000100 + 0x100000 * i0 + 0x4 * i1, 0, 32, 0, .ro⟩
abbrev F.CV_MANIFEST_GSHR (i0 i1 : Nat) : Fld := ⟨0x1000400 + 0x100000 * i0 + 0x4 * i1, 0, 32, 0, .ro⟩
abbrev F.CV_MANIFEST_GMODE (i0 i1 : Nat) : Fld := ⟨0x1000800 + 0x100000 * i0 + 0x4 * i1, 0, 32, 0, .ro⟩
abbrev F.FAB_ID_PART : Fld := ⟨0x0, 0, 16, 22, .ro⟩
abbrev F.FAB_ID_REV : Fld := ⟨0x0, 16, 8, Config.siliconRev.toNat, .ro⟩
abbrev F.FAB_ID_CHART_MAJOR : Fld := ⟨0x0, 24, 4, 1, .ro⟩
abbrev F.FAB_ID_CHART_MINOR : Fld := ⟨0x0, 28, 4, 0, .ro⟩
abbrev F.FAB_CONFIG_STACKS : Fld := ⟨0x4, 0, 6, 0, .ro⟩
abbrev F.FAB_CONFIG_STACK36 : Fld := ⟨0x4, 6, 1, 0, .ro⟩
abbrev F.FAB_CONFIG_READY : Fld := ⟨0x4, 7, 1, 0, .ro⟩
abbrev F.FAB_CONFIG_GRANULES : Fld := ⟨0x4, 16, 13, 0, .ro⟩
abbrev C.FAB_BRK_CNT : Nat := 0x100
abbrev F.FAB_BRK_LAST0_CT : Fld := ⟨0x108, 0, 5, 0, .ro⟩
abbrev F.FAB_BRK_LAST0_POINT : Fld := ⟨0x108, 8, 4, 0, .ro⟩
abbrev F.FAB_BRK_LAST0_ACC : Fld := ⟨0x108, 12, 2, 0, .ro⟩
abbrev F.FAB_BRK_LAST0_SRC : Fld := ⟨0x108, 16, 16, 0, .ro⟩
abbrev F.FAB_BRK_LAST1_TGT : Fld := ⟨0x10C, 0, 16, 0, .ro⟩
abbrev F.FAB_BRK_LAST1_GRANULE : Fld := ⟨0x10C, 16, 13, 0, .ro⟩
abbrev F.FAB_BRK_LAST2_ADDR_LO : Fld := ⟨0x110, 0, 32, 0, .ro⟩
abbrev F.FAB_BRK_LAST3_ADDR_HI : Fld := ⟨0x114, 0, 9, 0, .ro⟩
abbrev F.FAB_BRK_STATUS_DROP : Fld := ⟨0x118, 0, 1, 0, .rw1c⟩
abbrev F.FAB_BRK_STATUS_OVERRUN : Fld := ⟨0x118, 1, 1, 0, .rw1c⟩
abbrev F.CH_GEN_GEN : Fld := ⟨0x10020, 0, 32, 0, .ro⟩
abbrev F.CH_CTL_CLAIM : Fld := ⟨0x10000, 0, 1, 0, .wo⟩
abbrev F.CH_CTL_RELEASE : Fld := ⟨0x10000, 1, 1, 0, .wo⟩
abbrev F.CH_CTL_EN : Fld := ⟨0x10000, 2, 1, 0, .rw1s⟩
abbrev F.CH_CTL_SRC : Fld := ⟨0x10000, 4, 1, 0, .rw⟩
abbrev F.CH_STATUS_STATE : Fld := ⟨0x10004, 0, 3, 0, .ro⟩
abbrev F.CH_STATUS_VALID : Fld := ⟨0x10004, 3, 1, 0, .ro⟩
abbrev F.CH_STATUS_DENIED : Fld := ⟨0x10004, 4, 1, 0, .rw1c⟩
abbrev F.CH_STATUS_HOLDER : Fld := ⟨0x10004, 8, 2, 0, .ro⟩
abbrev F.CH_STATUS_CODE : Fld := ⟨0x10004, 16, 8, 0, .ro⟩
abbrev F.CH_DETAIL_RECORD : Fld := ⟨0x10008, 0, 8, 0, .ro⟩
abbrev F.CH_DETAIL_ENTRY : Fld := ⟨0x10008, 8, 16, 0, .ro⟩
abbrev F.CH_DETAIL_HDR : Fld := ⟨0x10008, 24, 1, 0, .ro⟩
abbrev F.CH_LEN_LEN : Fld := ⟨0x1000C, 0, 21, 0, .rw⟩
abbrev F.CH_SRC_LO_ADDR_LO : Fld := ⟨0x10010, 0, 32, 0, .rw⟩
abbrev F.CH_SRC_HI_ADDR_HI : Fld := ⟨0x10014, 0, 32, 0, .rw⟩
abbrev F.CH_WDATA_DATA : Fld := ⟨0x10018, 0, 32, 0, .wo⟩
abbrev F.CH_WPTR_PTR : Fld := ⟨0x1001C, 0, 21, 0, .ro⟩
abbrev F.CH_FENCE_FIRST : Fld := ⟨0x10030, 0, 16, 0, .wo⟩
abbrev F.CH_FENCE_COUNT : Fld := ⟨0x10030, 16, 13, 0, .wo⟩
abbrev F.CH_FENCE_SPACE : Fld := ⟨0x10030, 29, 2, 0, .wo⟩
abbrev F.CH_FENCE_UNFENCE : Fld := ⟨0x10030, 31, 1, 0, .wo⟩
abbrev F.CH_FENCE_STATUS_PENDING : Fld := ⟨0x10034, 0, 13, 0, .ro⟩
abbrev F.CH_FENCE_STATUS_BAD : Fld := ⟨0x10034, 16, 1, 0, .rw1c⟩
abbrev F.TD_CTL_CAL : Fld := ⟨0x20000, 0, 1, 0, .wo⟩
abbrev F.TD_CTL_RESUME : Fld := ⟨0x20000, 1, 1, 0, .wo⟩
abbrev F.TD_STATUS_CAL_BUSY : Fld := ⟨0x20004, 0, 1, 0, .ro⟩
abbrev F.TD_STATUS_CAL_DONE : Fld := ⟨0x20004, 1, 1, 0, .ro⟩
abbrev F.TD_STATUS_RANGE : Fld := ⟨0x20004, 2, 1, 0, .rw1c⟩
abbrev F.TD_STATUS_XA_LOST : Fld := ⟨0x20004, 3, 1, 0, .ro⟩
abbrev F.TD_STATUS_ON_FIO : Fld := ⟨0x20004, 4, 1, 0, .ro⟩
abbrev F.TD_STATUS_LATE : Fld := ⟨0x20004, 5, 1, 0, .rw1c⟩
abbrev F.TD_STATUS_GAP : Fld := ⟨0x20004, 6, 1, 0, .rw1c⟩
abbrev F.TD_STATUS_PARTIAL : Fld := ⟨0x20004, 7, 1, 0, .rw1c⟩
abbrev C.TD_MGMT_COUNT : Nat := 0x20008
abbrev C.TD_LATE_CNT : Nat := 0x20010
abbrev C.TD_GAP_CNT : Nat := 0x20018
abbrev F.TD_TAP_SEL_TAP : Fld := ⟨0x20020, 0, 9, 0, .rw⟩
abbrev F.TD_TAP_SEL_SRC : Fld := ⟨0x20020, 16, 5, 0, .rw⟩
abbrev F.TD_TAP_DATA0_DELAY : Fld := ⟨0x20024, 0, 10, 0, .ro⟩
abbrev F.TD_TAP_DATA0_LAG : Fld := ⟨0x20024, 16, 10, 0, .ro⟩
abbrev F.TD_TAP_DATA1_ACTIVE : Fld := ⟨0x20028, 0, 5, 31, .ro⟩
abbrev F.TD_TAP_DATA1_SLOW : Fld := ⟨0x20028, 5, 1, 0, .ro⟩
abbrev F.TD_TAP_DATA1_RANGE : Fld := ⟨0x20028, 6, 1, 0, .ro⟩
abbrev F.TD_TAP_DATA1_RESYNC : Fld := ⟨0x20028, 7, 1, 0, .ro⟩
abbrev F.TD_TAP_DATA1_ACK_NS : Fld := ⟨0x20028, 8, 16, 0, .ro⟩
abbrev C.TD_COUNT (i0 : Nat) : Nat := 0x1002000 + 0x100000 * i0
abbrev F.TD_PERIOD_PERIOD (i0 : Nat) : Fld := ⟨0x1002008 + 0x100000 * i0, 0, 32, 0, .ro⟩
abbrev F.TD_TIMING_LAUNCH_OFS (i0 : Nat) : Fld := ⟨0x100200C + 0x100000 * i0, 0, 10, 0, .ro⟩
abbrev F.TD_TIMING_SETTLE (i0 : Nat) : Fld := ⟨0x100200C + 0x100000 * i0, 16, 16, 0, .ro⟩
abbrev F.TD_SLATE_USED (i0 : Nat) : Fld := ⟨0x1002010 + 0x100000 * i0, 0, 7, 0, .ro⟩
abbrev F.TD_SLATE_FULL_SEEN (i0 : Nat) : Fld := ⟨0x1002010 + 0x100000 * i0, 16, 1, 0, .rw1c⟩
abbrev C.TD_SLIP (i0 : Nat) : Nat := 0x1002018 + 0x100000 * i0
abbrev C.TD_LATE (i0 : Nat) : Nat := 0x1002020 + 0x100000 * i0
abbrev C.TD_GAP (i0 : Nat) : Nat := 0x1002028 + 0x100000 * i0
abbrev F.FAB_HALT_CAUSE0_VALID : Fld := ⟨0x200, 0, 1, 0, .ro⟩
abbrev F.FAB_HALT_CAUSE0_MULTI : Fld := ⟨0x200, 1, 1, 0, .ro⟩
abbrev F.FAB_HALT_CAUSE0_CAUSE : Fld := ⟨0x200, 4, 4, 0, .ro⟩
abbrev F.FAB_HALT_CAUSE0_STACK : Fld := ⟨0x200, 8, 5, 0, .ro⟩
abbrev F.FAB_HALT_CAUSE0_CT : Fld := ⟨0x200, 16, 5, 0, .ro⟩
abbrev F.FAB_HALT_CAUSE1_LINE_LO : Fld := ⟨0x204, 0, 32, 0, .ro⟩
abbrev F.FAB_HALT_CAUSE2_LINE_HI : Fld := ⟨0x208, 0, 3, 0, .ro⟩
abbrev F.FAB_HALT_CAUSE2_FOUND : Fld := ⟨0x208, 8, 6, 0, .ro⟩
abbrev F.FAB_HALT_CAUSE2_CURRENT : Fld := ⟨0x208, 16, 6, 0, .ro⟩
abbrev F.FAB_HALT_CAUSE2_PRED : Fld := ⟨0x208, 24, 6, 0, .ro⟩
abbrev F.FAB_HALT_CAUSE2_PRED_VALID : Fld := ⟨0x208, 30, 1, 0, .ro⟩
abbrev F.FAB_HALT_CAUSE3_SRC : Fld := ⟨0x20C, 0, 16, 0, .ro⟩
abbrev F.FAB_HALT_CAUSE3_RANGE : Fld := ⟨0x20C, 16, 6, 0, .ro⟩
abbrev F.FAB_HALT_CAUSE3_IN_RANGE : Fld := ⟨0x20C, 22, 1, 0, .ro⟩
abbrev F.FAB_HALT_CAUSE4_TIDE : Fld := ⟨0x210, 0, 32, 0, .ro⟩
abbrev F.SC_STATUS_TRAINED (i0 : Nat) : Fld := ⟨0x100000 + 0x10000 * i0, 0, 1, 0, .ro⟩
abbrev F.SC_STATUS_INIT_DONE (i0 : Nat) : Fld := ⟨0x100000 + 0x10000 * i0, 1, 1, 0, .ro⟩
abbrev F.SC_STATUS_SELF_REFRESH (i0 : Nat) : Fld := ⟨0x100000 + 0x10000 * i0, 2, 1, 0, .ro⟩
abbrev F.SC_STATUS_REF_RATE (i0 : Nat) : Fld := ⟨0x100000 + 0x10000 * i0, 4, 2, 0, .ro⟩
abbrev F.SC_STATUS_TEMP_C (i0 : Nat) : Fld := ⟨0x100000 + 0x10000 * i0, 8, 8, 0, .ro⟩
abbrev F.SC_CTL_MDC_FLUSH (i0 : Nat) : Fld := ⟨0x100004 + 0x10000 * i0, 0, 1, 0, .wo⟩
abbrev F.SC_CTL_CE_IEN (i0 : Nat) : Fld := ⟨0x100004 + 0x10000 * i0, 1, 1, 0, .rw⟩
abbrev F.SC_OUTST_CUR (i0 : Nat) : Fld := ⟨0x100008 + 0x10000 * i0, 0, 12, 0, .ro⟩
abbrev F.SC_OUTST_PEAK (i0 : Nat) : Fld := ⟨0x100008 + 0x10000 * i0, 16, 12, 0, .ro⟩
abbrev F.SC_OUTST_PEAK_CLR (i0 : Nat) : Fld := ⟨0x100008 + 0x10000 * i0, 31, 1, 0, .wo⟩
abbrev C.SC_CE (i0 : Nat) : Nat := 0x100010 + 0x10000 * i0
abbrev C.SC_CE2 (i0 : Nat) : Nat := 0x100018 + 0x10000 * i0
abbrev C.SC_UE (i0 : Nat) : Nat := 0x100020 + 0x10000 * i0
abbrev C.SC_MDUE (i0 : Nat) : Nat := 0x100028 + 0x10000 * i0
abbrev C.SC_TAGF (i0 : Nat) : Nat := 0x100030 + 0x10000 * i0
abbrev C.SC_POISON (i0 : Nat) : Nat := 0x100038 + 0x10000 * i0
abbrev C.SC_PREAD (i0 : Nat) : Nat := 0x100040 + 0x10000 * i0
abbrev C.SC_MDC_MISS (i0 : Nat) : Nat := 0x100048 + 0x10000 * i0
abbrev F.SC_ERR_LOG0_KIND (i0 : Nat) : Fld := ⟨0x100060 + 0x10000 * i0, 0, 4, 0, .ro⟩
abbrev F.SC_ERR_LOG0_WORD (i0 : Nat) : Fld := ⟨0x100060 + 0x10000 * i0, 4, 3, 0, .ro⟩
abbrev F.SC_ERR_LOG0_PP (i0 : Nat) : Fld := ⟨0x100060 + 0x10000 * i0, 7, 1, 0, .ro⟩
abbrev F.SC_ERR_LOG0_S1 (i0 : Nat) : Fld := ⟨0x100060 + 0x10000 * i0, 8, 7, 0, .ro⟩
abbrev F.SC_ERR_LOG0_S3 (i0 : Nat) : Fld := ⟨0x100060 + 0x10000 * i0, 16, 7, 0, .ro⟩
abbrev F.SC_ERR_LOG0_CT (i0 : Nat) : Fld := ⟨0x100060 + 0x10000 * i0, 24, 5, 0, .ro⟩
abbrev F.SC_ERR_LOG0_ORIGIN (i0 : Nat) : Fld := ⟨0x100060 + 0x10000 * i0, 29, 3, 0, .ro⟩
abbrev F.SC_ERR_LOG1_LINE_LO (i0 : Nat) : Fld := ⟨0x100064 + 0x10000 * i0, 0, 32, 0, .ro⟩
abbrev F.SC_ERR_LOG2_LINE_HI (i0 : Nat) : Fld := ⟨0x100068 + 0x10000 * i0, 0, 3, 0, .ro⟩
abbrev F.SC_ERR_LOG3_TIDE (i0 : Nat) : Fld := ⟨0x10006C + 0x10000 * i0, 0, 32, 0, .ro⟩
abbrev F.SC_ERR_STATUS_LOGGED (i0 : Nat) : Fld := ⟨0x100070 + 0x10000 * i0, 0, 1, 0, .rw1c⟩
abbrev F.SC_ERR_STATUS_OVERRUN (i0 : Nat) : Fld := ⟨0x100070 + 0x10000 * i0, 1, 1, 0, .rw1c⟩
abbrev F.SC_INJ_CTL_POS_A (i0 : Nat) : Fld := ⟨0x100080 + 0x10000 * i0, 0, 7, 0, .rw⟩
abbrev F.SC_INJ_CTL_POS_B (i0 : Nat) : Fld := ⟨0x100080 + 0x10000 * i0, 8, 7, 0, .rw⟩
abbrev F.SC_INJ_CTL_B_EN (i0 : Nat) : Fld := ⟨0x100080 + 0x10000 * i0, 15, 1, 0, .rw⟩
abbrev F.SC_INJ_CTL_WORD (i0 : Nat) : Fld := ⟨0x100080 + 0x10000 * i0, 16, 3, 0, .rw⟩
abbrev F.SC_INJ_CTL_TAG (i0 : Nat) : Fld := ⟨0x100080 + 0x10000 * i0, 19, 1, 0, .rw⟩
abbrev F.SC_INJ_CTL_ARM (i0 : Nat) : Fld := ⟨0x100080 + 0x10000 * i0, 20, 1, 0, .rw⟩
abbrev F.SC_INJ_LO_ADDR_LO (i0 : Nat) : Fld := ⟨0x100084 + 0x10000 * i0, 0, 32, 0, .rw⟩
abbrev F.SC_INJ_HI_ADDR_HI (i0 : Nat) : Fld := ⟨0x100088 + 0x10000 * i0, 0, 9, 0, .rw⟩
abbrev F.SC_KR_SEL_RANGE : Fld := ⟨0x108000, 0, 6, 0, .rw⟩
abbrev F.SC_KR_INFO_FIRST : Fld := ⟨0x108004, 0, 13, 0, .ro⟩
abbrev F.SC_KR_INFO_COUNT : Fld := ⟨0x108004, 16, 13, 0, .ro⟩
abbrev F.SC_KR_INFO_SCRAMBLE : Fld := ⟨0x108004, 29, 1, 0, .ro⟩
abbrev F.SC_KR_INFO_DEFINED : Fld := ⟨0x108004, 30, 1, 0, .ro⟩
abbrev F.SC_KR_KID_CUR : Fld := ⟨0x108008, 0, 6, 0, .ro⟩
abbrev F.SC_KR_KID_PRED : Fld := ⟨0x108008, 8, 6, 0, .ro⟩
abbrev F.SC_KR_KID_PRED_VALID : Fld := ⟨0x108008, 14, 1, 0, .ro⟩
abbrev F.SC_KR_KID_PHASE : Fld := ⟨0x108008, 16, 3, 0, .ro⟩
abbrev F.SC_KR_KID_STOPPED : Fld := ⟨0x108008, 19, 1, 0, .ro⟩
abbrev F.SC_KR_KID_QUEUED : Fld := ⟨0x108008, 20, 1, 0, .ro⟩
abbrev F.SC_KR_KID_OWNER : Fld := ⟨0x108008, 24, 5, 0, .ro⟩
abbrev F.SC_KR_USE_LO : Fld := ⟨0x108010, 0, 32, 0, .ro⟩
abbrev F.SC_KR_USE_HI : Fld := ⟨0x108014, 0, 12, 0, .ro⟩
abbrev F.SC_KR_THRESH_LO : Fld := ⟨0x108018, 0, 32, 0, .ro⟩
abbrev F.SC_KR_THRESH_HI : Fld := ⟨0x10801C, 0, 12, 0, .ro⟩
abbrev F.SC_KR_CMD_RANGE : Fld := ⟨0x108020, 0, 6, 0, .wo⟩
abbrev F.SC_KR_CMD_REKEY : Fld := ⟨0x108020, 8, 1, 0, .wo⟩
abbrev F.SC_KID_SUM_FREE : Fld := ⟨0x108024, 0, 6, 63, .ro⟩
abbrev F.SC_KID_SUM_ACTIVE : Fld := ⟨0x108024, 6, 6, 0, .ro⟩
abbrev F.SC_KID_SUM_DRAINING : Fld := ⟨0x108024, 12, 6, 0, .ro⟩
abbrev F.SC_KID_SUM_FLUSHING : Fld := ⟨0x108024, 18, 6, 0, .ro⟩
abbrev F.SC_KID_SUM_RETIRED : Fld := ⟨0x108024, 24, 6, 0, .ro⟩
abbrev C.SC_TP_CE : Nat := 0x108030
abbrev C.SC_TP_UE : Nat := 0x108038
abbrev C.SC_CV_CE (i0 : Nat) : Nat := 0x100A000 + 0x100000 * i0
abbrev C.SC_CV_POISON (i0 : Nat) : Nat := 0x100A008 + 0x100000 * i0
abbrev C.SC_CV_PREAD (i0 : Nat) : Nat := 0x100A010 + 0x100000 * i0
abbrev C.SC_CV_KSTOP (i0 : Nat) : Nat := 0x100A018 + 0x100000 * i0
abbrev F.SC_CV_KR_SEL_RANGE (i0 : Nat) : Fld := ⟨0x100A020 + 0x100000 * i0, 0, 6, 0, .rw⟩
abbrev F.SC_CV_KR_STATE_DEFINED (i0 : Nat) : Fld := ⟨0x100A024 + 0x100000 * i0, 0, 1, 0, .ro⟩
abbrev F.SC_CV_KR_STATE_SCRAMBLED (i0 : Nat) : Fld := ⟨0x100A024 + 0x100000 * i0, 1, 1, 0, .ro⟩
abbrev F.SC_CV_KR_STATE_REKEYING (i0 : Nat) : Fld := ⟨0x100A024 + 0x100000 * i0, 2, 1, 0, .ro⟩
abbrev F.SC_CV_KR_STATE_WAITING (i0 : Nat) : Fld := ⟨0x100A024 + 0x100000 * i0, 3, 1, 0, .ro⟩
abbrev F.SC_CV_KR_STATE_STOPPED (i0 : Nat) : Fld := ⟨0x100A024 + 0x100000 * i0, 4, 1, 0, .ro⟩
abbrev F.SC_CV_KR_USE_LO_USE (i0 : Nat) : Fld := ⟨0x100A028 + 0x100000 * i0, 0, 32, 0, .ro⟩
abbrev F.SC_CV_KR_USE_HI_USE (i0 : Nat) : Fld := ⟨0x100A02C + 0x100000 * i0, 0, 12, 0, .ro⟩
abbrev C.XL_WALK_CNT : Nat := 0x30000
abbrev C.XL_WALK_ERR : Nat := 0x30008
abbrev C.XL_L2_MISS : Nat := 0x30010
abbrev F.XL_WALK_BUSY_ACTIVE : Fld := ⟨0x30018, 0, 7, 0, .ro⟩
abbrev F.XL_WALK_BUSY_QUEUED : Fld := ⟨0x30018, 16, 9, 0, .ro⟩
abbrev F.XL_CTXDIR_LO_EN (i0 : Nat) : Fld := ⟨0x31000 + 0x40 * i0, 0, 1, 0, .rw⟩
abbrev F.XL_CTXDIR_LO_ADDR_LO (i0 : Nat) : Fld := ⟨0x31000 + 0x40 * i0, 12, 20, 0, .rw⟩
abbrev F.XL_CTXDIR_HI_ADDR_HI (i0 : Nat) : Fld := ⟨0x31004 + 0x40 * i0, 0, 32, 0, .rw⟩
abbrev F.XL_WQ_BASE_LO_EN (i0 : Nat) : Fld := ⟨0x31008 + 0x40 * i0, 0, 1, 0, .rw⟩
abbrev F.XL_WQ_BASE_LO_ADDR_LO (i0 : Nat) : Fld := ⟨0x31008 + 0x40 * i0, 13, 19, 0, .rw⟩
abbrev F.XL_WQ_BASE_HI_ADDR_HI (i0 : Nat) : Fld := ⟨0x3100C + 0x40 * i0, 0, 32, 0, .rw⟩
abbrev F.XL_DL_NEXT_LO_ADDR_LO (i0 : Nat) : Fld := ⟨0x31010 + 0x40 * i0, 12, 20, 0, .rw⟩
abbrev F.XL_DL_NEXT_HI_ADDR_HI (i0 : Nat) : Fld := ⟨0x31014 + 0x40 * i0, 0, 32, 0, .rw⟩
abbrev F.XL_DL_BASE_LO_ADDR_LO (i0 : Nat) : Fld := ⟨0x31018 + 0x40 * i0, 12, 20, 0, .ro⟩
abbrev F.XL_DL_BASE_HI_ADDR_HI (i0 : Nat) : Fld := ⟨0x3101C + 0x40 * i0, 0, 32, 0, .ro⟩
abbrev F.XL_DL_CTL_SWAP (i0 : Nat) : Fld := ⟨0x31020 + 0x40 * i0, 0, 1, 0, .wo⟩
abbrev F.XL_DL_CTL_STOP (i0 : Nat) : Fld := ⟨0x31020 + 0x40 * i0, 1, 1, 0, .wo⟩
abbrev F.XL_DL_STATUS_ON (i0 : Nat) : Fld := ⟨0x31024 + 0x40 * i0, 0, 1, 0, .ro⟩
abbrev F.XL_DL_STATUS_BUSY (i0 : Nat) : Fld := ⟨0x31024 + 0x40 * i0, 1, 1, 0, .ro⟩
abbrev F.XL_DL_STATUS_DONE (i0 : Nat) : Fld := ⟨0x31024 + 0x40 * i0, 2, 1, 0, .rw1c⟩
abbrev F.XL_DL_STATUS_ERR (i0 : Nat) : Fld := ⟨0x31024 + 0x40 * i0, 3, 1, 0, .rw1c⟩
abbrev F.XL_DL_STATUS_EPOCH (i0 : Nat) : Fld := ⟨0x31024 + 0x40 * i0, 4, 1, 0, .ro⟩
abbrev F.XL_WQ_PROD_PROD (i0 : Nat) : Fld := ⟨0x1003000 + 0x100000 * i0, 0, 16, 0, .ro⟩
abbrev F.XL_WQ_CONS_CONS (i0 : Nat) : Fld := ⟨0x1003004 + 0x100000 * i0, 0, 16, 0, .rw⟩
abbrev F.XL_WQ_STATUS_COUNT (i0 : Nat) : Fld := ⟨0x1003008 + 0x100000 * i0, 0, 9, 0, .ro⟩
abbrev F.XL_WQ_STATUS_FULL (i0 : Nat) : Fld := ⟨0x1003008 + 0x100000 * i0, 9, 1, 1, .ro⟩
abbrev F.XL_WQ_STATUS_BADCONS (i0 : Nat) : Fld := ⟨0x1003008 + 0x100000 * i0, 10, 1, 0, .rw1c⟩
abbrev F.XL_WQ_STATUS_WERR (i0 : Nat) : Fld := ⟨0x1003008 + 0x100000 * i0, 11, 1, 0, .rw1c⟩
abbrev F.XL_WQ_STATUS_OFL (i0 : Nat) : Fld := ⟨0x1003008 + 0x100000 * i0, 12, 1, 0, .rw1c⟩
abbrev F.XL_WQ_RESOLVE_CTX (i0 : Nat) : Fld := ⟨0x100300C + 0x100000 * i0, 0, 12, 0, .wo⟩
abbrev F.XL_WQ_RESOLVE_ACTION (i0 : Nat) : Fld := ⟨0x100300C + 0x100000 * i0, 12, 2, 0, .wo⟩
abbrev C.XL_WQ_OVERFLOW (i0 : Nat) : Nat := 0x1003010 + 0x100000 * i0
abbrev F.XL_WQ_HELD_TRANSFERS (i0 : Nat) : Fld := ⟨0x1003018 + 0x100000 * i0, 0, 13, 0, .ro⟩
abbrev F.XL_WQ_HELD_CONTEXTS (i0 : Nat) : Fld := ⟨0x1003018 + 0x100000 * i0, 16, 13, 0, .ro⟩
abbrev F.XL_INV_BASE_LO_DVA_LO (i0 : Nat) : Fld := ⟨0x1003020 + 0x100000 * i0, 16, 16, 0, .rw⟩
abbrev F.XL_INV_BASE_HI_DVA_HI (i0 : Nat) : Fld := ⟨0x1003024 + 0x100000 * i0, 0, 16, 0, .rw⟩
abbrev F.XL_INV_LEN_PAGES (i0 : Nat) : Fld := ⟨0x1003028 + 0x100000 * i0, 0, 32, 0, .rw⟩
abbrev F.XL_INV_SCOPE_CTX (i0 : Nat) : Fld := ⟨0x100302C + 0x100000 * i0, 0, 12, 0, .rw⟩
abbrev F.XL_INV_SCOPE_ALL (i0 : Nat) : Fld := ⟨0x100302C + 0x100000 * i0, 12, 1, 0, .rw⟩
abbrev F.XL_INV_EVENT_EVENT (i0 : Nat) : Fld := ⟨0x1003030 + 0x100000 * i0, 0, 16, 0, .rw⟩
abbrev F.XL_INV_VAL_LO_VALUE (i0 : Nat) : Fld := ⟨0x1003034 + 0x100000 * i0, 0, 32, 0, .rw⟩
abbrev F.XL_INV_VAL_HI_VALUE (i0 : Nat) : Fld := ⟨0x1003038 + 0x100000 * i0, 0, 32, 0, .rw⟩
abbrev F.XL_INV_GO_GO (i0 : Nat) : Fld := ⟨0x100303C + 0x100000 * i0, 0, 1, 0, .wo⟩
abbrev F.XL_INV_STATUS_PENDING (i0 : Nat) : Fld := ⟨0x1003040 + 0x100000 * i0, 0, 5, 0, .ro⟩
abbrev F.XL_INV_STATUS_FULL (i0 : Nat) : Fld := ⟨0x1003040 + 0x100000 * i0, 5, 1, 0, .rw1c⟩
abbrev F.XL_INV_STATUS_SLOW (i0 : Nat) : Fld := ⟨0x1003040 + 0x100000 * i0, 6, 1, 0, .rw1c⟩
abbrev C.XL_CV_MISS (i0 : Nat) : Nat := 0x1003048 + 0x100000 * i0
abbrev C.XL_CV_FAULT (i0 : Nat) : Nat := 0x1003050 + 0x100000 * i0
abbrev F.GP_STATUS_BUSY (i0 : Nat) : Fld := ⟨0x300000 + 0x4000 * i0, 0, 1, 0, .ro⟩
abbrev F.GP_STATUS_PAUSED (i0 : Nat) : Fld := ⟨0x300000 + 0x4000 * i0, 1, 1, 0, .ro⟩
abbrev F.GP_STATUS_REPLAY (i0 : Nat) : Fld := ⟨0x300000 + 0x4000 * i0, 2, 1, 0, .ro⟩
abbrev F.GP_STATUS_FENCED (i0 : Nat) : Fld := ⟨0x300000 + 0x4000 * i0, 3, 1, 0, .ro⟩
abbrev F.GP_STATUS_OWNER (i0 : Nat) : Fld := ⟨0x300000 + 0x4000 * i0, 8, 5, 31, .ro⟩
abbrev F.GP_STATUS_CTX (i0 : Nat) : Fld := ⟨0x300000 + 0x4000 * i0, 16, 12, 0, .ro⟩
abbrev F.GP_GUARD_GAP (i0 : Nat) : Fld := ⟨0x300004 + 0x4000 * i0, 0, 5, 12, .rw⟩
abbrev F.GP_GUARD_EN (i0 : Nat) : Fld := ⟨0x300004 + 0x4000 * i0, 8, 1, 1, .rw⟩
abbrev C.GP_ROWS (i0 : Nat) : Nat := 0x300010 + 0x4000 * i0
abbrev C.GP_FETCH (i0 : Nat) : Nat := 0x300018 + 0x4000 * i0
abbrev C.GP_REPLAY (i0 : Nat) : Nat := 0x300020 + 0x4000 * i0
abbrev C.GP_QUAR (i0 : Nat) : Nat := 0x300028 + 0x4000 * i0
abbrev F.HD_STATUS_SLICE0_BUSY (i0 : Nat) : Fld := ⟨0x40000 + 0x100 * i0, 0, 1, 0, .ro⟩
abbrev F.HD_STATUS_SLICE1_BUSY (i0 : Nat) : Fld := ⟨0x40000 + 0x100 * i0, 1, 1, 0, .ro⟩
abbrev F.HD_STATUS_HASH_BUSY (i0 : Nat) : Fld := ⟨0x40000 + 0x100 * i0, 2, 1, 0, .ro⟩
abbrev F.HD_STATUS_ARB_REF (i0 : Nat) : Fld := ⟨0x40000 + 0x100 * i0, 3, 1, 0, .rw1c⟩
abbrev F.HD_STATUS_OWNER0 (i0 : Nat) : Fld := ⟨0x40000 + 0x100 * i0, 8, 5, 31, .ro⟩
abbrev F.HD_STATUS_OWNER1 (i0 : Nat) : Fld := ⟨0x40000 + 0x100 * i0, 16, 5, 31, .ro⟩
abbrev F.HD_CTL_ARB (i0 : Nat) : Fld := ⟨0x40004 + 0x100 * i0, 0, 1, 1, .rw⟩
abbrev C.HD_KEYS (i0 : Nat) : Nat := 0x40008 + 0x100 * i0
abbrev C.HD_UNIQ (i0 : Nat) : Nat := 0x40010 + 0x100 * i0
abbrev C.HD_SPLIT (i0 : Nat) : Nat := 0x40018 + 0x100 * i0
abbrev C.GP_CV_ROWS (i0 : Nat) : Nat := 0x1004000 + 0x100000 * i0
abbrev C.GP_CV_BAGS (i0 : Nat) : Nat := 0x1004008 + 0x100000 * i0
abbrev C.GP_CV_ESC (i0 : Nat) : Nat := 0x1004010 + 0x100000 * i0
abbrev C.GP_CV_EESC (i0 : Nat) : Nat := 0x1004018 + 0x100000 * i0
abbrev C.GP_CV_QUAR (i0 : Nat) : Nat := 0x1004020 + 0x100000 * i0
abbrev C.GP_CV_REPLAY (i0 : Nat) : Nat := 0x1004028 + 0x100000 * i0
abbrev C.GP_CV_ROWERR (i0 : Nat) : Nat := 0x1004030 + 0x100000 * i0
abbrev C.GP_CV_IDXOOR (i0 : Nat) : Nat := 0x1004038 + 0x100000 * i0
abbrev C.GP_CV_NONFIN (i0 : Nat) : Nat := 0x1004040 + 0x100000 * i0
abbrev C.GP_CV_OUTOVF (i0 : Nat) : Nat := 0x1004048 + 0x100000 * i0
abbrev C.GP_CV_HOTHIT (i0 : Nat) : Nat := 0x1004050 + 0x100000 * i0
abbrev C.GP_CV_OVLHIT (i0 : Nat) : Nat := 0x1004058 + 0x100000 * i0
abbrev C.GP_CV_DD_KEYS (i0 : Nat) : Nat := 0x1004060 + 0x100000 * i0
abbrev C.GP_CV_DD_UNIQ (i0 : Nat) : Nat := 0x1004068 + 0x100000 * i0
abbrev C.GP_CV_SPLIT (i0 : Nat) : Nat := 0x1004070 + 0x100000 * i0
abbrev F.GP_CV_CAP0_REASON (i0 : Nat) : Fld := ⟨0x1004080 + 0x100000 * i0, 0, 8, 0, .ro⟩
abbrev F.GP_CV_CAP0_DETAIL (i0 : Nat) : Fld := ⟨0x1004080 + 0x100000 * i0, 8, 8, 0, .ro⟩
abbrev F.GP_CV_CAP0_CTX (i0 : Nat) : Fld := ⟨0x1004080 + 0x100000 * i0, 16, 12, 0, .ro⟩
abbrev F.GP_CV_CAP1_GP (i0 : Nat) : Fld := ⟨0x1004084 + 0x100000 * i0, 0, 6, 0, .ro⟩
abbrev F.GP_CV_CAP1_ROW_HI (i0 : Nat) : Fld := ⟨0x1004084 + 0x100000 * i0, 8, 8, 0, .ro⟩
abbrev F.GP_CV_CAP2_ROW_LO (i0 : Nat) : Fld := ⟨0x1004088 + 0x100000 * i0, 0, 32, 0, .ro⟩
abbrev F.GP_CV_CAP3_TABLE_LO (i0 : Nat) : Fld := ⟨0x100408C + 0x100000 * i0, 0, 32, 0, .ro⟩
abbrev F.GP_CV_CAP4_TABLE_HI (i0 : Nat) : Fld := ⟨0x1004090 + 0x100000 * i0, 0, 16, 0, .ro⟩
abbrev F.GP_CV_CAP_STATUS_VALID (i0 : Nat) : Fld := ⟨0x1004094 + 0x100000 * i0, 0, 1, 0, .rw1c⟩
abbrev F.GP_CV_CAP_STATUS_OVERRUN (i0 : Nat) : Fld := ⟨0x1004094 + 0x100000 * i0, 1, 1, 0, .rw1c⟩
abbrev F.TU_BIND_DESC_LO_DVA_LO : Fld := ⟨0x50000, 0, 32, 0, .rw⟩
abbrev F.TU_BIND_DESC_HI_DVA_HI : Fld := ⟨0x50004, 0, 16, 0, .rw⟩
abbrev F.TU_BIND_CTL_COVE : Fld := ⟨0x50008, 0, 4, 0, .wo⟩
abbrev F.TU_BIND_CTL_SLOT : Fld := ⟨0x50008, 4, 6, 0, .wo⟩
abbrev F.TU_BIND_CTL_CTX : Fld := ⟨0x50008, 10, 12, 0, .wo⟩
abbrev F.TU_BIND_CTL_ENG : Fld := ⟨0x50008, 22, 3, 0, .wo⟩
abbrev F.TU_BIND_CTL_OP : Fld := ⟨0x50008, 28, 3, 0, .wo⟩
abbrev F.TU_BIND_STATUS_BUSY : Fld := ⟨0x5000C, 0, 1, 0, .ro⟩
abbrev F.TU_BIND_STATUS_DONE : Fld := ⟨0x5000C, 1, 1, 0, .rw1c⟩
abbrev F.TU_BIND_STATUS_ERR : Fld := ⟨0x5000C, 2, 1, 0, .rw1c⟩
abbrev F.TU_BIND_STATUS_CODE : Fld := ⟨0x5000C, 4, 4, 0, .ro⟩
abbrev F.TU_FLIP_MASK_LO : Fld := ⟨0x50010, 0, 32, 0, .rw⟩
abbrev F.TU_FLIP_MASK_HI : Fld := ⟨0x50014, 0, 32, 0, .rw⟩
abbrev F.TU_FLIP_TGT_LO : Fld := ⟨0x50018, 0, 32, 0, .rw⟩
abbrev F.TU_FLIP_TGT_HI : Fld := ⟨0x5001C, 0, 32, 0, .rw⟩
abbrev F.TU_FLIP_EVENT : Fld := ⟨0x50020, 0, 16, 0, .rw⟩
abbrev F.TU_FLIP_VAL_LO : Fld := ⟨0x50024, 0, 32, 0, .rw⟩
abbrev F.TU_FLIP_VAL_HI : Fld := ⟨0x50028, 0, 32, 0, .rw⟩
abbrev F.TU_FLIP_COVE : Fld := ⟨0x5002C, 0, 4, 0, .wo⟩
abbrev F.TU_FLIP_GO : Fld := ⟨0x5002C, 31, 1, 0, .wo⟩
abbrev F.TU_FLIP_STATUS_STATE (i0 : Nat) : Fld := ⟨0x50040 + 0x4 * i0, 0, 2, 0, .ro⟩
abbrev F.TU_FLIP_STATUS_OUTCOME (i0 : Nat) : Fld := ⟨0x50040 + 0x4 * i0, 2, 2, 0, .ro⟩
abbrev F.TU_FLIP_STATUS_CODE (i0 : Nat) : Fld := ⟨0x50040 + 0x4 * i0, 4, 4, 0, .ro⟩
abbrev F.TU_FLIP_STATUS_REFUSED (i0 : Nat) : Fld := ⟨0x50040 + 0x4 * i0, 8, 1, 0, .rw1c⟩
abbrev F.TU_FLIP_STATUS_DONE (i0 : Nat) : Fld := ⟨0x50040 + 0x4 * i0, 9, 1, 0, .rw1c⟩
abbrev F.TU_ENG_STATUS_BUSY (i0 : Nat) : Fld := ⟨0x50100 + 0x4 * i0, 0, 1, 0, .ro⟩
abbrev F.RM_STATUS_BUSY (i0 : Nat) : Fld := ⟨0x60000 + 0x4 * i0, 0, 1, 0, .ro⟩
abbrev F.TK_STATUS_BUSY (i0 : Nat) : Fld := ⟨0x70000 + 0x4 * i0, 0, 1, 0, .ro⟩
abbrev F.TU_ENG_STATUS_PAUSED (i0 : Nat) : Fld := ⟨0x50100 + 0x4 * i0, 1, 1, 0, .ro⟩
abbrev F.RM_STATUS_PAUSED (i0 : Nat) : Fld := ⟨0x60000 + 0x4 * i0, 1, 1, 0, .ro⟩
abbrev F.TK_STATUS_PAUSED (i0 : Nat) : Fld := ⟨0x70000 + 0x4 * i0, 1, 1, 0, .ro⟩
abbrev F.TU_ENG_STATUS_FENCED (i0 : Nat) : Fld := ⟨0x50100 + 0x4 * i0, 2, 1, 0, .ro⟩
abbrev F.RM_STATUS_FENCED (i0 : Nat) : Fld := ⟨0x60000 + 0x4 * i0, 2, 1, 0, .ro⟩
abbrev F.TK_STATUS_FENCED (i0 : Nat) : Fld := ⟨0x70000 + 0x4 * i0, 2, 1, 0, .ro⟩
abbrev F.TU_ENG_STATUS_OWNER (i0 : Nat) : Fld := ⟨0x50100 + 0x4 * i0, 8, 5, 31, .ro⟩
abbrev F.RM_STATUS_OWNER (i0 : Nat) : Fld := ⟨0x60000 + 0x4 * i0, 8, 5, 31, .ro⟩
abbrev F.TK_STATUS_OWNER (i0 : Nat) : Fld := ⟨0x70000 + 0x4 * i0, 8, 5, 31, .ro⟩
abbrev F.TU_ENG_STATUS_TABLES (i0 : Nat) : Fld := ⟨0x50100 + 0x4 * i0, 16, 7, 0, .ro⟩
abbrev F.RM_STATUS_TABLES (i0 : Nat) : Fld := ⟨0x60000 + 0x4 * i0, 16, 7, 0, .ro⟩
abbrev F.TK_STATUS_TABLES (i0 : Nat) : Fld := ⟨0x70000 + 0x4 * i0, 16, 7, 0, .ro⟩
abbrev F.SW_STATUS_WORK (i0 : Nat) : Fld := ⟨0x400000 + 0x10000 * i0, 0, 4, 0, .ro⟩
abbrev F.SW_STATUS_LATE (i0 : Nat) : Fld := ⟨0x400000 + 0x10000 * i0, 4, 1, 0, .rw1c⟩
abbrev F.SW_STATUS_QUEUED (i0 : Nat) : Fld := ⟨0x400000 + 0x10000 * i0, 16, 10, 0, .ro⟩
abbrev F.SW_PATROL_HOURS (i0 : Nat) : Fld := ⟨0x400004 + 0x10000 * i0, 0, 8, 24, .rw⟩
abbrev F.SW_PATROL_POS_LINE (i0 : Nat) : Fld := ⟨0x400008 + 0x10000 * i0, 0, 30, 0, .ro⟩
abbrev C.SW_PASSES (i0 : Nat) : Nat := 0x400010 + 0x10000 * i0
abbrev C.SW_MOVES (i0 : Nat) : Nat := 0x400018 + 0x10000 * i0
abbrev C.SW_ZFILL (i0 : Nat) : Nat := 0x400020 + 0x10000 * i0
abbrev F.TU_CV_TBL_SEL_SLOT (i0 : Nat) : Fld := ⟨0x1005000 + 0x100000 * i0, 0, 6, 0, .rw⟩
abbrev F.TU_CV_TBL_STATE_BOUND (i0 : Nat) : Fld := ⟨0x1005004 + 0x100000 * i0, 0, 1, 0, .ro⟩
abbrev F.TU_CV_TBL_STATE_INCOMPLETE (i0 : Nat) : Fld := ⟨0x1005004 + 0x100000 * i0, 1, 1, 0, .ro⟩
abbrev F.TU_CV_TBL_STATE_COMPACTING (i0 : Nat) : Fld := ⟨0x1005004 + 0x100000 * i0, 2, 1, 0, .ro⟩
abbrev F.TU_CV_TBL_STATE_ENG (i0 : Nat) : Fld := ⟨0x1005004 + 0x100000 * i0, 4, 3, 0, .ro⟩
abbrev F.TU_CV_TBL_STATE_PIN_OLD (i0 : Nat) : Fld := ⟨0x1005004 + 0x100000 * i0, 16, 16, 0, .ro⟩
abbrev F.TU_CV_TBL_PUB_PUB (i0 : Nat) : Fld := ⟨0x1005008 + 0x100000 * i0, 0, 32, 0, .ro⟩
abbrev F.TU_CV_TBL_ENT_ENTRIES (i0 : Nat) : Fld := ⟨0x100500C + 0x100000 * i0, 0, 24, 0, .ro⟩
abbrev F.TU_CV_FLIP_STATE (i0 : Nat) : Fld := ⟨0x1005010 + 0x100000 * i0, 0, 2, 0, .ro⟩
abbrev F.TU_CV_FLIP_OUTCOME (i0 : Nat) : Fld := ⟨0x1005010 + 0x100000 * i0, 2, 2, 0, .ro⟩
abbrev F.TU_CV_FLIP_AT_LO (i0 : Nat) : Fld := ⟨0x1005018 + 0x100000 * i0, 0, 32, 0, .ro⟩
abbrev F.TU_CV_FLIP_AT_HI (i0 : Nat) : Fld := ⟨0x100501C + 0x100000 * i0, 0, 32, 0, .ro⟩
abbrev C.TU_CV_TU_ROWS (i0 : Nat) : Nat := 0x1005020 + 0x100000 * i0
abbrev C.TU_CV_TU_COMPACT (i0 : Nat) : Nat := 0x1005028 + 0x100000 * i0
abbrev C.TU_CV_TU_RECLAIM (i0 : Nat) : Nat := 0x1005030 + 0x100000 * i0
abbrev C.TU_CV_RM_BYTES (i0 : Nat) : Nat := 0x1005038 + 0x100000 * i0
abbrev C.TU_CV_TK_SCORES (i0 : Nat) : Nat := 0x1005040 + 0x100000 * i0
abbrev C.TU_CV_TK_SEGS (i0 : Nat) : Nat := 0x1005048 + 0x100000 * i0
abbrev F.SW_CV_MV_SRC_LO (i0 : Nat) : Fld := ⟨0x1005080 + 0x100000 * i0, 0, 32, 0, .rw⟩
abbrev F.SW_CV_MV_SRC_HI (i0 : Nat) : Fld := ⟨0x1005084 + 0x100000 * i0, 0, 32, 0, .rw⟩
abbrev F.SW_CV_MV_DST_LO (i0 : Nat) : Fld := ⟨0x1005088 + 0x100000 * i0, 0, 32, 0, .rw⟩
abbrev F.SW_CV_MV_DST_HI (i0 : Nat) : Fld := ⟨0x100508C + 0x100000 * i0, 0, 32, 0, .rw⟩
abbrev F.SW_CV_MV_LEN (i0 : Nat) : Fld := ⟨0x1005090 + 0x100000 * i0, 0, 32, 0, .rw⟩
abbrev F.SW_CV_MV_CTX (i0 : Nat) : Fld := ⟨0x1005094 + 0x100000 * i0, 0, 12, 0, .rw⟩
abbrev F.SW_CV_MV_ADVICE (i0 : Nat) : Fld := ⟨0x1005094 + 0x100000 * i0, 12, 1, 0, .rw⟩
abbrev F.SW_CV_MV_NOEV (i0 : Nat) : Fld := ⟨0x1005094 + 0x100000 * i0, 13, 1, 0, .rw⟩
abbrev F.SW_CV_MV_EVENT (i0 : Nat) : Fld := ⟨0x1005098 + 0x100000 * i0, 0, 16, 0, .rw⟩
abbrev F.SW_CV_MV_VAL_LO (i0 : Nat) : Fld := ⟨0x100509C + 0x100000 * i0, 0, 32, 0, .rw⟩
abbrev F.SW_CV_MV_VAL_HI (i0 : Nat) : Fld := ⟨0x10050A0 + 0x100000 * i0, 0, 32, 0, .rw⟩
abbrev F.SW_CV_MV_GO (i0 : Nat) : Fld := ⟨0x10050A4 + 0x100000 * i0, 0, 1, 0, .wo⟩
abbrev F.SW_CV_MV_STATUS_QUEUED (i0 : Nat) : Fld := ⟨0x10050A8 + 0x100000 * i0, 0, 7, 0, .ro⟩
abbrev F.SW_CV_MV_STATUS_FULL (i0 : Nat) : Fld := ⟨0x10050A8 + 0x100000 * i0, 7, 1, 0, .rw1c⟩
abbrev F.SW_CV_MV_STATUS_ERR (i0 : Nat) : Fld := ⟨0x10050A8 + 0x100000 * i0, 8, 1, 0, .rw1c⟩
abbrev F.SW_CV_MV_STATUS_BAD (i0 : Nat) : Fld := ⟨0x10050A8 + 0x100000 * i0, 9, 1, 0, .rw1c⟩
abbrev C.SW_CV_MV_MOVED (i0 : Nat) : Nat := 0x10050B0 + 0x100000 * i0
abbrev C.SW_CV_MV_DROPPED (i0 : Nat) : Nat := 0x10050B8 + 0x100000 * i0
abbrev F.OB_AREA_GRANULE (i0 : Nat) : Fld := ⟨0x80000 + 0x40 * i0, 0, 13, 0, .rw⟩
abbrev F.OB_AREA_LOG2 (i0 : Nat) : Fld := ⟨0x80000 + 0x40 * i0, 16, 5, 0, .rw⟩
abbrev F.OB_AREA_EN (i0 : Nat) : Fld := ⟨0x80000 + 0x40 * i0, 31, 1, 0, .rw⟩
abbrev F.OB_AREA_STATUS_INIT (i0 : Nat) : Fld := ⟨0x80004 + 0x40 * i0, 0, 1, 0, .ro⟩
abbrev F.OB_AREA_STATUS_READY (i0 : Nat) : Fld := ⟨0x80004 + 0x40 * i0, 1, 1, 0, .ro⟩
abbrev F.OB_AREA_STATUS_ERR (i0 : Nat) : Fld := ⟨0x80004 + 0x40 * i0, 2, 1, 0, .rw1c⟩
abbrev F.OB_CTX_CMD_CTX (i0 : Nat) : Fld := ⟨0x80008 + 0x40 * i0, 0, 12, 0, .wo⟩
abbrev F.OB_CTX_CMD_OP (i0 : Nat) : Fld := ⟨0x80008 + 0x40 * i0, 12, 2, 0, .wo⟩
abbrev F.OB_SLOT_HELD (i0 : Nat) : Fld := ⟨0x8000C + 0x40 * i0, 0, 6, 0, .ro⟩
abbrev F.OB_SLOT_WAITING (i0 : Nat) : Fld := ⟨0x8000C + 0x40 * i0, 8, 6, 0, .ro⟩
abbrev F.OB_SLOT_FREE_FREE : Fld := ⟨0x80400, 0, 6, 48, .ro⟩
abbrev C.OB_EVICT : Nat := 0x80408
abbrev F.EV_CRING_LO_EN (i0 : Nat) : Fld := ⟨0x90000 + 0x20 * i0, 0, 1, 0, .rw⟩
abbrev F.EV_CRING_LO_ADDR_LO (i0 : Nat) : Fld := ⟨0x90000 + 0x20 * i0, 14, 18, 0, .rw⟩
abbrev F.EV_CRING_HI_ADDR_HI (i0 : Nat) : Fld := ⟨0x90004 + 0x20 * i0, 0, 32, 0, .rw⟩
abbrev F.OB_ARG_ARG (i0 i1 : Nat) : Fld := ⟨0x1006000 + 0x100000 * i0 + 0x4 * i1, 0, 32, 0, .rw⟩
abbrev F.OB_CMD_OP (i0 : Nat) : Fld := ⟨0x1006010 + 0x100000 * i0, 0, 4, 0, .wo⟩
abbrev F.OB_RESULT_BUSY (i0 : Nat) : Fld := ⟨0x1006014 + 0x100000 * i0, 0, 1, 0, .ro⟩
abbrev F.OB_RESULT_DONE (i0 : Nat) : Fld := ⟨0x1006014 + 0x100000 * i0, 1, 1, 0, .rw1c⟩
abbrev F.OB_RESULT_IGN (i0 : Nat) : Fld := ⟨0x1006014 + 0x100000 * i0, 2, 1, 0, .rw1c⟩
abbrev F.OB_RESULT_STATUS (i0 : Nat) : Fld := ⟨0x1006014 + 0x100000 * i0, 4, 4, 0, .ro⟩
abbrev F.OB_RES0_RES (i0 : Nat) : Fld := ⟨0x1006018 + 0x100000 * i0, 0, 32, 0, .ro⟩
abbrev F.OB_RES1_RES (i0 : Nat) : Fld := ⟨0x100601C + 0x100000 * i0, 0, 32, 0, .ro⟩
abbrev F.OB_Q_STATUS_STATE (i0 i1 : Nat) : Fld := ⟨0x1006100 + 0x100000 * i0 + 0x8 * i1, 0, 2, 0, .ro⟩
abbrev F.OB_Q_STATUS_RT (i0 i1 : Nat) : Fld := ⟨0x1006100 + 0x100000 * i0 + 0x8 * i1, 2, 1, 0, .ro⟩
abbrev F.OB_Q_STATUS_STUCK (i0 i1 : Nat) : Fld := ⟨0x1006100 + 0x100000 * i0 + 0x8 * i1, 3, 1, 0, .rw1c⟩
abbrev F.OB_Q_STATUS_ABORT (i0 i1 : Nat) : Fld := ⟨0x1006100 + 0x100000 * i0 + 0x8 * i1, 4, 1, 0, .ro⟩
abbrev F.OB_Q_STATUS_DEPTH (i0 i1 : Nat) : Fld := ⟨0x1006100 + 0x100000 * i0 + 0x8 * i1, 8, 9, 0, .ro⟩
abbrev F.OB_Q_STATUS_HEADWAIT (i0 i1 : Nat) : Fld := ⟨0x1006100 + 0x100000 * i0 + 0x8 * i1, 17, 1, 0, .ro⟩
abbrev F.OB_Q_CFG_SHARE (i0 i1 : Nat) : Fld := ⟨0x1006104 + 0x100000 * i0 + 0x8 * i1, 0, 10, 0, .ro⟩
abbrev F.OB_Q_CFG_RESERVE (i0 i1 : Nat) : Fld := ⟨0x1006104 + 0x100000 * i0 + 0x8 * i1, 16, 6, 0, .ro⟩
abbrev F.OB_G_SEL_SLOT (i0 : Nat) : Fld := ⟨0x1006300 + 0x100000 * i0, 0, 8, 0, .rw⟩
abbrev F.OB_G_INFO_HREF (i0 : Nat) : Fld := ⟨0x1006304 + 0x100000 * i0, 0, 32, 0, .ro⟩
abbrev F.OB_G_GEN_GEN (i0 : Nat) : Fld := ⟨0x1006308 + 0x100000 * i0, 0, 32, 0, .ro⟩
abbrev F.OB_CTX_SEL_CTX (i0 : Nat) : Fld := ⟨0x1006310 + 0x100000 * i0, 0, 12, 0, .rw⟩
abbrev F.OB_CTX_STATE_STATE (i0 : Nat) : Fld := ⟨0x1006314 + 0x100000 * i0, 0, 2, 0, .ro⟩
abbrev F.OB_CTX_STATE_WAITSLOT (i0 : Nat) : Fld := ⟨0x1006314 + 0x100000 * i0, 2, 1, 0, .ro⟩
abbrev F.OB_CV_LIVE (i0 : Nat) : Fld := ⟨0x1006320 + 0x100000 * i0, 0, 25, 0, .ro⟩
abbrev F.OB_CV_ZOMBIE (i0 : Nat) : Fld := ⟨0x1006324 + 0x100000 * i0, 0, 25, 0, .ro⟩
abbrev C.OB_CV_SAT (i0 : Nat) : Nat := 0x1006328 + 0x100000 * i0
abbrev C.OB_CV_NOSPACE (i0 : Nat) : Nat := 0x1006330 + 0x100000 * i0
abbrev C.OB_CV_EVICT (i0 : Nat) : Nat := 0x1006338 + 0x100000 * i0
abbrev F.EV_EVENT (i0 : Nat) : Fld := ⟨0x1006800 + 0x100000 * i0, 0, 16, 0, .rw⟩
abbrev F.EV_VAL_LO (i0 : Nat) : Fld := ⟨0x1006804 + 0x100000 * i0, 0, 32, 0, .rw⟩
abbrev F.EV_VAL_HI (i0 : Nat) : Fld := ⟨0x1006808 + 0x100000 * i0, 0, 32, 0, .rw⟩
abbrev F.EV_TAG (i0 : Nat) : Fld := ⟨0x100680C + 0x100000 * i0, 0, 22, 0, .rw⟩
abbrev F.EV_OP_OP (i0 : Nat) : Fld := ⟨0x1006810 + 0x100000 * i0, 0, 3, 0, .wo⟩
abbrev F.EV_RES_LO_VALUE (i0 : Nat) : Fld := ⟨0x1006814 + 0x100000 * i0, 0, 32, 0, .ro⟩
abbrev F.EV_RES_HI_VALUE (i0 : Nat) : Fld := ⟨0x1006818 + 0x100000 * i0, 0, 32, 0, .ro⟩
abbrev F.EV_CV_STATUS_BUSY (i0 : Nat) : Fld := ⟨0x100681C + 0x100000 * i0, 0, 1, 0, .ro⟩
abbrev F.EV_CV_STATUS_WFULL (i0 : Nat) : Fld := ⟨0x100681C + 0x100000 * i0, 1, 1, 0, .rw1c⟩
abbrev F.EV_CV_STATUS_EXHAUST (i0 : Nat) : Fld := ⟨0x100681C + 0x100000 * i0, 2, 1, 0, .rw1c⟩
abbrev F.EV_CV_STATUS_REGRESS (i0 : Nat) : Fld := ⟨0x100681C + 0x100000 * i0, 3, 1, 0, .rw1c⟩
abbrev F.EV_CV_STATUS_NOAREA (i0 : Nat) : Fld := ⟨0x100681C + 0x100000 * i0, 4, 1, 0, .rw1c⟩
abbrev F.EV_CV_STATUS_SIGERR (i0 : Nat) : Fld := ⟨0x100681C + 0x100000 * i0, 5, 1, 0, .rw1c⟩
abbrev F.EV_CV_STATUS_WAITS (i0 : Nat) : Fld := ⟨0x100681C + 0x100000 * i0, 8, 9, 0, .ro⟩
abbrev F.EV_CV_REG_LAST_EVENT (i0 : Nat) : Fld := ⟨0x1006820 + 0x100000 * i0, 0, 16, 0, .ro⟩
abbrev F.EV_CV_REG_LAST_SRC (i0 : Nat) : Fld := ⟨0x1006820 + 0x100000 * i0, 16, 3, 0, .ro⟩
abbrev F.EV_CV_EXH_LAST_EVENT (i0 : Nat) : Fld := ⟨0x1006824 + 0x100000 * i0, 0, 16, 0, .ro⟩
abbrev C.EV_CV_REGRESS (i0 : Nat) : Nat := 0x1006828 + 0x100000 * i0
abbrev C.EV_CV_LOST (i0 : Nat) : Nat := 0x1006830 + 0x100000 * i0
abbrev F.EV_CV_CRING_PROD (i0 : Nat) : Fld := ⟨0x1006838 + 0x100000 * i0, 0, 16, 0, .ro⟩
abbrev F.EV_CV_CRING_CONS (i0 : Nat) : Fld := ⟨0x100683C + 0x100000 * i0, 0, 16, 0, .rw⟩
abbrev F.EV_CV_CRING_STALL (i0 : Nat) : Fld := ⟨0x100683C + 0x100000 * i0, 16, 1, 0, .rw1c⟩
abbrev F.EV_CV_CRING_BADCONS (i0 : Nat) : Fld := ⟨0x100683C + 0x100000 * i0, 17, 1, 0, .rw1c⟩
abbrev F.EV_CV_CRING_WERR (i0 : Nat) : Fld := ⟨0x100683C + 0x100000 * i0, 18, 1, 0, .rw1c⟩
abbrev F.SQ_CFG_WDOG (i0 : Nat) : Fld := ⟨0xA0000 + 0x20 * i0, 0, 7, 10, .rw⟩
abbrev F.SQ_SPILL_GRANULE (i0 : Nat) : Fld := ⟨0xA0004 + 0x20 * i0, 0, 13, 0, .rw⟩
abbrev F.SQ_SPILL_COUNT (i0 : Nat) : Fld := ⟨0xA0004 + 0x20 * i0, 16, 7, 0, .rw⟩
abbrev F.SQ_SPILL_EN (i0 : Nat) : Fld := ⟨0xA0004 + 0x20 * i0, 31, 1, 0, .rw⟩
abbrev F.SQ_SPILL_STATUS_READY (i0 : Nat) : Fld := ⟨0xA0008 + 0x20 * i0, 0, 1, 0, .ro⟩
abbrev F.SQ_SPILL_STATUS_ERR (i0 : Nat) : Fld := ⟨0xA0008 + 0x20 * i0, 1, 1, 0, .rw1c⟩
abbrev C.SQ_PREEMPT : Nat := 0xA0400
abbrev C.SQ_WDOG : Nat := 0xA0408
abbrev F.SQ_CV_CTL_SLICE (i0 : Nat) : Fld := ⟨0x1007000 + 0x100000 * i0, 0, 16, 2000, .rw⟩
abbrev F.SQ_CV_CTL_MIX (i0 : Nat) : Fld := ⟨0x1007000 + 0x100000 * i0, 16, 4, 1, .rw⟩
abbrev F.SQ_CV_INFO_WDOG (i0 : Nat) : Fld := ⟨0x1007004 + 0x100000 * i0, 0, 7, 10, .ro⟩
abbrev F.SQ_CV_INFO_SPILL (i0 : Nat) : Fld := ⟨0x1007004 + 0x100000 * i0, 7, 1, 0, .ro⟩
abbrev F.SQ_CV_INFO_UNITS (i0 : Nat) : Fld := ⟨0x1007004 + 0x100000 * i0, 8, 19, 0, .ro⟩
abbrev F.SQ_CV_SPILL_USED (i0 : Nat) : Fld := ⟨0x1007008 + 0x100000 * i0, 0, 19, 0, .ro⟩
abbrev F.SQ_CV_STATE_RELEASED (i0 : Nat) : Fld := ⟨0x100700C + 0x100000 * i0, 0, 9, 0, .ro⟩
abbrev F.SQ_CV_STATE_PREEMPTED (i0 : Nat) : Fld := ⟨0x100700C + 0x100000 * i0, 9, 9, 0, .ro⟩
abbrev F.SQ_CV_STATE_UNPLACED (i0 : Nat) : Fld := ⟨0x100700C + 0x100000 * i0, 18, 9, 0, .ro⟩
abbrev C.SQ_CV_STARTED (i0 : Nat) : Nat := 0x1007010 + 0x100000 * i0
abbrev C.SQ_CV_RETIRED (i0 : Nat) : Nat := 0x1007018 + 0x100000 * i0
abbrev C.SQ_CV_STEP_ERR (i0 : Nat) : Nat := 0x1007020 + 0x100000 * i0
abbrev C.SQ_CV_PREEMPT (i0 : Nat) : Nat := 0x1007028 + 0x100000 * i0
abbrev C.SQ_CV_DEFER (i0 : Nat) : Nat := 0x1007030 + 0x100000 * i0
abbrev C.SQ_CV_YIELD (i0 : Nat) : Nat := 0x1007038 + 0x100000 * i0
abbrev C.SQ_CV_WDOG (i0 : Nat) : Nat := 0x1007040 + 0x100000 * i0
abbrev C.SQ_CV_PARTIAL (i0 : Nat) : Nat := 0x1007048 + 0x100000 * i0
abbrev F.SQ_CV_SWITCH_LAST (i0 : Nat) : Fld := ⟨0x1007050 + 0x100000 * i0, 0, 16, 0, .ro⟩
abbrev F.SQ_CV_SWITCH_MAX (i0 : Nat) : Fld := ⟨0x1007050 + 0x100000 * i0, 16, 16, 0, .ro⟩
abbrev F.SQ_CV_Q_SEL_QUEUE (i0 : Nat) : Fld := ⟨0x1007060 + 0x100000 * i0, 0, 6, 0, .rw⟩
abbrev C.SQ_CV_Q_ENG_NS (i0 : Nat) : Nat := 0x1007064 + 0x100000 * i0
abbrev C.SQ_CV_Q_MISS (i0 : Nat) : Nat := 0x100706C + 0x100000 * i0
abbrev C.SQ_CV_Q_FALLBACK (i0 : Nat) : Nat := 0x1007074 + 0x100000 * i0
abbrev F.SQ_CV_Q_AVG (i0 : Nat) : Fld := ⟨0x100707C + 0x100000 * i0, 0, 32, 0, .ro⟩
abbrev F.SQ_CV_Q_DEV (i0 : Nat) : Fld := ⟨0x1007080 + 0x100000 * i0, 0, 32, 0, .ro⟩
abbrev F.SQ_CV_CTX_SEL_CTX (i0 : Nat) : Fld := ⟨0x1007090 + 0x100000 * i0, 0, 12, 0, .rw⟩
abbrev C.SQ_CV_CTX_ENG_NS (i0 : Nat) : Nat := 0x1007094 + 0x100000 * i0
abbrev C.SQ_CV_CTX_WAIT_NS (i0 : Nat) : Nat := 0x100709C + 0x100000 * i0
abbrev C.SQ_CV_CTX_PREEMPT (i0 : Nat) : Nat := 0x10070A4 + 0x100000 * i0
abbrev F.BW_REG_SEL_REG : Fld := ⟨0xB0000, 0, 8, 0, .rw⟩
abbrev F.BW_REG_CFG_CLASS : Fld := ⟨0xB0004, 0, 2, 1, .ro⟩
abbrev F.BW_REG_CFG_URG_EN : Fld := ⟨0xB0004, 2, 1, 0, .ro⟩
abbrev F.BW_REG_CFG_MISS_IEN : Fld := ⟨0xB0004, 3, 1, 0, .ro⟩
abbrev F.BW_REG_CFG_HYST : Fld := ⟨0xB0004, 4, 4, 0, .ro⟩
abbrev F.BW_REG_CFG_WINDOW : Fld := ⟨0xB0004, 8, 9, 4, .ro⟩
abbrev F.BW_REG_CFG_OWNER : Fld := ⟨0xB0004, 24, 5, 31, .ro⟩
abbrev F.BW_REG_BUDGET_BUDGET : Fld := ⟨0xB0008, 0, 24, 0, .ro⟩
abbrev F.BW_REG_EFF_EFF : Fld := ⟨0xB000C, 0, 24, 0, .ro⟩
abbrev F.BW_REG_STATE_URG : Fld := ⟨0xB0010, 0, 2, 0, .ro⟩
abbrev F.BW_REG_STATE_HELD : Fld := ⟨0xB0010, 2, 1, 0, .ro⟩
abbrev F.BW_REG_STATE_MISSING : Fld := ⟨0xB0010, 3, 1, 0, .ro⟩
abbrev F.BW_REG_STATE_RUN : Fld := ⟨0xB0010, 4, 4, 0, .ro⟩
abbrev F.BW_SHORTFALL_ACTIVE : Fld := ⟨0xB0020, 0, 1, 0, .ro⟩
abbrev F.BW_SHORTFALL_RAISED : Fld := ⟨0xB0020, 1, 1, 0, .rw1c⟩
abbrev F.BW_SHORTFALL_UNMET : Fld := ⟨0xB0020, 2, 1, 0, .ro⟩
abbrev F.BW_SHORTFALL_UNMET_SEEN : Fld := ⟨0xB0020, 3, 1, 0, .rw1c⟩
abbrev F.BW_MISS_MAP_MISS (i0 : Nat) : Fld := ⟨0xB0040 + 0x4 * i0, 0, 32, 0, .rw1c⟩
abbrev F.BW_STACK_CAP_CAP (i0 : Nat) : Fld := ⟨0xB0100 + 0x4 * i0, 0, 20, 0, .ro⟩
abbrev F.BW_STACK_RT_LOAD (i0 : Nat) : Fld := ⟨0xB0180 + 0x4 * i0, 0, 20, 0, .ro⟩
abbrev F.BW_COVE_SCALE_K (i0 : Nat) : Fld := ⟨0xB0200 + 0x4 * i0, 0, 9, 256, .ro⟩
abbrev C.BW_FAB_UNREG : Nat := 0xB0300
abbrev C.BW_FAB_SWEEP : Nat := 0xB0308
abbrev C.BW_FAB_MISS : Nat := 0xB0310
abbrev C.BW_CV_BYTES_RT (i0 : Nat) : Nat := 0x1008000 + 0x100000 * i0
abbrev C.BW_CV_BYTES_BE (i0 : Nat) : Nat := 0x1008008 + 0x100000 * i0
abbrev C.BW_CV_BYTES_BG (i0 : Nat) : Nat := 0x1008010 + 0x100000 * i0
abbrev C.BW_CV_HELD (i0 : Nat) : Nat := 0x1008018 + 0x100000 * i0
abbrev C.BW_CV_MISS (i0 : Nat) : Nat := 0x1008020 + 0x100000 * i0
abbrev F.BW_CV_STATUS_SCALE (i0 : Nat) : Fld := ⟨0x1008028 + 0x100000 * i0, 0, 9, 256, .ro⟩
abbrev F.BW_CV_STATUS_SCALED (i0 : Nat) : Fld := ⟨0x1008028 + 0x100000 * i0, 9, 1, 0, .ro⟩
abbrev F.BW_CV_STATUS_SCALE_CHG (i0 : Nat) : Fld := ⟨0x1008028 + 0x100000 * i0, 10, 1, 0, .rw1c⟩
abbrev F.BW_CV_STATUS_MISS (i0 : Nat) : Fld := ⟨0x1008028 + 0x100000 * i0, 11, 1, 0, .rw1c⟩
abbrev F.BW_CV_RTBW_RTBW (i0 : Nat) : Fld := ⟨0x100802C + 0x100000 * i0, 0, 32, 0, .ro⟩
abbrev F.BW_CV_REG_SEL_REG (i0 : Nat) : Fld := ⟨0x1008030 + 0x100000 * i0, 0, 8, 0, .rw⟩
abbrev F.BW_CV_REG_EFF_EFF (i0 : Nat) : Fld := ⟨0x1008034 + 0x100000 * i0, 0, 24, 0, .ro⟩
abbrev F.BW_CV_REG_EFF_CLASS (i0 : Nat) : Fld := ⟨0x1008034 + 0x100000 * i0, 24, 2, 0, .ro⟩
abbrev F.BW_CV_MISS_MAP_MISS (i0 i1 : Nat) : Fld := ⟨0x1008040 + 0x100000 * i0 + 0x4 * i1, 0, 32, 0, .rw1c⟩
abbrev F.BC_CFG_FALLBACK : Fld := ⟨0xC0000, 0, 6, 63, .rw⟩
abbrev F.BC_STATUS_NOTGT : Fld := ⟨0xC0004, 0, 1, 0, .rw1c⟩
abbrev F.BC_STATUS_STRAND : Fld := ⟨0xC0004, 1, 1, 0, .rw1c⟩
abbrev F.BC_STATUS_BADEOI : Fld := ⟨0xC0004, 2, 1, 0, .rw1c⟩
abbrev F.BC_STATUS_BADCFG : Fld := ⟨0xC0004, 3, 1, 0, .rw1c⟩
abbrev F.BC_STATUS_CLRFAIL : Fld := ⟨0xC0004, 4, 1, 0, .rw1c⟩
abbrev F.BC_NMI_HALT : Fld := ⟨0xC0008, 0, 1, 0, .ro⟩
abbrev F.BC_NMI_CLOCK : Fld := ⟨0xC0008, 1, 1, 0, .rw1c⟩
abbrev F.BC_NMI_TEST : Fld := ⟨0xC0008, 2, 1, 0, .rw⟩
abbrev F.BC_NMI_PIN : Fld := ⟨0xC0008, 3, 1, 0, .ro⟩
abbrev F.BC_SRC_SEL_SOURCE : Fld := ⟨0xC0010, 0, 10, 0, .rw⟩
abbrev F.BC_SRC_CFG_PRIO : Fld := ⟨0xC0014, 0, 4, 8, .rw⟩
abbrev F.BC_SRC_CFG_EN : Fld := ⟨0xC0014, 4, 1, 0, .rw⟩
abbrev F.BC_SRC_CFG_TARGET : Fld := ⟨0xC0014, 8, 6, 63, .rw⟩
abbrev F.BC_SRC_CFG_CLASS : Fld := ⟨0xC0014, 16, 2, 0, .ro⟩
abbrev F.BC_SRC_CFG_OWNER : Fld := ⟨0xC0014, 20, 5, 0, .ro⟩
abbrev F.BC_SRC_STATE_PENDING : Fld := ⟨0xC0018, 0, 1, 0, .ro⟩
abbrev F.BC_SRC_STATE_HELD : Fld := ⟨0xC0018, 1, 1, 0, .ro⟩
abbrev F.BC_SRC_STATE_ACTIVE : Fld := ⟨0xC0018, 2, 1, 0, .ro⟩
abbrev F.BC_SRC_STATE_ROUTED : Fld := ⟨0xC0018, 3, 1, 0, .ro⟩
abbrev F.BC_SRC_STATE_ROUTE : Fld := ⟨0xC0018, 4, 6, 0, .ro⟩
abbrev F.BC_PEND_PEND (i0 : Nat) : Fld := ⟨0xC0100 + 0x4 * i0, 0, 32, 0, .ro⟩
abbrev F.BC_HOLDOFF_US (i0 : Nat) : Fld := ⟨0xC0200 + 0x4 * i0, 0, 16, 0, .rw⟩
abbrev F.BC_TGT_CFG_MODE (i0 : Nat) : Fld := ⟨0xC1000 + 0x10 * i0, 0, 2, 0, .rw⟩
abbrev F.BC_TGT_CFG_EN (i0 : Nat) : Fld := ⟨0xC1000 + 0x10 * i0, 2, 1, 0, .rw⟩
abbrev F.BC_TGT_CFG_VECTOR (i0 : Nat) : Fld := ⟨0xC1000 + 0x10 * i0, 8, 11, 0, .rw⟩
abbrev F.BC_TGT_CFG_OWNER (i0 : Nat) : Fld := ⟨0xC1000 + 0x10 * i0, 24, 5, 16, .ro⟩
abbrev F.BC_CLAIM_SOURCE (i0 : Nat) : Fld := ⟨0xC1004 + 0x10 * i0, 0, 10, 0, .roc⟩
abbrev F.BC_CLAIM_VALID (i0 : Nat) : Fld := ⟨0xC1004 + 0x10 * i0, 31, 1, 0, .roc⟩
abbrev F.BC_EOI_SOURCE (i0 : Nat) : Fld := ⟨0xC1008 + 0x10 * i0, 0, 10, 0, .wo⟩
abbrev F.BC_TGT_STATUS_REQ (i0 : Nat) : Fld := ⟨0xC100C + 0x10 * i0, 0, 1, 0, .ro⟩
abbrev F.BC_TGT_STATUS_FENCED (i0 : Nat) : Fld := ⟨0xC100C + 0x10 * i0, 1, 1, 0, .ro⟩
abbrev F.BC_TGT_STATUS_BADVEC (i0 : Nat) : Fld := ⟨0xC100C + 0x10 * i0, 2, 1, 0, .rw1c⟩
abbrev F.BC_TGT_STATUS_ACTIVE (i0 : Nat) : Fld := ⟨0xC100C + 0x10 * i0, 8, 10, 0, .ro⟩
abbrev F.BC_CV_SRC_PRIO (i0 i1 : Nat) : Fld := ⟨0x1009000 + 0x100000 * i0 + 0x4 * i1, 0, 4, 8, .rw⟩
abbrev F.BC_CV_SRC_EN (i0 i1 : Nat) : Fld := ⟨0x1009000 + 0x100000 * i0 + 0x4 * i1, 4, 1, 0, .rw⟩
abbrev F.BC_CV_SRC_TARGET (i0 i1 : Nat) : Fld := ⟨0x1009000 + 0x100000 * i0 + 0x4 * i1, 8, 6, 0, .ro⟩
abbrev F.BC_CV_SRC_ROUTED (i0 i1 : Nat) : Fld := ⟨0x1009000 + 0x100000 * i0 + 0x4 * i1, 14, 1, 0, .ro⟩
abbrev F.BC_CV_SRC_PENDING (i0 i1 : Nat) : Fld := ⟨0x1009000 + 0x100000 * i0 + 0x4 * i1, 15, 1, 0, .ro⟩
abbrev F.BC_CV_SRC_HELD (i0 i1 : Nat) : Fld := ⟨0x1009000 + 0x100000 * i0 + 0x4 * i1, 16, 1, 0, .ro⟩
abbrev F.BC_CV_SRC_ACTIVE (i0 i1 : Nat) : Fld := ⟨0x1009000 + 0x100000 * i0 + 0x4 * i1, 17, 1, 0, .ro⟩
abbrev F.BC_CV_HOLDOFF_US (i0 i1 : Nat) : Fld := ⟨0x1009080 + 0x100000 * i0 + 0x4 * i1, 0, 16, 0, .rw⟩
abbrev F.BC_CV_SWI_RAISE (i0 : Nat) : Fld := ⟨0x1009088 + 0x100000 * i0, 0, 16, 0, .wo⟩
abbrev F.BC_CV_STATUS_NOTGT (i0 : Nat) : Fld := ⟨0x100908C + 0x100000 * i0, 0, 1, 0, .rw1c⟩
abbrev F.BC_CV_STATUS_BADEOI (i0 : Nat) : Fld := ⟨0x100908C + 0x100000 * i0, 1, 1, 0, .rw1c⟩
abbrev F.BC_CV_STATUS_LAST (i0 : Nat) : Fld := ⟨0x100908C + 0x100000 * i0, 8, 6, 63, .ro⟩
abbrev F.BC_CV_TGT_CFG_EN (i0 i1 : Nat) : Fld := ⟨0x1009100 + 0x100000 * i0 + 0x10 * i1, 2, 1, 0, .rw⟩
abbrev F.BC_CV_TGT_CFG_VECTOR (i0 i1 : Nat) : Fld := ⟨0x1009100 + 0x100000 * i0 + 0x10 * i1, 8, 11, 0, .rw⟩
abbrev F.BC_CV_CLAIM_SOURCE (i0 i1 : Nat) : Fld := ⟨0x1009104 + 0x100000 * i0 + 0x10 * i1, 0, 10, 0, .roc⟩
abbrev F.BC_CV_CLAIM_VALID (i0 i1 : Nat) : Fld := ⟨0x1009104 + 0x100000 * i0 + 0x10 * i1, 31, 1, 0, .roc⟩
abbrev F.BC_CV_EOI_SOURCE (i0 i1 : Nat) : Fld := ⟨0x1009108 + 0x100000 * i0 + 0x10 * i1, 0, 10, 0, .wo⟩
abbrev F.BC_CV_TGT_STATUS_REQ (i0 i1 : Nat) : Fld := ⟨0x100910C + 0x100000 * i0 + 0x10 * i1, 0, 1, 0, .ro⟩
abbrev F.BC_CV_TGT_STATUS_FENCED (i0 i1 : Nat) : Fld := ⟨0x100910C + 0x100000 * i0 + 0x10 * i1, 1, 1, 0, .ro⟩
abbrev F.BC_CV_TGT_STATUS_BADVEC (i0 i1 : Nat) : Fld := ⟨0x100910C + 0x100000 * i0 + 0x10 * i1, 2, 1, 0, .rw1c⟩
abbrev F.FAB_SEC_STATUS_FW_OK : Fld := ⟨0x300, 0, 1, 0, .ro⟩
abbrev F.FAB_SEC_STATUS_FW_SLOT : Fld := ⟨0x300, 1, 1, 0, .ro⟩
abbrev F.FAB_SEC_STATUS_FW_FAIL : Fld := ⟨0x300, 2, 1, 0, .ro⟩
abbrev F.FAB_SEC_STATUS_TRNG_FAIL : Fld := ⟨0x300, 3, 1, 0, .ro⟩
abbrev F.FAB_SEC_STATUS_COMMIT_ERR : Fld := ⟨0x300, 4, 1, 0, .rw1c⟩
abbrev F.FAB_SEC_STATUS_COMMIT_BUSY : Fld := ⟨0x300, 5, 1, 0, .ro⟩
abbrev F.FAB_SEC_STATUS_RUN_SVN : Fld := ⟨0x300, 8, 8, 0, .ro⟩
abbrev F.FAB_SEC_STATUS_FUSED_SVN : Fld := ⟨0x300, 16, 8, 0, .ro⟩
abbrev F.FAB_FW_COMMIT_SVN : Fld := ⟨0x304, 0, 9, 0, .wo⟩
abbrev F.CV_QUIESCE_REQ (i0 : Nat) : Fld := ⟨0xD0000 + 0x80 * i0, 0, 1, 0, .wo⟩
abbrev F.CV_QUIESCE_ABORT (i0 : Nat) : Fld := ⟨0xD0000 + 0x80 * i0, 1, 1, 0, .wo⟩
abbrev F.CV_QUIESCE_RELEASE (i0 : Nat) : Fld := ⟨0xD0000 + 0x80 * i0, 2, 1, 0, .wo⟩
abbrev F.CV_RESET_GO (i0 : Nat) : Fld := ⟨0xD0004 + 0x80 * i0, 0, 1, 0, .wo⟩
abbrev F.CV_RESET_SCRUB (i0 : Nat) : Fld := ⟨0xD0004 + 0x80 * i0, 1, 1, 0, .wo⟩
abbrev F.CV_MGR_STATUS_STATE (i0 : Nat) : Fld := ⟨0xD0008 + 0x80 * i0, 0, 3, 0, .ro⟩
abbrev F.CV_MGR_STATUS_ABORT (i0 : Nat) : Fld := ⟨0xD0008 + 0x80 * i0, 3, 1, 0, .ro⟩
abbrev F.CV_MGR_STATUS_ACK (i0 : Nat) : Fld := ⟨0xD0008 + 0x80 * i0, 4, 1, 0, .rw1c⟩
abbrev F.CV_MGR_STATUS_STUCK (i0 : Nat) : Fld := ⟨0xD0008 + 0x80 * i0, 5, 1, 0, .rw1c⟩
abbrev F.CV_MGR_STATUS_BADSEQ (i0 : Nat) : Fld := ⟨0xD0008 + 0x80 * i0, 6, 1, 0, .rw1c⟩
abbrev F.CV_MGR_STATUS_CLEAN (i0 : Nat) : Fld := ⟨0xD0008 + 0x80 * i0, 7, 1, 0, .ro⟩
abbrev F.CV_MGR_STATUS_FLR (i0 : Nat) : Fld := ⟨0xD0008 + 0x80 * i0, 8, 1, 0, .rw1c⟩
abbrev F.CV_MIG_HOST_LO_ADDR_LO (i0 : Nat) : Fld := ⟨0xD0010 + 0x80 * i0, 0, 32, 0, .rw⟩
abbrev F.CV_MIG_HOST_HI_ADDR_HI (i0 : Nat) : Fld := ⟨0xD0014 + 0x80 * i0, 0, 32, 0, .rw⟩
abbrev F.CV_MIG_TAG_LO_ADDR_LO (i0 : Nat) : Fld := ⟨0xD0018 + 0x80 * i0, 0, 32, 0, .rw⟩
abbrev F.CV_MIG_TAG_HI_ADDR_HI (i0 : Nat) : Fld := ⟨0xD001C + 0x80 * i0, 0, 32, 0, .rw⟩
abbrev F.CV_MIG_PAGE_PAGE (i0 : Nat) : Fld := ⟨0xD0020 + 0x80 * i0, 0, 25, 0, .rw⟩
abbrev F.CV_MIG_COUNT_COUNT (i0 : Nat) : Fld := ⟨0xD0024 + 0x80 * i0, 0, 25, 0, .rw⟩
abbrev F.CV_MIG_CTL_OP (i0 : Nat) : Fld := ⟨0xD0028 + 0x80 * i0, 0, 3, 0, .wo⟩
abbrev F.CV_MIG_LEN_LEN (i0 : Nat) : Fld := ⟨0xD002C + 0x80 * i0, 0, 32, 0, .rw⟩
abbrev F.CV_MIG_STATUS_BUSY (i0 : Nat) : Fld := ⟨0xD0030 + 0x80 * i0, 0, 1, 0, .ro⟩
abbrev F.CV_MIG_STATUS_DONE (i0 : Nat) : Fld := ⟨0xD0030 + 0x80 * i0, 1, 1, 0, .rw1c⟩
abbrev F.CV_MIG_STATUS_ERR (i0 : Nat) : Fld := ⟨0xD0030 + 0x80 * i0, 2, 1, 0, .rw1c⟩
abbrev F.CV_MIG_STATUS_CODE (i0 : Nat) : Fld := ⟨0xD0030 + 0x80 * i0, 4, 4, 0, .ro⟩
abbrev F.CV_STATE_STATE (i0 : Nat) : Fld := ⟨0x1001000 + 0x100000 * i0, 0, 3, 0, .ro⟩
abbrev F.CV_STATE_RESETS (i0 : Nat) : Fld := ⟨0x1001000 + 0x100000 * i0, 8, 16, 0, .ro⟩
abbrev F.CV_SEC_STATUS_SESSION (i0 : Nat) : Fld := ⟨0x1001004 + 0x100000 * i0, 0, 1, 0, .ro⟩
abbrev F.CV_SEC_STATUS_KU_DUE_H2D (i0 : Nat) : Fld := ⟨0x1001004 + 0x100000 * i0, 1, 1, 0, .ro⟩
abbrev F.CV_SEC_STATUS_KU_DUE_D2H (i0 : Nat) : Fld := ⟨0x1001004 + 0x100000 * i0, 2, 1, 0, .ro⟩
abbrev F.CV_SEC_STATUS_STOP_H2D (i0 : Nat) : Fld := ⟨0x1001004 + 0x100000 * i0, 3, 1, 0, .ro⟩
abbrev F.CV_SEC_STATUS_STOP_D2H (i0 : Nat) : Fld := ⟨0x1001004 + 0x100000 * i0, 4, 1, 0, .ro⟩
abbrev C.CV_SEC_H2D (i0 : Nat) : Nat := 0x1001008 + 0x100000 * i0
abbrev C.CV_SEC_D2H (i0 : Nat) : Nat := 0x1001010 + 0x100000 * i0
abbrev C.CV_SEC_AUTHF (i0 : Nat) : Nat := 0x1001018 + 0x100000 * i0
abbrev F.CV_BX_DVA_LO (i0 : Nat) : Fld := ⟨0x1001020 + 0x100000 * i0, 0, 32, 0, .rw⟩
abbrev F.CV_BX_DVA_HI (i0 : Nat) : Fld := ⟨0x1001024 + 0x100000 * i0, 0, 32, 0, .rw⟩
abbrev F.CV_BX_HOST_LO (i0 : Nat) : Fld := ⟨0x1001028 + 0x100000 * i0, 0, 32, 0, .rw⟩
abbrev F.CV_BX_HOST_HI (i0 : Nat) : Fld := ⟨0x100102C + 0x100000 * i0, 0, 32, 0, .rw⟩
abbrev F.CV_BX_TAG_LO (i0 : Nat) : Fld := ⟨0x1001030 + 0x100000 * i0, 0, 32, 0, .rw⟩
abbrev F.CV_BX_TAG_HI (i0 : Nat) : Fld := ⟨0x1001034 + 0x100000 * i0, 0, 32, 0, .rw⟩
abbrev F.CV_BX_LEN (i0 : Nat) : Fld := ⟨0x1001038 + 0x100000 * i0, 0, 31, 0, .rw⟩
abbrev F.CV_BX_CTX (i0 : Nat) : Fld := ⟨0x100103C + 0x100000 * i0, 0, 12, 0, .rw⟩
abbrev F.CV_BX_DIR (i0 : Nat) : Fld := ⟨0x100103C + 0x100000 * i0, 12, 1, 0, .rw⟩
abbrev F.CV_BX_NOEV (i0 : Nat) : Fld := ⟨0x100103C + 0x100000 * i0, 13, 1, 0, .rw⟩
abbrev F.CV_BX_EVENT (i0 : Nat) : Fld := ⟨0x1001040 + 0x100000 * i0, 0, 16, 0, .rw⟩
abbrev F.CV_BX_VAL_LO (i0 : Nat) : Fld := ⟨0x1001044 + 0x100000 * i0, 0, 32, 0, .rw⟩
abbrev F.CV_BX_VAL_HI (i0 : Nat) : Fld := ⟨0x1001048 + 0x100000 * i0, 0, 32, 0, .rw⟩
abbrev F.CV_BX_GO (i0 : Nat) : Fld := ⟨0x100104C + 0x100000 * i0, 0, 1, 0, .wo⟩
abbrev F.CV_BX_STATUS_QUEUED (i0 : Nat) : Fld := ⟨0x1001050 + 0x100000 * i0, 0, 5, 0, .ro⟩
abbrev F.CV_BX_STATUS_FULL (i0 : Nat) : Fld := ⟨0x1001050 + 0x100000 * i0, 5, 1, 0, .rw1c⟩
abbrev F.CV_BX_STATUS_ERR (i0 : Nat) : Fld := ⟨0x1001050 + 0x100000 * i0, 6, 1, 0, .rw1c⟩
abbrev F.CV_BX_STATUS_CODE (i0 : Nat) : Fld := ⟨0x1001050 + 0x100000 * i0, 8, 4, 0, .ro⟩
abbrev F.CK_STATUS_XA_OK : Fld := ⟨0xE0000, 0, 1, 0, .ro⟩
abbrev F.CK_STATUS_XB_OK : Fld := ⟨0xE0000, 1, 1, 0, .ro⟩
abbrev F.CK_STATUS_FIO_OK : Fld := ⟨0xE0000, 2, 1, 1, .ro⟩
abbrev F.CK_STATUS_SIO_OK : Fld := ⟨0xE0000, 3, 1, 1, .ro⟩
abbrev F.CK_STATUS_LOCK : Fld := ⟨0xE0000, 4, 6, 0, .ro⟩
abbrev F.CK_STATUS_EN : Fld := ⟨0xE0000, 10, 6, 0, .ro⟩
abbrev F.CK_STATUS_XA_SEL : Fld := ⟨0xE0000, 16, 2, Config.xaSel.toNat, .ro⟩
abbrev F.CK_STATUS_STRAP_ERR : Fld := ⟨0xE0000, 18, 1, 0, .ro⟩
abbrev F.CK_STATUS_UP : Fld := ⟨0xE0000, 19, 1, 0, .ro⟩
abbrev F.CK_FAIL_XA : Fld := ⟨0xE0004, 0, 1, 0, .rw1c⟩
abbrev F.CK_FAIL_XB : Fld := ⟨0xE0004, 1, 1, 0, .rw1c⟩
abbrev F.CK_FAIL_FIO : Fld := ⟨0xE0004, 2, 1, 0, .rw1c⟩
abbrev F.CK_FAIL_SIO : Fld := ⟨0xE0004, 3, 1, 0, .rw1c⟩
abbrev F.CK_FAIL_LOOP : Fld := ⟨0xE0004, 4, 6, 0, .rw1c⟩
abbrev C.CK_FAIL_CNT : Nat := 0xE0008
abbrev F.CK_FORCED_FORCED (i0 : Nat) : Fld := ⟨0xE0010 + 0x4 * i0, 0, 32, 0, .ro⟩
abbrev F.CK_DOM_SEL_DOM : Fld := ⟨0xE0020, 0, 7, 0, .rw⟩
abbrev F.CK_DOM_STATE_SRC : Fld := ⟨0xE0024, 0, 4, 0, .ro⟩
abbrev F.CK_DOM_STATE_DIV : Fld := ⟨0xE0024, 4, 8, 0, .ro⟩
abbrev F.CK_DOM_STATE_FORCED : Fld := ⟨0xE0024, 12, 1, 0, .ro⟩
abbrev F.CK_DOM_STATE_SWITCHING : Fld := ⟨0xE0024, 13, 1, 0, .ro⟩
abbrev F.CK_DOM_STATE_MHZ : Fld := ⟨0xE0024, 16, 13, 0, .ro⟩
abbrev F.CK_LOOP_MULT (i0 : Nat) : Fld := ⟨0xE0040 + 0x4 * i0, 0, 8, 0, .ro⟩
abbrev F.CK_LOOP_POSTDIV (i0 : Nat) : Fld := ⟨0xE0040 + 0x4 * i0, 8, 4, 0, .ro⟩
abbrev F.CK_LOOP_LOCK (i0 : Nat) : Fld := ⟨0xE0040 + 0x4 * i0, 12, 1, 0, .ro⟩
abbrev F.CK_LOOP_SLEW (i0 : Nat) : Fld := ⟨0xE0040 + 0x4 * i0, 13, 1, 0, .ro⟩
abbrev F.CK_LOOP_SS_ON (i0 : Nat) : Fld := ⟨0xE0040 + 0x4 * i0, 14, 1, 0, .ro⟩
abbrev F.CK_LOOP_MHZ (i0 : Nat) : Fld := ⟨0xE0040 + 0x4 * i0, 16, 13, 0, .ro⟩
abbrev F.VS_ISL_STATE_OP (i0 : Nat) : Fld := ⟨0xF0000 + 0x100 * i0, 0, 3, 0, .ro⟩
abbrev F.VS_ISL_STATE_TARGET (i0 : Nat) : Fld := ⟨0xF0000 + 0x100 * i0, 3, 3, 0, .ro⟩
abbrev F.VS_ISL_STATE_CEIL (i0 : Nat) : Fld := ⟨0xF0000 + 0x100 * i0, 6, 3, 0, .ro⟩
abbrev F.VS_ISL_STATE_BUSY (i0 : Nat) : Fld := ⟨0xF0000 + 0x100 * i0, 9, 1, 0, .ro⟩
abbrev F.VS_ISL_STATE_BOOT (i0 : Nat) : Fld := ⟨0xF0000 + 0x100 * i0, 10, 1, 1, .ro⟩
abbrev F.VS_ISL_STATE_MV (i0 : Nat) : Fld := ⟨0xF0000 + 0x100 * i0, 16, 12, (Config.vbootMv i0).toNat, .ro⟩
abbrev F.VS_ISL_LIMIT_VMAX_MV (i0 : Nat) : Fld := ⟨0xF0004 + 0x100 * i0, 0, 12, (Config.vmaxMv i0).toNat, .ro⟩
abbrev F.VS_ISL_LIMIT_SLEW (i0 : Nat) : Fld := ⟨0xF0004 + 0x100 * i0, 12, 4, (Config.avsSlew i0).toNat, .ro⟩
abbrev F.VS_ISL_LIMIT_VBOOT_MV (i0 : Nat) : Fld := ⟨0xF0004 + 0x100 * i0, 16, 12, (Config.vbootMv i0).toNat, .ro⟩
abbrev F.VS_ISL_REQ_OP (i0 : Nat) : Fld := ⟨0xF0008 + 0x100 * i0, 0, 3, 0, .rw⟩
abbrev F.VS_ISL_REQ_EN (i0 : Nat) : Fld := ⟨0xF0008 + 0x100 * i0, 3, 1, 0, .rw⟩
abbrev F.VS_ISL_CAP_CAP (i0 : Nat) : Fld := ⟨0xF000C + 0x100 * i0, 0, 3, 7, .rw⟩
abbrev F.VS_ISL_PWR_WATTS (i0 : Nat) : Fld := ⟨0xF0010 + 0x100 * i0, 0, 16, 0, .ro⟩
abbrev F.VS_ISL_THROT_NOW (i0 : Nat) : Fld := ⟨0xF0014 + 0x100 * i0, 0, 1, 0, .ro⟩
abbrev F.VS_ISL_THROT_INTERVALS (i0 : Nat) : Fld := ⟨0xF0014 + 0x100 * i0, 16, 16, 0, .ro⟩
abbrev F.VS_ISL_TEMP_TJ (i0 : Nat) : Fld := ⟨0xF0018 + 0x100 * i0, 0, 8, 0, .ro⟩
abbrev F.VS_COVE_REQ_OP (i0 i1 : Nat) : Fld := ⟨0xF0040 + 0x100 * i0 + 0x4 * i1, 0, 3, 0, .rw⟩
abbrev F.VS_COVE_REQ_VALID (i0 i1 : Nat) : Fld := ⟨0xF0040 + 0x100 * i0 + 0x4 * i1, 3, 1, 0, .rw⟩
abbrev F.VS_STATUS_AVS_ERR : Fld := ⟨0xF0800, 0, 1, 0, .rw1c⟩
abbrev F.VS_STATUS_PMB_ERR : Fld := ⟨0xF0800, 1, 1, 0, .rw1c⟩
abbrev F.VS_TJ_LIMIT : Fld := ⟨0xF0804, 0, 8, 105, .rw⟩
abbrev C.VS_TRANS : Nat := 0xF0808
abbrev F.FB_CTL_REPLAN : Fld := ⟨0x600000, 0, 1, 0, .wo⟩
abbrev F.FB_STATUS_BUSY : Fld := ⟨0x600004, 0, 1, 0, .ro⟩
abbrev F.FB_STATUS_DEFERRED : Fld := ⟨0x600004, 1, 1, 0, .ro⟩
abbrev F.FB_STATUS_CEILING : Fld := ⟨0x600004, 2, 1, 0, .rw1c⟩
abbrev F.FB_STATUS_FLOOR : Fld := ⟨0x600004, 3, 1, 0, .rw1c⟩
abbrev F.FB_STATUS_DONE : Fld := ⟨0x600004, 4, 1, 0, .rw1c⟩
abbrev F.FB_THRESH_PPM : Fld := ⟨0x600008, 0, 16, 2000, .rw⟩
abbrev F.FB_NEXT_LO_SECONDS : Fld := ⟨0x600010, 0, 32, 0, .ro⟩
abbrev F.FB_NEXT_HI_SECONDS : Fld := ⟨0x600014, 0, 32, 0, .ro⟩
abbrev F.FB_ISL_ADJ_ADD_MV (i0 : Nat) : Fld := ⟨0x600020 + 0x8 * i0, 0, 8, 0, .ro⟩
abbrev F.FB_ISL_ADJ_REMOVED (i0 : Nat) : Fld := ⟨0x600020 + 0x8 * i0, 8, 8, 0, .ro⟩
abbrev F.FB_ISL_ADJ_CEIL (i0 : Nat) : Fld := ⟨0x600020 + 0x8 * i0, 16, 3, 7, .ro⟩
abbrev F.FB_ISL_ADJ_KMV (i0 : Nat) : Fld := ⟨0x600020 + 0x8 * i0, 24, 8, (Config.kmv i0).toNat, .ro⟩
abbrev F.FB_ISL_DRIFT_PPM (i0 : Nat) : Fld := ⟨0x600024 + 0x8 * i0, 0, 16, 0, .ro⟩
abbrev F.FB_ISL_DRIFT_SENSOR (i0 : Nat) : Fld := ⟨0x600024 + 0x8 * i0, 16, 6, 0, .ro⟩
abbrev F.FB_SENS_SEL_SENSOR : Fld := ⟨0x600080, 0, 6, 0, .rw⟩
abbrev F.FB_SENS_BASE : Fld := ⟨0x600084, 0, 16, 0, .ro⟩
abbrev F.FB_SENS_RATIO : Fld := ⟨0x600084, 16, 16, 0, .ro⟩
abbrev F.LB_STATUS_OPEN : Fld := ⟨0x610000, 0, 1, 0, .ro⟩
abbrev F.LB_STATUS_WORN : Fld := ⟨0x610000, 1, 1, 0, .ro⟩
abbrev F.LB_STATUS_WERR : Fld := ⟨0x610000, 2, 1, 0, .rw1c⟩
abbrev F.LB_STATUS_SAFE : Fld := ⟨0x610000, 3, 1, 0, .ro⟩
abbrev F.LB_STATUS_BUSY : Fld := ⟨0x610000, 4, 1, 0, .ro⟩
abbrev F.LB_STATUS_UNSUIT : Fld := ⟨0x610000, 5, 1, 0, .ro⟩
abbrev F.LB_STATUS_UTC_VALID : Fld := ⟨0x610000, 6, 1, 0, .ro⟩
abbrev F.LB_CTL_SHUTDOWN : Fld := ⟨0x610004, 0, 1, 0, .wo⟩
abbrev F.LB_CTL_WRITE : Fld := ⟨0x610004, 1, 1, 0, .wo⟩
abbrev F.LB_HOSTTIME_LO_SECONDS : Fld := ⟨0x610008, 0, 32, 0, .rw⟩
abbrev F.LB_HOSTTIME_HI_SECONDS : Fld := ⟨0x61000C, 0, 32, 0, .rw⟩
abbrev C.LB_POWERED : Nat := 0x610010
abbrev F.LB_SEQ_SEQ : Fld := ⟨0x610018, 0, 32, 0, .ro⟩
abbrev F.LB_SECT_OPEN : Fld := ⟨0x61001C, 0, 13, 0, .ro⟩
abbrev F.LB_SECT_RETIRED : Fld := ⟨0x61001C, 16, 13, 0, .ro⟩
abbrev F.LB_CNT_SEL_INDEX : Fld := ⟨0x610020, 0, 5, 0, .rw⟩
abbrev C.LB_CNT : Nat := 0x610024
abbrev F.LC_STATE_STATE : Fld := ⟨0x620000, 0, 3, 0, .ro⟩
abbrev F.LC_STATE_BADFUSE : Fld := ⟨0x620000, 3, 1, 0, .ro⟩
abbrev F.LC_STATE_UIDMASK : Fld := ⟨0x620000, 4, 1, 0, .ro⟩
abbrev F.LC_STATE_FWKMASK : Fld := ⟨0x620000, 5, 1, 0, .ro⟩
abbrev F.LC_NEXT_CODE : Fld := ⟨0x620004, 0, 3, 0, .rw⟩
abbrev F.LC_STATUS_PENDING : Fld := ⟨0x620008, 0, 1, 0, .ro⟩
abbrev F.LC_STATUS_REFUSED : Fld := ⟨0x620008, 1, 1, 0, .rw1c⟩
abbrev F.LC_STATUS_PROG_BUSY : Fld := ⟨0x620008, 2, 1, 0, .ro⟩
abbrev F.LC_STATUS_PROG_ERR : Fld := ⟨0x620008, 3, 1, 0, .rw1c⟩
abbrev F.LC_STATUS_CODE : Fld := ⟨0x620008, 4, 4, 0, .ro⟩
abbrev F.LC_STATUS_SCRUBBED : Fld := ⟨0x620008, 8, 1, 0, .ro⟩
abbrev F.LC_STATUS_VERIFY_ERR : Fld := ⟨0x620008, 9, 1, 0, .ro⟩
abbrev F.LC_DBG_OPEN : Fld := ⟨0x62000C, 0, 1, 0, .rw⟩
abbrev F.LC_DBG_JTAG_ACTIVE : Fld := ⟨0x62000C, 1, 1, 0, .ro⟩
abbrev F.SL_CTL_FREEZE : Fld := ⟨0x630000, 0, 1, 0, .wo⟩
abbrev F.SL_STATUS_PIN : Fld := ⟨0x630004, 0, 1, 0, .ro⟩
abbrev F.SL_STATUS_HOLD : Fld := ⟨0x630004, 1, 1, 0, .ro⟩
abbrev F.SL_STATUS_HALT : Fld := ⟨0x630004, 2, 1, 0, .ro⟩
abbrev F.SL_STATUS_STOPPING : Fld := ⟨0x630004, 3, 1, 0, .ro⟩
abbrev F.SL_STATUS_FROZEN : Fld := ⟨0x630004, 4, 1, 0, .ro⟩
abbrev F.SL_STATUS_WAVE : Fld := ⟨0x630004, 5, 3, 0, .ro⟩
abbrev F.SL_LAST_CAUSES : Fld := ⟨0x630008, 0, 3, 0, .ro⟩
abbrev F.SL_LAST_STATE : Fld := ⟨0x630008, 4, 3, 0, .ro⟩
abbrev F.SL_LAST_OUTCOME : Fld := ⟨0x630008, 8, 2, 0, .ro⟩
abbrev F.SL_LAST_SR_MISS : Fld := ⟨0x630008, 10, 1, 0, .ro⟩
abbrev F.SL_LAST_TIME_FIO : Fld := ⟨0x63000C, 0, 32, 0, .ro⟩
abbrev F.SL_LAST_STOP_DEAD (i0 : Nat) : Fld := ⟨0x630010 + 0x4 * i0, 0, 32, 0, .ro⟩
abbrev C.SL_CNT : Nat := 0x630020
abbrev F.FAB_RST_CTL_GO : Fld := ⟨0x400, 0, 1, 0, .wo⟩
abbrev F.FAB_RST_CTL_RELOAD : Fld := ⟨0x400, 1, 1, 0, .wo⟩
abbrev F.FAB_RST_CTL_KEY : Fld := ⟨0x400, 8, 8, 0, .wo⟩
abbrev F.FAB_RST_CAUSE_POR : Fld := ⟨0x404, 0, 1, 1, .rw1c⟩
abbrev F.FAB_RST_CAUSE_PIN : Fld := ⟨0x404, 1, 1, 0, .rw1c⟩
abbrev F.FAB_RST_CAUSE_SOFT : Fld := ⟨0x404, 2, 1, 0, .rw1c⟩
abbrev F.FAB_RST_CAUSE_PF_FLR : Fld := ⟨0x404, 3, 1, 0, .rw1c⟩
abbrev F.FAB_RST_CAUSE_LINK : Fld := ⟨0x404, 4, 1, 0, .rw1c⟩
abbrev F.FAB_RST_CAUSE_CP_SHARED : Fld := ⟨0x404, 5, 1, 0, .rw1c⟩
abbrev F.FAB_RST_CAUSE_SLACK : Fld := ⟨0x404, 6, 1, 0, .rw1c⟩
abbrev F.FAB_RST_CAUSE_CP_COVE : Fld := ⟨0x404, 8, 4, 0, .ro⟩
abbrev F.FAB_CP_STATUS_HANG : Fld := ⟨0x408, 0, 16, 0, .rw1c⟩
abbrev F.FAB_CP_STATUS_IDLE : Fld := ⟨0x408, 16, 16, 0, .ro⟩
abbrev F.FAB_ARR_INFO_SP_MIB : Fld := ⟨0x40C, 0, 5, Config.arrSpMib.toNat, .ro⟩
abbrev F.FAB_IB_STATUS_SHORT : Fld := ⟨0x410, 0, 1, 0, .rw1c⟩
abbrev F.FAB_IB_STATUS_TIMEOUT : Fld := ⟨0x410, 1, 1, 0, .rw1c⟩
abbrev F.FAB_IB_STATUS_BADOP : Fld := ⟨0x410, 2, 1, 0, .rw1c⟩
abbrev F.FAB_IB_STATUS_ERROR : Fld := ⟨0x410, 3, 1, 0, .rw1c⟩
abbrev F.FAB_ARR_CLRFAIL_CLRFAIL (i0 : Nat) : Fld := ⟨0x420 + 0x4 * i0, 0, 32, 0, .rw1c⟩

/-- Rows of the register map, part 1. -/
def regRows0 : List RegRow := [
  ⟨0x0, 1, 0x0, 1, 0x0, .plain, [(0, 16, 22, .ro), (16, 8, 0, .ro), (24, 4, 1, .ro), (28, 4, 0, .ro)]⟩,
  ⟨0x4, 1, 0x0, 1, 0x0, .plain, [(0, 6, 0, .ro), (6, 1, 0, .ro), (7, 1, 0, .ro), (16, 13, 0, .ro)]⟩,
  ⟨0x100, 1, 0x0, 1, 0x0, .ctrLo, []⟩,
  ⟨0x104, 1, 0x0, 1, 0x0, .ctrHi, []⟩,
  ⟨0x108, 1, 0x0, 1, 0x0, .plain, [(0, 5, 0, .ro), (8, 4, 0, .ro), (12, 2, 0, .ro), (16, 16, 0, .ro)]⟩,
  ⟨0x10C, 1, 0x0, 1, 0x0, .plain, [(0, 16, 0, .ro), (16, 13, 0, .ro)]⟩,
  ⟨0x110, 1, 0x0, 1, 0x0, .plain, [(0, 32, 0, .ro)]⟩,
  ⟨0x114, 1, 0x0, 1, 0x0, .plain, [(0, 9, 0, .ro)]⟩,
  ⟨0x118, 1, 0x0, 1, 0x0, .plain, [(0, 1, 0, .rw1c), (1, 1, 0, .rw1c)]⟩,
  ⟨0x200, 1, 0x0, 1, 0x0, .plain, [(0, 1, 0, .ro), (1, 1, 0, .ro), (4, 4, 0, .ro), (8, 5, 0, .ro), (16, 5, 0, .ro)]⟩,
  ⟨0x204, 1, 0x0, 1, 0x0, .plain, [(0, 32, 0, .ro)]⟩,
  ⟨0x208, 1, 0x0, 1, 0x0, .plain, [(0, 3, 0, .ro), (8, 6, 0, .ro), (16, 6, 0, .ro), (24, 6, 0, .ro), (30, 1, 0, .ro)]⟩,
  ⟨0x20C, 1, 0x0, 1, 0x0, .plain, [(0, 16, 0, .ro), (16, 6, 0, .ro), (22, 1, 0, .ro)]⟩,
  ⟨0x210, 1, 0x0, 1, 0x0, .plain, [(0, 32, 0, .ro)]⟩,
  ⟨0x300, 1, 0x0, 1, 0x0, .plain, [(0, 1, 0, .ro), (1, 1, 0, .ro), (2, 1, 0, .ro), (3, 1, 0, .ro), (4, 1, 0, .rw1c), (5, 1, 0, .ro), (8, 8, 0, .ro), (16, 8, 0, .ro)]⟩,
  ⟨0x304, 1, 0x0, 1, 0x0, .plain, [(0, 9, 0, .wo)]⟩]

/-- Rows of the register map, part 2. -/
def regRows1 : List RegRow := [
  ⟨0x400, 1, 0x0, 1, 0x0, .plain, [(0, 1, 0, .wo), (1, 1, 0, .wo), (8, 8, 0, .wo)]⟩,
  ⟨0x404, 1, 0x0, 1, 0x0, .plain, [(0, 1, 1, .rw1c), (1, 1, 0, .rw1c), (2, 1, 0, .rw1c), (3, 1, 0, .rw1c), (4, 1, 0, .rw1c), (5, 1, 0, .rw1c), (6, 1, 0, .rw1c), (8, 4, 0, .ro)]⟩,
  ⟨0x408, 1, 0x0, 1, 0x0, .plain, [(0, 16, 0, .rw1c), (16, 16, 0, .ro)]⟩,
  ⟨0x40C, 1, 0x0, 1, 0x0, .plain, [(0, 5, 0, .ro)]⟩,
  ⟨0x410, 1, 0x0, 1, 0x0, .plain, [(0, 1, 0, .rw1c), (1, 1, 0, .rw1c), (2, 1, 0, .rw1c), (3, 1, 0, .rw1c)]⟩,
  ⟨0x420, 4, 0x4, 1, 0x0, .plain, [(0, 32, 0, .rw1c)]⟩,
  ⟨0x10000, 1, 0x0, 1, 0x0, .plain, [(0, 1, 0, .wo), (1, 1, 0, .wo), (2, 1, 0, .rw1s), (4, 1, 0, .rw)]⟩,
  ⟨0x10004, 1, 0x0, 1, 0x0, .plain, [(0, 3, 0, .ro), (3, 1, 0, .ro), (4, 1, 0, .rw1c), (8, 2, 0, .ro), (16, 8, 0, .ro)]⟩,
  ⟨0x10008, 1, 0x0, 1, 0x0, .plain, [(0, 8, 0, .ro), (8, 16, 0, .ro), (24, 1, 0, .ro)]⟩,
  ⟨0x1000C, 1, 0x0, 1, 0x0, .plain, [(0, 21, 0, .rw)]⟩,
  ⟨0x10010, 1, 0x0, 1, 0x0, .plain, [(0, 32, 0, .rw)]⟩,
  ⟨0x10014, 1, 0x0, 1, 0x0, .plain, [(0, 32, 0, .rw)]⟩,
  ⟨0x10018, 1, 0x0, 1, 0x0, .plain, [(0, 32, 0, .wo)]⟩,
  ⟨0x1001C, 1, 0x0, 1, 0x0, .plain, [(0, 21, 0, .ro)]⟩,
  ⟨0x10020, 1, 0x0, 1, 0x0, .plain, [(0, 32, 0, .ro)]⟩,
  ⟨0x10030, 1, 0x0, 1, 0x0, .plain, [(0, 16, 0, .wo), (16, 13, 0, .wo), (29, 2, 0, .wo), (31, 1, 0, .wo)]⟩]

/-- Rows of the register map, part 3. -/
def regRows2 : List RegRow := [
  ⟨0x10034, 1, 0x0, 1, 0x0, .plain, [(0, 13, 0, .ro), (16, 1, 0, .rw1c)]⟩,
  ⟨0x20000, 1, 0x0, 1, 0x0, .plain, [(0, 1, 0, .wo), (1, 1, 0, .wo)]⟩,
  ⟨0x20004, 1, 0x0, 1, 0x0, .plain, [(0, 1, 0, .ro), (1, 1, 0, .ro), (2, 1, 0, .rw1c), (3, 1, 0, .ro), (4, 1, 0, .ro), (5, 1, 0, .rw1c), (6, 1, 0, .rw1c), (7, 1, 0, .rw1c)]⟩,
  ⟨0x20008, 1, 0x0, 1, 0x0, .ctrLo, []⟩,
  ⟨0x2000C, 1, 0x0, 1, 0x0, .ctrHi, []⟩,
  ⟨0x20010, 1, 0x0, 1, 0x0, .ctrLo, []⟩,
  ⟨0x20014, 1, 0x0, 1, 0x0, .ctrHi, []⟩,
  ⟨0x20018, 1, 0x0, 1, 0x0, .ctrLo, []⟩,
  ⟨0x2001C, 1, 0x0, 1, 0x0, .ctrHi, []⟩,
  ⟨0x20020, 1, 0x0, 1, 0x0, .plain, [(0, 9, 0, .rw), (16, 5, 0, .rw)]⟩,
  ⟨0x20024, 1, 0x0, 1, 0x0, .plain, [(0, 10, 0, .ro), (16, 10, 0, .ro)]⟩,
  ⟨0x20028, 1, 0x0, 1, 0x0, .plain, [(0, 5, 31, .ro), (5, 1, 0, .ro), (6, 1, 0, .ro), (7, 1, 0, .ro), (8, 16, 0, .ro)]⟩,
  ⟨0x30000, 1, 0x0, 1, 0x0, .ctrLo, []⟩,
  ⟨0x30004, 1, 0x0, 1, 0x0, .ctrHi, []⟩,
  ⟨0x30008, 1, 0x0, 1, 0x0, .ctrLo, []⟩,
  ⟨0x3000C, 1, 0x0, 1, 0x0, .ctrHi, []⟩]

/-- Rows of the register map, part 4. -/
def regRows3 : List RegRow := [
  ⟨0x30010, 1, 0x0, 1, 0x0, .ctrLo, []⟩,
  ⟨0x30014, 1, 0x0, 1, 0x0, .ctrHi, []⟩,
  ⟨0x30018, 1, 0x0, 1, 0x0, .plain, [(0, 7, 0, .ro), (16, 9, 0, .ro)]⟩,
  ⟨0x31000, 16, 0x40, 1, 0x0, .plain, [(0, 1, 0, .rw), (12, 20, 0, .rw)]⟩,
  ⟨0x31004, 16, 0x40, 1, 0x0, .plain, [(0, 32, 0, .rw)]⟩,
  ⟨0x31008, 16, 0x40, 1, 0x0, .plain, [(0, 1, 0, .rw), (13, 19, 0, .rw)]⟩,
  ⟨0x3100C, 16, 0x40, 1, 0x0, .plain, [(0, 32, 0, .rw)]⟩,
  ⟨0x31010, 16, 0x40, 1, 0x0, .plain, [(12, 20, 0, .rw)]⟩,
  ⟨0x31014, 16, 0x40, 1, 0x0, .plain, [(0, 32, 0, .rw)]⟩,
  ⟨0x31018, 16, 0x40, 1, 0x0, .plain, [(12, 20, 0, .ro)]⟩,
  ⟨0x3101C, 16, 0x40, 1, 0x0, .plain, [(0, 32, 0, .ro)]⟩,
  ⟨0x31020, 16, 0x40, 1, 0x0, .plain, [(0, 1, 0, .wo), (1, 1, 0, .wo)]⟩,
  ⟨0x31024, 16, 0x40, 1, 0x0, .plain, [(0, 1, 0, .ro), (1, 1, 0, .ro), (2, 1, 0, .rw1c), (3, 1, 0, .rw1c), (4, 1, 0, .ro)]⟩,
  ⟨0x40000, 16, 0x100, 1, 0x0, .plain, [(0, 1, 0, .ro), (1, 1, 0, .ro), (2, 1, 0, .ro), (3, 1, 0, .rw1c), (8, 5, 31, .ro), (16, 5, 31, .ro)]⟩,
  ⟨0x40004, 16, 0x100, 1, 0x0, .plain, [(0, 1, 1, .rw)]⟩,
  ⟨0x40008, 16, 0x100, 1, 0x0, .ctrLo, []⟩]

/-- Rows of the register map, part 5. -/
def regRows4 : List RegRow := [
  ⟨0x4000C, 16, 0x100, 1, 0x0, .ctrHi, []⟩,
  ⟨0x40010, 16, 0x100, 1, 0x0, .ctrLo, []⟩,
  ⟨0x40014, 16, 0x100, 1, 0x0, .ctrHi, []⟩,
  ⟨0x40018, 16, 0x100, 1, 0x0, .ctrLo, []⟩,
  ⟨0x4001C, 16, 0x100, 1, 0x0, .ctrHi, []⟩,
  ⟨0x50000, 1, 0x0, 1, 0x0, .plain, [(0, 32, 0, .rw)]⟩,
  ⟨0x50004, 1, 0x0, 1, 0x0, .plain, [(0, 16, 0, .rw)]⟩,
  ⟨0x50008, 1, 0x0, 1, 0x0, .plain, [(0, 4, 0, .wo), (4, 6, 0, .wo), (10, 12, 0, .wo), (22, 3, 0, .wo), (28, 3, 0, .wo)]⟩,
  ⟨0x5000C, 1, 0x0, 1, 0x0, .plain, [(0, 1, 0, .ro), (1, 1, 0, .rw1c), (2, 1, 0, .rw1c), (4, 4, 0, .ro)]⟩,
  ⟨0x50010, 1, 0x0, 1, 0x0, .plain, [(0, 32, 0, .rw)]⟩,
  ⟨0x50014, 1, 0x0, 1, 0x0, .plain, [(0, 32, 0, .rw)]⟩,
  ⟨0x50018, 1, 0x0, 1, 0x0, .plain, [(0, 32, 0, .rw)]⟩,
  ⟨0x5001C, 1, 0x0, 1, 0x0, .plain, [(0, 32, 0, .rw)]⟩,
  ⟨0x50020, 1, 0x0, 1, 0x0, .plain, [(0, 16, 0, .rw)]⟩,
  ⟨0x50024, 1, 0x0, 1, 0x0, .plain, [(0, 32, 0, .rw)]⟩,
  ⟨0x50028, 1, 0x0, 1, 0x0, .plain, [(0, 32, 0, .rw)]⟩]

/-- Rows of the register map, part 6. -/
def regRows5 : List RegRow := [
  ⟨0x5002C, 1, 0x0, 1, 0x0, .plain, [(0, 4, 0, .wo), (31, 1, 0, .wo)]⟩,
  ⟨0x50040, 16, 0x4, 1, 0x0, .plain, [(0, 2, 0, .ro), (2, 2, 0, .ro), (4, 4, 0, .ro), (8, 1, 0, .rw1c), (9, 1, 0, .rw1c)]⟩,
  ⟨0x50100, 8, 0x4, 1, 0x0, .plain, [(0, 1, 0, .ro), (1, 1, 0, .ro), (2, 1, 0, .ro), (8, 5, 31, .ro), (16, 7, 0, .ro)]⟩,
  ⟨0x60000, 16, 0x4, 1, 0x0, .plain, [(0, 1, 0, .ro), (1, 1, 0, .ro), (2, 1, 0, .ro), (8, 5, 31, .ro), (16, 7, 0, .ro)]⟩,
  ⟨0x70000, 8, 0x4, 1, 0x0, .plain, [(0, 1, 0, .ro), (1, 1, 0, .ro), (2, 1, 0, .ro), (8, 5, 31, .ro), (16, 7, 0, .ro)]⟩,
  ⟨0x80000, 16, 0x40, 1, 0x0, .plain, [(0, 13, 0, .rw), (16, 5, 0, .rw), (31, 1, 0, .rw)]⟩,
  ⟨0x80004, 16, 0x40, 1, 0x0, .plain, [(0, 1, 0, .ro), (1, 1, 0, .ro), (2, 1, 0, .rw1c)]⟩,
  ⟨0x80008, 16, 0x40, 1, 0x0, .plain, [(0, 12, 0, .wo), (12, 2, 0, .wo)]⟩,
  ⟨0x8000C, 16, 0x40, 1, 0x0, .plain, [(0, 6, 0, .ro), (8, 6, 0, .ro)]⟩,
  ⟨0x80400, 1, 0x0, 1, 0x0, .plain, [(0, 6, 48, .ro)]⟩,
  ⟨0x80408, 1, 0x0, 1, 0x0, .ctrLo, []⟩,
  ⟨0x8040C, 1, 0x0, 1, 0x0, .ctrHi, []⟩,
  ⟨0x90000, 16, 0x20, 1, 0x0, .plain, [(0, 1, 0, .rw), (14, 18, 0, .rw)]⟩,
  ⟨0x90004, 16, 0x20, 1, 0x0, .plain, [(0, 32, 0, .rw)]⟩,
  ⟨0xA0000, 16, 0x20, 1, 0x0, .plain, [(0, 7, 10, .rw)]⟩,
  ⟨0xA0004, 16, 0x20, 1, 0x0, .plain, [(0, 13, 0, .rw), (16, 7, 0, .rw), (31, 1, 0, .rw)]⟩]

/-- Rows of the register map, part 7. -/
def regRows6 : List RegRow := [
  ⟨0xA0008, 16, 0x20, 1, 0x0, .plain, [(0, 1, 0, .ro), (1, 1, 0, .rw1c)]⟩,
  ⟨0xA0400, 1, 0x0, 1, 0x0, .ctrLo, []⟩,
  ⟨0xA0404, 1, 0x0, 1, 0x0, .ctrHi, []⟩,
  ⟨0xA0408, 1, 0x0, 1, 0x0, .ctrLo, []⟩,
  ⟨0xA040C, 1, 0x0, 1, 0x0, .ctrHi, []⟩,
  ⟨0xB0000, 1, 0x0, 1, 0x0, .plain, [(0, 8, 0, .rw)]⟩,
  ⟨0xB0004, 1, 0x0, 1, 0x0, .plain, [(0, 2, 1, .ro), (2, 1, 0, .ro), (3, 1, 0, .ro), (4, 4, 0, .ro), (8, 9, 4, .ro), (24, 5, 31, .ro)]⟩,
  ⟨0xB0008, 1, 0x0, 1, 0x0, .plain, [(0, 24, 0, .ro)]⟩,
  ⟨0xB000C, 1, 0x0, 1, 0x0, .plain, [(0, 24, 0, .ro)]⟩,
  ⟨0xB0010, 1, 0x0, 1, 0x0, .plain, [(0, 2, 0, .ro), (2, 1, 0, .ro), (3, 1, 0, .ro), (4, 4, 0, .ro)]⟩,
  ⟨0xB0020, 1, 0x0, 1, 0x0, .plain, [(0, 1, 0, .ro), (1, 1, 0, .rw1c), (2, 1, 0, .ro), (3, 1, 0, .rw1c)]⟩,
  ⟨0xB0040, 8, 0x4, 1, 0x0, .plain, [(0, 32, 0, .rw1c)]⟩,
  ⟨0xB0100, 32, 0x4, 1, 0x0, .plain, [(0, 20, 0, .ro)]⟩,
  ⟨0xB0180, 32, 0x4, 1, 0x0, .plain, [(0, 20, 0, .ro)]⟩,
  ⟨0xB0200, 16, 0x4, 1, 0x0, .plain, [(0, 9, 256, .ro)]⟩,
  ⟨0xB0300, 1, 0x0, 1, 0x0, .ctrLo, []⟩]

/-- Rows of the register map, part 8. -/
def regRows7 : List RegRow := [
  ⟨0xB0304, 1, 0x0, 1, 0x0, .ctrHi, []⟩,
  ⟨0xB0308, 1, 0x0, 1, 0x0, .ctrLo, []⟩,
  ⟨0xB030C, 1, 0x0, 1, 0x0, .ctrHi, []⟩,
  ⟨0xB0310, 1, 0x0, 1, 0x0, .ctrLo, []⟩,
  ⟨0xB0314, 1, 0x0, 1, 0x0, .ctrHi, []⟩,
  ⟨0xC0000, 1, 0x0, 1, 0x0, .plain, [(0, 6, 63, .rw)]⟩,
  ⟨0xC0004, 1, 0x0, 1, 0x0, .plain, [(0, 1, 0, .rw1c), (1, 1, 0, .rw1c), (2, 1, 0, .rw1c), (3, 1, 0, .rw1c), (4, 1, 0, .rw1c)]⟩,
  ⟨0xC0008, 1, 0x0, 1, 0x0, .plain, [(0, 1, 0, .ro), (1, 1, 0, .rw1c), (2, 1, 0, .rw), (3, 1, 0, .ro)]⟩,
  ⟨0xC0010, 1, 0x0, 1, 0x0, .plain, [(0, 10, 0, .rw)]⟩,
  ⟨0xC0014, 1, 0x0, 1, 0x0, .plain, [(0, 4, 8, .rw), (4, 1, 0, .rw), (8, 6, 63, .rw), (16, 2, 0, .ro), (20, 5, 0, .ro)]⟩,
  ⟨0xC0018, 1, 0x0, 1, 0x0, .plain, [(0, 1, 0, .ro), (1, 1, 0, .ro), (2, 1, 0, .ro), (3, 1, 0, .ro), (4, 6, 0, .ro)]⟩,
  ⟨0xC0100, 32, 0x4, 1, 0x0, .plain, [(0, 32, 0, .ro)]⟩,
  ⟨0xC0200, 64, 0x4, 1, 0x0, .plain, [(0, 16, 0, .rw)]⟩,
  ⟨0xC1000, 64, 0x10, 1, 0x0, .plain, [(0, 2, 0, .rw), (2, 1, 0, .rw), (8, 11, 0, .rw), (24, 5, 16, .ro)]⟩,
  ⟨0xC1004, 64, 0x10, 1, 0x0, .plain, [(0, 10, 0, .roc), (31, 1, 0, .roc)]⟩,
  ⟨0xC1008, 64, 0x10, 1, 0x0, .plain, [(0, 10, 0, .wo)]⟩]

/-- Rows of the register map, part 9. -/
def regRows8 : List RegRow := [
  ⟨0xC100C, 64, 0x10, 1, 0x0, .plain, [(0, 1, 0, .ro), (1, 1, 0, .ro), (2, 1, 0, .rw1c), (8, 10, 0, .ro)]⟩,
  ⟨0xD0000, 16, 0x80, 1, 0x0, .plain, [(0, 1, 0, .wo), (1, 1, 0, .wo), (2, 1, 0, .wo)]⟩,
  ⟨0xD0004, 16, 0x80, 1, 0x0, .plain, [(0, 1, 0, .wo), (1, 1, 0, .wo)]⟩,
  ⟨0xD0008, 16, 0x80, 1, 0x0, .plain, [(0, 3, 0, .ro), (3, 1, 0, .ro), (4, 1, 0, .rw1c), (5, 1, 0, .rw1c), (6, 1, 0, .rw1c), (7, 1, 0, .ro), (8, 1, 0, .rw1c)]⟩,
  ⟨0xD0010, 16, 0x80, 1, 0x0, .plain, [(0, 32, 0, .rw)]⟩,
  ⟨0xD0014, 16, 0x80, 1, 0x0, .plain, [(0, 32, 0, .rw)]⟩,
  ⟨0xD0018, 16, 0x80, 1, 0x0, .plain, [(0, 32, 0, .rw)]⟩,
  ⟨0xD001C, 16, 0x80, 1, 0x0, .plain, [(0, 32, 0, .rw)]⟩,
  ⟨0xD0020, 16, 0x80, 1, 0x0, .plain, [(0, 25, 0, .rw)]⟩,
  ⟨0xD0024, 16, 0x80, 1, 0x0, .plain, [(0, 25, 0, .rw)]⟩,
  ⟨0xD0028, 16, 0x80, 1, 0x0, .plain, [(0, 3, 0, .wo)]⟩,
  ⟨0xD002C, 16, 0x80, 1, 0x0, .plain, [(0, 32, 0, .rw)]⟩,
  ⟨0xD0030, 16, 0x80, 1, 0x0, .plain, [(0, 1, 0, .ro), (1, 1, 0, .rw1c), (2, 1, 0, .rw1c), (4, 4, 0, .ro)]⟩,
  ⟨0xE0000, 1, 0x0, 1, 0x0, .plain, [(0, 1, 0, .ro), (1, 1, 0, .ro), (2, 1, 1, .ro), (3, 1, 1, .ro), (4, 6, 0, .ro), (10, 6, 0, .ro), (16, 2, 0, .ro), (18, 1, 0, .ro), (19, 1, 0, .ro)]⟩,
  ⟨0xE0004, 1, 0x0, 1, 0x0, .plain, [(0, 1, 0, .rw1c), (1, 1, 0, .rw1c), (2, 1, 0, .rw1c), (3, 1, 0, .rw1c), (4, 6, 0, .rw1c)]⟩,
  ⟨0xE0008, 1, 0x0, 1, 0x0, .ctrLo, []⟩]

/-- Rows of the register map, part 10. -/
def regRows9 : List RegRow := [
  ⟨0xE000C, 1, 0x0, 1, 0x0, .ctrHi, []⟩,
  ⟨0xE0010, 4, 0x4, 1, 0x0, .plain, [(0, 32, 0, .ro)]⟩,
  ⟨0xE0020, 1, 0x0, 1, 0x0, .plain, [(0, 7, 0, .rw)]⟩,
  ⟨0xE0024, 1, 0x0, 1, 0x0, .plain, [(0, 4, 0, .ro), (4, 8, 0, .ro), (12, 1, 0, .ro), (13, 1, 0, .ro), (16, 13, 0, .ro)]⟩,
  ⟨0xE0040, 6, 0x4, 1, 0x0, .plain, [(0, 8, 0, .ro), (8, 4, 0, .ro), (12, 1, 0, .ro), (13, 1, 0, .ro), (14, 1, 0, .ro), (16, 13, 0, .ro)]⟩,
  ⟨0xF0000, 6, 0x100, 1, 0x0, .plain, [(0, 3, 0, .ro), (3, 3, 0, .ro), (6, 3, 0, .ro), (9, 1, 0, .ro), (10, 1, 1, .ro), (16, 12, 0, .ro)]⟩,
  ⟨0xF0004, 6, 0x100, 1, 0x0, .plain, [(0, 12, 0, .ro), (12, 4, 0, .ro), (16, 12, 0, .ro)]⟩,
  ⟨0xF0008, 6, 0x100, 1, 0x0, .plain, [(0, 3, 0, .rw), (3, 1, 0, .rw)]⟩,
  ⟨0xF000C, 6, 0x100, 1, 0x0, .plain, [(0, 3, 7, .rw)]⟩,
  ⟨0xF0010, 6, 0x100, 1, 0x0, .plain, [(0, 16, 0, .ro)]⟩,
  ⟨0xF0014, 6, 0x100, 1, 0x0, .plain, [(0, 1, 0, .ro), (16, 16, 0, .ro)]⟩,
  ⟨0xF0018, 6, 0x100, 1, 0x0, .plain, [(0, 8, 0, .ro)]⟩,
  ⟨0xF0040, 6, 0x100, 16, 0x4, .plain, [(0, 3, 0, .rw), (3, 1, 0, .rw)]⟩,
  ⟨0xF0800, 1, 0x0, 1, 0x0, .plain, [(0, 1, 0, .rw1c), (1, 1, 0, .rw1c)]⟩,
  ⟨0xF0804, 1, 0x0, 1, 0x0, .plain, [(0, 8, 105, .rw)]⟩,
  ⟨0xF0808, 1, 0x0, 1, 0x0, .ctrLo, []⟩]

/-- Rows of the register map, part 11. -/
def regRows10 : List RegRow := [
  ⟨0xF080C, 1, 0x0, 1, 0x0, .ctrHi, []⟩,
  ⟨0x100000, 32, 0x10000, 1, 0x0, .plain, [(0, 1, 0, .ro), (1, 1, 0, .ro), (2, 1, 0, .ro), (4, 2, 0, .ro), (8, 8, 0, .ro)]⟩,
  ⟨0x100004, 32, 0x10000, 1, 0x0, .plain, [(0, 1, 0, .wo), (1, 1, 0, .rw)]⟩,
  ⟨0x100008, 32, 0x10000, 1, 0x0, .plain, [(0, 12, 0, .ro), (16, 12, 0, .ro), (31, 1, 0, .wo)]⟩,
  ⟨0x100010, 32, 0x10000, 1, 0x0, .ctrLo, []⟩,
  ⟨0x100014, 32, 0x10000, 1, 0x0, .ctrHi, []⟩,
  ⟨0x100018, 32, 0x10000, 1, 0x0, .ctrLo, []⟩,
  ⟨0x10001C, 32, 0x10000, 1, 0x0, .ctrHi, []⟩,
  ⟨0x100020, 32, 0x10000, 1, 0x0, .ctrLo, []⟩,
  ⟨0x100024, 32, 0x10000, 1, 0x0, .ctrHi, []⟩,
  ⟨0x100028, 32, 0x10000, 1, 0x0, .ctrLo, []⟩,
  ⟨0x10002C, 32, 0x10000, 1, 0x0, .ctrHi, []⟩,
  ⟨0x100030, 32, 0x10000, 1, 0x0, .ctrLo, []⟩,
  ⟨0x100034, 32, 0x10000, 1, 0x0, .ctrHi, []⟩,
  ⟨0x100038, 32, 0x10000, 1, 0x0, .ctrLo, []⟩,
  ⟨0x10003C, 32, 0x10000, 1, 0x0, .ctrHi, []⟩]

/-- Rows of the register map, part 12. -/
def regRows11 : List RegRow := [
  ⟨0x100040, 32, 0x10000, 1, 0x0, .ctrLo, []⟩,
  ⟨0x100044, 32, 0x10000, 1, 0x0, .ctrHi, []⟩,
  ⟨0x100048, 32, 0x10000, 1, 0x0, .ctrLo, []⟩,
  ⟨0x10004C, 32, 0x10000, 1, 0x0, .ctrHi, []⟩,
  ⟨0x100060, 32, 0x10000, 1, 0x0, .plain, [(0, 4, 0, .ro), (4, 3, 0, .ro), (7, 1, 0, .ro), (8, 7, 0, .ro), (16, 7, 0, .ro), (24, 5, 0, .ro), (29, 3, 0, .ro)]⟩,
  ⟨0x100064, 32, 0x10000, 1, 0x0, .plain, [(0, 32, 0, .ro)]⟩,
  ⟨0x100068, 32, 0x10000, 1, 0x0, .plain, [(0, 3, 0, .ro)]⟩,
  ⟨0x10006C, 32, 0x10000, 1, 0x0, .plain, [(0, 32, 0, .ro)]⟩,
  ⟨0x100070, 32, 0x10000, 1, 0x0, .plain, [(0, 1, 0, .rw1c), (1, 1, 0, .rw1c)]⟩,
  ⟨0x100080, 32, 0x10000, 1, 0x0, .plain, [(0, 7, 0, .rw), (8, 7, 0, .rw), (15, 1, 0, .rw), (16, 3, 0, .rw), (19, 1, 0, .rw), (20, 1, 0, .rw)]⟩,
  ⟨0x100084, 32, 0x10000, 1, 0x0, .plain, [(0, 32, 0, .rw)]⟩,
  ⟨0x100088, 32, 0x10000, 1, 0x0, .plain, [(0, 9, 0, .rw)]⟩,
  ⟨0x108000, 1, 0x0, 1, 0x0, .plain, [(0, 6, 0, .rw)]⟩,
  ⟨0x108004, 1, 0x0, 1, 0x0, .plain, [(0, 13, 0, .ro), (16, 13, 0, .ro), (29, 1, 0, .ro), (30, 1, 0, .ro)]⟩,
  ⟨0x108008, 1, 0x0, 1, 0x0, .plain, [(0, 6, 0, .ro), (8, 6, 0, .ro), (14, 1, 0, .ro), (16, 3, 0, .ro), (19, 1, 0, .ro), (20, 1, 0, .ro), (24, 5, 0, .ro)]⟩,
  ⟨0x108010, 1, 0x0, 1, 0x0, .plain, [(0, 32, 0, .ro)]⟩]

/-- Rows of the register map, part 13. -/
def regRows12 : List RegRow := [
  ⟨0x108014, 1, 0x0, 1, 0x0, .plain, [(0, 12, 0, .ro)]⟩,
  ⟨0x108018, 1, 0x0, 1, 0x0, .plain, [(0, 32, 0, .ro)]⟩,
  ⟨0x10801C, 1, 0x0, 1, 0x0, .plain, [(0, 12, 0, .ro)]⟩,
  ⟨0x108020, 1, 0x0, 1, 0x0, .plain, [(0, 6, 0, .wo), (8, 1, 0, .wo)]⟩,
  ⟨0x108024, 1, 0x0, 1, 0x0, .plain, [(0, 6, 63, .ro), (6, 6, 0, .ro), (12, 6, 0, .ro), (18, 6, 0, .ro), (24, 6, 0, .ro)]⟩,
  ⟨0x108030, 1, 0x0, 1, 0x0, .ctrLo, []⟩,
  ⟨0x108034, 1, 0x0, 1, 0x0, .ctrHi, []⟩,
  ⟨0x108038, 1, 0x0, 1, 0x0, .ctrLo, []⟩,
  ⟨0x10803C, 1, 0x0, 1, 0x0, .ctrHi, []⟩,
  ⟨0x300000, 64, 0x4000, 1, 0x0, .plain, [(0, 1, 0, .ro), (1, 1, 0, .ro), (2, 1, 0, .ro), (3, 1, 0, .ro), (8, 5, 31, .ro), (16, 12, 0, .ro)]⟩,
  ⟨0x300004, 64, 0x4000, 1, 0x0, .plain, [(0, 5, 12, .rw), (8, 1, 1, .rw)]⟩,
  ⟨0x300010, 64, 0x4000, 1, 0x0, .ctrLo, []⟩,
  ⟨0x300014, 64, 0x4000, 1, 0x0, .ctrHi, []⟩,
  ⟨0x300018, 64, 0x4000, 1, 0x0, .ctrLo, []⟩,
  ⟨0x30001C, 64, 0x4000, 1, 0x0, .ctrHi, []⟩,
  ⟨0x300020, 64, 0x4000, 1, 0x0, .ctrLo, []⟩]

/-- Rows of the register map, part 14. -/
def regRows13 : List RegRow := [
  ⟨0x300024, 64, 0x4000, 1, 0x0, .ctrHi, []⟩,
  ⟨0x300028, 64, 0x4000, 1, 0x0, .ctrLo, []⟩,
  ⟨0x30002C, 64, 0x4000, 1, 0x0, .ctrHi, []⟩,
  ⟨0x400000, 32, 0x10000, 1, 0x0, .plain, [(0, 4, 0, .ro), (4, 1, 0, .rw1c), (16, 10, 0, .ro)]⟩,
  ⟨0x400004, 32, 0x10000, 1, 0x0, .plain, [(0, 8, 24, .rw)]⟩,
  ⟨0x400008, 32, 0x10000, 1, 0x0, .plain, [(0, 30, 0, .ro)]⟩,
  ⟨0x400010, 32, 0x10000, 1, 0x0, .ctrLo, []⟩,
  ⟨0x400014, 32, 0x10000, 1, 0x0, .ctrHi, []⟩,
  ⟨0x400018, 32, 0x10000, 1, 0x0, .ctrLo, []⟩,
  ⟨0x40001C, 32, 0x10000, 1, 0x0, .ctrHi, []⟩,
  ⟨0x400020, 32, 0x10000, 1, 0x0, .ctrLo, []⟩,
  ⟨0x400024, 32, 0x10000, 1, 0x0, .ctrHi, []⟩,
  ⟨0x600000, 1, 0x0, 1, 0x0, .plain, [(0, 1, 0, .wo)]⟩,
  ⟨0x600004, 1, 0x0, 1, 0x0, .plain, [(0, 1, 0, .ro), (1, 1, 0, .ro), (2, 1, 0, .rw1c), (3, 1, 0, .rw1c), (4, 1, 0, .rw1c)]⟩,
  ⟨0x600008, 1, 0x0, 1, 0x0, .plain, [(0, 16, 2000, .rw)]⟩,
  ⟨0x600010, 1, 0x0, 1, 0x0, .plain, [(0, 32, 0, .ro)]⟩]

/-- Rows of the register map, part 15. -/
def regRows14 : List RegRow := [
  ⟨0x600014, 1, 0x0, 1, 0x0, .plain, [(0, 32, 0, .ro)]⟩,
  ⟨0x600020, 6, 0x8, 1, 0x0, .plain, [(0, 8, 0, .ro), (8, 8, 0, .ro), (16, 3, 7, .ro), (24, 8, 0, .ro)]⟩,
  ⟨0x600024, 6, 0x8, 1, 0x0, .plain, [(0, 16, 0, .ro), (16, 6, 0, .ro)]⟩,
  ⟨0x600080, 1, 0x0, 1, 0x0, .plain, [(0, 6, 0, .rw)]⟩,
  ⟨0x600084, 1, 0x0, 1, 0x0, .plain, [(0, 16, 0, .ro), (16, 16, 0, .ro)]⟩,
  ⟨0x610000, 1, 0x0, 1, 0x0, .plain, [(0, 1, 0, .ro), (1, 1, 0, .ro), (2, 1, 0, .rw1c), (3, 1, 0, .ro), (4, 1, 0, .ro), (5, 1, 0, .ro), (6, 1, 0, .ro)]⟩,
  ⟨0x610004, 1, 0x0, 1, 0x0, .plain, [(0, 1, 0, .wo), (1, 1, 0, .wo)]⟩,
  ⟨0x610008, 1, 0x0, 1, 0x0, .plain, [(0, 32, 0, .rw)]⟩,
  ⟨0x61000C, 1, 0x0, 1, 0x0, .plain, [(0, 32, 0, .rw)]⟩,
  ⟨0x610010, 1, 0x0, 1, 0x0, .ctrLo, []⟩,
  ⟨0x610014, 1, 0x0, 1, 0x0, .ctrHi, []⟩,
  ⟨0x610018, 1, 0x0, 1, 0x0, .plain, [(0, 32, 0, .ro)]⟩,
  ⟨0x61001C, 1, 0x0, 1, 0x0, .plain, [(0, 13, 0, .ro), (16, 13, 0, .ro)]⟩,
  ⟨0x610020, 1, 0x0, 1, 0x0, .plain, [(0, 5, 0, .rw)]⟩,
  ⟨0x610024, 1, 0x0, 1, 0x0, .ctrLo, []⟩,
  ⟨0x610028, 1, 0x0, 1, 0x0, .ctrHi, []⟩]

/-- Rows of the register map, part 16. -/
def regRows15 : List RegRow := [
  ⟨0x620000, 1, 0x0, 1, 0x0, .plain, [(0, 3, 0, .ro), (3, 1, 0, .ro), (4, 1, 0, .ro), (5, 1, 0, .ro)]⟩,
  ⟨0x620004, 1, 0x0, 1, 0x0, .plain, [(0, 3, 0, .rw)]⟩,
  ⟨0x620008, 1, 0x0, 1, 0x0, .plain, [(0, 1, 0, .ro), (1, 1, 0, .rw1c), (2, 1, 0, .ro), (3, 1, 0, .rw1c), (4, 4, 0, .ro), (8, 1, 0, .ro), (9, 1, 0, .ro)]⟩,
  ⟨0x62000C, 1, 0x0, 1, 0x0, .plain, [(0, 1, 0, .rw), (1, 1, 0, .ro)]⟩,
  ⟨0x630000, 1, 0x0, 1, 0x0, .plain, [(0, 1, 0, .wo)]⟩,
  ⟨0x630004, 1, 0x0, 1, 0x0, .plain, [(0, 1, 0, .ro), (1, 1, 0, .ro), (2, 1, 0, .ro), (3, 1, 0, .ro), (4, 1, 0, .ro), (5, 3, 0, .ro)]⟩,
  ⟨0x630008, 1, 0x0, 1, 0x0, .plain, [(0, 3, 0, .ro), (4, 3, 0, .ro), (8, 2, 0, .ro), (10, 1, 0, .ro)]⟩,
  ⟨0x63000C, 1, 0x0, 1, 0x0, .plain, [(0, 32, 0, .ro)]⟩,
  ⟨0x630010, 4, 0x4, 1, 0x0, .plain, [(0, 32, 0, .ro)]⟩,
  ⟨0x630020, 1, 0x0, 1, 0x0, .ctrLo, []⟩,
  ⟨0x630024, 1, 0x0, 1, 0x0, .ctrHi, []⟩,
  ⟨0x1000000, 16, 0x100000, 1, 0x0, .plain, [(0, 4, 0, .ro), (8, 8, 0, .ro), (16, 1, 0, .ro)]⟩,
  ⟨0x1000004, 16, 0x100000, 1, 0x0, .plain, [(0, 32, 0, .ro)]⟩,
  ⟨0x1000008, 16, 0x100000, 1, 0x0, .plain, [(0, 32, 0, .ro)]⟩,
  ⟨0x100000C, 16, 0x100000, 1, 0x0, .plain, [(0, 10, 0, .ro), (16, 16, 0, .ro)]⟩,
  ⟨0x1000010, 16, 0x100000, 1, 0x0, .plain, [(0, 32, 0, .ro)]⟩]

/-- Rows of the register map, part 17. -/
def regRows16 : List RegRow := [
  ⟨0x1000014, 16, 0x100000, 1, 0x0, .plain, [(0, 6, 0, .ro), (8, 4, 0, .ro), (12, 1, 0, .ro), (16, 8, 0, .ro)]⟩,
  ⟨0x1000018, 16, 0x100000, 1, 0x0, .plain, [(0, 32, 0, .ro)]⟩,
  ⟨0x100001C, 16, 0x100000, 1, 0x0, .plain, [(0, 24, 0, .ro)]⟩,
  ⟨0x1000020, 16, 0x100000, 4, 0x4, .plain, [(0, 32, 0, .ro)]⟩,
  ⟨0x1000030, 16, 0x100000, 1, 0x0, .plain, [(0, 32, 0, .ro)]⟩,
  ⟨0x1000034, 16, 0x100000, 1, 0x0, .plain, [(0, 16, 0, .ro), (16, 8, 0, .ro), (24, 8, 0, .ro)]⟩,
  ⟨0x1000038, 16, 0x100000, 2, 0x4, .plain, [(0, 32, 0, .ro)]⟩,
  ⟨0x1000040, 16, 0x100000, 2, 0x4, .plain, [(0, 32, 0, .ro)]⟩,
  ⟨0x1000048, 16, 0x100000, 1, 0x0, .plain, [(0, 13, 0, .ro), (16, 13, 0, .ro)]⟩,
  ⟨0x100004C, 16, 0x100000, 2, 0x4, .plain, [(0, 32, 0, .ro)]⟩,
  ⟨0x1000054, 16, 0x100000, 1, 0x0, .plain, [(0, 32, 0, .ro)]⟩,
  ⟨0x1000060, 16, 0x100000, 8, 0x4, .plain, [(0, 32, 0, .ro)]⟩,
  ⟨0x1000080, 16, 0x100000, 16, 0x4, .plain, [(0, 32, 0, .ro)]⟩,
  ⟨0x1000100, 16, 0x100000, 144, 0x4, .plain, [(0, 32, 0, .ro)]⟩,
  ⟨0x1000400, 16, 0x100000, 144, 0x4, .plain, [(0, 32, 0, .ro)]⟩,
  ⟨0x1000800, 16, 0x100000, 288, 0x4, .plain, [(0, 32, 0, .ro)]⟩]

/-- Rows of the register map, part 18. -/
def regRows17 : List RegRow := [
  ⟨0x1001000, 16, 0x100000, 1, 0x0, .plain, [(0, 3, 0, .ro), (8, 16, 0, .ro)]⟩,
  ⟨0x1001004, 16, 0x100000, 1, 0x0, .plain, [(0, 1, 0, .ro), (1, 1, 0, .ro), (2, 1, 0, .ro), (3, 1, 0, .ro), (4, 1, 0, .ro)]⟩,
  ⟨0x1001008, 16, 0x100000, 1, 0x0, .ctrLo, []⟩,
  ⟨0x100100C, 16, 0x100000, 1, 0x0, .ctrHi, []⟩,
  ⟨0x1001010, 16, 0x100000, 1, 0x0, .ctrLo, []⟩,
  ⟨0x1001014, 16, 0x100000, 1, 0x0, .ctrHi, []⟩,
  ⟨0x1001018, 16, 0x100000, 1, 0x0, .ctrLo, []⟩,
  ⟨0x100101C, 16, 0x100000, 1, 0x0, .ctrHi, []⟩,
  ⟨0x1001020, 16, 0x100000, 1, 0x0, .plain, [(0, 32, 0, .rw)]⟩,
  ⟨0x1001024, 16, 0x100000, 1, 0x0, .plain, [(0, 32, 0, .rw)]⟩,
  ⟨0x1001028, 16, 0x100000, 1, 0x0, .plain, [(0, 32, 0, .rw)]⟩,
  ⟨0x100102C, 16, 0x100000, 1, 0x0, .plain, [(0, 32, 0, .rw)]⟩,
  ⟨0x1001030, 16, 0x100000, 1, 0x0, .plain, [(0, 32, 0, .rw)]⟩,
  ⟨0x1001034, 16, 0x100000, 1, 0x0, .plain, [(0, 32, 0, .rw)]⟩,
  ⟨0x1001038, 16, 0x100000, 1, 0x0, .plain, [(0, 31, 0, .rw)]⟩,
  ⟨0x100103C, 16, 0x100000, 1, 0x0, .plain, [(0, 12, 0, .rw), (12, 1, 0, .rw), (13, 1, 0, .rw)]⟩]

/-- Rows of the register map, part 19. -/
def regRows18 : List RegRow := [
  ⟨0x1001040, 16, 0x100000, 1, 0x0, .plain, [(0, 16, 0, .rw)]⟩,
  ⟨0x1001044, 16, 0x100000, 1, 0x0, .plain, [(0, 32, 0, .rw)]⟩,
  ⟨0x1001048, 16, 0x100000, 1, 0x0, .plain, [(0, 32, 0, .rw)]⟩,
  ⟨0x100104C, 16, 0x100000, 1, 0x0, .plain, [(0, 1, 0, .wo)]⟩,
  ⟨0x1001050, 16, 0x100000, 1, 0x0, .plain, [(0, 5, 0, .ro), (5, 1, 0, .rw1c), (6, 1, 0, .rw1c), (8, 4, 0, .ro)]⟩,
  ⟨0x1002000, 16, 0x100000, 1, 0x0, .ctrLo, []⟩,
  ⟨0x1002004, 16, 0x100000, 1, 0x0, .ctrHi, []⟩,
  ⟨0x1002008, 16, 0x100000, 1, 0x0, .plain, [(0, 32, 0, .ro)]⟩,
  ⟨0x100200C, 16, 0x100000, 1, 0x0, .plain, [(0, 10, 0, .ro), (16, 16, 0, .ro)]⟩,
  ⟨0x1002010, 16, 0x100000, 1, 0x0, .plain, [(0, 7, 0, .ro), (16, 1, 0, .rw1c)]⟩,
  ⟨0x1002018, 16, 0x100000, 1, 0x0, .ctrLo, []⟩,
  ⟨0x100201C, 16, 0x100000, 1, 0x0, .ctrHi, []⟩,
  ⟨0x1002020, 16, 0x100000, 1, 0x0, .ctrLo, []⟩,
  ⟨0x1002024, 16, 0x100000, 1, 0x0, .ctrHi, []⟩,
  ⟨0x1002028, 16, 0x100000, 1, 0x0, .ctrLo, []⟩,
  ⟨0x100202C, 16, 0x100000, 1, 0x0, .ctrHi, []⟩]

/-- Rows of the register map, part 20. -/
def regRows19 : List RegRow := [
  ⟨0x1003000, 16, 0x100000, 1, 0x0, .plain, [(0, 16, 0, .ro)]⟩,
  ⟨0x1003004, 16, 0x100000, 1, 0x0, .plain, [(0, 16, 0, .rw)]⟩,
  ⟨0x1003008, 16, 0x100000, 1, 0x0, .plain, [(0, 9, 0, .ro), (9, 1, 1, .ro), (10, 1, 0, .rw1c), (11, 1, 0, .rw1c), (12, 1, 0, .rw1c)]⟩,
  ⟨0x100300C, 16, 0x100000, 1, 0x0, .plain, [(0, 12, 0, .wo), (12, 2, 0, .wo)]⟩,
  ⟨0x1003010, 16, 0x100000, 1, 0x0, .ctrLo, []⟩,
  ⟨0x1003014, 16, 0x100000, 1, 0x0, .ctrHi, []⟩,
  ⟨0x1003018, 16, 0x100000, 1, 0x0, .plain, [(0, 13, 0, .ro), (16, 13, 0, .ro)]⟩,
  ⟨0x1003020, 16, 0x100000, 1, 0x0, .plain, [(16, 16, 0, .rw)]⟩,
  ⟨0x1003024, 16, 0x100000, 1, 0x0, .plain, [(0, 16, 0, .rw)]⟩,
  ⟨0x1003028, 16, 0x100000, 1, 0x0, .plain, [(0, 32, 0, .rw)]⟩,
  ⟨0x100302C, 16, 0x100000, 1, 0x0, .plain, [(0, 12, 0, .rw), (12, 1, 0, .rw)]⟩,
  ⟨0x1003030, 16, 0x100000, 1, 0x0, .plain, [(0, 16, 0, .rw)]⟩,
  ⟨0x1003034, 16, 0x100000, 1, 0x0, .plain, [(0, 32, 0, .rw)]⟩,
  ⟨0x1003038, 16, 0x100000, 1, 0x0, .plain, [(0, 32, 0, .rw)]⟩,
  ⟨0x100303C, 16, 0x100000, 1, 0x0, .plain, [(0, 1, 0, .wo)]⟩,
  ⟨0x1003040, 16, 0x100000, 1, 0x0, .plain, [(0, 5, 0, .ro), (5, 1, 0, .rw1c), (6, 1, 0, .rw1c)]⟩]

/-- Rows of the register map, part 21. -/
def regRows20 : List RegRow := [
  ⟨0x1003048, 16, 0x100000, 1, 0x0, .ctrLo, []⟩,
  ⟨0x100304C, 16, 0x100000, 1, 0x0, .ctrHi, []⟩,
  ⟨0x1003050, 16, 0x100000, 1, 0x0, .ctrLo, []⟩,
  ⟨0x1003054, 16, 0x100000, 1, 0x0, .ctrHi, []⟩,
  ⟨0x1004000, 16, 0x100000, 1, 0x0, .ctrLo, []⟩,
  ⟨0x1004004, 16, 0x100000, 1, 0x0, .ctrHi, []⟩,
  ⟨0x1004008, 16, 0x100000, 1, 0x0, .ctrLo, []⟩,
  ⟨0x100400C, 16, 0x100000, 1, 0x0, .ctrHi, []⟩,
  ⟨0x1004010, 16, 0x100000, 1, 0x0, .ctrLo, []⟩,
  ⟨0x1004014, 16, 0x100000, 1, 0x0, .ctrHi, []⟩,
  ⟨0x1004018, 16, 0x100000, 1, 0x0, .ctrLo, []⟩,
  ⟨0x100401C, 16, 0x100000, 1, 0x0, .ctrHi, []⟩,
  ⟨0x1004020, 16, 0x100000, 1, 0x0, .ctrLo, []⟩,
  ⟨0x1004024, 16, 0x100000, 1, 0x0, .ctrHi, []⟩,
  ⟨0x1004028, 16, 0x100000, 1, 0x0, .ctrLo, []⟩,
  ⟨0x100402C, 16, 0x100000, 1, 0x0, .ctrHi, []⟩]

/-- Rows of the register map, part 22. -/
def regRows21 : List RegRow := [
  ⟨0x1004030, 16, 0x100000, 1, 0x0, .ctrLo, []⟩,
  ⟨0x1004034, 16, 0x100000, 1, 0x0, .ctrHi, []⟩,
  ⟨0x1004038, 16, 0x100000, 1, 0x0, .ctrLo, []⟩,
  ⟨0x100403C, 16, 0x100000, 1, 0x0, .ctrHi, []⟩,
  ⟨0x1004040, 16, 0x100000, 1, 0x0, .ctrLo, []⟩,
  ⟨0x1004044, 16, 0x100000, 1, 0x0, .ctrHi, []⟩,
  ⟨0x1004048, 16, 0x100000, 1, 0x0, .ctrLo, []⟩,
  ⟨0x100404C, 16, 0x100000, 1, 0x0, .ctrHi, []⟩,
  ⟨0x1004050, 16, 0x100000, 1, 0x0, .ctrLo, []⟩,
  ⟨0x1004054, 16, 0x100000, 1, 0x0, .ctrHi, []⟩,
  ⟨0x1004058, 16, 0x100000, 1, 0x0, .ctrLo, []⟩,
  ⟨0x100405C, 16, 0x100000, 1, 0x0, .ctrHi, []⟩,
  ⟨0x1004060, 16, 0x100000, 1, 0x0, .ctrLo, []⟩,
  ⟨0x1004064, 16, 0x100000, 1, 0x0, .ctrHi, []⟩,
  ⟨0x1004068, 16, 0x100000, 1, 0x0, .ctrLo, []⟩,
  ⟨0x100406C, 16, 0x100000, 1, 0x0, .ctrHi, []⟩]

/-- Rows of the register map, part 23. -/
def regRows22 : List RegRow := [
  ⟨0x1004070, 16, 0x100000, 1, 0x0, .ctrLo, []⟩,
  ⟨0x1004074, 16, 0x100000, 1, 0x0, .ctrHi, []⟩,
  ⟨0x1004080, 16, 0x100000, 1, 0x0, .plain, [(0, 8, 0, .ro), (8, 8, 0, .ro), (16, 12, 0, .ro)]⟩,
  ⟨0x1004084, 16, 0x100000, 1, 0x0, .plain, [(0, 6, 0, .ro), (8, 8, 0, .ro)]⟩,
  ⟨0x1004088, 16, 0x100000, 1, 0x0, .plain, [(0, 32, 0, .ro)]⟩,
  ⟨0x100408C, 16, 0x100000, 1, 0x0, .plain, [(0, 32, 0, .ro)]⟩,
  ⟨0x1004090, 16, 0x100000, 1, 0x0, .plain, [(0, 16, 0, .ro)]⟩,
  ⟨0x1004094, 16, 0x100000, 1, 0x0, .plain, [(0, 1, 0, .rw1c), (1, 1, 0, .rw1c)]⟩,
  ⟨0x1005000, 16, 0x100000, 1, 0x0, .plain, [(0, 6, 0, .rw)]⟩,
  ⟨0x1005004, 16, 0x100000, 1, 0x0, .plain, [(0, 1, 0, .ro), (1, 1, 0, .ro), (2, 1, 0, .ro), (4, 3, 0, .ro), (16, 16, 0, .ro)]⟩,
  ⟨0x1005008, 16, 0x100000, 1, 0x0, .plain, [(0, 32, 0, .ro)]⟩,
  ⟨0x100500C, 16, 0x100000, 1, 0x0, .plain, [(0, 24, 0, .ro)]⟩,
  ⟨0x1005010, 16, 0x100000, 1, 0x0, .plain, [(0, 2, 0, .ro), (2, 2, 0, .ro)]⟩,
  ⟨0x1005018, 16, 0x100000, 1, 0x0, .plain, [(0, 32, 0, .ro)]⟩,
  ⟨0x100501C, 16, 0x100000, 1, 0x0, .plain, [(0, 32, 0, .ro)]⟩,
  ⟨0x1005020, 16, 0x100000, 1, 0x0, .ctrLo, []⟩]

/-- Rows of the register map, part 24. -/
def regRows23 : List RegRow := [
  ⟨0x1005024, 16, 0x100000, 1, 0x0, .ctrHi, []⟩,
  ⟨0x1005028, 16, 0x100000, 1, 0x0, .ctrLo, []⟩,
  ⟨0x100502C, 16, 0x100000, 1, 0x0, .ctrHi, []⟩,
  ⟨0x1005030, 16, 0x100000, 1, 0x0, .ctrLo, []⟩,
  ⟨0x1005034, 16, 0x100000, 1, 0x0, .ctrHi, []⟩,
  ⟨0x1005038, 16, 0x100000, 1, 0x0, .ctrLo, []⟩,
  ⟨0x100503C, 16, 0x100000, 1, 0x0, .ctrHi, []⟩,
  ⟨0x1005040, 16, 0x100000, 1, 0x0, .ctrLo, []⟩,
  ⟨0x1005044, 16, 0x100000, 1, 0x0, .ctrHi, []⟩,
  ⟨0x1005048, 16, 0x100000, 1, 0x0, .ctrLo, []⟩,
  ⟨0x100504C, 16, 0x100000, 1, 0x0, .ctrHi, []⟩,
  ⟨0x1005080, 16, 0x100000, 1, 0x0, .plain, [(0, 32, 0, .rw)]⟩,
  ⟨0x1005084, 16, 0x100000, 1, 0x0, .plain, [(0, 32, 0, .rw)]⟩,
  ⟨0x1005088, 16, 0x100000, 1, 0x0, .plain, [(0, 32, 0, .rw)]⟩,
  ⟨0x100508C, 16, 0x100000, 1, 0x0, .plain, [(0, 32, 0, .rw)]⟩,
  ⟨0x1005090, 16, 0x100000, 1, 0x0, .plain, [(0, 32, 0, .rw)]⟩]

/-- Rows of the register map, part 25. -/
def regRows24 : List RegRow := [
  ⟨0x1005094, 16, 0x100000, 1, 0x0, .plain, [(0, 12, 0, .rw), (12, 1, 0, .rw), (13, 1, 0, .rw)]⟩,
  ⟨0x1005098, 16, 0x100000, 1, 0x0, .plain, [(0, 16, 0, .rw)]⟩,
  ⟨0x100509C, 16, 0x100000, 1, 0x0, .plain, [(0, 32, 0, .rw)]⟩,
  ⟨0x10050A0, 16, 0x100000, 1, 0x0, .plain, [(0, 32, 0, .rw)]⟩,
  ⟨0x10050A4, 16, 0x100000, 1, 0x0, .plain, [(0, 1, 0, .wo)]⟩,
  ⟨0x10050A8, 16, 0x100000, 1, 0x0, .plain, [(0, 7, 0, .ro), (7, 1, 0, .rw1c), (8, 1, 0, .rw1c), (9, 1, 0, .rw1c)]⟩,
  ⟨0x10050B0, 16, 0x100000, 1, 0x0, .ctrLo, []⟩,
  ⟨0x10050B4, 16, 0x100000, 1, 0x0, .ctrHi, []⟩,
  ⟨0x10050B8, 16, 0x100000, 1, 0x0, .ctrLo, []⟩,
  ⟨0x10050BC, 16, 0x100000, 1, 0x0, .ctrHi, []⟩,
  ⟨0x1006000, 16, 0x100000, 4, 0x4, .plain, [(0, 32, 0, .rw)]⟩,
  ⟨0x1006010, 16, 0x100000, 1, 0x0, .plain, [(0, 4, 0, .wo)]⟩,
  ⟨0x1006014, 16, 0x100000, 1, 0x0, .plain, [(0, 1, 0, .ro), (1, 1, 0, .rw1c), (2, 1, 0, .rw1c), (4, 4, 0, .ro)]⟩,
  ⟨0x1006018, 16, 0x100000, 1, 0x0, .plain, [(0, 32, 0, .ro)]⟩,
  ⟨0x100601C, 16, 0x100000, 1, 0x0, .plain, [(0, 32, 0, .ro)]⟩,
  ⟨0x1006100, 16, 0x100000, 64, 0x8, .plain, [(0, 2, 0, .ro), (2, 1, 0, .ro), (3, 1, 0, .rw1c), (4, 1, 0, .ro), (8, 9, 0, .ro), (17, 1, 0, .ro)]⟩]

/-- Rows of the register map, part 26. -/
def regRows25 : List RegRow := [
  ⟨0x1006104, 16, 0x100000, 64, 0x8, .plain, [(0, 10, 0, .ro), (16, 6, 0, .ro)]⟩,
  ⟨0x1006300, 16, 0x100000, 1, 0x0, .plain, [(0, 8, 0, .rw)]⟩,
  ⟨0x1006304, 16, 0x100000, 1, 0x0, .plain, [(0, 32, 0, .ro)]⟩,
  ⟨0x1006308, 16, 0x100000, 1, 0x0, .plain, [(0, 32, 0, .ro)]⟩,
  ⟨0x1006310, 16, 0x100000, 1, 0x0, .plain, [(0, 12, 0, .rw)]⟩,
  ⟨0x1006314, 16, 0x100000, 1, 0x0, .plain, [(0, 2, 0, .ro), (2, 1, 0, .ro)]⟩,
  ⟨0x1006320, 16, 0x100000, 1, 0x0, .plain, [(0, 25, 0, .ro)]⟩,
  ⟨0x1006324, 16, 0x100000, 1, 0x0, .plain, [(0, 25, 0, .ro)]⟩,
  ⟨0x1006328, 16, 0x100000, 1, 0x0, .ctrLo, []⟩,
  ⟨0x100632C, 16, 0x100000, 1, 0x0, .ctrHi, []⟩,
  ⟨0x1006330, 16, 0x100000, 1, 0x0, .ctrLo, []⟩,
  ⟨0x1006334, 16, 0x100000, 1, 0x0, .ctrHi, []⟩,
  ⟨0x1006338, 16, 0x100000, 1, 0x0, .ctrLo, []⟩,
  ⟨0x100633C, 16, 0x100000, 1, 0x0, .ctrHi, []⟩,
  ⟨0x1006800, 16, 0x100000, 1, 0x0, .plain, [(0, 16, 0, .rw)]⟩,
  ⟨0x1006804, 16, 0x100000, 1, 0x0, .plain, [(0, 32, 0, .rw)]⟩]

/-- Rows of the register map, part 27. -/
def regRows26 : List RegRow := [
  ⟨0x1006808, 16, 0x100000, 1, 0x0, .plain, [(0, 32, 0, .rw)]⟩,
  ⟨0x100680C, 16, 0x100000, 1, 0x0, .plain, [(0, 22, 0, .rw)]⟩,
  ⟨0x1006810, 16, 0x100000, 1, 0x0, .plain, [(0, 3, 0, .wo)]⟩,
  ⟨0x1006814, 16, 0x100000, 1, 0x0, .plain, [(0, 32, 0, .ro)]⟩,
  ⟨0x1006818, 16, 0x100000, 1, 0x0, .plain, [(0, 32, 0, .ro)]⟩,
  ⟨0x100681C, 16, 0x100000, 1, 0x0, .plain, [(0, 1, 0, .ro), (1, 1, 0, .rw1c), (2, 1, 0, .rw1c), (3, 1, 0, .rw1c), (4, 1, 0, .rw1c), (5, 1, 0, .rw1c), (8, 9, 0, .ro)]⟩,
  ⟨0x1006820, 16, 0x100000, 1, 0x0, .plain, [(0, 16, 0, .ro), (16, 3, 0, .ro)]⟩,
  ⟨0x1006824, 16, 0x100000, 1, 0x0, .plain, [(0, 16, 0, .ro)]⟩,
  ⟨0x1006828, 16, 0x100000, 1, 0x0, .ctrLo, []⟩,
  ⟨0x100682C, 16, 0x100000, 1, 0x0, .ctrHi, []⟩,
  ⟨0x1006830, 16, 0x100000, 1, 0x0, .ctrLo, []⟩,
  ⟨0x1006834, 16, 0x100000, 1, 0x0, .ctrHi, []⟩,
  ⟨0x1006838, 16, 0x100000, 1, 0x0, .plain, [(0, 16, 0, .ro)]⟩,
  ⟨0x100683C, 16, 0x100000, 1, 0x0, .plain, [(0, 16, 0, .rw), (16, 1, 0, .rw1c), (17, 1, 0, .rw1c), (18, 1, 0, .rw1c)]⟩,
  ⟨0x1007000, 16, 0x100000, 1, 0x0, .plain, [(0, 16, 2000, .rw), (16, 4, 1, .rw)]⟩,
  ⟨0x1007004, 16, 0x100000, 1, 0x0, .plain, [(0, 7, 10, .ro), (7, 1, 0, .ro), (8, 19, 0, .ro)]⟩]

/-- Rows of the register map, part 28. -/
def regRows27 : List RegRow := [
  ⟨0x1007008, 16, 0x100000, 1, 0x0, .plain, [(0, 19, 0, .ro)]⟩,
  ⟨0x100700C, 16, 0x100000, 1, 0x0, .plain, [(0, 9, 0, .ro), (9, 9, 0, .ro), (18, 9, 0, .ro)]⟩,
  ⟨0x1007010, 16, 0x100000, 1, 0x0, .ctrLo, []⟩,
  ⟨0x1007014, 16, 0x100000, 1, 0x0, .ctrHi, []⟩,
  ⟨0x1007018, 16, 0x100000, 1, 0x0, .ctrLo, []⟩,
  ⟨0x100701C, 16, 0x100000, 1, 0x0, .ctrHi, []⟩,
  ⟨0x1007020, 16, 0x100000, 1, 0x0, .ctrLo, []⟩,
  ⟨0x1007024, 16, 0x100000, 1, 0x0, .ctrHi, []⟩,
  ⟨0x1007028, 16, 0x100000, 1, 0x0, .ctrLo, []⟩,
  ⟨0x100702C, 16, 0x100000, 1, 0x0, .ctrHi, []⟩,
  ⟨0x1007030, 16, 0x100000, 1, 0x0, .ctrLo, []⟩,
  ⟨0x1007034, 16, 0x100000, 1, 0x0, .ctrHi, []⟩,
  ⟨0x1007038, 16, 0x100000, 1, 0x0, .ctrLo, []⟩,
  ⟨0x100703C, 16, 0x100000, 1, 0x0, .ctrHi, []⟩,
  ⟨0x1007040, 16, 0x100000, 1, 0x0, .ctrLo, []⟩,
  ⟨0x1007044, 16, 0x100000, 1, 0x0, .ctrHi, []⟩]

/-- Rows of the register map, part 29. -/
def regRows28 : List RegRow := [
  ⟨0x1007048, 16, 0x100000, 1, 0x0, .ctrLo, []⟩,
  ⟨0x100704C, 16, 0x100000, 1, 0x0, .ctrHi, []⟩,
  ⟨0x1007050, 16, 0x100000, 1, 0x0, .plain, [(0, 16, 0, .ro), (16, 16, 0, .ro)]⟩,
  ⟨0x1007060, 16, 0x100000, 1, 0x0, .plain, [(0, 6, 0, .rw)]⟩,
  ⟨0x1007064, 16, 0x100000, 1, 0x0, .ctrLo, []⟩,
  ⟨0x1007068, 16, 0x100000, 1, 0x0, .ctrHi, []⟩,
  ⟨0x100706C, 16, 0x100000, 1, 0x0, .ctrLo, []⟩,
  ⟨0x1007070, 16, 0x100000, 1, 0x0, .ctrHi, []⟩,
  ⟨0x1007074, 16, 0x100000, 1, 0x0, .ctrLo, []⟩,
  ⟨0x1007078, 16, 0x100000, 1, 0x0, .ctrHi, []⟩,
  ⟨0x100707C, 16, 0x100000, 1, 0x0, .plain, [(0, 32, 0, .ro)]⟩,
  ⟨0x1007080, 16, 0x100000, 1, 0x0, .plain, [(0, 32, 0, .ro)]⟩,
  ⟨0x1007090, 16, 0x100000, 1, 0x0, .plain, [(0, 12, 0, .rw)]⟩,
  ⟨0x1007094, 16, 0x100000, 1, 0x0, .ctrLo, []⟩,
  ⟨0x1007098, 16, 0x100000, 1, 0x0, .ctrHi, []⟩,
  ⟨0x100709C, 16, 0x100000, 1, 0x0, .ctrLo, []⟩]

/-- Rows of the register map, part 30. -/
def regRows29 : List RegRow := [
  ⟨0x10070A0, 16, 0x100000, 1, 0x0, .ctrHi, []⟩,
  ⟨0x10070A4, 16, 0x100000, 1, 0x0, .ctrLo, []⟩,
  ⟨0x10070A8, 16, 0x100000, 1, 0x0, .ctrHi, []⟩,
  ⟨0x1008000, 16, 0x100000, 1, 0x0, .ctrLo, []⟩,
  ⟨0x1008004, 16, 0x100000, 1, 0x0, .ctrHi, []⟩,
  ⟨0x1008008, 16, 0x100000, 1, 0x0, .ctrLo, []⟩,
  ⟨0x100800C, 16, 0x100000, 1, 0x0, .ctrHi, []⟩,
  ⟨0x1008010, 16, 0x100000, 1, 0x0, .ctrLo, []⟩,
  ⟨0x1008014, 16, 0x100000, 1, 0x0, .ctrHi, []⟩,
  ⟨0x1008018, 16, 0x100000, 1, 0x0, .ctrLo, []⟩,
  ⟨0x100801C, 16, 0x100000, 1, 0x0, .ctrHi, []⟩,
  ⟨0x1008020, 16, 0x100000, 1, 0x0, .ctrLo, []⟩,
  ⟨0x1008024, 16, 0x100000, 1, 0x0, .ctrHi, []⟩,
  ⟨0x1008028, 16, 0x100000, 1, 0x0, .plain, [(0, 9, 256, .ro), (9, 1, 0, .ro), (10, 1, 0, .rw1c), (11, 1, 0, .rw1c)]⟩,
  ⟨0x100802C, 16, 0x100000, 1, 0x0, .plain, [(0, 32, 0, .ro)]⟩,
  ⟨0x1008030, 16, 0x100000, 1, 0x0, .plain, [(0, 8, 0, .rw)]⟩]

/-- Rows of the register map, part 31. -/
def regRows30 : List RegRow := [
  ⟨0x1008034, 16, 0x100000, 1, 0x0, .plain, [(0, 24, 0, .ro), (24, 2, 0, .ro)]⟩,
  ⟨0x1008040, 16, 0x100000, 8, 0x4, .plain, [(0, 32, 0, .rw1c)]⟩,
  ⟨0x1009000, 16, 0x100000, 32, 0x4, .plain, [(0, 4, 8, .rw), (4, 1, 0, .rw), (8, 6, 0, .ro), (14, 1, 0, .ro), (15, 1, 0, .ro), (16, 1, 0, .ro), (17, 1, 0, .ro)]⟩,
  ⟨0x1009080, 16, 0x100000, 2, 0x4, .plain, [(0, 16, 0, .rw)]⟩,
  ⟨0x1009088, 16, 0x100000, 1, 0x0, .plain, [(0, 16, 0, .wo)]⟩,
  ⟨0x100908C, 16, 0x100000, 1, 0x0, .plain, [(0, 1, 0, .rw1c), (1, 1, 0, .rw1c), (8, 6, 63, .ro)]⟩,
  ⟨0x1009100, 16, 0x100000, 64, 0x10, .plain, [(2, 1, 0, .rw), (8, 11, 0, .rw)]⟩,
  ⟨0x1009104, 16, 0x100000, 64, 0x10, .plain, [(0, 10, 0, .roc), (31, 1, 0, .roc)]⟩,
  ⟨0x1009108, 16, 0x100000, 64, 0x10, .plain, [(0, 10, 0, .wo)]⟩,
  ⟨0x100910C, 16, 0x100000, 64, 0x10, .plain, [(0, 1, 0, .ro), (1, 1, 0, .ro), (2, 1, 0, .rw1c)]⟩,
  ⟨0x100A000, 16, 0x100000, 1, 0x0, .ctrLo, []⟩,
  ⟨0x100A004, 16, 0x100000, 1, 0x0, .ctrHi, []⟩,
  ⟨0x100A008, 16, 0x100000, 1, 0x0, .ctrLo, []⟩,
  ⟨0x100A00C, 16, 0x100000, 1, 0x0, .ctrHi, []⟩,
  ⟨0x100A010, 16, 0x100000, 1, 0x0, .ctrLo, []⟩,
  ⟨0x100A014, 16, 0x100000, 1, 0x0, .ctrHi, []⟩]

/-- Rows of the register map, part 32. -/
def regRows31 : List RegRow := [
  ⟨0x100A018, 16, 0x100000, 1, 0x0, .ctrLo, []⟩,
  ⟨0x100A01C, 16, 0x100000, 1, 0x0, .ctrHi, []⟩,
  ⟨0x100A020, 16, 0x100000, 1, 0x0, .plain, [(0, 6, 0, .rw)]⟩,
  ⟨0x100A024, 16, 0x100000, 1, 0x0, .plain, [(0, 1, 0, .ro), (1, 1, 0, .ro), (2, 1, 0, .ro), (3, 1, 0, .ro), (4, 1, 0, .ro)]⟩,
  ⟨0x100A028, 16, 0x100000, 1, 0x0, .plain, [(0, 32, 0, .ro)]⟩,
  ⟨0x100A02C, 16, 0x100000, 1, 0x0, .plain, [(0, 12, 0, .ro)]⟩]

/-- Every row of the register map (R25, R26). -/
def regRows : List RegRow :=
  regRows0 ++ regRows1 ++ regRows2 ++ regRows3 ++ regRows4 ++ regRows5 ++ regRows6 ++ regRows7 ++ regRows8 ++ regRows9 ++ regRows10 ++ regRows11 ++ regRows12 ++ regRows13 ++ regRows14 ++ regRows15 ++ regRows16 ++ regRows17 ++ regRows18 ++ regRows19 ++ regRows20 ++ regRows21 ++ regRows22 ++ regRows23 ++ regRows24 ++ regRows25 ++ regRows26 ++ regRows27 ++ regRows28 ++ regRows29 ++ regRows30 ++ regRows31

end Sys2Proof.Machine
end

