-- ==== Sys2Proof/Machine/State.lean ====
section
/-!
DEFINITION. The state of the fabric as plain data: everything the spec gives it, and the queue of waiting commands.
Host memory stands outside the block: what the block writes there goes to `out`, and what it reads comes with the
command that brings the data.
-/
namespace Sys2Proof.Machine

/-! ### Tables -/

/-- A finite table: keys strictly rising; an absent key stands for the default its reader names. -/
abbrev Tbl (α : Type) := List (Nat × α)

/-! ### Coves, charts and fences (chapters 01, 02) -/

/-- Parameters of an existing cove (R34). -/
structure CoveDesc where
  prio : Nat
  ctxMin : Nat
  rtOk : Bool
  label : Nat
deriving DecidableEq, Repr

/-- One granule of the granule map: owner 0–15 a cove, 16 shared, 31 free (R37). -/
structure Gran where
  owner : Nat
  mode : Nat
  target : Nat
  readers : Nat
deriving DecidableEq, Repr

/-- A granule with the interleave mode that places its lines (R97, R98). -/
structure Place where
  gran : Nat
  mode : Nat
deriving DecidableEq, Repr

/-- A fence on a unit, bank, granule or target; in service when absent (R55). -/
inductive Fence where
  | fencing
  | fenced
deriving DecidableEq, Repr

/-- Chart parameters of a regulator (R39). -/
structure RegParam where
  cls : Nat
  urgEn : Bool
  missIen : Bool
  hyst : Nat
  window : Nat
  budget : Nat
deriving DecidableEq, Repr

/-- Plan of a loop (R41). -/
structure LoopPlan where
  ref : Nat
  refdiv : Nat
  mult : Nat
  postdiv : Nat
  en : Bool
  ssDepth : Nat
  ssRate : Nat
deriving DecidableEq, Repr

/-- A source and a divider of a domain (R42). -/
structure DomPlan where
  src : Nat
  div : Nat
deriving DecidableEq, Repr

/-- An operating point (R43). -/
structure OpPoint where
  mv : Nat
  fmax : Nat
  start : Bool
deriving DecidableEq, Repr

/-- A cove's share in an island (R44). -/
structure Share where
  opMin : Nat
  opMax : Nat
  weight : Nat
deriving DecidableEq, Repr

/-- A zero-fill of one placed granule under a KID, with the set of lines already written (R66). -/
structure ZFill where
  place : Place
  kid : Nat
  done : Nat
deriving DecidableEq, Repr

/-- Why a zero-fill runs: an apply, or the scrub of a cove reset (R66, R310). -/
inductive FillFor where
  | apply
  /-- Complete, of an apply that has not ended. -/
  | applied
  | scrub (cove : Nat)
deriving DecidableEq, Repr

/-- Progress of an apply (R61, R68). -/
inductive ApplyStep where
  /-- Accepted, step 1 of the apply not begun. -/
  | accepted
  /-- A full chart waits for its enabled loops. -/
  | loops
  /-- The zero-fills run. -/
  | filling
deriving DecidableEq, Repr

/-- The image being applied: its reserved KIDs by range, its progress and its full-chart flag (R61, R68). -/
structure Apply where
  step : ApplyStep
  full : Bool
  kids : Tbl Nat
  newGen : Nat
  /-- Keys, as in the fence table, of the resources that change owner (R59). -/
  moved : List Nat
  /-- Key ranges whose KIDs are released to Draining (R114). -/
  gone : List Nat
  /-- Coves that the image creates (R305). -/
  created : List Nat
deriving DecidableEq, Repr

/-! ### Tides (chapter 03) -/

/-- An action a slate entry launches (R82). -/
inductive SlateAct where
  /-- A parameter change of a cove (R65). -/
  | param (cove : Nat)
  /-- New effective budgets of a cove (R287). -/
  | budgets (cove : Nat)
  /-- A table generation flip of a cove (R204). -/
  | flip (cove : Nat)
  /-- A coordinated preemption (R265). -/
  | preempt (cove : Nat) (id : Nat)
  /-- A start group of steps (R256). -/
  | stepStart (cove : Nat) (id : Nat)
  /-- A frequency change of an island (R343). -/
  | dvfs (island : Nat)
deriving DecidableEq, Repr

/-- An armed slate entry (R83, R84). -/
structure Slate where
  act : SlateAct
  /-- The target count N. -/
  target : Nat
  /-- The participating taps. -/
  taps : List Nat
  /-- Taps that have stored the action and acknowledged it. -/
  stored : List Nat
  /-- The count of the edge whose DUE bit was set, and the time at which that edge was emitted. -/
  due : Option Nat
  dueNow : Nat
  /-- Taps whose launch acknowledgement has arrived. -/
  acked : List Nat
  /-- Taps that missed the edge. -/
  missed : List Nat
  /-- What it launches has taken effect. -/
  applied : Bool
deriving DecidableEq, Repr

/-- How a slate entry ended, as reported to its arming unit (R84). -/
inductive SlateEnd where
  | done
  | partially (taps : List Nat)
  | cancelled
deriving DecidableEq, Repr

/-- A report of a slate outcome, not yet taken by the arming unit. -/
structure SlateReport where
  tide : Nat
  act : SlateAct
  outcome : SlateEnd
  /-- The launch count. -/
  count : Nat
deriving DecidableEq, Repr

/-- A request to arm an entry, waiting for a free one (R83). -/
structure ArmReq where
  tide : Nat
  act : SlateAct
  target : Nat
  taps : List Nat
deriving DecidableEq, Repr

/-- A tide master (R70, R71, R73). -/
structure Master where
  running : Bool
  /-- Holds its count after an XA failure. -/
  held : Bool
  count : Nat
  /-- PERIOD_MR of the chart. -/
  periodMr : Nat
  /-- Cycles of the present interval. -/
  period : Nat
  /-- A period that takes effect on the next edge (R71). -/
  newPeriod : Option Nat
  slate : Tbl Slate
  /-- Taps whose acknowledgement of the last edge is awaited (R89). -/
  await : List Nat
  launchOfs : Nat
  settle : Nat
deriving DecidableEq, Repr

/-- An edge a tap has received and not yet launched (R76). -/
structure RecvEdge where
  count : Nat
  due : Nat
deriving DecidableEq, Repr

/-- A tap of the tide net (R74, R76, R89). -/
structure Tap where
  /-- Source 0–16, 31 none. -/
  src : Nat
  count : Nat
  lag : Nat
  range : Bool
  /-- Resynchronisation pending. -/
  resync : Bool
  /-- Stored actions by slate entry. -/
  acts : Tbl SlateAct
  /-- The message travelling to the tap. -/
  net : Option (BitVec 84)
  recv : Option RecvEdge
  /-- A launched edge whose acknowledgement is on its way. -/
  acking : Option RecvEdge
  /-- The tap has asked its master for resynchronisation. -/
  asked : Bool
deriving DecidableEq, Repr

/-- A tap's one-way delay from a source and its acknowledge time (R78, R79). -/
structure TapCal where
  delay : Nat
  ackNs : Nat
deriving DecidableEq, Repr

/-! ### Memory plane (chapter 04) -/

/-- A stored line of a stack: its 64 data bytes and the 8 bytes of the ECC pins (R106, R108). -/
structure RawLine where
  data : Line
  pin : Dword
deriving DecidableEq, Repr

/-- A metadata line held by a controller's cache, most recently used first in its set (R105). -/
structure MdcEnt where
  /-- Line number in the stack, its metadata address divided by 64. -/
  line : Nat
  raw : RawLine
  dirty : Bool
  /-- Words that a failed transfer from the stack carried, one bit each (R103). -/
  bad : Nat
deriving DecidableEq, Repr

/-- The states of a KID (R114). -/
inductive KidState where
  | free | active | draining | flushing | retired
deriving DecidableEq, Repr

/-- A KID that is not Free, the placed granules it has covered and the lines verified of each (R114). -/
structure Kid where
  st : KidState
  /-- The key is loaded into the controllers (R112). -/
  loaded : Bool
  covered : List Place
  verified : Tbl Nat
  /-- The key range whose use counter clears when the KID leaves Draining (R114, R116). -/
  range : Option Nat
deriving DecidableEq, Repr

/-- A key range (R113–R117). -/
structure KeyRange where
  first : Nat
  count : Nat
  scramble : Bool
  thresh : Nat
  owner : Nat
  cur : Nat
  pred : Option Nat
  /-- 0 idle, 1 waiting for a KID, 2 sweeping, 3 flushing. -/
  phase : Nat
  /-- The sweep has visited every line, and the predecessor may still drain (R114, R116). -/
  sweepDone : Bool
  queued : Bool
  stopped : Bool
  use : Nat
  /-- Lines the re-key sweep has visited, by granule. -/
  swept : Tbl Nat
deriving DecidableEq, Repr

/-- A stored tidepool word: 64 data bits, its 15 code bits, its poison bit (R127). -/
structure TpWord where
  data : Dword
  code : Nat
  poison : Bool
deriving DecidableEq, Repr

/-- How an access ended (R21, R56, R94, R116, R119, R152, R338). -/
inductive ErrKind where
  | dropped | fenced | address | poison | keyStop | killed | unitReset
deriving DecidableEq, Repr

/-- The completion of a transfer (R144). -/
inductive Resp where
  /-- A read's line. -/
  | data (l : Line)
  /-- A write performed. -/
  | done
  /-- An atomic performed, with the old value. -/
  | old (v : Dword)
  /-- Error status, with all-zero data. -/
  | error (e : ErrKind)
deriving DecidableEq, Repr

/-! ### Translation (chapter 05) -/

/-- A leaf held by a TLB or the shared L2 (R138, R139). `size` is 0 for 64 KiB, 1 for 2 MiB, 2 for 1 GiB. -/
structure Leaf where
  cove : Nat
  ctx : Nat
  size : Nat
  /-- DVA divided by the page size. -/
  vpn : Nat
  /-- FPA divided by 64 KiB. -/
  fpn : Nat
  r : Bool
  w : Bool
  a : Bool
  dl : Bool
  /-- In a TLB: the number of the epoch in which the client last marked the page (R157). -/
  mark : Option Nat
deriving DecidableEq, Repr

/-- A directory or pointer entry in the walk cache: level 4 for the directory (R140). -/
structure WalkEnt where
  cove : Nat
  ctx : Nat
  level : Nat
  /-- DVA divided by the span of the level. -/
  span : Nat
  next : Nat
deriving DecidableEq, Repr

/-- A miss waiting for the walker (R140). -/
structure Miss where
  cove : Nat
  ctx : Nat
  dva : Nat
deriving DecidableEq, Repr

/-- A walk in progress: the level it reads and the host address of the entry (R140, R146). -/
structure Walk where
  cove : Nat
  ctx : Nat
  dva : Nat
  level : Nat
  addr : Nat
  stale : Bool
deriving DecidableEq, Repr

/-- Where a transfer stands (R138, R144, R151, R152). -/
inductive XStage where
  /-- Missed while the miss queue is full: it waits for room there (R140). -/
  | queueing
  /-- Missed and waits for the walker. -/
  | missing
  /-- Held on a fault. -/
  | held (reason level : Nat)
  /-- Translated, or an FPA, and not yet issued. -/
  | ready
  /-- At its controller, not yet performed. -/
  | waiting
  /-- Performed or refused, not yet returned. -/
  | done (r : Resp)
  /-- Its completion is suppressed by a failed check (R121). -/
  | suppressed
deriving DecidableEq, Repr

/-- A transfer of one line or part of one (R138, R144, R275). -/
structure Xfer where
  tag : Nat
  src : Nat
  /-- The client number when the transfer is translated. -/
  client : Option Nat
  ctx : Nat
  dva : Nat
  len : Nat
  acc : Access
  fpa : Nat
  dl : Bool
  /-- Class 0 RT, 1 BE, 2 BG, stamped at issue (R279). -/
  cls : Nat
  urg : Nat
  /-- An access of an engine's own work, repeated by the engine when it proceeds. -/
  eng : Bool
  /-- It belongs to lane 1 of a split engine-port tile (R388). -/
  lane : Bool
  /-- The move that a sweep engine's access serves (R214). -/
  move : Option Nat
  /-- Refused for want of a slot in its master's present window, and so counted in WANT (R283). -/
  refused : Bool
  /-- Place in the order in which the controllers have received transactions (R101). -/
  order : Nat
  stage : XStage
deriving DecidableEq, Repr

/-- An accepted invalidation (R142, R143). -/
structure Inv where
  base : Nat
  pages : Nat
  ctx : Option Nat
  event : Nat
  value : Nat
  slow : Bool
  /-- Participants that have not acknowledged. -/
  await : List Nat
deriving DecidableEq, Repr

/-- A line of the dirty-log cache of the walker (R158). -/
structure DirtyLine where
  cove : Nat
  /-- Host bus address of the line. -/
  addr : Nat
  filled : Bool
  data : Line
  marks : Line
  /-- Belongs to the bitmap a SWAP or STOP has left. -/
  old : Bool
deriving DecidableEq, Repr

/-! ### Bandwidth regulation (chapter 10) -/

/-- A regulator and its monitor (R277–R284). -/
structure Regul where
  par : RegParam
  eff : Nat
  credit : Nat
  /-- Credit exhausted in the present window. -/
  held : Bool
  got : Nat
  want : Nat
  urg : Nat
  /-- The present window is judged at its end (R283). -/
  judged : Bool
  missing : Bool
  /-- Length of the present run, and whether it is a run of misses. -/
  run : Nat
  runMiss : Bool
  /-- New parameters waiting for a tide edge (R65). -/
  next : Option RegParam
deriving DecidableEq, Repr

/-! ### Beacon (chapter 11) -/

/-- A beacon source (R292–R299). -/
structure Src where
  pending : Bool
  held : Bool
  active : Bool
  /-- Target the source is routed to. -/
  route : Option Nat
  /-- Service target while ACTIVE. -/
  svc : Nat
  prio : Nat
  en : Bool
  target : Nat
deriving DecidableEq, Repr

/-- A beacon target (R294–R297). -/
structure Tgt where
  mode : Nat
  en : Bool
  vector : Nat
  badvec : Bool
deriving DecidableEq, Repr


/-! ### Host objects (chapter 08) -/

/-- An object-table entry (R224). `state` is 0 Free, 1 Live, 2 Zombie; a Free entry holds NEXT in `base`. -/
structure ObjEnt where
  base : Nat
  ctx : Nat
  anyctx : Bool
  size : Nat
  state : Nat
  hsat : Bool
  dsat : Bool
  inc : Nat
  host : Nat
  dev : Nat
  rev : Nat
  revEn : Bool
  rval : Nat
deriving DecidableEq, Repr

/-- The free list of an object table: how many entries it holds, its head and its tail (R227). -/
structure ObHeads where
  free : Nat
  head : Nat
  tail : Nat
deriving DecidableEq, Repr

/-- What a graph launch pins: the image's handle, range and context, and the generation of the slot (R224, R241). -/
structure GraphPin where
  handle : Nat
  base : Nat
  size : Nat
  ctx : Nat
  anyctx : Bool
  gen : Nat
deriving DecidableEq, Repr

/-- An accepted queue entry (R232): the handles it holds references of, and when it was accepted. -/
structure QEntry where
  id : Nat
  ctx : Nat
  graph : Bool
  target : Nat
  /-- The image and the generation a graph launch has pinned (R241). -/
  image : Option GraphPin
  cev : Option (Nat × Nat)
  wev : Option (Nat × Nat)
  refs : List Nat
  accepted : Nat
deriving DecidableEq, Repr

/-- State of a queue (R231). -/
inductive QPhase where
  | free | active | draining
deriving DecidableEq, Repr

/-- A queue of a cove, with its destruction, its virtual time and its deadline monitor (R231, R244, R259, R260, R270). -/
structure Queue where
  ph : QPhase
  rt : Bool
  share : Nat
  reserve : Nat
  /-- Entries accepted and not released, oldest first. -/
  fifo : List QEntry
  /-- Place of the next entry in its ring, modulo 256 (R217). -/
  tail : Nat
  abort : Bool
  /-- The event a destruction signals. -/
  onFree : Option (Nat × Nat)
  /-- Engines that have not acknowledged the destruction. -/
  await : List Nat
  vt : Nat
  /-- Engine time charged since the last edge of the cove's tide. -/
  used : Nat
  /-- Entitlement of the present interval. -/
  entitled : Nat
  avg : Nat
  dev : Nat
  seeded : Bool
deriving DecidableEq, Repr

/-- A wait slot in use whose wait has not completed (R238). -/
structure EvWait where
  event : Nat
  target : Nat
  tag : Nat
  /-- A wait of the command processor, completed on the event port. -/
  cp : Bool
deriving DecidableEq, Repr

/-- A completion record waiting for ring space; `slot` says that it keeps a wait slot (R239). -/
structure RingRec where
  tag : Nat
  event : Nat
  kind : Nat
  value : Nat
  slot : Bool
deriving DecidableEq, Repr

/-- A graph slot: the image's HREF, when one is installed, and the generation (R240). -/
structure GraphSlot where
  href : Option Nat
  gen : Nat
deriving DecidableEq, Repr

/-- What a context slot does (R222, R223). -/
inductive SlotPh where
  | loading
  | resident
  /-- Its save record is being written; the slot then passes to the cove and context named, if any. -/
  | evicting (dest : Option (Nat × Nat))
deriving DecidableEq, Repr

/-- A context slot in use (R221). -/
structure CtxSlot where
  cove : Nat
  ctx : Nat
  ph : SlotPh
deriving DecidableEq, Repr

/-! ### Scheduling (chapter 09) -/

/-- A tile entry of a step (R248). -/
structure TileEnt where
  cmd : Nat
  kind : Nat
  leng : Nat
  chunk : Nat
  stage : Nat
  affKind : Nat
  affIdx : Nat
  est : Nat
deriving DecidableEq, Repr

/-- Progress of a tile. -/
inductive TileSt where
  | waiting | running | complete
deriving DecidableEq, Repr

/-- A live-map entry (R251). -/
structure LiveEnt where
  ranges : Nat
  nr : Nat
  mark : Bool
  cheap : Bool
  bytes : Nat
deriving DecidableEq, Repr

/-- A range entry (R251). -/
structure LiveRange where
  addr : Nat
  scratch : Bool
  leng : Nat
  len : Nat
deriving DecidableEq, Repr

/-- State of a released step (R272). -/
inductive StepPh where
  | placed | running | stopping
  | saving (yielding : Bool)
  | preempted (yielded : Bool)
  | resuming
  | retiring
deriving DecidableEq, Repr

/-- A range on its way between a port and spill units: the lines of it still to move through the scratchpad channel. -/
structure SpillMove where
  /-- The physical port. -/
  unit : Nat
  range : LiveRange
  /-- Byte offset of the range in the step's spill units. -/
  at' : Nat
  /-- Lines already moved. -/
  moved : Nat
deriving DecidableEq, Repr

/-- A released step (R247–R272). Log entry 32 (DESIGN CHOICE). -/
structure Step where
  cove : Nat
  queue : Nat
  /-- The entry it belongs to. -/
  entry : Nat
  ctx : Nat
  desc : Nat
  nstage : Nat
  nchunk : Nat
  skind : Nat
  liveDva : Nat
  live : List LiveEnt
  tiles : List (TileEnt × TileSt)
  ph : StepPh
  /-- Physical unit of each logical engine, keyed `kind * 128 + leng` (R253); empty while unplaced. -/
  map : Tbl Nat
  placed : Bool
  /-- Table slot of each logical table update engine, by LENG, as its first tile names it (R201). -/
  tslots : Tbl Nat
  /-- Contexts of lane 1 of the split tiles it has begun: contexts of the step beside its entry's (R265, R383). -/
  ctxs : List Nat
  /-- Generation vector by table slot, fixed at the start launch (R195). -/
  vec : Tbl Nat
  chunk : Nat
  stage : Nat
  /-- A refused reservation has deferred the stop to the next CHEAP boundary, or a slice asks for one (R264, R265). -/
  cheapOnly : Bool
  err : Bool
  /-- Order of the start launch among the fabric's. -/
  seq : Nat
  started : Bool
  accepted : Nat
  startAt : Nat
  /-- When it became PREEMPTED or YIELDED. -/
  since : Nat
  /-- Spill units held, 64 KiB each, by index in the area (R265). -/
  units : List Nat
  moves : List SpillMove
  /-- Ranges of the boundary it stopped at. -/
  saved : List LiveRange
  /-- Reasons of records already written (R274). -/
  noted : List Nat
  /-- Token steps of the cove started since it yielded (R269). -/
  tokens : Nat
  fallback : Nat
  deadlineNs : Nat
  est : Nat
deriving DecidableEq, Repr

/-- A released entry (R255, R270, R271). -/
structure Run where
  cove : Nat
  queue : Nat
  ent : QEntry
  /-- The image of a graph launch has been read (R241). -/
  opened : Bool
  /-- Descriptors of the steps not yet released. -/
  todo : List Nat
  /-- Every step has completed or the entry retires at once. -/
  finished : Bool
  fallback : Bool
  deadline : Option Nat
  /-- When its first step started. -/
  first : Option Nat
  /-- Whether the deadline decision has been made, and the sum of EST_NS of the primary steps released (R270, R271). -/
  judged : Bool
  estSum : Nat
deriving DecidableEq, Repr

/-- A start group, or a preemption entry, of a cove (R256, R265). -/
structure Group where
  id : Nat
  /-- Steps of the entry that is armed and not yet launched. -/
  armed : List Nat
  /-- Steps that wait for the next one. -/
  waiting : List Nat
deriving DecidableEq, Repr

/-- A preemption whose switch time is still to be taken: the victims the preempting step waits for, the ports they held on which
it has not begun a tile yet, and when the preemption launched (R268). -/
structure Switch where
  victims : List Nat
  ports : List Nat
  launched : Option Nat
deriving DecidableEq, Repr

/-- How a tile ends (R262, R263). -/
inductive TileEnd where
  | done | error | aborted
deriving DecidableEq, Repr

/-- An engine with a tile (R254–R262). -/
structure Eng where
  step : Nat
  tile : Nat
  /-- Told to end at its next boundary. -/
  abort : Bool
  /-- The work has begun: the command has been read. -/
  begun : Bool
  fin : Option TileEnd
  /-- Watchdog expiries of this tile. -/
  expired : Nat
deriving DecidableEq, Repr

/-! ### Engines (chapters 06, 07, 15) -/

/-- A table descriptor (R166). -/
structure TableDesc where
  base : Nat
  rows : Nat
  fmt : Nat
  dimb : Nat
  stride : Nat
  guard : Nat
  hash : Bool
  idx64 : Bool
  ovl : Bool
  hotCount : Nat
  hotBase : Nat
  escBase : Nat
  escRows : Nat
  ecells : Nat
  ecellBase : Nat
  seed : Nat
  ovlDesc : Nat
  codebook : List Nat
deriving DecidableEq, Repr

/-- An overlay descriptor (R196). -/
structure OvlDesc where
  index : Nat
  arena : Nat
  arenaRows : Nat
  log2nb : Nat
  tslot : Nat
  compact : Nat
  iseed : Nat
  freemap : Nat
deriving DecidableEq, Repr

/-- A gather command (R164). -/
structure GatherCmd where
  table : Nat
  idx : Nat
  ofs : Nat
  wgt : Nat
  out : Nat
  nidx : Nat
  nbag : Nat
  mode : Nat
  outf : Nat
  outk : Bool
  stride : Nat
deriving DecidableEq, Repr

/-- An occurrence pooled into a bag: its row unless it is out of range, its lanes and its weight (R180, R186). -/
structure Occ where
  row : Option Nat
  lanes : List Word
  wgt : Word
  /-- Its row was quarantined or could not be read (R182, R183). -/
  lost : Bool
deriving DecidableEq, Repr

/-- Progress of a bag (R180, R185, R186). -/
inductive BagPh where
  | pooling | replay | ready
deriving DecidableEq, Repr

/-- A bag being pooled: its FP32 lanes and, for each, the largest exponent seen (R180, R185). -/
structure Bag where
  ph : BagPh
  acc : List Word
  emax : List Int
  occs : List Occ
deriving DecidableEq, Repr

/-- A pass that is built and not yet begun: its unique rows, and the row of each index position (R171). -/
structure AheadPass where
  rows : List Nat
  occ : Tbl (Option Nat)
deriving DecidableEq, Repr

/-- A gather tile in progress (R164–R189). -/
structure Gather where
  cmd : GatherCmd
  cmdDva : Nat
  ctx : Nat
  tbl : TableDesc
  ovl : Option OvlDesc
  /-- Generation to probe the overlay with (R168). -/
  gen : Nat
  /-- Guard gap of the tile; none where the guard is off (R185). -/
  gap : Option Nat
  offs : List Nat
  /-- Next index entry to deduplicate, and passes begun (R171). -/
  next : Nat
  passes : Nat
  /-- Unique rows of the pass: not fetched, or its lanes (R168, R171). -/
  rows : Tbl (Option (List Word))
  /-- Rows of the pass that yield zeros for quarantine (true) or a failed fetch (false) (R182, R183). -/
  lost : Tbl Bool
  /-- Row of each index position of the pass; none when out of range (R184). -/
  occ : Tbl (Option Nat)
  /-- Rows of the pass that have arrived and have occurrences left to pool, in order of arrival (R181). -/
  arrived : List Nat
  /-- The pass the slice has built while this one is pooled (R171). -/
  ahead : Option AheadPass
  bags : Tbl Bag
  emitted : Nat
  noted : List Nat
deriving DecidableEq, Repr

/-- A bag or block output on its way to the input buffer of an engine port (R385). -/
structure Delivery where
  /-- The delivering unit and its step. -/
  src : Nat
  step : Nat
  /-- The logical engine port; the scheduler's mapping gives the physical one when the delivery arrives (R253, R385). -/
  leng : Nat
  off : Nat
  bytes : List Byte
deriving DecidableEq, Repr

/-- An entry that compaction folds: its row, its BORN, its arena slot, and whether its move has completed (R207). -/
structure Fold where
  row : Nat
  born : Nat
  arena : Nat
  done : Bool
deriving DecidableEq, Repr

/-- A bound table slot (R193–R195, R203, R207). -/
structure TSlot where
  eng : Nat
  ctx : Nat
  desc : Nat
  tbl : TableDesc
  ovl : OvlDesc
  pub : Nat
  incomplete : Bool
  compacting : Bool
  /-- The compaction has started by itself, and stops at half the fill that starts it. -/
  auto : Bool
  folding : Option Fold
  /-- Rows whose move has failed in the present compaction. -/
  skip : List Nat
  /-- Valid index entries, and those of them of the pending generation. -/
  entries : Nat
  pending : Nat
deriving DecidableEq, Repr

/-- A slot operation in progress: OP 1 or 3 of TU_BIND_CTL (R193, R203). -/
structure Bind where
  op : Nat
  cove : Nat
  slot : Nat
  ctx : Nat
  eng : Nat
  desc : Nat
deriving DecidableEq, Repr

/-- An arena slot in limbo: the bound slot, the arena slot, and the tide edge whose drain it awaits (R206). -/
structure Limbo where
  cove : Nat
  slot : Nat
  arena : Nat
  edge : Nat
deriving DecidableEq, Repr

/-- A delta tile in progress (R201). -/
structure Delta where
  cmdDva : Nat
  ctx : Nat
  tslot : Nat
  keys : Nat
  data : Nat
  nrec : Nat
  next : Nat
deriving DecidableEq, Repr

/-- An accepted flip of a cove; `state` as TU_FLIP_STATUS.STATE (R204). -/
structure Flip where
  mask : Nat
  target : Nat
  event : Nat
  value : Nat
  /-- Its slate entry is armed or asked for (R204). -/
  armed : Bool
deriving DecidableEq, Repr

/-- A mover tile in progress (R208). -/
structure Mover where
  cmdDva : Nat
  ctx : Nat
  src : Nat
  dst : Nat
  sstride : Nat
  dstride : Nat
  rows : Nat
  cols : Nat
  esize : Nat
  trans : Bool
  outk : Bool
  /-- Next block, in row-major order (R209). -/
  next : Nat
deriving DecidableEq, Repr

/-- A ranker tile in progress (R210). -/
structure Ranker where
  cmdDva : Nat
  ctx : Nat
  scores : Nat
  ids : Nat
  out : Nat
  offs : List Nat
  k : Nat
  sfmt : Nat
  desc : Bool
  ids64 : Bool
  stride : Nat
  next : Nat
deriving DecidableEq, Repr

/-- Kinds of move (R214). -/
inductive MoveKind where
  | prefetch | advice
  /-- Folds an overlay row of a slot into its main row, and into its hot row after that (R207). -/
  | compaction (slot : Nat) (hot : Option Nat)
deriving DecidableEq, Repr

/-- A queued or running move (R214). -/
structure Move where
  id : Nat
  cove : Nat
  ctx : Nat
  src : Nat
  dst : Nat
  len : Nat
  done : Nat
  kind : MoveKind
  /-- The sweep engine it runs on. -/
  sweep : Nat
  event : Option (Nat × Nat)
  /-- How it is to end: a reason of R150, or 0 for a quiesce under ABORT, and the failing DVA; none while it proceeds. -/
  failed : Option (Nat × Nat)
deriving DecidableEq, Repr

/-- An engine-port tile in progress (R383–R389). -/
structure EpTile where
  cmdDva : Nat
  ctx : Nat
  ctx1 : Nat
  a0 : Nat
  out0 : Nat
  a1 : Nat
  out1 : Nat
  rows : Nat
  rbytes : Nat
  obytes : Nat
  split : Bool
  ain : Bool
  astride : Nat
  ostride : Nat
  /-- Masked rows of each lane, bit i for row i. -/
  mask0 : Nat
  mask1 : Nat
  /-- Rows fed, counted over both lanes in feed order (R386). -/
  fed : Nat
  /-- Feeding has ended and EA_TB_REQ is asserted. -/
  tbReq : Bool
  /-- Output rows returned by each lane. -/
  ret0 : Nat
  ret1 : Nat
  fault0 : Bool
  fault1 : Bool
  /-- Rows of lane 0 whose write-back is suppressed by a failed fetch (R389). -/
  skip : List Nat
  bad : Bool
  arrErr : Bool
deriving DecidableEq, Repr
/-! ### Clocks, voltage and the logbook (chapter 13) -/

/-- The clock a domain runs from, its divider, and a normal switch in progress to another source and divider (R337, R338). -/
structure DomNow where
  src : Nat
  div : Nat
  forced : Bool
  next : Option (Nat × Nat)
deriving DecidableEq, Repr

/-- Where a transition of an island stands (R343, R344). -/
inductive IslPh where
  | idle
  /-- A lowering of a stack island waits for the reduced budgets (R288). -/
  | budgets
  /-- The voltage of the target has been written and settles; the frequency follows. -/
  | raising
  /-- The frequency change is armed or launched. -/
  | frequency (up : Bool)
  /-- The voltage of the point reached has been written and settles. -/
  | lowering
  /-- The rail was not accepted: in a raising, or not. -/
  | failed (up : Bool)
deriving DecidableEq, Repr

/-- An island (R341, R343, R345). -/
structure Isl where
  ph : IslPh
  /-- The point of the transition, and the voltage written for it. -/
  dest : Nat
  mv : Nat
  /-- Readbacks not accepted. -/
  tries : Nat
  /-- The thermal ceiling (R345). -/
  thermal : Nat
  /-- FMAX in MHz of the point of the transition, and of the point it left, as they were at its start (R342, R350). -/
  fmax : Nat
  held : Nat
  /-- A full chart has come since the transition started: the point reached is one of the old plan (R350). -/
  stale : Bool
deriving DecidableEq, Repr

/-- What the flash does for the logbook (R352, R354). -/
inductive LbOp where
  | idle
  /-- An erase of the sector, for the entry of the kind. -/
  | erase (sector kind : Nat)
  /-- The program of an entry of the kind. -/
  | entry (kind : Nat)
deriving DecidableEq, Repr

/-- A sector of the logbook: its erases and its STATE, and whether its header could not be read (R352). -/
structure Sector where
  erases : Nat
  state : Nat
  unread : Bool
deriving DecidableEq, Repr


/-! ### Tenancy and security (chapter 12) -/

/-- An SPDM session of a cove: its data secrets, and the keys derived from them (R313, R315). -/
structure Session where
  /-- FINISH has completed. -/
  up : Bool
  /-- The ECDHE ephemeral key of the exchange, until FINISH or a failure (R326). -/
  ecdhe : Option (BitVec 384)
  reqSecret : BitVec 384
  rspSecret : BitVec 384
  kh : BitVec 256
  kd : BitVec 256
deriving DecidableEq, Repr

/-- A bounce copy (R316, R317). -/
structure BxCopy where
  cove : Nat
  ctx : Nat
  dva : Nat
  host : Nat
  tag : Nat
  len : Nat
  /-- DIR 1, device to host. -/
  toHost : Bool
  event : Option (Nat × Nat)
  /-- Chunks moved. -/
  next : Nat
  /-- The bounce engine that runs it. -/
  engine : Option Nat
  /-- The session it was accepted under has ended (R315, R319). -/
  orphan : Bool
deriving DecidableEq, Repr

/-- A migration operation with the registers its write has latched (R320–R322). -/
structure MigOp where
  op : Nat
  host : Nat
  tag : Nat
  page : Nat
  count : Nat
  len : Nat
deriving DecidableEq, Repr

/-! ### Lifecycle, reset and JTAG (chapters 14, 15) -/

/-- A cause of a fabric reset (R375, FAB_RST_CAUSE). -/
inductive RstCause where
  | por | pin
  | soft (reload : Bool)
  | pfFlr | link
  | cpShared (cove : Nat)
  | slack
deriving DecidableEq, Repr

/-- The fuses a lifecycle transition may blow: T[3:0] and the two masks (R357). -/
structure Fuses where
  t : Nat
  uidMask : Bool
  fwkMask : Bool
deriving DecidableEq, Repr

/-- The firmware image MG has loaded: slot, SVN, the lifecycle state sensed at its boot, and its header bytes 0–127 (R314,
R324, R335). -/
structure FwImage where
  slot : Nat
  svn : Nat
  life : Nat
  header : List Byte
deriving DecidableEq, Repr

/-- A capability of the SPDM profile (R313). -/
inductive SpdmCap where
  | cert | chal | measSigned | keyEx | encrypt | mac | keyUpd | hbeat
deriving DecidableEq, Repr

/-- An algorithm of the SPDM profile (R313). -/
inductive SpdmAlg where
  | ecdsaP384 | sha384 | ecdheP384 | aes256Gcm | keySchedule
deriving DecidableEq, Repr

/-- An answer of the SPDM responder (R313, R314). -/
inductive SpdmResp where
  /-- An ERROR response. -/
  | sessionLimitExceeded | busy | unsupported | sessionRequired | unspecified
  /-- The versions, the capabilities and the algorithms of the profile. -/
  | version (minor : List Nat) | capabilities (l : List SpdmCap) | algorithms (l : List SpdmAlg)
  /-- The digest of the certificate chain of slot 0, the chain, and the signature of a challenge. -/
  | digests (sha : List Byte) | certificate (chain : List Byte) | challenge (sign : BitVec 768)
  /-- Measurements, index and content, and the signature over them. -/
  | measurements (l : List (Nat × List Byte)) (sign : BitVec 768)
  /-- The session opens, with the heartbeat period offered in seconds. -/
  | keyExchange (heartbeat : Nat)
  | finish | keyUpdated | heartbeat | ended
deriving DecidableEq, Repr

/-! ### What leaves the block -/

/-- The levels the fabric drives on the pins of R374 and R394. -/
structure Pins where
  nmiOut : Bool
  ibRdy : Bool
  flCsN : Bool
  /-- BEACON_IRQ, a bit for each line. -/
  irq : BitVec 64
  /-- ARR_RST_N, a bit for each engine port. -/
  arrRstN : BitVec 128
  /-- CP_RST_N, a bit for each command processor. -/
  cpRstN : BitVec 16
deriving DecidableEq, Repr

/-- Something the block has sent out: a host-bus access, a message, a completion, a signal. -/
inductive Out where
  /-- A posted write of control traffic on the host bus, with the identity of a function (R149, R239, R304). -/
  | hostWrite (fn addr : Nat) (bytes : List Byte)
  /-- A read request on the host bus with the identity of a function, whose data a command brings (R51, R140, R304). -/
  | hostRead (fn addr len : Nat)
  /-- An MSI-X message of a function: 0 physical, n+1 virtual (R297). -/
  | msix (fn vector : Nat)
  /-- The data of a register read over the host link (R7). -/
  | regData (q : Requester) (v : Word)
  /-- An Unsupported Request completion (R7). -/
  | unsupported (q : Requester)
  /-- The completion of transfer `id` returned to its client (R144). -/
  | xferDone (id : Nat) (r : Resp)
  /-- A held transfer's replay or a miss asks the client to wait: nothing returned. -/
  | slateFull (tide : Nat)
  /-- A 2 µs attention pulse on IB_RDY (R300). -/
  | ibPulse
  /-- The status of a submission of cove `c`'s command processor (R393). -/
  | cpStatus (c status : Nat)
  /-- The result of a lookup (R230, R392). -/
  | cpLookup (c status addr size : Nat)
  /-- An event result on the event port: KIND, TAG, VALUE (R392). -/
  | cpEvent (c kind tag value : Nat)
  /-- A doorbell write forwarded to the command processor (R235). -/
  | doorbell (c queue : Nat) (data : Word)
  /-- A clear request to the array of a port (R390). -/
  | eaClr (port : Nat)
  /-- A command beat to the array of a port (R382, R386). -/
  | eaCmd (port : Nat) (beat : BitVec 128)
  /-- A row fed to the array, with the tag's lane, row, context and ZERO (R382, R387). -/
  | eaFeed (port : Nat) (lane : Bool) (row ctx : Nat) (zero : Bool) (bytes : List Byte)
  /-- EA_TB_REQ asserted (R386). -/
  | eaTbReq (port : Nat)
  /-- A scratchpad line written, or a read of one asked for (R382). -/
  | eaSp (port ofs : Nat) (data : Option Line)
  /-- ARR_RST_N driven low for 64 cycles (R390). -/
  | arrReset (port : Nat)
  /-- A voltage in mV written to an island's rail over AVSBus (R340, R343). -/
  | avsWrite (rail : BitVec 4) (mv : Nat)
  /-- The output power read over PMBus at the address of an island's regulator (R340, R346). -/
  | pmbRead (addr : BitVec 7)
  /-- A sector of the flash erased (R352). -/
  | flashErase (sector : Nat)
  /-- Bytes programmed in the flash (R352, R354). -/
  | flashProgram (addr : Nat) (bytes : List Byte)
  /-- A refresh of a stack at a rate (R103). -/
  | refresh (stack rate : Nat)
  /-- A PHY update granted (R398). -/
  | phyGrant (stack : Nat)
  /-- The FLR of a virtual function is complete (R311). -/
  | flrDone (cove : Nat)
  /-- CP_RST_N of a command processor driven low, or released (R394). -/
  | cpReset (cove : Nat) (low : Bool)
  /-- Cove data written on HL1 under the identity of a function (R304). -/
  | hostData (fn addr : Nat) (bytes : List Byte)
  /-- The answer to an SPDM request on a cove's mailbox (R303, R313, R314). -/
  | spdm (cove : Nat) (r : SpdmResp)
  /-- The result of an Ibpin frame: STATUS, and the data of a read with STATUS 0 (R378, R380). -/
  | ibResult (status : Nat) (data : Option Word)
  /-- A register access completed with Completer Abort (R376). -/
  | completerAbort (q : Requester)
  /-- The bits a selected JTAG data register presents (R363). -/
  | tdo (width : Nat) (value : Nat)
  /-- A scan segment or an array shifted out (R364). -/
  | scanOut (bits : List Bool)
  /-- The answer of the memory instrument: ERR, and 80 bytes for a read (R364, R366). -/
  | memInstr (err : Bool) (data : List Byte)
  /-- The internal reset asserted, and released (R376). -/
  | internalReset (asserted : Bool)
  /-- The DFI of a stack changed to a frequency in kHz (R343, R398). -/
  | dfiFreq (stack khz : Nat)
  /-- The levels the pins take as a reset begins and ends (R374). -/
  | pins (p : Pins)
  /-- The output cells that EXTEST drives from the boundary-scan register (R363). -/
  | boundary (cells : List Bool)
deriving DecidableEq, Repr

/-! ### The whole state -/

/-- Ownership, the chart in force and the chart being loaded (chapters 01, 02). -/
structure PlanSt where
  coves : Tbl CoveDesc
  /-- Owner cove of an assignable unit, keyed `kind * 4096 + index` with the kinds of the resource record (R15). -/
  owner : Tbl Nat
  gran : Tbl Gran
  /-- Fences, keyed as `owner`, and `0x10000 + g` for granule `g` (R55). -/
  fence : Tbl Fence
  /-- Bytes stored in the staging buffer (R51). -/
  staging : List Byte
  apply : Option Apply
  fills : List (ZFill × FillFor)
  /-- Coves whose parameters change at their next tide edge, with the new descriptor (R65). -/
  newDesc : Tbl CoveDesc
  newShares : Tbl Share
  xaKhz : Nat
  xbKhz : Nat
  loops : Tbl LoopPlan
  doms : Tbl DomPlan
  /-- Tidepool bank clocks of D80–D87 (R42). -/
  tpDoms : Tbl DomPlan
  /-- Operating points, keyed `island * 8 + op` (R43). -/
  ops : Tbl OpPoint
  /-- Shares, keyed `cove * 8 + island` (R44). -/
  shares : Tbl Share
  /-- STATES and FW_MIN of the running full chart (R45 and the lifecycle constraints record). -/
  life : Option (Nat × Nat)
  /-- Device number of the running full chart (R27). -/
  devno : Nat
  /-- An image in SOUNDING waits for start-up to end (R335). -/
  soundHeld : Bool
deriving DecidableEq, Repr

/-- Tide masters, taps and arming (chapter 03). -/
structure TideSt where
  masters : Tbl Master
  taps : Tbl Tap
  /-- Calibration figures, keyed `tap * 32 + source` (R78). -/
  cal : Tbl TapCal
  armReqs : List ArmReq
  reports : List SlateReport
deriving DecidableEq, Repr

/-- Stacks, keys and tidepool (chapter 04). -/
structure MemSt where
  /-- Stored lines, keyed `stack * 2^30 + line`; an absent line is zero (R104). -/
  lines : Tbl RawLine
  /-- Metadata caches by `stack * 512 + set` (R105). -/
  mdc : Tbl (List MdcEnt)
  kids : Tbl Kid
  keys : Tbl (BitVec 256)
  kr : Tbl KeyRange
  /-- Ranges whose re-key waits for a Free KID, in the order they started (R115). -/
  rekeyQ : List Nat
  /-- Ranges being swept, and Retired KIDs being verified, in the order that work arrived (R213). -/
  sweepQ : List Nat
  verifyQ : List Nat
  /-- Severity reports of the on-die ECC, by stack (R103). -/
  onDie : Tbl Nat
  /-- Command slots since a BG request was last served, keyed `stack * 32 + pseudo-channel` (R280). -/
  bgSlots : Tbl Nat
  /-- Tidepool words, keyed `bank * 32768 + word` (R127). -/
  tpw : Tbl TpWord
  /-- Written bits, keyed `bank * 4096 + line` (R128). -/
  tpWritten : Tbl Bool
deriving DecidableEq, Repr

/-- Translation, transfers, invalidations and dirty log (chapter 05). -/
structure XlSt where
  tlb : Tbl (List Leaf)
  l2 : Tbl (List Leaf)
  wc : Tbl (List WalkEnt)
  missq : List Miss
  walks : Tbl Walk
  nextWalk : Nat
  xfers : Tbl Xfer
  nextXfer : Nat
  /-- Transactions that the controllers have received (R101). -/
  nextOrder : Nat
  invs : Tbl (List Inv)
  dlc : List DirtyLine
  /-- Marks that wait for room in the cache, oldest first (R158). -/
  dlWait : List DirtyLine
  /-- Toggles of each cove's dirty-log epoch, of which the register shows the parity (R157, R159). -/
  dlEpochs : Tbl Nat
  /-- SEQ of each cove's wrack queue (R150). -/
  wqSeq : Tbl Nat
deriving DecidableEq, Repr

/-- The beacon (chapter 11). -/
structure BcSt where
  srcs : Tbl Src
  tgts : Tbl Tgt
  /-- Groups whose hold-off timer runs (R293). -/
  running : Tbl Bool
  /-- Targets whose message waits because the beacon stands still (R302). -/
  unsent : List Nat
deriving DecidableEq, Repr

/-- Levels the outside presents to the block. -/
structure EnvSt where
  /-- The host bus answers the block's writes with an error (R154, R239). -/
  hostWriteFails : Bool
  /-- MSI-X table size the host link controller reports, by function (R297, R396). -/
  msixSize : Tbl Nat
  /-- Stacks whose link fails every transfer and its retries (R103). -/
  linkFails : Tbl Bool
  /-- Stacks whose on-die ECC reports a severity with each read (R103). -/
  onDieSev : Tbl Bool
  /-- The command processors whose CP_IDLE is high (R392, R394). -/
  cpIdle : Tbl Bool
  /-- Max_Payload_Size in bytes as the host link controller reports it (R396). -/
  maxPayload : Nat
  /-- Levels at the input cells of the boundary-scan register (R363). -/
  pinIn : Tbl Bool
deriving DecidableEq, Repr

/-- Clocks and islands (chapter 13). -/
structure CkSt where
  /-- Domains, and at `128 + k` the tidepool clock of D(80+k). -/
  doms : Tbl DomNow
  /-- MULT a loop slews to (R342). -/
  goal : Tbl Nat
  /-- Consecutive gates of a source outside its window: 0 XA, 1 XB, 2 FIO, 3 SIO, 4–9 the loops (R336). -/
  badGates : Tbl Nat
  /-- Loops whose next gate after a slew is not judged (R336). -/
  grace : Tbl Bool
  isls : Tbl Isl
  /-- Sensor ratios last measured (R347). -/
  ratios : Tbl Nat
  /-- A replan is asked for (R348). -/
  replan : Bool
  /-- Powered seconds at the next drift measurement (R348). -/
  nextMeas : Nat
  /-- Stacks whose contents a lost clock has lost (R338). -/
  lost : List Nat
  /-- Loops 0–5 that have failed, until a full chart or a fabric reset (R336); 8 an XA that start-up found stopped (R334). -/
  failed : List Nat
  /-- Stacks in self-refresh for a frequency change, and the frequency in kHz their DFI was last set to (R343, R398). -/
  changing : List Nat
  dfi : Tbl Nat
deriving DecidableEq, Repr

/-- The logbook (chapter 13). Its counters are 0–25 of R353, copies of LB_CNT. -/
structure LbSt where
  op : LbOp
  /-- Kinds of entries that wait to be written, oldest first. -/
  queue : List Nat
  sectors : Tbl Sector
  /-- Entries written in the open sector. -/
  used : Nat
  /-- POWERED_S at the last replan, and at the last periodic entry. -/
  replanS : Nat
  entryS : Nat
  /-- An error has been seen since the last entry. -/
  seen : Bool
  /-- UTC seconds as counted (R356). -/
  utc : Nat
  /-- The kept counters as the last fabric reset found them, by the counter's offset (R351, R355). -/
  base : Tbl Nat
deriving DecidableEq, Repr

/-- Reset, clock gating and slack (chapters 14, 15). -/
structure LcSt where
  /-- The internal reset is asserted (R376). -/
  inReset : Bool
  /-- Domains a slack wave has gated (R368). -/
  stopped : Tbl Bool
  /-- Causes that have asked for a fabric reset not yet begun (R376). -/
  want : List RstCause
  /-- Causes recorded for a reset that waits for the fuse programmer (R376). -/
  noted : List RstCause
  /-- Whether the present reset was asked for with RELOAD (R335). -/
  reload : Bool
  /-- The start-up step in progress, 12 when start-up has ended (R334). -/
  boot : Nat
  fuses : Fuses
  /-- Codes of the transitions whose fuses are being programmed, the running one first (R359, R360). -/
  prog : List Nat
  image : Option FwImage
  /-- Stacks in self-refresh for a freeze (R103, R368). -/
  sr : List Nat
  /-- T0 + 2 µs has passed (R368). -/
  srDue : Bool
  /-- The JTAG instruction in force (R363). -/
  ir : Nat
  /-- The update stage of the boundary-scan register (R363). -/
  bsr : List Bool
  /-- Data flops of each domain's scan segment as the freeze has shown or written them (R364). -/
  flops : Tbl (List Bool)
  /-- Control flops that no other field holds, keyed `domain * 2^32 + place` (R364). -/
  ctlFlops : Tbl Nat
  /-- Row, read and bounce buffers as the freeze has shown or written them, keyed `unit * 2^14 + line` (R364). -/
  bufs : Tbl Line
deriving DecidableEq, Repr

/-- Objects, queues, events, graphs and context slots (chapter 08). -/
structure ObSt where
  heads : Tbl ObHeads
  /-- Entries of each cove's lookup port, most recently used first (R230). -/
  lookups : Tbl (List (Nat × ObjEnt))
  /-- Queues, keyed `cove * 64 + queue`. -/
  queues : Tbl Queue
  nextEntry : Nat
  waits : Tbl (List EvWait)
  rings : Tbl (List RingRec)
  /-- Graph slots, keyed `cove * 256 + slot`. -/
  graphs : Tbl GraphSlot
  /-- Context slots in use, most recently used first (R222). -/
  slots : List CtxSlot
  /-- Contexts that wait for a slot, longest first. -/
  waiters : List (Nat × Nat)
  /-- KILLED contexts, keyed `cove * 4096 + context`. -/
  killed : Tbl Bool
deriving DecidableEq, Repr

/-- The scheduler and the engines' tiles (chapter 09). -/
structure SqSt where
  steps : Tbl Step
  nextStep : Nat
  nextSeq : Nat
  nextGroup : Nat
  /-- Released entries, by cove and queue in the order of release. -/
  runs : List Run
  /-- Start groups and preemption entries by cove. -/
  starts : Tbl Group
  preempts : Tbl Group
  /-- Engines with a tile, by unit identifier (R30). -/
  engines : Tbl Eng
  /-- The step that occupies an engine port, with the time its hold began (R254, R264). -/
  ports : Tbl (Nat × Nat)
  /-- Preemptions whose switch time is still to be taken, by preempting step (R268). -/
  switching : Tbl Switch
deriving DecidableEq, Repr

/-- The engines' own state (chapters 06, 07, 15). -/
structure EnSt where
  gp : Tbl Gather
  tu : Tbl Delta
  rm : Tbl Mover
  tk : Tbl Ranker
  ep : Tbl EpTile
  /-- Bound table slots, keyed `cove * 64 + slot`. -/
  slots : Tbl TSlot
  bind : Option Bind
  flips : Tbl Flip
  /-- Arena slots in limbo by table update engine (R206). -/
  limbo : Tbl (List Limbo)
  /-- Last tide edge whose drain a shoal pair has acknowledged (R206). -/
  drained : Tbl Nat
  moves : List Move
  nextMove : Nat
  /-- Input buffers of the edge agents, keyed `port * 16384 + line` (R385). -/
  inbuf : Tbl Line
  /-- Deliveries on their way, oldest first (R385). -/
  deliver : List Delivery
  /-- Ports out of service: 1 a clear runs, 2 it has failed (R390, R391). -/
  clearing : Tbl Nat
  /-- Lines of a unit's present work that are issued and charged while the rest waits for credit (R275, R278). -/
  issued : Tbl Nat
deriving DecidableEq, Repr

/-- Sessions, bounce copies, migration and cove resets (chapters 12, 15). -/
structure SecSt where
  sessions : Tbl Session
  /-- Copies accepted and not ended, oldest first. -/
  copies : List BxCopy
  mig : Tbl MigOp
  /-- Coves whose reset follows their quiesce by itself: an FLR or a hang (R311, R394). -/
  auto : Tbl Bool
  /-- Coves with an FLR not completed (R311). -/
  flr : Tbl Bool
  /-- Hangs not yet acted on: of cove c, at c one whose reset waits for an apply, at 16 + c one of the slack, with CP_HANG_SH (R395). -/
  hangs : Tbl Bool
  /-- Command processors held in reset (R394). -/
  cpRst : Tbl Bool
  /-- Ranges whose fresh KID a scrub waits for (R310). -/
  scrubQ : List Nat
  /-- An SVN being fused (R325). -/
  commit : Option Nat
  /-- The device identity key that MG holds (R326). -/
  devKey : Option (BitVec 384)
deriving DecidableEq, Repr

/-- The machine. -/
structure State where
  /-- The commands that wait, first in first out. -/
  pending : List Instr
  /-- Counter the free values are drawn with; the model's own. -/
  freeCtr : Nat
  /-- What the block has sent out, newest first; the model's own. -/
  out : List Out
  /-- Register fields, keyed `offset * 32 + low bit`; an absent field holds its reset value (R7, R9). -/
  flds : Tbl Nat
  /-- 64-bit counters, keyed by the offset of the low word; absent is zero (R12). -/
  ctrs : Tbl Nat
  /-- High words latched for a requester (R12). -/
  latches : Tbl Nat
  plan : PlanSt
  tide : TideSt
  mem : MemSt
  xl : XlSt
  /-- Regulators 0–255 (R16). -/
  bw : Tbl Regul
  bc : BcSt
  env : EnvSt
  ck : CkSt
  lb : LbSt
  lc : LcSt
  ob : ObSt
  sq : SqSt
  en : EnSt
  sc : SecSt
deriving DecidableEq, Repr

/-- Why the machine stops with a fault: no rule of the spec stops the block, so there is no reason to name. -/
inductive Fault where
deriving DecidableEq, Repr

/-- Why a command is refused. -/
inductive Refusal where
  /-- The command of this mnemonic has no meaning in the model yet; raised by `exec` alone. Safe: the run stops. -/
  | notModelled (mnemonic : String)
deriving DecidableEq, Repr

/-- Ownership and charts at reset: no chart runs (R53). -/
def PlanSt.reset : PlanSt :=
  { coves := [], owner := [], gran := [], fence := [], staging := [], apply := none, fills := [],
    newDesc := [], newShares := [], xaKhz := 0, xbKhz := 0, loops := [], doms := [], tpDoms := [], ops := [],
    shares := [], life := none, devno := 0, soundHeld := false }

/-- Tides at reset: no master runs and no tap listens (R71, R74). -/
def TideSt.reset : TideSt := { masters := [], taps := [], cal := [], armReqs := [], reports := [] }

/-- The memory plane at reset: every KID Free, no range, nothing written (R104, R114). Log entry 4 (DESIGN CHOICE). -/
def MemSt.reset : MemSt :=
  { lines := [], mdc := [], kids := [], keys := [], kr := [], rekeyQ := [], sweepQ := [], verifyQ := [], onDie := [], bgSlots := [], tpw := [],
    tpWritten := [] }

/-- Translation at reset: nothing cached, nothing in flight. -/
def XlSt.reset : XlSt :=
  { tlb := [], l2 := [], wc := [], missq := [], walks := [], nextWalk := 0, xfers := [], nextXfer := 0, nextOrder := 0,
    invs := [], dlc := [], dlWait := [], dlEpochs := [], wqSeq := [] }

/-- The beacon at reset. -/
def BcSt.reset : BcSt := { srcs := [], tgts := [], running := [], unsent := [] }

/-- What the outside presents until it says otherwise: writes succeed. Log entry 9 (DESIGN CHOICE). -/
def EnvSt.reset : EnvSt :=
  { hostWriteFails := false, msixSize := [], linkFails := [], onDieSev := [], cpIdle := [], maxPayload := 128, pinIn := [] }

/-- Clocks at reset: FIO and SIO run, and nothing else is a running source yet (R329). -/
def CkSt.reset : CkSt :=
  { doms := [], goal := [], badGates := [], grace := [], isls := [], ratios := [], replan := false, nextMeas := 900, lost := [],
    failed := [], changing := [], dfi := [] }

/-- The logbook at reset: not open. Log entries 1 (DESIGN CHOICE), 4 (DESIGN CHOICE). -/
def LbSt.reset : LbSt := { op := .idle, queue := [], sectors := [], used := 0, replanS := 0, entryS := 0, seen := false, utc := 0, base := [] }

/-- Reset and slack state at reset: out of reset, nothing gated. Log entries 1 (DESIGN CHOICE), 3 (DESIGN CHOICE). -/
def LcSt.reset : LcSt :=
  { inReset := false, stopped := [],
    want := [], noted := [], reload := false, boot := 2, fuses := ⟨0, false, false⟩, prog := [], image := none, sr := [], srDue := false,
    ir := 2, bsr := [], flops := [], ctlFlops := [], bufs := [],
  }

/-- Objects at reset. -/
def ObSt.reset : ObSt :=
  { heads := [], lookups := [], queues := [], nextEntry := 0, waits := [], rings := [], graphs := [], slots := [],
    waiters := [], killed := [] }

/-- The scheduler at reset. -/
def SqSt.reset : SqSt :=
  { steps := [], nextStep := 0, nextSeq := 0, nextGroup := 0, runs := [], starts := [], preempts := [], engines := [],
    ports := [], switching := [] }

/-- The engines at reset. -/
def EnSt.reset : EnSt :=
  { gp := [], tu := [], rm := [], tk := [], ep := [], slots := [], bind := none, flips := [], limbo := [], drained := [],
    moves := [], nextMove := 0, inbuf := [], deliver := [], clearing := [], issued := [] }

/-- Tenancy and security at reset: no session and no copy. -/
def SecSt.reset : SecSt :=
  { sessions := [], copies := [], mig := [], auto := [], flr := [], hangs := [], cpRst := [], scrubQ := [], commit := none, devKey := none }

/-- The machine right after a power-on reset, which the logbook counts 0 and 1 have counted (R353).
Log entries 1 (DESIGN CHOICE), 2 (DESIGN CHOICE), 3 (DESIGN CHOICE), 4 (DESIGN CHOICE), 47 (DESIGN CHOICE). -/
def State.reset : State :=
  { pending := [], freeCtr := 0, out := [], flds := [], ctrs := [(0x610024, 1), (0x610024 + 2 ^ 32, 1)], latches := [],
    plan := PlanSt.reset, tide := TideSt.reset, mem := MemSt.reset, xl := XlSt.reset, bw := [],
    bc := BcSt.reset, env := EnvSt.reset,
    ck := CkSt.reset, lb := LbSt.reset,
    lc := LcSt.reset,
    ob := ObSt.reset, sq := SqSt.reset,
    en := EnSt.reset,
    sc := SecSt.reset,
  }

end Sys2Proof.Machine
end

