-- ==== Sys2Proof/Machine/Table.lean ====
section
/-!
DEFINITION. Lookup and update of finite tables. A table's keys rise strictly; `tsetD` keeps no entry equal to the
default its key reads as, so that equal contents are equal data.
-/
namespace Sys2Proof.Machine

variable {α : Type}

/-- The entry at `k`, if listed. -/
def tfind : Tbl α → Nat → Option α
  | [], _ => none
  | (j, v) :: t, k => if j = k then some v else tfind t k

/-- The entry at `k`, or the default. -/
def tgetD (t : Tbl α) (k : Nat) (d : α) : α := (tfind t k).getD d

/-- The table with `v` at `k`, in key order. -/
def tput : Tbl α → Nat → α → Tbl α
  | [], k, v => [(k, v)]
  | (j, w) :: t, k, v =>
    if k < j then (k, v) :: (j, w) :: t
    else if k = j then (k, v) :: t
    else (j, w) :: tput t k v

/-- The table without an entry at `k`. -/
def tdel : Tbl α → Nat → Tbl α
  | [], _ => []
  | (j, w) :: t, k => if j = k then t else (j, w) :: tdel t k

/-- The table reading `v` at `k`, where an absent entry reads `d`. -/
def tsetD [DecidableEq α] (t : Tbl α) (k : Nat) (d v : α) : Tbl α :=
  if v = d then tdel t k else tput t k v

/-- The table with the entry at `k` changed, if listed. -/
def tmod (t : Tbl α) (k : Nat) (f : α → α) : Tbl α :=
  match tfind t k with
  | some v => tput t k (f v)
  | none => t

/-- Whether `k` is listed. -/
def thas (t : Tbl α) (k : Nat) : Bool := (tfind t k).isSome

/-- Keys rise strictly. -/
def Tbl.sorted : Tbl α → Bool
  | [] => true
  | [_] => true
  | (j, _) :: (k, w) :: t => decide (j < k) && Tbl.sorted ((k, w) :: t)

/-- A table in canonical form: keys strictly rising and no entry equal to the default of its key. -/
def Tbl.wf [DecidableEq α] (d : Nat → α) (t : Tbl α) : Bool :=
  Tbl.sorted t && t.all (fun e => decide (e.2 ≠ d e.1))

end Sys2Proof.Machine
end

