-- ==== Sys2Proof/Machine/Ops.lean ====
section
/-!
DEFINITION. The shared operations: register fields, 64-bit counters, outputs, free values, owners, tags and the
conditions under which a unit runs.
-/
namespace Sys2Proof.Machine

/-- The answer of a command. -/
abbrev Ans := Host.Outcome State Fault Refusal

/-! ### Register fields and counters -/

/-- The key of a field. -/
def Fld.key (f : Fld) : Nat := f.off * 32 + f.lo

/-- The value a field holds. -/
def fld (s : State) (f : Fld) : Nat := tgetD s.flds f.key f.rst

/-- A one-bit field as a truth value. -/
def flag (s : State) (f : Fld) : Bool := fld s f != 0

/-- The state with a field set, cut to the field's width. -/
def setFld (s : State) (f : Fld) (v : Nat) : State :=
  { s with flds := tsetD s.flds f.key f.rst (v % 2 ^ f.w) }

/-- The state with a one-bit field set. -/
def setFlag (s : State) (f : Fld) (b : Bool) : State := setFld s f (b2n b)

/-- The largest value of a 64-bit counter (R13). -/
def maxCtr : Nat := 2 ^ 64 - 1

/-- A 64-bit counter, by the offset of its low word (R12). -/
def ctr (s : State) (c : Nat) : Nat := tgetD s.ctrs c 0

/-- The state with a counter set. -/
def setCtr (s : State) (c v : Nat) : State := { s with ctrs := tsetD s.ctrs c 0 (v % 2 ^ 64) }

/-- The state with `n` added to a counter, which stops at all ones (R13). -/
def addCtr (s : State) (c n : Nat) : State := setCtr s c (min (ctr s c + n) maxCtr)

/-- The state with a counter advanced by one. -/
def incCtr (s : State) (c : Nat) : State := addCtr s c 1

/-- Whether CP_RST_N of a command processor is low: its requests are not accepted (R374, R394, R395). -/
def cpInReset (s : State) (c : Nat) : Bool := s.lc.inReset || thas s.sc.cpRst c

/-- A lifetime counter of the logbook, shown through LB_CNT_SEL (R353). -/
def lbCtr (i : Nat) : Nat := C.LB_CNT + 2 ^ 32 * i

/-- Whether a counter is kept for the life of the part: those of R353, and the powered seconds. -/
def isLifetime (c : Nat) : Bool := c % 2 ^ 32 == C.LB_CNT || c == C.LB_POWERED

/-- Advance a lifetime counter; words corrected or uncorrectable are noted for the next entry (R353). Log entry 47 (DESIGN CHOICE). -/
def lbAdd (s : State) (i n : Nat) : State :=
  let s := addCtr s (lbCtr i) n
  if i = 10 ∨ i = 11 then { s with lb := { s.lb with seen := true } } else s

/-- The value of two 32-bit fields, low word first. -/
def fld64 (s : State) (lo hi : Fld) : Nat := fld s lo + 2 ^ 32 * fld s hi

/-- The state with two 32-bit fields set from one value. -/
def setFld64 (s : State) (lo hi : Fld) (v : Nat) : State := setFld (setFld s lo v) hi (v / 2 ^ 32)

/-! ### Outputs and free values -/

/-- The state with one more thing sent out. Log entry 9 (DESIGN CHOICE). -/
def emit (s : State) (o : Out) : State := { s with out := o :: s.out }

/-- A free value of `w` bits and the state with the counter it was drawn with advanced. Log entry 2 (DESIGN CHOICE). -/
def drawFree (s : State) (w : Nat) : BitVec w × State :=
  (Config.freeValue s.freeCtr w, { s with freeCtr := s.freeCtr + 1 })

/-- A write of control traffic on the host bus, under the physical function's identity; the flag says that it completed without error (R154, R239).
Log entry 9 (DESIGN CHOICE). -/
def hostWrite (s : State) (addr : Nat) (bytes : List Byte) : Bool × State :=
  (!s.env.hostWriteFails, if s.env.hostWriteFails then s else emit s (.hostWrite 0 (addr % 2 ^ 64) bytes))

/-- Reads of control traffic on the host bus, of at most 4 KiB each, under the physical function's identity (R304, R396).
Log entry 9 (DESIGN CHOICE). -/
def hostRead (s : State) (addr len : Nat) : State :=
  (List.range ((len + 4095) / 4096)).foldl
    (fun s i => emit s (.hostRead 0 ((addr + 4096 * i) % 2 ^ 64) (min 4096 (len - 4096 * i)))) s

/-! ### Requesters, units, owners -/

/-- The unit identifier of a requester (R30). -/
def qUnit : Requester → Nat
  | .ibpin => 0xD000
  | .pf => 0x8000
  | .vf c => 0x8001 + c.val

/-- A number for each requester, to key its read latches with (R12). -/
def qIdx : Requester → Nat
  | .ibpin => 0
  | .pf => 1
  | .vf c => 2 + c.val

/-- Whether a requester acts under the management tag (R17). -/
def qMgmt : Requester → Bool
  | .vf _ => false
  | _ => true

/-- The tag of management (R18). -/
def mgmtTag : Nat := 16

/-- Whether a cove exists (R14). -/
def coveExists (s : State) (c : Nat) : Bool := thas s.plan.coves c

/-- Key of an assignable unit in the owner table and the fence table: the resource record's kind and the index. -/
def resKey (kind idx : Nat) : Nat := kind * 4096 + idx
/-- Key of a granule in the fence table. -/
def granKey (g : Nat) : Nat := 0x10000 + g

/-- Resource kinds (R36). -/
abbrev kEP := 1
abbrev kSH := 2
abbrev kRM := 3
abbrev kTU := 4
abbrev kTK := 5
abbrev kBank := 6
abbrev kTgt := 7

/-- Number of instances of a resource kind (R15). -/
def kindCount : Nat → Nat
  | 1 => 128 | 2 => 32 | 3 => 16 | 4 => 8 | 5 => 8 | 6 => 512 | 7 => 64 | _ => 0

/-- The owner of a resource (R15). -/
def ownerOf (s : State) (kind idx : Nat) : Option Nat := tfind s.plan.owner (resKey kind idx)

/-- A granule of the map; free when not listed (R37). -/
def granOf (s : State) (g : Nat) : Gran := tgetD s.plan.gran g ⟨31, 0, 0, 0⟩

/-- Whether a fence on a key is complete, or running (R55). -/
def isFenced (s : State) (k : Nat) : Bool := tfind s.plan.fence k == some .fenced
/-- Whether a fence on a key has been requested and not lifted (R55). -/
def fenceOn (s : State) (k : Nat) : Bool := thas s.plan.fence k

/-- The resource kind and index of the unit an R30 identifier names, when it is assignable:
a shoal engine and a dedup slice stand for their pair (R15, R55). -/
def unitRes (u : Nat) : Option (Nat × Nat) :=
  let i := u % 4096
  match u / 4096 with
  | 0 => if i < 128 then some (kEP, i) else none
  | 1 => if i < 64 then some (kSH, i / 2) else none
  | 2 => if i < 32 then some (kSH, i) else none
  | 3 => if i < 16 then some (kRM, i) else none
  | 4 => if i < 8 then some (kTU, i) else none
  | 5 => if i < 8 then some (kTK, i) else none
  | 0xA => if i < 512 then some (kBank, i) else none
  | _ => none

/-- The owner of the unit an identifier names (R15). -/
def unitOwner (s : State) (u : Nat) : Option Nat :=
  match unitRes u with
  | some (k, i) => ownerOf s k i
  | none => none

/-- The translation client of a unit, numbered as its tide tap; bounce engines 192–195, sweep engines 196–227 (R138). -/
def unitClient (u : Nat) : Option Nat :=
  let i := u % 4096
  match u / 4096 with
  | 0 => if i < 128 then some i else none
  | 1 => if i < 64 then some (128 + i / 2) else none
  | 2 => if i < 32 then some (128 + i) else none
  | 3 => if i < 16 then some (160 + i) else none
  | 4 => if i < 8 then some (176 + i) else none
  | 5 => if i < 8 then some (184 + i) else none
  | 6 => if i < 32 then some (196 + i) else none
  | 7 => if i < 4 then some (192 + i) else none
  | _ => none

/-- The regulator of a unit by its identifier alone; a dedup slice has none of its own (R16). -/
def unitReg (u : Nat) : Option Nat :=
  let i := u % 4096
  match u / 4096 with
  | 0 => if i < 128 then some i else none
  | 1 => if i < 64 then some (128 + i) else none
  | 3 => if i < 16 then some (192 + i) else none
  | 4 => if i < 8 then some (208 + i) else none
  | 5 => if i < 8 then some (216 + i) else none
  | 6 => if i < 32 then some (224 + i) else none
  | _ => none

/-- The start launch of the step of the gather on engine `n`, while the slice has a pass of it to build: entries remain, and no
pass is built that the engine has not begun (R171). -/
def sliceDue (s : State) (n : Nat) : Option Nat :=
  match tfind s.en.gp (0x1000 + n), tfind s.sq.engines (0x1000 + n) with
  | some g, some e => if g.next < g.cmd.nidx && g.ahead.isNone then (tfind s.sq.steps e.step).map (·.startAt) else none
  | _, _ => none

/-- The engine whose tile the dedup slice of a pair serves (R162, R171). -/
def sliceServes (s : State) (pair : Nat) : Option Nat :=
  match sliceDue s (2 * pair), sliceDue s (2 * pair + 1) with
  | some a, some b => some (if b < a then 2 * pair + 1 else 2 * pair)
  | some _, none => some (2 * pair)
  | none, some _ => some (2 * pair + 1)
  | none, none => none

/-- The regulator that meters a unit's traffic: a dedup slice's is that of the engine whose tile it serves (R16, R162). -/
def regOf (s : State) (u : Nat) : Option Nat :=
  if u / 4096 = 2 then (sliceServes s (u % 4096)).map (128 + ·) else unitReg u

/-- The tap, and the resource, behind a translation client below 192 (R74, R138). -/
def clientRes (cl : Nat) : Option (Nat × Nat) :=
  if cl < 128 then some (kEP, cl) else if cl < 160 then some (kSH, cl - 128)
  else if cl < 176 then some (kRM, cl - 160) else if cl < 184 then some (kTU, cl - 176)
  else if cl < 192 then some (kTK, cl - 184) else none

/-- The owner of the master a regulator meters: a cove, 16 the fabric for sweep engines, 31 none (R16). -/
def regOwner (s : State) (r : Nat) : Nat :=
  if r < 128 then (ownerOf s kEP r).getD 31
  else if r < 192 then (ownerOf s kSH ((r - 128) / 2)).getD 31
  else if r < 208 then (ownerOf s kRM (r - 192)).getD 31
  else if r < 216 then (ownerOf s kTU (r - 208)).getD 31
  else if r < 224 then (ownerOf s kTK (r - 216)).getD 31
  else 16

/-! ### When a unit runs -/

/-- Whether the units of a domain run: the internal reset is not asserted and no slack wave has gated it (R15, R368, R376).
Log entry 7 (DEDUCED). -/
def running (s : State) (d : Nat) : Bool := !s.lc.inReset && !thas s.lc.stopped d

/-- The clock domain of a tap (R74, R192). Log entry 7 (DEDUCED). -/
def tapDomain (t : Nat) : Nat :=
  if t < 128 then 64 + t / 8 else if t < 160 then 32 + (t - 128) else if t < 176 then 80 + (t - 160) / 2
  else if t < 184 then 80 + (t - 176) else if t < 192 then 80 + (t - 184)
  else if t < 288 then t - 192 else if t < 291 then t - 191 else 94

/-- The clock domain of a unit; a sweep engine runs in its stack's, bounce engine `b` in D(88+b) and the host link in HL0's
(R3, R192, R316, R330). Log entry 7 (DEDUCED). -/
def unitDomain (u : Nat) : Nat :=
  if u / 4096 = 6 then u % 4096 else if u / 4096 = 7 then 88 + u % 4096 else if u / 4096 = 8 then 92
  else match unitClient u with | some t => tapDomain t | none => 94

/-- The clock domain of a translation client: a unit's, a bounce engine's or a sweep engine's (R138, R192, R316). Log entry 7 (DEDUCED). -/
def clientDomain (cl : Nat) : Nat := if cl < 192 then tapDomain cl else if cl < 196 then 88 + (cl - 192) else cl - 196

/-- A command of a unit in domain `d` acts only while the domain runs; otherwise nothing changes. Log entries 6 (DESIGN CHOICE), 7 (DEDUCED). -/
def atDomain (s : State) (d : Nat) (s' : State) : Ans := .next (if running s d then s' else s)

/-- From the internal reset until start-up step 2 has ended, every register access ends with error status (R376). Log entry 12 (DEDUCED). -/
def resetting (s : State) : Bool := s.lc.inReset || decide (s.lc.boot ≤ 2)

/-- Whether slack has begun and not been released (R368). -/
def slackOn (s : State) : Bool := flag s F.SL_STATUS_STOPPING || flag s F.SL_STATUS_FROZEN

/-- Whether the host ports are closed (R368, R376). Log entry 12 (DEDUCED). -/
def hostClosed (s : State) : Bool := resetting s || slackOn s

/-- What an access of a requester gets while the ports are closed: an error completion in reset, STATUS 0x04 on Ibpin while
frozen, and nothing on the host link while frozen (R368, R376, R381). Log entries 11 (DESIGN CHOICE), 12 (DEDUCED). -/
def closedAccess (s : State) (q : Requester) : State :=
  if resetting s then emit s (if q = .ibpin then .ibResult 6 none else .completerAbort q)
  else if q = .ibpin then emit s (.ibResult 4 none)
  else s

/-- A register command of a requester over the host link or Ibpin acts only while the ports are open.
Log entries 10 (DESIGN CHOICE), 11 (DESIGN CHOICE). -/
def atHost (s : State) (q : Requester) (s' : State) : Ans := .next (if hostClosed s then closedAccess s q else s')

/-- A message over the host link that is no register access acts only while the ports are open. -/
def atLink (s : State) (s' : State) : Ans := .next (if hostClosed s then s else s')

/-- The lifecycle states (R357). -/
def isMaker (s : State) : Bool := fld s F.LC_STATE_STATE == 0
/-- Whether the present state is Maker or Integrator (R357). -/
def isMakerOrIntegrator (s : State) : Bool := fld s F.LC_STATE_STATE ≤ 1
/-- Whether the present state is Scrapped (R357). -/
def isScrapped (s : State) : Bool := fld s F.LC_STATE_STATE == 4

/-- The tide master of a cove, or the management tide at 16 (R70). -/
def masterOf (s : State) (m : Nat) : Master :=
  tgetD s.tide.masters m ⟨false, false, 0, 0, 0, none, [], [], 0, 0⟩

/-- The present count of a tide, which every stamp holds: the master's count, never a tap's (R92). Log entry 26 (DESIGN CHOICE). -/
def tideCount (s : State) (m : Nat) : Nat := (masterOf s m).count

end Sys2Proof.Machine
end

