-- ==== Sys2Proof/Machine/Beacon.lean ====
section
/-!
DEFINITION. The beacon: raising, hold-off, routing, withdrawal, delivery, claim and end of interrupt (chapter 11).
-/
namespace Sys2Proof.Machine

/-- A source at its reset settings (R292, BC_SRC_CFG). -/
def Src.init : Src := ⟨false, false, false, none, 0, 8, false, 63⟩
/-- A target at its reset settings (BC_TGT_CFG). -/
def Tgt.init : Tgt := ⟨0, false, 0, false⟩

/-- Source `i`. -/
def srcOf (s : State) (i : Nat) : Src := tgetD s.bc.srcs i Src.init
/-- Target `t`. -/
def tgtOf (s : State) (t : Nat) : Tgt := tgetD s.bc.tgts t Tgt.init
/-- The state with source `i` set. -/
def setSrc (s : State) (i : Nat) (v : Src) : State :=
  { s with bc := { s.bc with srcs := tsetD s.bc.srcs i Src.init v } }
/-- The state with target `t` set. -/
def setTgt (s : State) (t : Nat) (v : Tgt) : State :=
  { s with bc := { s.bc with tgts := tsetD s.bc.tgts t Tgt.init v } }

/-- Class of a source: 0 completion, 1 fault, 2 management, 3 reserved (R290, R291). -/
def srcClass (i : Nat) : Nat :=
  if i < 512 then
    let k := i % 32
    if k = 0 then 0 else if k ≤ 2 then 1 else if k < 16 then 3 else 0
  else if i ≤ 524 then 2
  else if 544 ≤ i && i < 592 then 2 else 3

/-- The cove of a source below 512 (R290). -/
def srcCove (i : Nat) : Nat := i / 32

/-- The owner of a target: a cove, or none for a management target (R294). -/
def tgtOwner (s : State) (t : Nat) : Option Nat := ownerOf s kTgt t
/-- Whether a target is fenced (R55, R296). -/
def tgtFenced (s : State) (t : Nat) : Bool := fenceOn s (resKey kTgt t)
/-- Whether a target delivers: EN with a MODE other than the reserved 3 (R297). -/
def tgtEn (s : State) (t : Nat) : Bool := (tgtOf s t).en && (tgtOf s t).mode != 3

/-- The request line of a target (R297). -/
def lineReq (s : State) (t : Nat) : Bool :=
  tgtEn s t && !tgtFenced s t &&
    s.bc.srcs.any (fun e => e.2.route == some t && e.2.pending && !e.2.held)

/-- Whether a source is released, waits for a target and has none (R295). -/
def unrouted (x : Src) : Bool := x.pending && !x.held && !x.active && x.en && x.route.isNone

/-- Whether some source is stranded: static, released and without a target (R295). -/
def anyStranded (s : State) : Bool :=
  s.bc.srcs.any (fun e => unrouted e.2 && (srcClass e.1 == 1 || srcClass e.1 == 2))

/-- Host attention on IB_RDY: a MODE 2 line asserted, or a stranded source (R300). Log entry 19 (DESIGN CHOICE). -/
def attention (s : State) : Bool :=
  (List.range 64).any (fun t => (tgtOf s t).mode == 2 && lineReq s t) || anyStranded s

/-- The function that serves a target (R297). -/
def tgtFunction (s : State) (t : Nat) : Nat := match tgtOwner s t with | some c => c + 1 | none => 0

/-- The MSI-X table size of a function, as the host link controller reports it (R297). Log entry 9 (DESIGN CHOICE). -/
def msixSize (s : State) (fn : Nat) : Nat := tgetD s.env.msixSize fn 2048

/-- Deliver a rise of target `t` by its MODE: an MSI-X message, or BADVEC (R297). -/
def sendLine (s : State) (t : Nat) : State :=
  let g := tgtOf s t
  if g.mode = 0 then
    let fn := tgtFunction s t
    if g.vector < msixSize s fn then emit s (.msix fn g.vector)
    else setTgt s t { g with badvec := true }
  else s

/-- A line rises: its message leaves at once, or waits while the beacon stands still in slack (R302, R370). -/
def riseLine (s : State) (t : Nat) : State :=
  if running s 94 then sendLine s t else { s with bc := { s.bc with unsent := s.bc.unsent ++ [t] } }

/-- Send what the beacon held (R302, R370). Log entry 19 (DESIGN CHOICE). -/
def sendUnsent (s : State) : State :=
  s.bc.unsent.foldl sendLine { s with bc := { s.bc with unsent := [] } }

/-- Whether IB_RDY may pulse (R300, R371). -/
def ibPulses (s : State) : Bool := !hostClosed s

/-- Delivery of every line that rose between two states, and of newly asserted attention (R297, R300). -/
def deliver (s0 s1 : State) : State :=
  let s2 := (List.range 64).foldl (fun s t => if lineReq s1 t && !lineReq s0 t then riseLine s t else s) s1
  if attention s1 && !attention s0 && ibPulses s1 then emit s2 .ibPulse else s2

/-- Find the first of `n` targets after `t`, wrapping, that satisfies `p`. -/
def nextTgt (p : Nat → Bool) : Nat → Nat → Option Nat
  | 0, _ => none
  | n + 1, t => let t' := (t + 1) % 64; if p t' then some t' else nextTgt p n t'

/-- Whether a completion source of cove `c` may be routed to `t` (R294). -/
def rotates (s : State) (c t : Nat) : Bool := tgtOwner s t == some c && tgtEn s t && !tgtFenced s t

/-- Whether target `t` qualifies as the static target of source `i` (R294, R295). -/
def staticOk (s : State) (i t : Nat) : Bool :=
  !tgtFenced s t &&
    match tgtOwner s t with
    | none => true
    | some c => srcClass i == 1 && c == srcCove i

/-- Whether FALLBACK can take a source (R295). -/
def fallbackOk (s : State) (t : Nat) : Bool := (tgtOwner s t).isNone && !tgtFenced s t && tgtEn s t

/-- Send a static source to FALLBACK, or strand it (R295). The flag says that a BC_STATUS bit was set. -/
def fallBack (s : State) (i : Nat) : State × Bool :=
  let fb := fld s F.BC_CFG_FALLBACK
  if fallbackOk s fb then (setFlag (setSrc s i { srcOf s i with route := some fb }) F.BC_STATUS_NOTGT true, true)
  else (setFlag s F.BC_STATUS_STRAND true, true)

/-- Route a released source (R294, R295). The flag says that BC_STATUS.NOTGT or STRAND was set. Log entry 19 (DESIGN CHOICE). -/
def routeSrc (s : State) (i : Nat) : State × Bool :=
  let x := srcOf s i
  if srcClass i = 0 then
    let c := srcCove i
    match nextTgt (rotates s c) 64 (fld s (F.BC_CV_STATUS_LAST c)) with
    | some t => (setFld (setSrc s i { x with route := some t }) (F.BC_CV_STATUS_LAST c) t, false)
    | none => (setFlag s (F.BC_CV_STATUS_NOTGT c) true, false)
  else if staticOk s i x.target then (setSrc s i { x with route := some x.target }, false)
  else fallBack s i

/-- Hold-off on a source newly pending, or left pending by its end of interrupt (R293). Log entry 19 (DESIGN CHOICE). -/
def holdoff (s : State) (i : Nat) : State × Bool :=
  let g := i / 16
  let x := srcOf s i
  if !x.en || x.active then (s, false)
  else if tgetD s.bc.running g false then (setSrc s i { x with held := true }, false)
  else
    let s := if fld s (F.BC_HOLDOFF_US g) = 0 then s
      else { s with bc := { s.bc with running := tsetD s.bc.running g false true } }
    routeSrc s i

/-- Whether a raise of source `i` can act: never a reserved source, nor one of a cove that does not exist (R291). -/
def raisable (s : State) (i : Nat) : Bool :=
  srcClass i != 3 && (512 ≤ i || coveExists s (srcCove i))

/-- Set PENDING and enter hold-off and routing, without delivery (R292). -/
def raiseCore (s : State) (i : Nat) : State × Bool :=
  let x := srcOf s i
  if !raisable s i || x.pending then (s, false)
  else holdoff (setSrc s i { x with pending := true }) i

/-- A step of the beacon that may set a BC_STATUS bit raises source 524 with it (R291), then lines are delivered. -/
def beaconStep (s : State) (f : State → State × Bool) : State :=
  let (s1, note) := f s
  deliver s (if note then (raiseCore s1 524).1 else s1)

/-- Raise a beacon source (R292). -/
def raiseSrc (s : State) (i : Nat) : State := beaconStep s (raiseCore · i)

/-- Apply a beacon sub-step to each source of a list. -/
def eachSrc (f : State → Nat → State × Bool) (l : List Nat) (s : State) : State × Bool :=
  l.foldl (fun (a : State × Bool) i => let (s', n) := f a.1 i; (s', a.2 || n)) (s, false)

/-- Sources that satisfy `p`, ascending. -/
def srcsWhere (s : State) (p : Nat → Src → Bool) : List Nat :=
  (s.bc.srcs.filter (fun e => p e.1 e.2)).map (·.1)

/-- Route a source that had no target, when one qualifies now (R295). The flag says that a BC_STATUS bit was set. -/
def retryRoute (s : State) (i : Nat) : State × Bool :=
  let x := srcOf s i
  if srcClass i = 0 then
    let c := srcCove i
    match nextTgt (rotates s c) 64 (fld s (F.BC_CV_STATUS_LAST c)) with
    | some t => (setFld (setSrc s i { x with route := some t }) (F.BC_CV_STATUS_LAST c) t, false)
    | none => (s, false)
  else if staticOk s i x.target then (setSrc s i { x with route := some x.target }, false)
  else if fallbackOk s (fld s F.BC_CFG_FALLBACK) then fallBack s i
  else (s, false)

/-- Route every released source without a target that can be routed now (R295). -/
def retryAll (s : State) : State × Bool := eachSrc retryRoute (srcsWhere s (fun _ x => unrouted x)) s

/-- End of service of a source: ACTIVE clears, and a PENDING source re-enters hold-off (R299). -/
def endService (s : State) (i : Nat) : State × Bool :=
  let x := srcOf s i
  let s := setSrc s i { x with active := false }
  if x.pending then holdoff s i else (s, false)

/-- A source loses its target: a static one goes to FALLBACK, a completion source is routed again, and one with EN 0 is not
routed until EN is 1 (R292, R296). -/
def unroute (s : State) (i : Nat) : State × Bool :=
  let x := srcOf s i
  let s := setSrc s i { x with route := none }
  if !x.en then (s, false) else if srcClass i = 0 then routeSrc s i else fallBack s i

/-- Withdrawal of target `t` (R296): completion sources are routed again, static ones wait if the withdrawal is by
EN 0 and otherwise go to FALLBACK, and a source in service ends its service. The target's new state stands in `s`. -/
def withdrawTgt (s : State) (t : Nat) (byEn : Bool) : State × Bool :=
  let routed := srcsWhere s (fun i x => x.route == some t && (srcClass i == 0 || !byEn))
  let serving := srcsWhere s (fun _ x => x.active && x.svc == t)
  let (s, n1) := eachSrc unroute routed s
  let (s, n2) := eachSrc endService serving s
  (s, n1 || n2)

/-- The source a claim on target `t` takes: pending, not held, routed there, of lowest PRIO, then lowest number (R298). -/
def bestSrc (s : State) (t : Nat) : Option Nat :=
  (srcsWhere s (fun _ x => x.pending && !x.held && x.route == some t)).foldl
    (fun b i => match b with
      | some j => if (srcOf s i).prio < (srcOf s j).prio then some i else b
      | none => some i) none

/-- A claim: the word the read returns, and the state after it (R298). Log entry 19 (DESIGN CHOICE). -/
def claimTgt (s : State) (t : Nat) : Word × State :=
  match bestSrc s t with
  | some i =>
    (BitVec.ofNat 32 (2 ^ 31 + i),
     setSrc s i { srcOf s i with pending := false, active := true, svc := t, route := none })
  | none => (0, s)

/-- An end of interrupt for source `i` at target `t` (R299). -/
def eoiTgt (s : State) (t i : Nat) : State :=
  let x := srcOf s i
  if x.active && x.svc == t then
    let s' := beaconStep s (fun s => endService s i)
    if lineReq s t && lineReq s' t then sendLine s' t else s'
  else match tgtOwner s t with
    | some c => setFlag s (F.BC_CV_STATUS_BADEOI c) true
    | none => raiseSrc (setFlag s F.BC_STATUS_BADEOI true) 524

/-- Expiry of a group's hold-off timer (R293). Log entry 19 (DESIGN CHOICE). -/
def expireHoldoff (s : State) (g : Nat) : State :=
  if !tgetD s.bc.running g false then s
  else
    let grp := srcsWhere s (fun i x => i / 16 == g && x.held)
    let rel := grp.filter (fun i => (srcOf s i).en)
    let s1 := grp.foldl (fun s i => setSrc s i { srcOf s i with held := false }) s
    let again := !rel.isEmpty && fld s (F.BC_HOLDOFF_US g) != 0
    beaconStep s (fun _ => eachSrc routeSrc rel
      { s1 with bc := { s1.bc with running := tsetD s1.bc.running g false again } })

/-- Whether a static source may name target `t` (R294, BC_STATUS.BADCFG). -/
def mayName (s : State) (i t : Nat) : Bool :=
  match tgtOwner s t with
  | none => true
  | some c => srcClass i == 1 && c == srcCove i

/-- Set PRIO and EN, and TARGET when given, of a source (BC_SRC_CFG, R292). Log entry 19 (DESIGN CHOICE). -/
def cfgSrc (s : State) (i prio : Nat) (en : Bool) (target : Nat) : State :=
  let x := srcOf s i
  let s1 := setSrc s i { x with prio := prio, en := en, target := target }
  if en && !x.en && x.pending && !x.active && !x.held && x.route.isNone then
    beaconStep s (fun _ => holdoff s1 i)
  else s1

/-- Set MODE, EN and VECTOR of a target (BC_TGT_CFG, R296, R297). -/
def cfgTgt (s : State) (t mode : Nat) (en : Bool) (vector : Nat) : State :=
  let was := tgtEn s t
  let s1 := setTgt s t { tgtOf s t with mode := mode, en := en, vector := vector }
  if was && !tgtEn s1 t then
    beaconStep s (fun _ => let (s2, n) := withdrawTgt s1 t true; let (s3, m) := retryAll s2; (s3, n || m))
  else beaconStep s (fun _ => retryAll s1)

/-- The registers of a target that enters a new cove, or returns to its reset settings (R296, R302). -/
def resetTgt (s : State) (t : Nat) : State := setTgt s t Tgt.init

/-- A cove's sources at its reset or removal (R302): every one loses PENDING, HELD and ACTIVE; completion and software
sources return to their reset settings, fault sources only at removal, and the rotation begins at 63 again (R294). -/
def clearCoveSrcs (s : State) (c : Nat) (removal : Bool) : State :=
  (List.range 32).foldl (fun s k =>
    let i := 32 * c + k
    let x := srcOf s i
    setSrc s i (if removal || srcClass i != 1 then Src.init
      else { Src.init with prio := x.prio, en := x.en, target := x.target })) (setFld s (F.BC_CV_STATUS_LAST c) 63)

/-- The level of BEACON_IRQ[t]: the request line of a target in MODE 1 (R297). -/
def beaconIrq (s : State) (t : Nat) : Bool := (tgtOf s t).mode == 1 && lineReq s t

/-- The level of NMI_OUT (R301). -/
def nmiOut (s : State) : Bool :=
  flag s F.BC_NMI_HALT || flag s F.BC_NMI_CLOCK || flag s F.BC_NMI_TEST

end Sys2Proof.Machine
end

