-- ==== Sys2Proof/Machine/Wrack.lean ====
section
/-!
DEFINITION. The wrack queue: its records and the writing of one (R149, R150, R153, R154).
-/
namespace Sys2Proof.Machine

/-- A wrack record without its SEQ, PHASE and TIDE, which the writing adds (R150). -/
structure WrackRec where
  ctx : Nat
  ctxValid : Bool
  held : Bool
  acc : Nat
  cls : Nat
  reason : Nat
  addr : Nat
  addrKind : Nat
  src : Nat
  level : Nat
  detail : Nat
deriving DecidableEq, Repr

/-- Records a queue holds (R149). -/
def wrackCount (s : State) (c : Nat) : Nat :=
  (fld s (F.XL_WQ_PROD_PROD c) + 65536 - fld s (F.XL_WQ_CONS_CONS c)) % 65536

/-- Whether a queue is full, or counts as full while its ring is not enabled (R149). -/
def wrackFull (s : State) (c : Nat) : Bool :=
  !flag s (F.XL_WQ_BASE_LO_EN c) || wrackCount s c == 256

/-- The host address of a cove's ring (XL_WQ_BASE). -/
def wrackBase (s : State) (c : Nat) : Nat :=
  2 ^ 13 * fld s (F.XL_WQ_BASE_LO_ADDR_LO c) + 2 ^ 32 * fld s (F.XL_WQ_BASE_HI_ADDR_HI c)

/-- The 32 bytes of a record (R150). -/
def wrackBytes (s : State) (c : Nat) (r : WrackRec) : List Byte :=
  let i := fld s (F.XL_WQ_PROD_PROD c)
  let w0 := tgetD s.xl.wqSeq c 0 % 2 ^ 32 + 2 ^ 32 * c + 2 ^ 36 * (r.ctx % 4096) + 2 ^ 48 * b2n r.ctxValid
    + 2 ^ 49 * b2n r.held + 2 ^ 50 * (r.acc % 4) + 2 ^ 52 * (r.cls % 4) + 2 ^ 54 * (i / 256 % 2) + 2 ^ 56 * (r.reason % 256)
  let w1 := r.addr % 2 ^ 48 + 2 ^ 48 * (r.addrKind % 4)
  let w2 := r.src % 2 ^ 16 + 2 ^ 16 * (r.level % 8) + 2 ^ 24 * (r.detail % 256)
  toBytes 8 w0 ++ toBytes 8 w1 ++ toBytes 8 w2 ++ toBytes 8 (tideCount s c)

/-- A lost record is only counted (R154). -/
def wrackLost (s : State) (c : Nat) : State := lbAdd (incCtr s (C.XL_WQ_OVERFLOW c)) 18 1

/-- Write a record: the slot, then PROD, then the cove's wrack source; a full queue or a host-bus error loses it
(R153, R154). The flag says that it was written. -/
def writeWrack (s : State) (c : Nat) (r : WrackRec) : Bool × State :=
  if !coveExists s c then (false, s)
  else if wrackFull s c then (false, wrackLost s c)
  else
    let i := fld s (F.XL_WQ_PROD_PROD c)
    let (ok, s1) := hostWrite s (wrackBase s c + (i % 256) * 32) (wrackBytes s c r)
    if ok then
      let s2 := setFld s1 (F.XL_WQ_PROD_PROD c) (i + 1)
      let s3 := { s2 with xl := { s2.xl with wqSeq := tsetD s2.xl.wqSeq c 0 ((tgetD s2.xl.wqSeq c 0 + 1) % 2 ^ 32) } }
      (true, raiseSrc s3 (32 * c + 1))
    else (false, wrackLost (setFlag s1 (F.XL_WQ_STATUS_WERR c) true) c)

/-- Write a record that holds nothing: an error or an information record (R154). -/
def report (s : State) (c : Nat) (r : WrackRec) : State := (writeWrack s c { r with held := false }).2

end Sys2Proof.Machine
end

