-- ==== Sys2Proof/Machine/Stack.lean ====
section
/-!
DEFINITION. The stack channel controllers and the tidepool banks: placement, the metadata cache, the checks of every
access, poison, halts, key use and re-key starts (chapter 04), with the breakwater and fence checks of chapters 01, 02.
-/
namespace Sys2Proof.Machine

/-! ### Addresses, R93–R100 -/

/-- Data granules per stack (R96). -/
def dataPer (s : State) : Nat := if flag s F.FAB_CONFIG_STACK36 then 128 else 85
/-- Granule slots per stack (R96). -/
def slotsPer (s : State) : Nat := if flag s F.FAB_CONFIG_STACK36 then 144 else 96

/-- What an FPA decodes to (R93). -/
inductive FpaTarget where
  | data (g : Nat)
  | metadata
  | tidepool (bank byte : Nat)
  | nothing
deriving DecidableEq, Repr

/-- The decoding of an FPA (R93, R126). -/
def decodeFpa (s : State) (fpa : Nat) : FpaTarget :=
  let g := fpa / 2 ^ 28
  if fpa / 2 ^ 27 = 0x3FFF then .tidepool (bits fpa 18 9) (bits fpa 0 18)
  else if g < 32 * dataPer s then .data g
  else if g < 32 * slotsPer s then .metadata
  else .nothing

/-- The stack and the stack data address of a byte of a data granule under an interleave mode (R97). -/
def placeByte (d g mode off : Nat) : Nat × Nat :=
  let h := g / d
  let sl := 2 ^ 28 * (g % d)
  let c := off / 2 ^ 11
  if mode = 0 then ((c + h) % 32, sl + 2 ^ 23 * h + (c / 32) * 2 ^ 11 + off % 2 ^ 11)
  else if mode = 1 then (8 * (h / 8) + (c + h) % 8, sl + 2 ^ 25 * (h % 8) + (c / 8) * 2 ^ 11 + off % 2 ^ 11)
  else (h, sl + off)

/-- Where a line of a granule lies under the mode of the granule map. -/
def placeLine (s : State) (g line : Nat) : Nat × Nat := placeByte (dataPer s) g (granOf s g).mode (line * 64)

/-- The pseudo-channel of a stack data address (R99). -/
def pseudoCh (sda : Nat) : Nat := bits sda 8 5 ^^^ bits sda 18 5

/-- The line number, in its stack, of the metadata line that serves a data line (R100). -/
def metaLine (s : State) (sda : Nat) : Nat := (dataPer s * 2 ^ 28 + sda / 8) / 64

/-- The granule, and the line within it, whose data lie at a stack data address; none when it belongs to no granule (R97, R98). -/
def ownerOfLine (s : State) (n sda : Nat) : Option (Nat × Nat) :=
  let d := dataPer s
  let sl := sda / 2 ^ 28
  let r := sda % 2 ^ 28
  let tryG (h line : Nat) (mode : Nat) : Option (Nat × Nat) :=
    let g := h * d + sl
    let e := granOf s g
    if sl < d && e.owner != 31 && e.mode == mode then some (g, line) else none
  let h0 := r / 2 ^ 23
  let h1 := 8 * (n / 8) + r / 2 ^ 25
  let k0 := (r % 2 ^ 23) / 2 ^ 11
  let k1 := (r % 2 ^ 25) / 2 ^ 11
  let l := (sda % 2 ^ 11) / 64
  (tryG n (r / 64) 2).or
    ((tryG h1 ((8 * k1 + (n % 8 + 8 - h1 % 8) % 8) * 32 + l) 1).or
     (tryG h0 ((32 * k0 + (n + 32 - h0) % 32) * 32 + l) 0))

/-! ### Stored lines and the metadata cache, R105 -/

/-- Key of a line of a stack. -/
def lineKey (n line : Nat) : Nat := 2 ^ 30 * n + line
/-- A zero line under KID 0 (R104). Log entry 4 (DESIGN CHOICE). -/
def RawLine.zero : RawLine := ⟨0, 0⟩
/-- The stored bits of a line. Log entry 4 (DESIGN CHOICE). -/
def rawLine (s : State) (n line : Nat) : RawLine := tgetD s.mem.lines (lineKey n line) RawLine.zero
/-- The state with the stored bits of a line replaced. -/
def setRaw (s : State) (n line : Nat) (r : RawLine) : State :=
  { s with mem := { s.mem with lines := tsetD s.mem.lines (lineKey n line) RawLine.zero r } }

/-- The set of a metadata cache that a line falls into. Log entry 16 (DESIGN CHOICE). -/
def mdcKey (n line : Nat) : Nat := n * 512 + line % 512

/-- Replace a set of the metadata cache. -/
def setMdc (s : State) (n line : Nat) (l : List MdcEnt) : State :=
  { s with mem := { s.mem with mdc := tsetD s.mem.mdc (mdcKey n line) [] l } }

/-! ### Keys and ranges, R112–R117 -/

/-- The key range that covers a granule (R113). -/
def rangeOf (s : State) (g : Nat) : Option (Nat × KeyRange) :=
  s.mem.kr.find? (fun e => e.2.first ≤ g && g < e.2.first + e.2.count)

/-- The running zero-fill of a granule (R66). -/
def fillOf (s : State) (g : Nat) : Option ZFill := (s.plan.fills.find? (fun e => e.1.place.gran == g)).map (·.1)

/-- The KIDs a controller expects on a line: the current one, the predecessor while a re-key runs, and the range they are of;
`bar` is the Retired KID that a verify read looks for (R113, R118). -/
structure Expect where
  cur : Nat
  pred : Option Nat
  range : Option Nat
  bar : Option Nat
deriving DecidableEq, Repr

/-- KID 0 alone, of no range: what a line of no granule carries (R98, R113). -/
def Expect.none : Expect := ⟨0, Option.none, Option.none, Option.none⟩

/-- Whether a line under KID `k` is as expected (R113, R118). -/
def Expect.admits (e : Expect) (k : Nat) : Bool := (k == e.cur || e.pred == some k) && e.bar != some k

/-- The KIDs a controller expects on a line of a granule (R113). -/
def expectedKids (s : State) (g : Nat) : Expect :=
  let r := rangeOf s g
  match fillOf s g with
  | some f => ⟨f.kid, none, r.map (·.1), none⟩
  | none =>
    match (if (granOf s g).owner = 31 then none else r) with
    | some (_, k) => ⟨k.cur, k.pred, r.map (·.1), none⟩
    | none => ⟨0, none, r.map (·.1), none⟩

/-- The KID a write of a line of a granule uses (R113, R122). -/
def writeKid (s : State) (g : Nat) : Nat :=
  match fillOf s g with
  | some f => f.kid
  | none =>
    if (granOf s g).owner = 31 then 0
    else match rangeOf s g with
      | some (_, r) => r.cur
      | none => 0

/-- The key of a KID (R112). -/
def keyOf (s : State) (kid : Nat) : BitVec 256 := tgetD s.mem.keys kid 0

/-- The state with a key range replaced. -/
def setKr (s : State) (r : Nat) (k : KeyRange) : State := { s with mem := { s.mem with kr := tput s.mem.kr r k } }

/-- A KID, Free when not listed (R114). -/
def Kid.init : Kid := ⟨.free, false, [], [], none⟩
/-- KID `k` of the fabric (R114). -/
def kidOf (s : State) (k : Nat) : Kid := tgetD s.mem.kids k Kid.init
/-- The state with a KID set. -/
def setKid (s : State) (k : Nat) (v : Kid) : State :=
  { s with mem := { s.mem with kids := tsetD s.mem.kids k Kid.init v } }

/-- The lowest-numbered Free KID (R115). -/
def lowestFree (s : State) : Option Nat :=
  ((List.range 64).drop 1).find? (fun k => (kidOf s k).st == .free)

/-- The KID a re-key can take now: none while a health test of the TRNG fails (R115, R327).
Log entries 20 (DESIGN CHOICE), 21 (DESIGN CHOICE), 43 (DESIGN CHOICE). -/
def takeable (s : State) : Option Nat := if flag s F.FAB_SEC_STATUS_TRNG_FAIL then none else lowestFree s

/-- Load a KID with a key from the TRNG (R112). Log entry 2 (DESIGN CHOICE). -/
def loadKey (s : State) (kid : Nat) : State :=
  let (key, s) := drawFree s 256
  let s := { s with mem := { s.mem with keys := tput s.mem.keys kid key } }
  setKid s kid { kidOf s kid with st := .active, loaded := true }

/-- The placed granules of a range that carry its keys: owned or shared ones (R113, R115). -/
def rangePlaces (s : State) (k : KeyRange) : List Place :=
  (s.plan.gran.filter (fun e => k.first ≤ e.1 && e.1 < k.first + k.count && e.2.owner != 31)).map
    (fun e => ⟨e.1, e.2.mode⟩)

/-- The KID of range `r` leaves Active for Draining, with the granules it has covered (R114). -/
def drainKid (s : State) (kid r : Nat) (places : List Place) : State :=
  if kid = 0 then s else
    let k := kidOf s kid
    setKid s kid { k with st := .draining, range := some r, covered := k.covered ++ places.filter (fun p => !k.covered.contains p) }

/-- Zero-fills under KID `old` go on under `kid`, over every line again: a re-key has begun while an apply or a scrub fills
granules of its range (R66, R117). -/
def refill (old kid : Nat) (fills : List (ZFill × FillFor)) : List (ZFill × FillFor) :=
  fills.map (fun f => if f.1.kid = old then ({ f.1 with kid := kid, done := 0 }, match f.2 with | .applied => .apply | w => w) else f)

/-- The places whose zero-fill runs, or has run in an apply not ended, under a KID. -/
def fillPlaces (s : State) (kid : Nat) : List Place := (s.plan.fills.filter (fun f => f.1.kid == kid)).map (·.1.place)

/-- A re-key takes KID `kid` for range `r`: it becomes current, the old one the predecessor in Draining (R114, R115, R117).
Log entry 20 (DESIGN CHOICE). -/
def takeKid (s : State) (r kid : Nat) : State :=
  match tfind s.mem.kr r with
  | none => s
  | some k =>
    let s := loadKey s kid
    let s := drainKid s k.cur r (rangePlaces s k ++ fillPlaces s k.cur)
    let s := { s with
      plan := { s.plan with fills := refill k.cur kid s.plan.fills }
      mem := { s.mem with sweepQ := s.mem.sweepQ.filter (· != r) ++ [r] } }
    setKr s r { k with cur := kid, pred := some k.cur, phase := 2, sweepDone := false, swept := [] }

/-- Start a re-key of a scrambled range, or queue it behind a running one; behind re-keys that wait it waits too (R115, R117).
Log entry 20 (DESIGN CHOICE). -/
def startRekey (s : State) (r : Nat) : State :=
  match tfind s.mem.kr r with
  | none => s
  | some k =>
    if !k.scramble || k.cur = 0 then s
    else if k.phase = 1 || k.phase = 2 then setKr s r { k with queued := true }
    else match (if s.mem.rekeyQ.isEmpty then takeable s else none) with
      | some kid => takeKid s r kid
      | none =>
        let s := setKr s r { k with phase := 1 }
        { s with mem := { s.mem with rekeyQ := s.mem.rekeyQ ++ [r] } }

/-- The value at which a use counter stops (R116). -/
def useStop : Nat := 2 ^ 44 - 1

/-- Whether a write to a granule is refused at the stop (R116). -/
def keyStopped (s : State) (g : Nat) : Bool :=
  match rangeOf s g with
  | some (_, k) => k.scramble && k.stopped
  | none => false

/-- Count one performed line write of a cove or management requester: a count that reaches a THRESHOLD starts or queues a
re-key, and one that stops without a re-key running starts one (R115–R117). A THRESHOLD that an amendment has lowered to the
count or below it starts none. Log entry 20 (DESIGN CHOICE). -/
def countUse (s : State) (g : Nat) : State :=
  match rangeOf s g with
  | none => s
  | some (r, k) =>
    let u := min (k.use + 1) useStop
    let s := setKr s r { k with use := u, stopped := k.stopped || (k.scramble && u == useStop) }
    let reached := k.thresh != 0 && u == k.thresh && k.use != u
    if k.scramble && (reached || (u == useStop && (k.phase == 0 || k.phase == 3))) then startRekey s r else s

/-! ### Errors, poison and halts, R110, R118–R121 -/

/-- Where a check came from (FAB_HALT_CAUSE0.CAUSE, SC_ERR_LOG0.ORIGIN). -/
inductive Origin where
  | demand | rmw | patrol | rekey | verify
deriving DecidableEq, Repr

/-- ORIGIN of the error log. -/
def Origin.code : Origin → Nat
  | .demand => 0 | .rmw => 1 | .patrol => 2 | .rekey => 3 | .verify => 4

/-- An access as a controller or bank sees it. -/
structure Req where
  tag : Nat
  src : Nat
  fpa : Nat
  acc : Access
  /-- Context of a translated or a spill transfer, with the DVA of a translated one (R400). -/
  xlate : Option (Nat × Option Nat)
  origin : Origin
deriving DecidableEq, Repr

/-- The ACC code of an access (R150, FAB_BRK_LAST0). -/
def accCode : Access → Nat
  | .read => 0
  | .write _ _ => 1
  | .atomic _ _ _ _ _ => 2

/-- Log an error of controller `n` (SC_ERR_LOG0–3, SC_ERR_STATUS). -/
def logErr (s : State) (n kind word pp s1 s3 : Nat) (q : Req) : State :=
  let logged := flag s (F.SC_ERR_STATUS_LOGGED n)
  if !logged || (kind ≥ 3 && fld s (F.SC_ERR_LOG0_KIND n) ≤ 2) then
    let s := setFld (setFld (setFld (setFld s (F.SC_ERR_LOG0_KIND n) kind) (F.SC_ERR_LOG0_WORD n) word)
      (F.SC_ERR_LOG0_PP n) pp) (F.SC_ERR_LOG0_S1 n) s1
    let s := setFld (setFld (setFld s (F.SC_ERR_LOG0_S3 n) s3) (F.SC_ERR_LOG0_CT n) q.tag)
      (F.SC_ERR_LOG0_ORIGIN n) q.origin.code
    let s := setFld (setFld s (F.SC_ERR_LOG1_LINE_LO n) (q.fpa / 64)) (F.SC_ERR_LOG2_LINE_HI n) (q.fpa / 2 ^ 38)
    let s := setFld s (F.SC_ERR_LOG3_TIDE n) (tideCount s 16)
    setFlag s (F.SC_ERR_STATUS_LOGGED n) true
  else setFlag s (F.SC_ERR_STATUS_OVERRUN n) true

/-- Raise the memory-error source of a controller (R291). -/
def raiseMem (s : State) (n : Nat) : State := raiseSrc s (544 + n)

/-- The cove whose counters an error in a granule advances: the owner, when a cove owns it. -/
def granCove (s : State) (g : Nat) : Option Nat :=
  let o := (granOf s g).owner
  if o < 16 then some o else none

/-- Advance a per-cove counter, when there is a cove. -/
def incCove (s : State) (c : Option Nat) (cn : Nat → Nat) : State :=
  match c with
  | some c => incCtr s (cn c)
  | none => s

/-! ### Transfers of the DFI side and the metadata cache, R103, R105 -/

/-- Whether a transfer at stack `n` fails with its link retries exhausted: the command says so, or the outside does (R103).
Log entry 9 (DESIGN CHOICE). -/
def linkBad (s : State) (n : Nat) (link : Bool) : Bool := link || tgetD s.env.linkFails n false

/-- A severity report of the on-die ECC that comes with a read is counted (R103). -/
def countOnDie (s : State) (n : Nat) : State :=
  if tgetD s.env.onDieSev n false then { s with mem := { s.mem with onDie := tsetD s.mem.onDie n 0 (tgetD s.mem.onDie n 0 + 1) } }
  else s

/-- A metadata line with one word and its check byte replaced (R106, R108). -/
def RawLine.setMeta (r : RawLine) (w : Nat) (v : Dword) : RawLine :=
  ⟨setLineWord r.data w v, (r.pin &&& ~~~(0xFF#64 <<< (8 * w))) ||| (BitVec.ofNat 64 (metaCheck v) <<< (8 * w))⟩

/-- The bits that poison the data line `d` of stack `n` over `kid`: PIN stored with the line, and its metadata word (R106, R120). -/
def poisonBits (s : State) (n d kid : Nat) : State × Dword :=
  let x := rawLine s n d
  let codes := (lineWords x.data).map wordCode
  (setRaw s n d ⟨x.data, BitVec.ofNat 64 (pinOf codes)⟩, BitVec.ofNat 64 (inlOf codes (poisonTag kid)))

/-- A poisoned line is counted and its source raised (R120). -/
def countPoison (s : State) (n : Nat) (cove : Option Nat) : State :=
  raiseMem (incCove (lbAdd (incCtr s (C.SC_POISON n)) 13 1) cove C.SC_CV_POISON) n

/-- An uncorrectable metadata word is counted and logged (R108, R110). -/
def countLostMeta (s : State) (n : Nat) (q : Req) : State := raiseMem (logErr (incCtr s (C.SC_MDUE n)) n 4 0 0 0 0 q) n

/-- Lose word `w` of metadata line `line` in a write whose retries are exhausted: the word is uncorrectable, and so is its data
line, which is poisoned over KID 0 (R103, R108, R119, R120). -/
def loseMeta (n line : Nat) (a : RawLine × State) (w : Nat) : RawLine × State :=
  let (r, s) := a
  let d := 8 * (line - dataPer s * 2 ^ 22) + w
  if dataPer s * 2 ^ 22 ≤ d then a
  else
    let at' := ownerOfLine s n (64 * d)
    let fpa := (at'.map (fun g => 2 ^ 28 * g.1 + 64 * g.2)).getD 0
    let (s, v) := poisonBits (countLostMeta s n ⟨16, 0xB000 + n, fpa, .write 0 0, none, .demand⟩) n d 0
    (r.setMeta w v, countPoison s n (at'.bind (fun g => granCove s g.1)))

/-- Write a metadata line to its stack, and what stands there (R103, R105). -/
def writeMeta (s : State) (n line : Nat) (r : RawLine) : RawLine × State :=
  let (r, s) := if linkBad s n false then (List.range 8).foldl (loseMeta n line) (r, s) else (r, s)
  (r, setRaw s n line r)

/-- Bring a metadata line to the front of its set, reading it from the stack on a miss and writing back a dirty line it
evicts (R105); a read whose link retries are exhausted leaves every word it carried uncorrectable (R103). Log entry 16 (DESIGN CHOICE). -/
def mdcFetch (s : State) (n line : Nat) : MdcEnt × State :=
  let set := tgetD s.mem.mdc (mdcKey n line) []
  match set.find? (fun e => e.line == line) with
  | some e => (e, setMdc s n line (e :: set.filter (fun x => x.line != line)))
  | none =>
    let s := incCtr (countOnDie s n) (C.SC_MDC_MISS n)
    let s := match set.drop 15 with
      | e :: _ => if e.dirty then (writeMeta s n e.line e.raw).2 else s
      | [] => s
    let e : MdcEnt := ⟨line, rawLine s n line, false, if linkBad s n false then 255 else 0⟩
    (e, setMdc s n line (e :: set.take 15))

/-- Replace word `w` of a metadata line in the cache, with its check byte, and mark the line dirty (R105, R108). -/
def mdcWrite (s : State) (n line w : Nat) (v : Dword) : State :=
  let (e, s) := mdcFetch s n line
  let set := tgetD s.mem.mdc (mdcKey n line) []
  setMdc s n line (⟨line, e.raw.setMeta w v, true, setBit e.bad w false⟩ :: set.filter (fun x => x.line != line))

/-- Write back a dirty line of the cache, after others (R105). -/
def flushEnt (n : Nat) (a : List MdcEnt × State) (x : MdcEnt) : List MdcEnt × State :=
  if x.dirty then
    let (r, s) := writeMeta a.2 n x.line x.raw
    (a.1 ++ [{ x with raw := r, dirty := false }], s)
  else (a.1 ++ [x], a.2)

/-- Write back every dirty line of a controller's cache (SC_CTL.MDC_FLUSH). -/
def mdcFlush (s : State) (n : Nat) : State :=
  (s.mem.mdc.filter (fun e => e.1 / 512 == n)).foldl (fun s e =>
    let (l, s) := e.2.foldl (flushEnt n) ([], s)
    { s with mem := { s.mem with mdc := tsetD s.mem.mdc e.1 [] l } }) s

/-- The metadata word `w` of a line as decoded, with whether it was corrected; nothing when it is uncorrectable (R103, R108). -/
def metaWord (r : RawLine) (bad w : Nat) : Option (Dword × Bool) :=
  if bad.testBit w then none
  else (decodeMeta (lineWord r.data w) (bits r.pin.toNat (8 * w) 8)).map (fun x => (x.1, x.2.2))

/-- The decoded metadata word of a data line: nothing when uncorrectable; a corrected word is put back (R108, R124). -/
def readMeta (s : State) (n sda : Nat) : Option Dword × State :=
  let ml := metaLine s sda
  let w := sda / 64 % 8
  let (e, s) := mdcFetch s n ml
  match metaWord e.raw e.bad w with
  | some (v, fixed) => (some v, if fixed then mdcWrite s n ml w v else s)
  | none => (none, s)

/-- Store a line's bits and its metadata word (R106). -/
def storeRaw (s : State) (n sda : Nat) (data : Line) (codes : List Nat) (tag : Nat) : State :=
  let s := setRaw s n (sda / 64) ⟨data, BitVec.ofNat 64 (pinOf codes)⟩
  mdcWrite s n (metaLine s sda) (sda / 64 % 8) (BitVec.ofNat 64 (inlOf codes tag))

/-- Count and log one corrected word (R110). Log entry 14 (DEDUCED). -/
def countCE (s : State) (n w flips s1 s3 pp : Nat) (cove : Option Nat) (q : Req) : State :=
  let s := lbAdd (incCtr s (C.SC_CE n)) 10 1
  let s := if flips = 2 then incCtr s (C.SC_CE2 n) else s
  let s := incCove s cove C.SC_CV_CE
  let s := logErr s n (if flips = 2 then 2 else 1) w pp s1 s3 q
  if flag s (F.SC_CTL_CE_IEN n) then raiseMem s n else s

/-- The words of a stored line decoded, with the corrected words and codes, and whether any could not be corrected;
corrections and uncorrectable words are counted (R110, R118). -/
structure WordsRead where
  data : List Dword
  codes : List Nat
  fixed : Bool
  bad : Bool
  st : State

/-- Decode the words of a line in order (R110). -/
def readWords (s : State) (n : Nat) (raw : RawLine) (inl : Nat) (cove : Option Nat) (q : Req) : WordsRead :=
  (List.range 8).foldl (fun (a : WordsRead) w =>
    let d := lineWord raw.data w
    let code := codeAt raw.pin.toNat inl w
    match decodeWord d code with
    | .clean => { a with data := a.data ++ [d], codes := a.codes ++ [code] }
    | .corrected d' c' flips =>
      let (s1, s3, pp) := wordSyndromes d code
      { data := a.data ++ [d'], codes := a.codes ++ [c'], fixed := true, bad := a.bad,
        st := countCE a.st n w flips s1 s3 pp cove q }
    | .uncorrectable =>
      let (s1, s3, pp) := wordSyndromes d code
      { data := a.data ++ [d], codes := a.codes ++ [code], fixed := a.fixed, bad := true,
        st := raiseMem (logErr (lbAdd (incCtr a.st (C.SC_UE n)) 11 1) n 3 w pp s1 s3 q) n })
    ⟨[], [], false, false, s⟩

/-- Poison a line: the poison signature over `kid`, the check bits recomputed over the words (R120). Log entry 14 (DEDUCED). -/
def poisonLine (s : State) (n sda kid : Nat) (words : List Dword) (cove : Option Nat) : State :=
  countPoison (storeRaw s n sda (lineOfWords words) (words.map wordCode) (poisonTag kid)) n cove

/-- CAUSE of a failed check (FAB_HALT_CAUSE0). -/
def Origin.cause : Origin → Nat
  | .demand => 1 | .rmw => 2 | .patrol => 3 | .rekey => 4 | .verify => 5

/-- A failed check: the halt cause is captured or MULTI set, and the internal halt and NMI_OUT are asserted (R121, R301, R367).
Log entry 52 (DESIGN CHOICE). -/
def failCheck (s : State) (n found : Nat) (e : Expect) (q : Req) : State :=
  let s := if flag s F.FAB_HALT_CAUSE0_VALID then setFlag s F.FAB_HALT_CAUSE0_MULTI true
    else
      let s := setFld (setFld (setFld (setFlag s F.FAB_HALT_CAUSE0_VALID true) F.FAB_HALT_CAUSE0_CAUSE q.origin.cause)
        F.FAB_HALT_CAUSE0_STACK n) F.FAB_HALT_CAUSE0_CT q.tag
      let s := setFld (setFld (setFld s F.FAB_HALT_CAUSE1_LINE_LO (q.fpa / 64)) F.FAB_HALT_CAUSE2_LINE_HI (q.fpa / 2 ^ 38))
        F.FAB_HALT_CAUSE2_FOUND found
      let s := setFlag (setFld (setFld s F.FAB_HALT_CAUSE2_CURRENT e.cur) F.FAB_HALT_CAUSE2_PRED (e.pred.getD 0))
        F.FAB_HALT_CAUSE2_PRED_VALID e.pred.isSome
      let s := setFlag (setFld s F.FAB_HALT_CAUSE3_RANGE (e.range.getD 0)) F.FAB_HALT_CAUSE3_IN_RANGE e.range.isSome
      setFld (setFld s F.FAB_HALT_CAUSE3_SRC q.src) F.FAB_HALT_CAUSE4_TIDE (tideCount s 16)
  setFlag (setFlag s F.BC_NMI_HALT true) F.SL_STATUS_HALT true

/-- What the checks of R118 find on a line. -/
inductive Finding where
  /-- Clean or corrected: the unmixed line, its KID, and whether a word was corrected. -/
  | good (line : Line) (kid : Nat) (fixed : Bool)
  | uncorrectable
  | poisoned
  | failed (kid : Nat)
deriving DecidableEq, Repr

/-- A transfer whose link retries are exhausted is uncorrectable in every word it carried (R103): counted, logged, and the
line poisoned under `kid` (R119, R120). Log entry 14 (DEDUCED). -/
def linkLost (s : State) (n sda kid : Nat) (cove : Option Nat) (q : Req) : State :=
  let s := raiseMem (logErr (lbAdd (addCtr s (C.SC_UE n) 8) 11 8) n 7 0 0 0 0 q) n
  poisonLine s n sda kid (lineWords (rawLine s n (sda / 64)).data) cove

/-- Whether two accesses are to the same line. -/
def sameLine (a b : Nat) : Bool := a / 64 == b / 64

/-- Whether a write or an atomic to the line at `sda` of stack `n` waits at its controller, so that it supersedes a write-back
(R124). -/
def writeWaits (s : State) (n sda : Nat) : Bool :=
  s.xl.xfers.any (fun e => e.2.stage == .waiting && e.2.acc != .read && match decodeFpa s e.2.fpa with
    | .data g => let p := placeByte (dataPer s) g (granOf s g).mode (e.2.fpa % 2 ^ 28); p.1 == n && sameLine p.2 sda
    | _ => false)

/-- A data line whose metadata word cannot be corrected is uncorrectable: counted, logged and poisoned over KID 0 (R108, R118–R120).
Log entry 14 (DEDUCED). -/
def metaLost (s : State) (n sda : Nat) (cove : Option Nat) (q : Req) : State :=
  let s := countLostMeta s n q
  poisonLine s n sda 0 (lineWords (rawLine s n (sda / 64)).data) cove

/-- The checks of R118 on the line at `sda` of stack `n`, with the outcomes of R119 that touch the line: an
uncorrectable line is poisoned, and a corrected one written back where no write to it waits (R120, R124). `e` are the expected
KIDs. The words of a line whose tag check fails are counted and logged as they decode while it is poisoned, and the error log
of KINDs 4 to 7 holds 0 in WORD, PP, S1 and S3. Log entries 14 (DEDUCED), 58 (DESIGN CHOICE). -/
def checkLine (s : State) (n sda : Nat) (e : Expect) (cove : Option Nat) (link : Bool) (q : Req) : Finding × State :=
  let raw := rawLine s n (sda / 64)
  let (md, s) := readMeta (countOnDie s n) n sda
  match md with
  | none => (.uncorrectable, metaLost s n sda cove q)
  | some inl =>
    match readTag (bits inl.toNat 56 8) with
    | .poison _ => (.poisoned, logErr (incCtr s (C.SC_PREAD n)) n 6 0 0 0 0 q)
    | .fails kid =>
      let s := raiseMem (logErr (incCtr s (C.SC_TAGF n)) n 5 0 0 0 0 q) n
      let w := readWords s n raw inl.toNat cove q
      (.uncorrectable, poisonLine w.st n sda kid w.data cove)
    | .valid kid =>
      if !e.admits kid then (.failed kid, failCheck s n kid e q)
      else if linkBad s n link then (.uncorrectable, linkLost s n sda kid cove q)
      else
        let w := readWords s n raw inl.toNat cove q
        if w.bad then (.uncorrectable, poisonLine w.st n sda kid w.data cove)
        else
          let l := lineOfWords w.data
          let s := if w.fixed && !writeWaits s n sda then storeRaw w.st n sda l w.codes (tagByte kid) else w.st
          (.good (unmixLine l kid (keyOf s kid) q.fpa) kid w.fixed, s)

/-- Whether an armed injection names the line at `fpa` (SC_INJ_CTL). -/
def injects (s : State) (n fpa : Nat) : Bool :=
  isMakerOrIntegrator s && flag s (F.SC_INJ_CTL_ARM n) &&
    fld s (F.SC_INJ_LO_ADDR_LO n) / 64 + 2 ^ 26 * fld s (F.SC_INJ_HI_ADDR_HI n) == fpa / 64

/-- Mix, encode and write a line under a KID, with an armed injection applied (R109, R111, R122). -/
def writeLine (s : State) (n sda fpa kid : Nat) (l : Line) : State :=
  let words := lineWords (mixLine l kid (keyOf s kid) fpa)
  let codes := words.map wordCode
  if injects s n fpa then
    let w := fld s (F.SC_INJ_CTL_WORD n)
    let s1 := setFlag s (F.SC_INJ_CTL_ARM n) false
    if flag s (F.SC_INJ_CTL_TAG n) then
      storeRaw s1 n sda (lineOfWords words) codes (tagByte kid ^^^ 64)
    else
      let (d, c) := flipPos ((words[w]?).getD 0) ((codes[w]?).getD 0) (fld s (F.SC_INJ_CTL_POS_A n))
      let (d, c) := if flag s (F.SC_INJ_CTL_B_EN n) then flipPos d c (fld s (F.SC_INJ_CTL_POS_B n)) else (d, c)
      storeRaw s1 n sda (lineOfWords (words.set w d)) (codes.set w c) (tagByte kid)
  else storeRaw s n sda (lineOfWords words) codes (tagByte kid)

/-- Write a whole line under a KID, where the link carries it; a write whose link retries are exhausted leaves the line
poisoned (R103, R120, R122). The flag says that it was written. Log entry 14 (DEDUCED). -/
def sendLineTo (s : State) (n sda kid : Nat) (l : Line) (cove : Option Nat) (link : Bool) (q : Req) : Bool × State :=
  if linkBad s n link then (false, linkLost s n sda kid cove q) else (true, writeLine s n sda q.fpa kid l)

/-! ### Check points, R20–R22, R55, R56, R94 -/

/-- The wrack record of a refused access (R400). -/
def refusedRec (q : Req) (reason detail : Nat) : WrackRec :=
  match q.xlate with
  | some (ctx, some dva) => ⟨ctx, true, false, accCode q.acc, 1, reason, dva, 0, q.src, 7, detail⟩
  | some (ctx, none) => ⟨ctx, true, false, accCode q.acc, 1, reason, q.fpa, 1, q.src, 7, detail⟩
  | none => ⟨0, false, false, accCode q.acc, 1, reason, q.fpa, 1, q.src, 7, detail⟩

/-- Report a refused access to its requester's cove (R22, R56, R94, R119, R116). Log entry 13 (DEDUCED). -/
def refuse (s : State) (q : Req) (reason detail : Nat) : State :=
  if q.tag < 16 then report s q.tag (refusedRec q reason detail) else s

/-- A breakwater drop (R22): `point` as FAB_BRK_LAST0.POINT, `tgt` the target unit, `gran` and `addr` as captured. Log entry 13 (DEDUCED). -/
def brkDrop (s : State) (tag point acc src tgt gran addr : Nat) (r : WrackRec) : State :=
  let s := lbAdd (incCtr s C.FAB_BRK_CNT) 17 1
  let s := if flag s F.FAB_BRK_STATUS_DROP then setFlag s F.FAB_BRK_STATUS_OVERRUN true
    else
      let s := setFld (setFld (setFld (setFld s F.FAB_BRK_LAST0_CT tag) F.FAB_BRK_LAST0_POINT point)
        F.FAB_BRK_LAST0_ACC acc) F.FAB_BRK_LAST0_SRC src
      let s := setFld (setFld s F.FAB_BRK_LAST1_TGT tgt) F.FAB_BRK_LAST1_GRANULE gran
      let s := setFld (setFld s F.FAB_BRK_LAST2_ADDR_LO addr) F.FAB_BRK_LAST3_ADDR_HI (addr / 2 ^ 32)
      setFlag s F.FAB_BRK_STATUS_DROP true
  let s := raiseSrc s 513
  if tag < 16 then report s tag r else s

/-- A drop of an access to memory (R21, R22). Log entry 13 (DEDUCED). -/
def dropReq (s : State) (q : Req) (point tgt gran : Nat) : State :=
  brkDrop s q.tag point (accCode q.acc) q.src tgt gran (if point = 1 then 0 else q.fpa) (refusedRec q 0x20 point)

/-- Whether the ownership mask of a granule admits an access (R20). Log entry 13 (DEDUCED). -/
def granAdmits (e : Gran) (tag : Nat) (acc : Access) : Bool :=
  if tag = 16 then true
  else if e.owner < 16 then e.owner == tag
  else if e.owner = 16 then decide (acc = .read) && e.readers.testBit tag
  else false

/-! ### Performing an access, R101, R102, R118–R124 -/

/-- The operand of an atomic in a line. -/
def atomRead (l : Line) (wide : Bool) (idx : Nat) : Dword :=
  if wide then lineWord l (idx / 2) else (l.extractLsb' (32 * idx) 32).setWidth 64

/-- The line with an atomic's operand replaced. -/
def atomWrite (l : Line) (wide : Bool) (idx : Nat) (v : Dword) : Line :=
  if wide then setLineWord l (idx / 2) v
  else mergeLine l ((v.setWidth 32).setWidth 512 <<< (32 * idx)) (enables (4 * idx) 4)

/-- The result an atomic stores (R102), on operands of its width. -/
def atomResult (op : AtomOp) (old opnd cmp : Dword) : Dword :=
  match op with
  | .add => old + opnd
  | .swap => opnd
  | .cas => if old = cmp then opnd else old
  | .umin => if opnd.toNat < old.toNat then opnd else old
  | .umax => if old.toNat < opnd.toNat then opnd else old
  | .and => old &&& opnd
  | .or => old ||| opnd
  | .xor => old ^^^ opnd

/-- An operand cut to the width of the atomic. -/
def atomCut (wide : Bool) (v : Dword) : Dword := if wide then v else (v.setWidth 32).setWidth 64

/-- The line a write or an atomic makes of the old one, and its completion. -/
def applyAccess (old : Line) : Access → Line × Resp
  | .read => (old, .data old)
  | .write en data => (mergeLine old data en, .done)
  | .atomic op wide idx opnd cmp =>
    let o := atomRead old wide idx
    (atomWrite old wide idx (atomResult op o (atomCut wide opnd) (atomCut wide cmp)), .old o)

/-- Whether an access is a full-line write (R122). -/
def isFullWrite : Access → Bool
  | .write en _ => en == BitVec.allOnes 64
  | _ => false

/-- A line refused as poison: the cove's count and its record (R119, SC_CV_PREAD). Log entry 14 (DEDUCED). -/
def refusePoison (s : State) (q : Req) : State :=
  let s := if q.tag < 16 then incCtr s (C.SC_CV_PREAD q.tag) else s
  refuse s q 0x23 0

/-- What a transaction makes of a line, when it writes it, and its completion. -/
abbrev LineOp := Line → Option Line × Resp

/-- The operation of an access: a read writes nothing (R102, R122, R123). -/
def accOp (a : Access) : LineOp := fun l =>
  let (l', r) := applyAccess l a
  (if a == .read then none else some l', r)

/-- Perform a transaction that has passed the check points on the line at `sda` of stack `n` (R118–R124). No response
means that a failed check suppressed it. Log entry 14 (DEDUCED). -/
def performLine (s : State) (n sda g : Nat) (link : Bool) (q : Req) (op : LineOp) : Option Resp × State :=
  let isRead := q.acc == .read
  if !isRead && keyStopped s g then
    let s := if q.tag < 16 then incCtr s (C.SC_CV_KSTOP q.tag) else s
    (some (.error .keyStop), refuse s q 0x24 0)
  else if isFullWrite q.acc then
    match sendLineTo s n sda (writeKid s g) (applyAccess 0 q.acc).1 (granCove s g) link q with
    | (true, s) => (some .done, countUse s g)
    | (false, s) => (some (.error .poison), refusePoison s q)
  else
    let (f, s) := checkLine s n sda (expectedKids s g) (granCove s g) link
      { q with origin := if isRead then .demand else .rmw }
    match f with
    | .failed _ => (none, s)
    | .poisoned => (some (.error .poison), refusePoison s q)
    | .uncorrectable => (some (.error .poison), refusePoison s q)
    | .good l _ _ =>
      match op l with
      | (none, r) => (some r, s)
      | (some l', r) => (some r, countUse (writeLine s n sda q.fpa (writeKid s g) l') g)

/-- A data-granule access at its controller: a free granule or an untrained stack has no storage whatever the tag; then
ownership, fence and the line (R20, R55, R94, R95). Log entry 13 (DEDUCED). -/
def scAccess (s : State) (g : Nat) (link : Bool) (q : Req) (op : LineOp) : Option Resp × State :=
  let e := granOf s g
  let (n, sda) := placeByte (dataPer s) g e.mode (q.fpa % 2 ^ 28)
  if e.owner = 31 || !flag s (F.SC_STATUS_TRAINED n) then (some (.error .address), refuse s q 0x22 0)
  else if !granAdmits e q.tag q.acc then (some (.error .dropped), dropReq s q 3 (0xB000 + n) g)
  else if q.tag < 16 && fenceOn s (granKey g) then (some (.error .fenced), refuse s q 0x21 0)
  else performLine s n sda g link q op

/-! ### Tidepool, R126–R128 -/

/-- A tidepool word, zero when never written. Log entry 4 (DESIGN CHOICE). -/
def TpWord.zero : TpWord := ⟨0, 0, false⟩
/-- The stored word `w` of a bank. Log entry 4 (DESIGN CHOICE). -/
def tpWord (s : State) (bank w : Nat) : TpWord := tgetD s.mem.tpw (32768 * bank + w) TpWord.zero
/-- The state with a tidepool word stored. -/
def setTp (s : State) (bank w : Nat) (v : TpWord) : State :=
  { s with mem := { s.mem with tpw := tsetD s.mem.tpw (32768 * bank + w) TpWord.zero v } }

/-- The written bit of a line of a bank (R128). Log entry 4 (DESIGN CHOICE). -/
def tpWrittenBit (s : State) (bank line : Nat) : Bool := tgetD s.mem.tpWritten (bank * 4096 + line) false
/-- The state with a written bit set. -/
def setTpWritten (s : State) (bank line : Nat) (b : Bool) : State :=
  { s with mem := { s.mem with tpWritten := tsetD s.mem.tpWritten (bank * 4096 + line) false b } }

/-- Check one stored word: its data when readable; corrections are counted and stored, an uncorrectable word is
poisoned and counted (R127). Log entry 15 (DESIGN CHOICE). -/
def tpCheck (s : State) (bank w : Nat) : Option Dword × State :=
  let x := tpWord s bank w
  let cove := ownerOf s kBank bank
  if x.poison then (none, s)
  else match decodeWord x.data x.code with
    | .clean => (some x.data, s)
    | .corrected d c _ =>
      (some d, setTp (incCove (lbAdd (incCtr s C.SC_TP_CE) 10 1) cove C.SC_CV_CE) bank w ⟨d, c, false⟩)
    | .uncorrectable =>
      (none, setTp (incCove (lbAdd (incCtr s C.SC_TP_UE) 11 1) cove C.SC_CV_POISON) bank w { x with poison := true })

/-- Check the words of a line of a bank that satisfy `need`; unchecked words give zero. The flag says one was unreadable. -/
def tpReadWords (s : State) (bank line : Nat) (need : Nat → Bool) : List Dword × Bool × State :=
  (List.range 8).foldl (fun (a : List Dword × Bool × State) k =>
    if need k then
      match tpCheck a.2.2 bank (line * 8 + k) with
      | (some d, s) => (a.1 ++ [d], a.2.1, s)
      | (none, s) => (a.1 ++ [0], true, s)
    else (a.1 ++ [0], a.2.1, a.2.2)) ([], false, s)

/-- Store the words of a line that satisfy `p` (R127). -/
def tpStore (s : State) (bank line : Nat) (l : Line) (p : Nat → Bool) : State :=
  (List.range 8).foldl (fun s k =>
    if p k then let d := lineWord l k; setTp s bank (line * 8 + k) ⟨d, wordCode d, false⟩ else s) s

/-- The byte enables of word `k`, as the bytes of a write cover it: 0 none, 255 all. -/
def wordEnables (en : BitVec 64) (k : Nat) : Nat := (en >>> (8 * k)).toNat % 256

/-- The words whose old bytes an access needs: all for a read, the partly written ones for a write, the operand's for
an atomic (R127, R128). Log entry 15 (DESIGN CHOICE). -/
def needOld (acc : Access) (k : Nat) : Bool :=
  match acc with
  | .read => true
  | .write en _ => wordEnables en k != 0 && wordEnables en k != 255
  | .atomic _ _ idx _ _ => idx.val / 2 == k

/-- The words an access stores. Log entry 15 (DESIGN CHOICE). -/
def touches (acc : Access) (k : Nat) : Bool :=
  match acc with
  | .read => false
  | .write en _ => wordEnables en k != 0
  | .atomic _ _ idx _ _ => idx.val / 2 == k

/-- A tidepool access at its bank: ownership, fence, then the words (R20, R55, R127, R128). Log entry 15 (DESIGN CHOICE). -/
def tpAccess (s : State) (bank byte : Nat) (q : Req) : Option Resp × State :=
  let own := ownerOf s kBank bank
  let line := byte / 64
  if q.tag != 16 && own != some q.tag then (some (.error .dropped), dropReq s q 2 (0xA000 + bank) 0)
  else if q.tag < 16 && fenceOn s (resKey kBank bank) then (some (.error .fenced), refuse s q 0x21 0)
  else if !tpWrittenBit s bank line then
    match q.acc with
    | .read => (some (.data 0), s)
    | _ =>
      let (l, r) := applyAccess 0 q.acc
      (some r, setTpWritten (tpStore s bank line l (fun _ => true)) bank line true)
  else
    let (ws, bad, s) := tpReadWords s bank line (needOld q.acc)
    if bad then (some (.error .poison), refusePoison s q)
    else
      let (l, r) := applyAccess (lineOfWords ws) q.acc
      (some r, tpStore s bank line l (touches q.acc))

/-- The controller or bank that an FPA addresses, as a unit identifier; 0 where it decodes to nothing (R22, R93, R96).
Log entry 13 (DEDUCED). -/
def targetUnit (s : State) (fpa : Nat) : Nat :=
  match decodeFpa s fpa with
  | .data g => 0xB000 + (placeByte (dataPer s) g (granOf s g).mode (fpa % 2 ^ 28)).1
  | .metadata => 0xB000 + (fpa / 2 ^ 28 - 32 * dataPer s) / (slotsPer s - dataPer s)
  | .tidepool b _ => 0xA000 + b
  | .nothing => 0

/-- Perform an access at its controller or bank; a reserved tag is dropped at the first check point (R18, R20, R93–R95).
Log entry 13 (DEDUCED). -/
def memAccess (s : State) (link : Bool) (q : Req) : Option Resp × State :=
  if 16 < q.tag then (some (.error .dropped), dropReq s q 1 (targetUnit s q.fpa) 0)
  else match decodeFpa s q.fpa with
    | .data g => scAccess s g link q (accOp q.acc)
    | .tidepool b o => tpAccess s b o q
    | _ => (some (.error .address), refuse s q 0x22 0)

/-! ### Sweep accesses -/

/-- A sweep engine's request on a line (R19). -/
def sweepReq (n fpa : Nat) (o : Origin) : Req := ⟨16, 0x6000 + n, fpa, .read, none, o⟩

end Sys2Proof.Machine
end

