-- ==== Sys2Proof/Machine/Access.lean ====
section
/-!
DEFINITION. Register accesses of a requester: the windows it reaches, its own copies of registers, and the states of a
cove (R6, R17, R20, R26, R246, R305).
-/
namespace Sys2Proof.Machine

/-- The window offset of cove `c` (R6). -/
def winBase (c : Nat) : Nat := 0x1000000 + 0x100000 * c

/-- A virtual function's access to another cove's window is dropped at the register window; LAST2 and the record hold the offset
in the 32 MiB space (R20, R22). Log entries 11 (DESIGN CHOICE), 58 (DESIGN CHOICE). -/
def winDrop (s : State) (v c : Nat) (write : Bool) (off : Nat) : State :=
  brkDrop s v 4 (b2n write) (0x8001 + v) (0xC000 + c) 0 off
    ⟨0, false, false, b2n write, 1, 0x20, off, 2, 0x8001 + v, 7, 4⟩

/-- A write of requester `q` to offset `off` of cove `c`'s window, with the effect `s'`: a foreign virtual function is
dropped, an absent cove's window ignores it (R20, R26). Log entries 10 (DESIGN CHOICE), 11 (DESIGN CHOICE). -/
def atWindow (s : State) (q : Requester) (c off : Nat) (s' : State) : Ans :=
  if hostClosed s then .next (closedAccess s q)
  else match q with
    | .vf v =>
      if v.val ≠ c then .next (winDrop s v.val c true off)
      else if coveExists s c then .next s' else .next s
    | _ => if coveExists s c then .next s' else .next s

/-- A write of requester `q` to the fabric-global space, which a virtual function never reaches (R6).
Log entries 10 (DESIGN CHOICE), 11 (DESIGN CHOICE). -/
def atFabric (s : State) (q : Requester) (s' : State) : Ans :=
  if hostClosed s then .next (closedAccess s q)
  else match q with
    | .vf _ => .next (emit s (.unsupported q))
    | _ => .next s'

/-- The requester's own copy of a field (R246). -/
def Fld.own (f : Fld) (q : Requester) : Fld := { f with off := f.off + 2 ^ 32 * qIdx q }

/-- The states of a cove (R305, CV_MGR_STATUS.STATE). -/
def coveSt (s : State) (c : Nat) : Nat := fld s (F.CV_MGR_STATUS_STATE c)
/-- QUIESCING: the cove drains. -/
def quiescing (s : State) (c : Nat) : Bool := coveSt s c == 2
/-- Whether the cove takes new work: it is ACTIVE (R305, R306). -/
def coveActive (s : State) (c : Nat) : Bool := coveExists s c && coveSt s c == 1
/-- Whether the cove's quiesce or present drain is an ABORT (R306). -/
def quiesceAbort (s : State) (c : Nat) : Bool := flag s (F.CV_MGR_STATUS_ABORT c)

/-- Whether the cove's saves, restores and steps stand still: QUIESCED, or draining under ABORT (R306). Log entry 32 (DESIGN CHOICE). -/
def workStopped (s : State) (c : Nat) : Bool := coveSt s c == 3 || (quiescing s c && quiesceAbort s c)

/-- CLEAN clears at a cove's first work (R305). -/
def unclean (s : State) (c : Nat) : State := setFlag s (F.CV_MGR_STATUS_CLEAN c) false

end Sys2Proof.Machine
end

