-- ==== Sys2Proof/Machine/Traffic.lean ====
section
/-!
DEFINITION. Regulators and the traffic at the controllers: charging, slots, classes and urgency (R19, R101, R275–R282),
and the transfers of TRANSFER_ISSUE, the SC_ commands and the tidepool commands.
-/
namespace Sys2Proof.Machine

/-- Default parameters of a regulator (R39). -/
def RegParam.default (r : Nat) : RegParam := ⟨if 224 ≤ r then 2 else 1, false, false, 0, 4, 0⟩
/-- A regulator that no chart has named (R39, R284). -/
def Regul.init (r : Nat) : Regul :=
  ⟨RegParam.default r, 0, 0, false, 0, 0, 0, false, false, 0, false, none⟩

/-- Regulator `r`. -/
def regulOf (s : State) (r : Nat) : Regul := tgetD s.bw r (Regul.init r)
/-- The state with regulator `r` set. -/
def setRegul (s : State) (r : Nat) (v : Regul) : State := { s with bw := tsetD s.bw r (Regul.init r) v }

/-- Unlimited credit: a budget of 0 on a BE or BG regulator (R278). -/
def Regul.unlimited (g : Regul) : Bool := g.par.cls != 0 && g.eff == 0

/-- Count charged bytes with their owner at the moment of the charge (R275, BW_CV_ counters). -/
def countBytes (s : State) (r cls n : Nat) : State :=
  let o := regOwner s r
  if o < 16 then
    addCtr s (if cls = 0 then C.BW_CV_BYTES_RT o else if cls = 1 then C.BW_CV_BYTES_BE o else C.BW_CV_BYTES_BG o) n
  else if o = 16 then addCtr s C.BW_FAB_SWEEP n
  else s

/-- Charge `n` units to regulator `r`, which has the credit for them (R275, R278). -/
def takeUnits (s : State) (r n : Nat) : State :=
  let g := regulOf s r
  let out := !g.unlimited && g.credit == n
  let s := setRegul s r { g with credit := g.credit - n, got := g.got + n, held := g.held || out }
  let o := regOwner s r
  countBytes (if out && !g.held && decide (o < 16) then incCtr s (C.BW_CV_HELD o) else s) r g.par.cls (64 * n)

/-- Charge one unit to regulator `r`, or nothing when its credit is 0 (R275, R278). -/
def charge (s : State) (r : Nat) : Option State :=
  let g := regulOf s r
  if g.unlimited || g.credit != 0 then some (takeUnits s r 1) else none

/-- Charge the transaction of a unit; traffic without a regulator is only counted (R275, R276). -/
def chargeUnit (s : State) (src : Nat) : Option State :=
  match regOf s src with
  | some r => charge s r
  | none => some (addCtr s C.BW_FAB_UNREG 64)

/-- Whether an FPA is charged: the tidepool is not (R275). -/
def charged (s : State) (fpa : Nat) : Bool := match decodeFpa s fpa with | .tidepool _ _ => false | _ => true

/-- Lines of a unit's present work that are issued and charged, while the work waits for credit for the rest (R275, R278). -/
def issuedOf (s : State) (u : Nat) : Nat := tgetD s.en.issued u 0
/-- The state with the number of a unit's issued lines set. -/
def setIssued (s : State) (u n : Nat) : State := { s with en := { s.en with issued := tsetD s.en.issued u 0 n } }

/-- One transaction on `fpa`: one issued in an earlier window, or one charged now; nothing when the credit is 0 (R275, R278).
Log entry 27 (DESIGN CHOICE). -/
def chargeLine (s : State) (src fpa : Nat) : Option State :=
  if !charged s fpa then some s
  else if issuedOf s src != 0 then some (setIssued s src (issuedOf s src - 1))
  else chargeUnit s src

/-- The stack and pseudo-channel an FPA is queued at, when it is data (R97, R99). -/
def queueAt (s : State) (fpa : Nat) : Option (Nat × Nat) :=
  match decodeFpa s fpa with
  | .data g =>
    let (n, sda) := placeByte (dataPer s) g (granOf s g).mode (fpa % 2 ^ 28)
    some (n, pseudoCh sda)
  | _ => none

/-- Whether the stack of an FPA is in self-refresh for a frequency change: requests wait in its controller (R343). -/
def stackRested (s : State) (fpa : Nat) : Bool := match queueAt s fpa with | some p => s.ck.changing.contains p.1 | none => false

/-- One transaction of a unit's work on `fpa`, which can be performed now: nothing while its stack changes frequency or the credit
is 0 (R275, R278, R343). -/
def chargeWork (s : State) (src fpa : Nat) : Option State := if stackRested s fpa then none else chargeLine s src fpa

/-- Work that needs more transactions than its unit has credit for issues what the credit allows, and waits for the next window
with the rest; it takes effect with its last transaction (R275, R278). Log entry 27 (DESIGN CHOICE). -/
def issueRest (s : State) (src : Nat) : State :=
  match regOf s src with
  | some r =>
    let n := (regulOf s r).credit
    if n = 0 then s else setIssued (takeUnits s r n) src (issuedOf s src + n)
  | none => s

/-- Work of a unit, where its credit paid for it (R278). -/
def paidOr (s : State) (src : Nat) (t : Option State) : State := t.getD (issueRest s src)

/-- Class and urgency a unit's transaction carries (R276, R279, R281). -/
def classOf (s : State) (src : Nat) : Nat × Nat :=
  match regOf s src with
  | some r => let g := regulOf s r; (g.par.cls, if g.par.urgEn then g.urg else 0)
  | none => (1, 0)

/-- The arbitration level of a class and an urgency (R279). Log entry 55 (DESIGN CHOICE). -/
def arbLevel (cls urg : Nat) : Nat :=
  if cls = 2 then 4 else if cls = 0 && urg = 3 then 1 else if cls = 0 && urg = 2 then 2 else 3

/-- The tag the fabric stamps on a transaction of a unit; none when the unit issues nothing (R14, R19). -/
def stampTag (s : State) (src tag : Nat) : Option Nat :=
  match src / 4096 with
  | 6 => some tag
  | 7 => some tag
  | 8 => if src % 4096 = 0 then some 16 else if src % 4096 ≤ 16 then some (src % 4096 - 1) else none
  | 9 => some 16
  | 0xD => some 16
  | _ => unitOwner s src

/-- Transactions waiting at controller `n` (SC_OUTST.CUR). -/
def slotsUsed (s : State) (n : Nat) : Nat :=
  (s.xl.xfers.filter (fun e => e.2.stage == .waiting && ((queueAt s e.2.fpa).map (·.1)) == some n)).length

/-- The state with transfer `id` set. -/
def setXfer (s : State) (id : Nat) (x : Xfer) : State := { s with xl := { s.xl with xfers := tput s.xl.xfers id x } }
/-- The state without transfer `id`. -/
def delXfer (s : State) (id : Nat) : State := { s with xl := { s.xl with xfers := tdel s.xl.xfers id } }
/-- Add a transfer under the next number. -/
def addXfer (s : State) (x : Xfer) : State :=
  { s with xl := { s.xl with xfers := tput s.xl.xfers s.xl.nextXfer x, nextXfer := s.xl.nextXfer + 1 } }

/-- Whether a client holds a fault of a context, so that it issues nothing for it (R152). -/
def ctxHeldAt (s : State) (client cove ctx : Nat) : Bool :=
  s.xl.xfers.any (fun e => e.2.client == some client && e.2.tag == cove && e.2.ctx == ctx &&
    match e.2.stage with | .held _ _ => true | _ => false)

/-- A transfer arrives at its controller or bank, with its class and urgency, behind those that have arrived (R101, R279). -/
def arrive (s : State) (id : Nat) (x : Xfer) (cls urg : Nat) : State :=
  setXfer { s with xl := { s.xl with nextOrder := s.xl.nextOrder + 1 } } id
    { x with cls := cls, urg := urg, order := s.xl.nextOrder, stage := .waiting }

/-- Issue a ready transfer to its controller: a slot, mesh credit (`mesh`), one unit of regulator credit, class and urgency
stamped (R101, R275, R278). Without a slot or mesh credit the master is held back and its WANT grows, once for the line in a
window; without regulator credit it waits (R69, R283). Log entry 55 (DESIGN CHOICE). -/
def issueXfer (s : State) (mesh : Bool) (id : Nat) (x : Xfer) : State :=
  let (cls, urg) := classOf s x.src
  match decodeFpa s x.fpa with
  | .tidepool _ _ => if mesh then arrive s id x cls urg else s
  | _ =>
    let n := (queueAt s x.fpa).map (·.1)
    if (n.map (slotsUsed s)).getD 0 ≥ 2048 || !mesh then
      match regOf s x.src with
      | some r =>
        if x.refused then s
        else let g := regulOf s r; setXfer (setRegul s r { g with want := g.want + 1 }) id { x with refused := true }
      | none => s
    else match chargeUnit s x.src with
      | none => s
      | some s1 =>
        let s2 := arrive s1 id x cls urg
        match n with
        | some n =>
          let cur := slotsUsed s2 n
          if fld s2 (F.SC_OUTST_PEAK n) < cur then setFld s2 (F.SC_OUTST_PEAK n) cur else s2
        | none => s2

/-- TRANSFER_ISSUE: a master issues a transaction (R19, R275). -/
def execTransferIssue (iss : Issue) (s : State) : Ans :=
  match iss with
  | .xfer id mesh =>
    match tfind s.xl.xfers id with
    | some x =>
      if x.stage == .ready && !((x.client.map (ctxHeldAt s · x.tag x.ctx)).getD false) then
        atDomain s (unitDomain x.src) (issueXfer s mesh id x)
      else .next s
    | none => .next s
  | .raw tag src fpa acc =>
    match stampTag s src.toNat tag.val with
    | none => .next s
    | some t =>
      let x : Xfer := ⟨t, src.toNat, none, 0, 0, 64, acc, fpa.toNat, false, 1, 0, false, false, none, false, 0, .ready⟩
      atDomain s (unitDomain src.toNat) (issueXfer (addXfer s x) true s.xl.nextXfer x)

/-- Whether a waiting request waits at the pseudo-channel. Log entry 55 (DESIGN CHOICE). -/
def waitsAt (s : State) (p : Option (Nat × Nat)) (x : Xfer) : Bool := x.stage == .waiting && queueAt s x.fpa == p

/-- Whether an older transaction on the line of `x` waits before it (R101). -/
def behind (s : State) (x : Xfer) : Bool :=
  s.xl.xfers.any (fun e => e.2.stage == .waiting && decide (e.2.order < x.order) && sameLine e.2.fpa x.fpa)

/-- The arbitration level of a transfer (R279). -/
def Xfer.level (x : Xfer) : Nat := arbLevel x.cls x.urg

/-- The requests that a controller picks from at a pseudo-channel: the oldest that waits on each line (R101, R279). -/
def contenders (s : State) (p : Nat × Nat) : List Xfer :=
  (s.xl.xfers.filter (fun e => waitsAt s (some p) e.2 && !behind s e.2)).map (·.2)

/-- Whether `x` may be served first of the requests `l` at a pseudo-channel: its level is the highest of theirs, and BG has its floor
of 1 in 64 slots while no URG 3 request waits (R279, R280). -/
def firstOf (s : State) (p : Nat × Nat) (l : List Xfer) (x : Xfer) : Bool :=
  let bgDue := !l.any (fun y => y.level == 1) && tgetD s.mem.bgSlots (p.1 * 32 + p.2) 0 ≥ 63 && l.any (fun y => y.level == 4)
  if bgDue then x.level == 4 else !l.any (fun y => y.level < x.level)

/-- Whether the controller may pick transfer `x` next: the oldest on its line, and among those the highest level with the BG
floor; a bank of the tidepool keeps the order on a line alone; a stack that changes frequency picks none (R101, R279, R280, R343).
Log entry 55 (DESIGN CHOICE). -/
def mayPick (s : State) (x : Xfer) : Bool :=
  !behind s x && match queueAt s x.fpa with
  | none => true
  | some p => !s.ck.changing.contains p.1 && firstOf s p (contenders s p) x

/-- Count the command slot a pick takes at its pseudo-channel (R280). -/
def countSlot (s : State) (x : Xfer) : State :=
  match queueAt s x.fpa with
  | none => s
  | some (n, pc) =>
    let k := n * 32 + pc
    let bgWaits := s.xl.xfers.any (fun e => waitsAt s (some (n, pc)) e.2 && e.2.level == 4)
    let v := if x.level = 4 || !bgWaits then 0 else min (tgetD s.mem.bgSlots k 0 + 1) 63
    { s with mem := { s.mem with bgSlots := tsetD s.mem.bgSlots k 0 v } }

/-- The request a transfer makes. -/
def Xfer.req (x : Xfer) : Req :=
  ⟨x.tag, x.src, x.fpa, x.acc, x.client.map (fun _ => (x.ctx, some x.dva)), .demand⟩

/-- The domain of the controller or bank that an FPA addresses; management's where it decodes to nothing (R3, R93, R330). -/
def fpaDomain (s : State) (fpa : Nat) : Nat :=
  match decodeFpa s fpa with
  | .tidepool b _ => 80 + b / 64
  | .nothing => 94
  | _ => targetUnit s fpa - 0xB000

/-- Perform transfer `id`, which its controller or bank has picked (R101, R144). -/
def serveXfer (s : State) (link : Bool) (id : Nat) (x : Xfer) : State :=
  let (r, s) := memAccess (countSlot s x) link x.req
  setXfer s id { x with stage := match r with | some r => .done r | none => .suppressed }

/-- Perform waiting transfer `id` at its controller or bank, when it may be picked (R101, R144). -/
def performXfer (s : State) (id : Nat) (link : Bool) (kind : Access → Bool) (tp : Bool) : Ans :=
  match tfind s.xl.xfers id with
  | none => .next s
  | some x =>
    let isTp := match decodeFpa s x.fpa with | .tidepool _ _ => true | _ => false
    if x.stage == .waiting && kind x.acc && isTp == tp && mayPick s x then
      atDomain s (fpaDomain s x.fpa) (serveXfer s link id x)
    else .next s

/-- Put a waiting transfer into a list that its controller serves in order. -/
def byOrder (e : Nat × Xfer) : List (Nat × Xfer) → List (Nat × Xfer)
  | [] => [e]
  | f :: l => if e.2.order < f.2.order then e :: f :: l else f :: byOrder e l

/-- The transactions that wait on a line, oldest first (R101). -/
def waitingOn (s : State) (fpa : Nat) : List (Nat × Xfer) :=
  (s.xl.xfers.filter (fun e => e.2.stage == .waiting && sameLine e.2.fpa fpa)).foldr byOrder []

/-- The transfer of a list that has waited longest. -/
def oldest (l : List (Nat × Xfer)) : Option (Nat × Xfer) := (l.foldr byOrder []).head?

/-- The waiting transfer that a controller or bank serves before request `x`, which arrives now: one on its line, or at its
pseudo-channel one that goes before it in the order of R279 and R280; none when it is the request's turn (R101). -/
def turnBefore (s : State) (x : Xfer) : Option (Nat × Xfer) :=
  match queueAt s x.fpa with
  | none => (waitingOn s x.fpa).head?
  | some p =>
    let l := if behind s x then contenders s p else x :: contenders s p
    if !behind s x && firstOf s p l x then none
    else oldest (s.xl.xfers.filter (fun e => waitsAt s (some p) e.2 && !behind s e.2 && firstOf s p l e.2))

/-- Serve what goes before a request that arrives now, one transfer at a time. -/
def serveBefore : Nat → Xfer → State → State
  | 0, _, s => s
  | n + 1, x, s =>
    match turnBefore s x with
    | none => s
    | some (id, y) => serveBefore n x (serveXfer s false id y)

/-- A request arrives at its controller or bank and has its turn there: what goes before it is served first, and it takes its slot
(R101, R279, R280). Log entry 55 (DESIGN CHOICE). -/
def takeTurn (s : State) (q : Req) : State :=
  let (cls, urg) := classOf s q.src
  let x : Xfer := ⟨q.tag, q.src, none, 0, 0, 64, q.acc, q.fpa, false, cls, urg, false, false, none, false, s.xl.nextOrder, .waiting⟩
  countSlot (serveBefore s.xl.xfers.length x s) x

/-- Perform an access that arrives at its controller or bank now, when it has its turn there (R101, R279). -/
def accessNow (s : State) (q : Req) : Option Resp × State := memAccess (takeTurn s q) false q

/-- A transaction of management that no regulator meters, counted as such; it is performed as if a frequency change of its stack had
ended (R276, R343). Log entry 55 (DESIGN CHOICE). -/
def mgmtCharge (s : State) (fpa : Nat) : State := if charged s fpa then addCtr s C.BW_FAB_UNREG 64 else s

/-- One read-modify-write of a line by management, as a partial write whose bytes `f` takes from the old line; where `f` gives
none, nothing is written. The old line, when it was performed (R101, R123, R229). -/
def mgmtModify (s : State) (fpa : Nat) (f : Line → Option Line) : Option Line × State :=
  let q : Req := ⟨16, 0x9000, fpa, .write 0 0, none, .rmw⟩
  let s := takeTurn (mgmtCharge s fpa) q
  match decodeFpa s fpa with
  | .data g =>
    match scAccess s g false q (fun l => (f l, .data l)) with
    | (some (.data l), s) => (some l, s)
    | (_, s) => (none, s)
  | _ => (none, s)

/-- A management access by FPA of an agent that has no tag of its own, such as the object unit: data, or an error. -/
def mgmtAccess (s : State) (fpa : Nat) (acc : Access) : Option Resp × State :=
  accessNow (mgmtCharge s fpa) ⟨16, 0x9000, fpa, acc, none, .demand⟩

/-- Whether an access is a read. -/
def isReadAcc (a : Access) : Bool := a == .read
/-- Whether an access is a partial write. -/
def isPartialWrite (a : Access) : Bool := match a with | .write en _ => en != BitVec.allOnes 64 | _ => false
/-- Whether an access is the given atomic. -/
def isAtom (op : AtomOp) (a : Access) : Bool := match a with | .atomic o _ _ _ _ => o == op | _ => false

/-- SC_READ (R118, R119). -/
def execScRead (id : Nat) (linkBad : Bool) (s : State) : Ans := performXfer s id linkBad isReadAcc false
/-- SC_FULL_WRITE (R122). -/
def execScFullWrite (id : Nat) (s : State) : Ans := performXfer s id false isFullWrite false
/-- SC_PARTIAL_WRITE (R123). -/
def execScPartialWrite (id : Nat) (linkBad : Bool) (s : State) : Ans := performXfer s id linkBad isPartialWrite false
/-- ATOMIC_ADD (R102). -/
def execAtomicAdd (id : Nat) (s : State) : Ans := performXfer s id false (isAtom .add) false
/-- ATOMIC_SWAP (R102). -/
def execAtomicSwap (id : Nat) (s : State) : Ans := performXfer s id false (isAtom .swap) false
/-- ATOMIC_CAS (R102). -/
def execAtomicCas (id : Nat) (s : State) : Ans := performXfer s id false (isAtom .cas) false
/-- ATOMIC_UMIN (R102). -/
def execAtomicUmin (id : Nat) (s : State) : Ans := performXfer s id false (isAtom .umin) false
/-- ATOMIC_UMAX (R102). -/
def execAtomicUmax (id : Nat) (s : State) : Ans := performXfer s id false (isAtom .umax) false
/-- ATOMIC_AND (R102). -/
def execAtomicAnd (id : Nat) (s : State) : Ans := performXfer s id false (isAtom .and) false
/-- ATOMIC_OR (R102). -/
def execAtomicOr (id : Nat) (s : State) : Ans := performXfer s id false (isAtom .or) false
/-- ATOMIC_XOR (R102). -/
def execAtomicXor (id : Nat) (s : State) : Ans := performXfer s id false (isAtom .xor) false
/-- TIDEPOOL_READ (R127, R128). -/
def execTidepoolRead (id : Nat) (s : State) : Ans := performXfer s id false isReadAcc true
/-- TIDEPOOL_WRITE (R127, R128). -/
def execTidepoolWrite (id : Nat) (s : State) : Ans := performXfer s id false (fun a => a != .read) true

/-- TIDEPOOL_SCRUB_VISIT: correct in place, or set the poison bit (R127). Log entry 15 (DESIGN CHOICE). -/
def execTidepoolScrubVisit (bank : Fin 512) (word : BitVec 15) (s : State) : Ans :=
  atDomain s (80 + bank.val / 64) (tpCheck s bank.val word.toNat).2

end Sys2Proof.Machine
end

