-- ==== Sys2Proof/Machine/Regul.lean ====
section
/-!
DEFINITION. The windows of the regulators, the guarantee-missed monitor and urgency (R277–R284, R289).
-/
namespace Sys2Proof.Machine

/-- The resource whose fence covers the master of a regulator; a sweep engine has none (R16, R55). -/
def regulRes (r : Nat) : Option Nat :=
  if r < 128 then some (resKey kEP r) else if r < 192 then some (resKey kSH ((r - 128) / 2))
  else if r < 208 then some (resKey kRM (r - 192)) else if r < 216 then some (resKey kTU (r - 208))
  else if r < 224 then some (resKey kTK (r - 216)) else none

/-- Whether the master of a regulator is fenced, or its cove's quiesce is acknowledged or under way (R283, R308, R309). -/
def regulFenced (s : State) (r : Nat) : Bool :=
  ((regulRes r).map (fenceOn s)).getD false
    || (decide (regOwner s r < 16) && (quiescing s (regOwner s r) || coveSt s (regOwner s r) == 3))

/-- The unit that a regulator meters (R16). -/
def regulUnit (r : Nat) : Nat :=
  if r < 128 then r else if r < 192 then 0x1000 + (r - 128) else if r < 208 then 0x3000 + (r - 192)
  else if r < 216 then 0x4000 + (r - 208) else if r < 224 then 0x5000 + (r - 216) else 0x6000 + (r - 224)

/-- Start a window of regulator `r`: full credit, and nothing counted yet; a window that begins fenced is not judged
(R278, R283). A partial window that this abandons is not judged (R88). -/
def startWindow (s : State) (r : Nat) : State :=
  let g := regulOf s r
  let s := setRegul s r { g with credit := g.eff, held := false, got := 0, want := 0, judged := !regulFenced s r }
  { s with xl := { s.xl with xfers := s.xl.xfers.map (fun e =>
      (e.1, if regOf s e.2.src = some r then { e.2 with refused := false } else e.2)) } }

/-- A regulator's parameters with its monitor ARMED and both runs cleared (R284). -/
def Regul.rearm (g : Regul) : Regul := { g with missing := false, run := 0, runMiss := false }

/-- A regulator with new parameters and their effective budget: its monitor is ARMED, and it presents no urgency without URG_EN
(R65, R281, R284). -/
def Regul.install (g : Regul) (p : RegParam) (eff : Nat) : Regul :=
  { g with par := p, eff := eff, next := none, urg := if p.urgEn then g.urg else 0 }.rearm

/-- Whether a window was missed: WANT, which holds GOT, reached the effective budget and GOT did not (R283). -/
def Regul.missed (g : Regul) : Bool := decide (g.eff ≤ g.got + g.want) && decide (g.got < g.eff)

/-- The run after one more judged window, no longer than the longest a monitor compares (R284). -/
def Regul.extend (g : Regul) (m : Bool) : Regul :=
  { g with run := if g.runMiss = m then min (g.run + 1) 16 else 1, runMiss := m }

/-- Entry of a regulator into MISSING: its bit in both miss maps, the owner's status, and the interrupt (R284). -/
def enterMissing (s : State) (r : Nat) (ien : Bool) : State :=
  let o := regOwner s r
  let s := setFld s (F.BW_MISS_MAP_MISS (r / 32)) (fld s (F.BW_MISS_MAP_MISS (r / 32)) ||| 2 ^ (r % 32))
  if o < 16 then
    let s := setFld s (F.BW_CV_MISS_MAP_MISS o (r / 32)) (fld s (F.BW_CV_MISS_MAP_MISS o (r / 32)) ||| 2 ^ (r % 32))
    let s := setFlag s (F.BW_CV_STATUS_MISS o) true
    if ien then raiseSrc s (32 * o + 2) else s
  else s

/-- The monitor judges the window that ends, but not during slack (R283, R284). Log entry 27 (DESIGN CHOICE). -/
def judgeWindow (s : State) (r : Nat) : State :=
  let g := regulOf s r
  if g.par.cls != 0 || !g.judged || regulFenced s r || slackOn s then s
  else
    let m := g.missed
    let g := g.extend m
    let turn := decide (g.par.hyst + 1 ≤ g.run)
    let o := regOwner s r
    let s := if m then incCtr (if o < 16 then incCtr s (C.BW_CV_MISS o) else s) C.BW_FAB_MISS else s
    if m && !g.missing && turn then enterMissing (setRegul s r { g with missing := true }) r g.par.missIen
    else if !m && g.missing && turn then setRegul s r { g with missing := false }
    else setRegul s r g

/-- REG_WINDOW_END: the window is judged, and the next one starts at once (R277, R278, R283). -/
def execRegWindowEnd (r : Fin 256) (s : State) : Ans := atDomain s 96 (startWindow (judgeWindow s r.val) r.val)

/-- Whether rows of the present pass are still to arrive. -/
def Gather.fetching (g : Gather) : Bool := g.rows.any (fun e => e.2.isNone && !thas g.lost e.1)

/-- Bytes of the row buffer in use: dequantised rows that have arrived and are not yet pooled (R163). -/
def Gather.fill (g : Gather) : Nat := 128 * g.tbl.dimb * (g.arrived.filter (fun r => !thas g.lost r)).length

/-- The urgency that the fill of the 256 KiB row buffer calls for (R163). Log entry 55 (DESIGN CHOICE). -/
def Gather.urg (g : Gather) : Nat :=
  if !g.fetching && g.ahead.isNone && decide (g.cmd.nidx ≤ g.next) then 0
  else if 262144 ≤ 2 * g.fill then 0
  else if 262144 ≤ 4 * g.fill then 1
  else if 262144 ≤ 10 * g.fill then 2
  else if g.fetching then 3 else 0

/-- The urgency a master presents: only with URG_EN, and only while it has a tile (R163, R281). Log entry 55 (DESIGN CHOICE). -/
def mayUrge (s : State) (r : Nat) : Bool := (regulOf s r).par.urgEn && thas s.sq.engines (regulUnit r)

/-- A master presents a new URG; on a rise to 3 its waiting requests become level 1, and a fall changes none (R281, R282). -/
def presentUrg (s : State) (r urg : Nat) : State :=
  let g := regulOf s r
  let u := if mayUrge s r then urg else 0
  let s := setRegul s r { g with urg := u }
  if u = 3 && g.urg != 3 then
    { s with xl := { s.xl with xfers := s.xl.xfers.map (fun e =>
        (e.1, if e.2.stage = .waiting && regOf s e.2.src = some r then { e.2 with urg := 3 } else e.2)) } }
  else s

/-- The urgency that the bytes held in a read buffer of `size` bytes call for, against what the tile still needs (R163, R281). -/
def fillUrg (size held need : Nat) : Nat :=
  if need ≤ held ∨ size ≤ 2 * held then 0
  else if size ≤ 4 * held then 1
  else if size ≤ 10 * held then 2
  else 3

/-- Bytes of the feed buffer of an edge agent (R386). -/
def feedBuffer : Nat := 65536

/-- Bytes that the tile of an edge agent still has to fetch: the rows not yet fed that are neither masked nor of a faulted lane
(R387, R388). -/
def EpTile.need (t : EpTile) : Nat :=
  let lanes := if t.split then 2 else 1
  let left := ((List.range (t.rows * lanes)).drop t.fed).filter (fun k =>
    let second := k % lanes == 1
    !(if second then t.mask1 else t.mask0).testBit (k / lanes) && !(if second then t.fault1 else t.fault0))
  if t.ain || t.tbReq then 0 else t.rbytes * left.length

/-- The urgency a master's buffer calls for: a shoal engine's by its row buffer, an edge agent's by its feed buffer against the rows
its tile has still to feed, and another's by what its unit reports (R163, R281, R386). Log entry 55 (DESIGN CHOICE). -/
def bufferUrg (s : State) (r : Nat) (b : ReadBuffer) : Nat :=
  if 128 ≤ r ∧ r < 192 then ((tfind s.en.gp (regulUnit r)).map Gather.urg).getD 0
  else if r < 128 then ((tfind s.en.ep r).map (fun t => fillUrg feedBuffer b.held t.need)).getD 0
  else fillUrg (Config.readBuffer (regulUnit r / 4096)) b.held b.need

/-- URG_UPGRADE: the fill of a master's buffer gives it a new URG, and a rise to 3 raises its waiting requests (R281, R282). -/
def execUrgUpgrade (r : Fin 256) (b : ReadBuffer) (s : State) : Ans :=
  atDomain s (unitDomain (regulUnit r.val)) (presentUrg s r.val (bufferUrg s r.val b))

end Sys2Proof.Machine
end

