-- ==== Sys2Proof/Machine/Events.lean ====
section
/-!
DEFINITION. The object area's memory, the completion ring, events and waits (R217, R220, R236–R239).
-/
namespace Sys2Proof.Machine

/-! ### The object area, R217, R218 -/

/-- FPA of byte `off` of a cove's object area (R217). -/
def areaFpa (s : State) (c off : Nat) : Nat := 2 ^ 28 * fld s (F.OB_AREA_GRANULE c) + off

/-- Whether a cove's area is in service (R220). -/
def areaReady (s : State) (c : Nat) : Bool := flag s (F.OB_AREA_STATUS_READY c)

/-- Granules an area of 4 MiB + 32 * 2^log2 bytes spans (R218). -/
def areaSpan (log2 : Nat) : Nat := (0x400000 + 32 * 2 ^ log2 + 2 ^ 28 - 1) / 2 ^ 28

/-- Whether `n` granules from `g` are owned by cove `c`. -/
def ownsGranules (s : State) (c g n : Nat) : Bool :=
  (List.range n).all (fun i => (granOf s (g + i)).owner == c)

/-! ### The completion ring, R239 -/

/-- Records the ring holds. -/
def ringCount (s : State) (c : Nat) : Nat :=
  (fld s (F.EV_CV_CRING_PROD c) + 65536 - fld s (F.EV_CV_CRING_CONS c)) % 65536

/-- Host address of a cove's ring (EV_CRING). -/
def ringBase (s : State) (c : Nat) : Nat :=
  fld s (F.EV_CRING_LO_ADDR_LO c) * 2 ^ 14 + 2 ^ 32 * fld s (F.EV_CRING_HI_ADDR_HI c)

/-- The 16 bytes of a record (R239). -/
def ringBytes (s : State) (c : Nat) (r : RingRec) : List Byte :=
  let i := fld s (F.EV_CV_CRING_PROD c)
  let cookie := 2 ^ 22 * fld s (F.CV_MANIFEST_DEVNO c) + r.tag % 2 ^ 22
  toBytes 4 cookie ++ toBytes 2 r.event ++ toBytes 2 (r.kind % 4 + i / 1024 % 2 * 4) ++ toBytes 8 r.value

/-- Records of a cove that wait for ring space. -/
def ringWait (s : State) (c : Nat) : List RingRec := tgetD s.ob.rings c []
/-- The state with a cove's waiting records replaced. -/
def setRingWait (s : State) (c : Nat) (l : List RingRec) : State :=
  { s with ob := { s.ob with rings := tsetD s.ob.rings c [] l } }

/-- Write one record: the slot, then PROD, then the cove's completion source; nothing when the ring is full or the host
bus answers with an error (R239). -/
def putRing (s : State) (c : Nat) (r : RingRec) : Bool × State :=
  if !flag s (F.EV_CRING_LO_EN c) || ringCount s c ≥ 1024 then (false, setFlag s (F.EV_CV_CRING_STALL c) true)
  else
    let i := fld s (F.EV_CV_CRING_PROD c)
    let (ok, s1) := hostWrite s (ringBase s c + (i % 1024) * 16) (ringBytes s c r)
    if ok then (true, raiseSrc (setFld s1 (F.EV_CV_CRING_PROD c) (i + 1)) (32 * c))
    else (false, setFlag (setFlag s1 (F.EV_CV_CRING_WERR c) true) (F.EV_CV_CRING_STALL c) true)

/-- Write the waiting records in order as far as they go (R239). -/
def flushRing : Nat → State → Nat → State
  | 0, s, _ => s
  | n + 1, s, c =>
    match ringWait s c with
    | [] => s
    | r :: rest =>
      let (ok, s1) := putRing s c r
      if ok then flushRing n (setRingWait s1 c rest) c else s1

/-- Send a completion record: written at once, or waiting in order behind those that wait; a KIND 2 record beyond the
16 of its buffer is dropped and counted (R239). -/
def sendRing (s : State) (c : Nat) (r : RingRec) : State :=
  let q := ringWait s c
  if q.isEmpty then
    let (ok, s1) := putRing s c r
    if ok then s1 else setRingWait s1 c [r]
  else if r.kind = 2 && (q.filter (fun x => x.kind == 2)).length ≥ 16 then incCtr s (C.EV_CV_LOST c)
  else setRingWait (setFlag s (F.EV_CV_CRING_STALL c) true) c (q ++ [r])

/-! ### Waits, R238 -/

/-- The installed waits of a cove. -/
def waitsOf (s : State) (c : Nat) : List EvWait := tgetD s.ob.waits c []
/-- The state with a cove's waits replaced. -/
def setWaits (s : State) (c : Nat) (l : List EvWait) : State :=
  { s with ob := { s.ob with waits := tsetD s.ob.waits c [] l } }

/-- Wait slots in use: installed waits and completed ones that wait for the ring (R238, R239). -/
def slotsInUse (s : State) (c : Nat) : Nat :=
  (waitsOf s c).length + ((ringWait s c).filter (fun r => r.slot)).length

/-- A wait completes: `kind` 0 satisfied, 1 cancelled (R239, R392). Log entry 30 (DESIGN CHOICE). -/
def finishWait (s : State) (c : Nat) (w : EvWait) (kind value : Nat) : State :=
  if w.cp then emit s (.cpEvent c (2 + kind) w.tag value)
  else sendRing s c ⟨w.tag, w.event, kind, value, true⟩

/-- Complete every installed wait of an event that satisfies `p` (R236–R238). -/
def finishWaits (s : State) (c e kind value : Nat) (p : EvWait → Bool) : State :=
  let ws := waitsOf s c
  let hit (w : EvWait) : Bool := w.event == e && p w
  (ws.filter hit).foldl (fun s w => finishWait s c w kind value) (setWaits s c (ws.filter (fun w => !hit w)))

/-! ### Signals, R236, R237 -/

/-- The largest event value. -/
def evMax : Nat := 2 ^ 64 - 1

/-- An access to the 8 bytes of an event (R217). Log entry 30 (DESIGN CHOICE). -/
def evAccess (s : State) (c e : Nat) (acc : Access) : Option Resp × State :=
  mgmtAccess s (areaFpa s c (e / 8 * 64)) acc

/-- The value of event `e`, or nothing when its line cannot be read. -/
def evValue (s : State) (c e : Nat) : Option Nat × State :=
  match evAccess s c e .read with
  | (some (.data l), s) => (some (lineWord l (e % 8)).toNat, s)
  | (_, s) => (none, s)

/-- The UMAX of a signal (R236). -/
def evUmax (e v : Nat) : Access := .atomic .umax true ⟨2 * (e % 8), by omega⟩ (BitVec.ofNat 64 v) 0

/-- Apply a signal of `v` to event `e` of a cove whose area is in service, from source `src` of EV_CV_REG_LAST (R236). -/
def applySignal (s : State) (c e v src : Nat) : State :=
  match evAccess s c e (evUmax e v) with
  | (some (.old old), s) =>
    if old.toNat < v then
      if v < evMax then finishWaits s c e 0 v (fun w => decide (w.target ≤ v))
      else finishWaits (setFld (setFlag s (F.EV_CV_STATUS_EXHAUST c) true) (F.EV_CV_EXH_LAST_EVENT c) e)
        c e 0 evMax (fun _ => true)
    else
      let s := incCtr (setFlag s (F.EV_CV_STATUS_REGRESS c) true) (C.EV_CV_REGRESS c)
      setFld (setFld s (F.EV_CV_REG_LAST_EVENT c) e) (F.EV_CV_REG_LAST_SRC c) src
  | (_, s) => setFlag (incCtr s (C.EV_CV_LOST c)) (F.EV_CV_STATUS_SIGERR c) true

/-- A signal of the fabric or of a retirement: discarded and counted while no area is in service (R220, R237). -/
def signalEvent (s : State) (c e v src : Nat) : State :=
  if !coveExists s c then s
  else if areaReady s c then applySignal s c e v src
  else incCtr s (C.EV_CV_LOST c)

/-- EVENT_SIGNAL: a signal of the fabric reaches its event (R236, R237). -/
def execEventSignal (c : CoveId) (e : BitVec 16) (v : Dword) (s : State) : Ans :=
  atDomain s 94 (signalEvent s c e.toNat v.toNat 3)

/-- Install a wait, and complete it at once when the value already reaches the target (R238). -/
def installWait (s : State) (c : Nat) (w : EvWait) : State :=
  let s := setWaits s c (waitsOf s c ++ [w])
  match evValue s c w.event with
  | (some v, s) => finishWaits s c w.event 0 v (fun x => x == w && decide (w.target ≤ v))
  | (none, s) => s

/-- RESET of an event: 0 is written and every wait on it completes as cancelled (R237). Log entry 30 (DESIGN CHOICE). -/
def resetEvent (s : State) (c e : Nat) : State :=
  let (_, s) := evAccess s c e (.write (enables (8 * (e % 8)) 8) 0)
  finishWaits s c e 1 0 (fun _ => true)

/-- The event operands a requester has staged: event, value, tag (R246). -/
def evNum (s : State) (q : Requester) (c : Nat) : Nat := fld s ((F.EV_EVENT c).own q)
/-- EV_VAL of the requester. -/
def evVal (s : State) (q : Requester) (c : Nat) : Nat := fld64 s ((F.EV_VAL_LO c).own q) ((F.EV_VAL_HI c).own q)
/-- EV_TAG of the requester. -/
def evTag (s : State) (q : Requester) (c : Nat) : Nat := fld s ((F.EV_TAG c).own q)

/-- A write of EV_OP: refused with NOAREA while no area is in service (R220). Log entry 30 (DESIGN CHOICE). -/
def evOp (s : State) (q : Requester) (c : Nat) (f : State → State) : Ans :=
  atWindow s q c (winBase c + 0x6810)
    (if areaReady s c then f s else setFlag s (F.EV_CV_STATUS_NOAREA c) true)

/-- EV_OP_SIGNAL (R236). -/
def execEvOpSignal (q : Requester) (c : CoveId) (s : State) : Ans :=
  evOp s q c (fun s => applySignal s c (evNum s q c) (evVal s q c) 1)

/-- EV_OP_WAIT: a host wait is installed, or refused with WFULL (R238). -/
def execEvOpWait (q : Requester) (c : CoveId) (s : State) : Ans :=
  evOp s q c (fun s =>
    if slotsInUse s c < 256 then installWait s c ⟨evNum s q c, evVal s q c, evTag s q c, false⟩
    else setFlag s (F.EV_CV_STATUS_WFULL c) true)

/-- EV_OP_RESET (R237). -/
def execEvOpReset (q : Requester) (c : CoveId) (s : State) : Ans :=
  evOp s q c (fun s => resetEvent s c (evNum s q c))

/-- EV_OP_READ: the value goes to EV_RES; a read that the memory refuses returns its all-zero data (R21, R236). -/
def execEvOpRead (q : Requester) (c : CoveId) (s : State) : Ans :=
  evOp s q c (fun s =>
    let (v, s) := evValue s c (evNum s q c)
    setFld64 s ((F.EV_RES_LO_VALUE c).own q) ((F.EV_RES_HI_VALUE c).own q) (v.getD 0))

/-- EV_CRING_CONS: checked as R149 with 1,024; the status bits written with 1 clear; waiting records are written (R239). -/
def execEvCringCons (q : Requester) (c : CoveId) (v : Word) (s : State) : Ans :=
  let n := v.toNat
  let clr (s : State) (i : Nat) (f : Fld) : State := if n.testBit i then setFlag s f false else s
  let s1 := clr (clr (clr s 16 (F.EV_CV_CRING_STALL c)) 17 (F.EV_CV_CRING_BADCONS c)) 18 (F.EV_CV_CRING_WERR c)
  let ok := (fld s (F.EV_CV_CRING_PROD c) + 65536 - n % 65536) % 65536 ≤ 1024
  let s2 := if ok then setFld s1 (F.EV_CV_CRING_CONS c) n else setFlag s1 (F.EV_CV_CRING_BADCONS c) true
  atWindow s q c (winBase c + 0x683C) (flushRing (ringWait s2 c).length s2 c)

/-- EV_CRING_BASE: EN and ADDR_LO are set and the waiting records are tried again (R239). -/
def execEvCringBase (q : Requester) (c : CoveId) (v : Word) (s : State) : Ans :=
  let s1 := setFld (setFlag s (F.EV_CRING_LO_EN c) (v.toNat.testBit 0)) (F.EV_CRING_LO_ADDR_LO c) (v.toNat / 2 ^ 14)
  atFabric s q (flushRing (ringWait s1 c).length s1 c)

/-- CP_EVENT_SIGNAL: applied and answered KIND 0; BUSY while no area is in service (R220, R392, R395). -/
def execCpEventSignal (c : CoveId) (e : BitVec 16) (v : Dword) (tag : BitVec 22) (s : State) : Ans :=
  if !coveExists s c || coveSt s c = 4 || cpInReset s c then .next s
  else if areaReady s c then atDomain s 94 (emit (applySignal s c e.toNat v.toNat 2) (.cpEvent c 0 tag.toNat 0))
  else atDomain s 94 (emit s (.cpEvent c 1 tag.toNat 0))

/-- CP_EVENT_WAIT: installed and answered KIND 0, or BUSY when no slot is free (R238, R392, R395). -/
def execCpEventWait (c : CoveId) (e : BitVec 16) (v : Dword) (tag : BitVec 22) (s : State) : Ans :=
  if !coveExists s c || coveSt s c = 4 || cpInReset s c then .next s
  else if areaReady s c && decide (slotsInUse s c < 256) then
    atDomain s 94 (installWait (emit s (.cpEvent c 0 tag.toNat 0)) c ⟨e.toNat, v.toNat, tag.toNat, true⟩)
  else atDomain s 94 (emit s (.cpEvent c 1 tag.toNat 0))

end Sys2Proof.Machine
end

