-- ==== Sys2Proof/Machine/Objects.lean ====
section
/-!
DEFINITION. Memory objects, graph slots, the lookup port, queue entries' references and context slots (chapter 08).
-/
namespace Sys2Proof.Machine

/-! ### The object table, R224–R229 -/

/-- The 32 bytes of an entry (R224). -/
def ObjEnt.bytes (e : ObjEnt) : List Byte :=
  toBytes 8 (e.base % 2 ^ 48 + 2 ^ 48 * (e.ctx % 4096) + 2 ^ 60 * b2n e.anyctx)
  ++ toBytes 8 (e.size % 2 ^ 44 + 2 ^ 44 * (e.state % 4) + 2 ^ 46 * b2n e.hsat + 2 ^ 47 * b2n e.dsat + 2 ^ 48 * (e.inc % 256))
  ++ toBytes 8 (e.host % 2 ^ 16 + 2 ^ 16 * (e.dev % 2 ^ 24) + 2 ^ 40 * (e.rev % 2 ^ 16) + 2 ^ 56 * b2n e.revEn)
  ++ toBytes 8 e.rval

/-- The entry that four words spell (R224). -/
def ObjEnt.ofWords (w0 w1 w2 w3 : Nat) : ObjEnt :=
  { base := bits w0 0 48, ctx := bits w0 48 12, anyctx := bit w0 60,
    size := bits w1 0 44, state := bits w1 44 2, hsat := bit w1 46, dsat := bit w1 47, inc := bits w1 48 8,
    host := bits w2 0 16, dev := bits w2 16 24, rev := bits w2 40 16, revEn := bit w2 56, rval := w3 }

/-- A Free entry with the next free handle (R227). Log entry 28 (DESIGN CHOICE). -/
def ObjEnt.freeEnt (inc next : Nat) : ObjEnt := ⟨next, 0, false, 0, 0, false, false, inc, 0, 0, 0, false, 0⟩

/-- FPA of the entry of handle `h` (R217). -/
def entFpa (s : State) (c h : Nat) : Nat := areaFpa s c (0x400000 + 32 * h)

/-- Entries of a cove's table (R218). -/
def tableSize (s : State) (c : Nat) : Nat := 2 ^ fld s (F.OB_AREA_LOG2 c)

/-- A line with the 32 bytes from byte `at'` replaced by an entry's (R224). -/
def putEntLine (l : Line) (at' : Nat) (e : ObjEnt) : Line :=
  mergeLine l (lineOfBytes e.bytes <<< (8 * at')) (enables at' 32)

/-- The entry at byte `at'` of a line of the table (R224). -/
def entOfLine (l : Line) (at' : Nat) : ObjEnt :=
  let w (i : Nat) : Nat := (lineWord l (at' / 8 + i)).toNat
  ObjEnt.ofWords (w 0) (w 1) (w 2) (w 3)

/-- Read the entry of a handle; nothing when the handle is beyond the table or its line cannot be read (R229). Log entry 28 (DESIGN CHOICE). -/
def getEnt (s : State) (c h : Nat) : Option ObjEnt × State :=
  if tableSize s c ≤ h then (none, s)
  else
    let a := entFpa s c h
    match mgmtAccess s (a / 64 * 64) .read with
    | (some (.data l), s) => (some (entOfLine l (a % 64)), s)
    | (_, s) => (none, s)

/-- One read-modify-write of the entry of a handle: where `f` gives an entry it is stored. The old entry, when the line could be
read and written (R229). Log entry 28 (DESIGN CHOICE). -/
def modEnt (s : State) (c h : Nat) (f : ObjEnt → Option ObjEnt) : Option ObjEnt × State :=
  if tableSize s c ≤ h then (none, s)
  else
    let a := entFpa s c h
    let (l, s) := mgmtModify s (a / 64 * 64) (fun l => (f (entOfLine l (a % 64))).map (putEntLine l (a % 64)))
    (l.map (entOfLine · (a % 64)), s)

/-- The same on the entry an HREF names, unless its INC differs (R225, R229). -/
def modRef (s : State) (c r : Nat) (f : ObjEnt → Option ObjEnt) : Option ObjEnt × State :=
  let (e, s) := modEnt s c (r % 2 ^ 24) (fun e => if e.inc = r / 2 ^ 24 then f e else none)
  (e.filter (fun e => e.inc == r / 2 ^ 24), s)

/-- The free list of a cove's table. -/
def headsOf (s : State) (c : Nat) : ObHeads := tgetD s.ob.heads c ⟨0, 0, 0⟩
/-- The state with a cove's free list replaced. -/
def setHeads (s : State) (c : Nat) (h : ObHeads) : State := { s with ob := { s.ob with heads := tput s.ob.heads c h } }

/-- Forget a handle in the lookup port's cache (R230). -/
def dropLookup (s : State) (c h : Nat) : State :=
  { s with ob := { s.ob with lookups := tsetD s.ob.lookups c [] ((tgetD s.ob.lookups c []).filter (fun e => e.1 != h)) } }

/-- HREF of a handle and an incarnation (R225). -/
def href (h inc : Nat) : Nat := h % 2 ^ 24 + 2 ^ 24 * (inc % 256)

/-- The entry an HREF names, unless its INC differs (R225). -/
def refEnt (s : State) (c r : Nat) : Option ObjEnt × State :=
  match getEnt s c (r % 2 ^ 24) with
  | (some e, s) => (if e.inc = r / 2 ^ 24 then some e else none, s)
  | (none, s) => (none, s)

/-- Change the counts of Live and Zombie entries (OB_CV_ counters). -/
def countLive (s : State) (c : Nat) (live zombie : Int) : State :=
  let add (s : State) (f : Fld) (d : Int) : State := setFld s f (Int.toNat (fld s f + d))
  add (add s (F.OB_CV_LIVE c) live) (F.OB_CV_ZOMBIE c) zombie

/-- A Zombie that no half holds (R227). -/
def ObjEnt.gone (e : ObjEnt) : Bool := e.state == 2 && e.host == 0 && e.dev == 0 && !e.hsat && !e.dsat

/-- What is stored of an entry after a decrement or a FREE: a Zombie that nothing holds is Free with INC advanced (R227). -/
def ObjEnt.settled (e : ObjEnt) : ObjEnt := if e.gone then ObjEnt.freeEnt ((e.inc + 1) % 256) 0 else e

/-- What follows when an entry that has been stored as Free is reclaimed: it is appended to the free list, and its reclaim event
is signalled (R227). -/
def reclaimed (s : State) (c h : Nat) (e : ObjEnt) : State :=
  if !e.gone then s
  else
    let hd := headsOf s c
    let s := dropLookup s c h
    let s := if hd.free = 0 then setHeads s c ⟨1, h, h⟩
      else setHeads (modEnt s c hd.tail (fun t => some { t with base := h })).2 c ⟨hd.free + 1, hd.head, h⟩
    let s := countLive s c 0 (-1)
    if e.revEn then signalEvent s c e.rev e.rval 3 else s

/-- The device half incremented; it sticks at its maximum, and a saturated one ignores it (R226). -/
def ObjEnt.incDev (e : ObjEnt) : Option ObjEnt :=
  if e.dsat then none else some (if e.dev = 2 ^ 24 - 1 then { e with dsat := true } else { e with dev := e.dev + 1 })

/-- The device half decremented, unless it is saturated (R226). -/
def ObjEnt.decDev (e : ObjEnt) : ObjEnt := if e.dsat then e else { e with dev := e.dev - 1 }

/-- The host half incremented, as the device half (R226). -/
def ObjEnt.incHost (e : ObjEnt) : Option ObjEnt :=
  if e.hsat then none else some (if e.host = 65535 then { e with hsat := true } else { e with host := e.host + 1 })

/-- The host half decremented, unless it is saturated (R226). -/
def ObjEnt.decHost (e : ObjEnt) : ObjEnt := if e.hsat then e else { e with host := e.host - 1 }

/-- Increment the device half of an object; the flag says that the entry could be read and written (R226). -/
def incDev (s : State) (c h : Nat) : Bool × State :=
  match modEnt s c h ObjEnt.incDev with
  | (some e, s) => (true, if !e.dsat && e.dev == 2 ^ 24 - 1 then incCtr s (C.OB_CV_SAT c) else s)
  | (none, s) => (false, s)

/-- Decrement the device half of an object, which may reclaim it (R226, R227). -/
def decDev (s : State) (c h : Nat) : State :=
  match modEnt s c h (fun e => if e.dsat then none else some e.decDev.settled) with
  | (some e, s) => if e.dsat then s else reclaimed s c h e.decDev
  | (none, s) => s

/-- Increment the device half of every object of a list; when one cannot be, those before it are given back (R226, R233). -/
def incAll (s : State) (c : Nat) (hs : List Nat) : Bool × State :=
  let (done, s) := hs.foldl (fun (a : Option (List Nat) × State) h =>
    match a with
    | (none, s) => (none, s)
    | (some l, s) => match incDev s c h with
      | (true, s) => (some (h :: l), s)
      | (false, s) => (none, l.foldl (fun s h => decDev s c h) s)) (some [], s)
  (done.isSome, s)

/-! ### OB_CMD, R220, R227–R229 -/

/-- Status codes of OB_RESULT. -/
inductive ObStatus where
  | ok | nospace | badref | badarg | state | nort | genx | noarea | ctx
deriving DecidableEq, Repr

/-- The code of a status. -/
def ObStatus.code : ObStatus → Nat
  | .ok => 0 | .nospace => 1 | .badref => 2 | .badarg => 3 | .state => 4 | .nort => 5 | .genx => 6 | .noarea => 7 | .ctx => 8

/-- Argument `i` of the requester's staged operation (R246). -/
def obArg (s : State) (q : Requester) (c i : Nat) : Nat := fld s ((F.OB_ARG_ARG c i).own q)
/-- The 64-bit value in ARG2 and ARG3. -/
def obVal (s : State) (q : Requester) (c : Nat) : Nat := obArg s q c 2 + 2 ^ 32 * obArg s q c 3

/-- The answer of an operation: its status and its two results. -/
structure ObAns where
  st : ObStatus
  res0 : Nat
  res1 : Nat
deriving DecidableEq, Repr

/-- An answer without results. -/
def ObAns.plain (st : ObStatus) : ObAns := ⟨st, 0, 0⟩

/-- Store the status and the results of an operation in the requester's registers (R246). A successful one clears CLEAN (R305).
Log entry 28 (DESIGN CHOICE). -/
def obAnswer (s : State) (q : Requester) (c : Nat) (a : ObAns) : State :=
  let s1 := setFld (setFlag s ((F.OB_RESULT_DONE c).own q) true) ((F.OB_RESULT_STATUS c).own q) a.st.code
  let s2 := setFld (setFld s1 ((F.OB_RES0_RES c).own q) a.res0) ((F.OB_RES1_RES c).own q) a.res1
  if a.st = .ok then unclean s2 c else s2

/-- Perform an operation of OB_CMD for a requester; NOAREA while no area is in service (R220, R246). Log entry 28 (DESIGN CHOICE). -/
def obCmd (s : State) (q : Requester) (c : Nat) (f : State → ObAns × State) : Ans :=
  let (a, s1) := if areaReady s c then f s else (ObAns.plain .noarea, s)
  atWindow s q c (winBase c + 0x6010) (obAnswer s1 q c a)

/-- Take the head of the free list as a Live object (R227, R228). Log entry 28 (DESIGN CHOICE). -/
def create (s : State) (c base ctx : Nat) (anyctx : Bool) (size : Nat) : ObAns × State :=
  let hd := headsOf s c
  if size = 0 then (.plain .badarg, s)
  else if hd.free = 0 then (.plain .nospace, incCtr s (C.OB_CV_NOSPACE c))
  else match modEnt s c hd.head (fun e => some ⟨base, ctx, anyctx, size, 1, false, false, e.inc, 1, 0, 0, false, 0⟩) with
    | (some e, s) =>
      let s := setHeads s c ⟨hd.free - 1, e.base % 2 ^ 24, hd.tail⟩
      (⟨.ok, href hd.head e.inc, 0⟩, countLive s c 1 0)
    | (none, s) => (.plain .badref, s)

/-- OB_CREATE (R227, R228). -/
def execObCreate (q : Requester) (c : CoveId) (s : State) : Ans :=
  obCmd s q c (fun s =>
    let a1 := obArg s q c 1
    create s c (obArg s q c 0 + 2 ^ 32 * bits a1 0 16) (bits a1 16 12) (bit a1 28)
      (obArg s q c 2 + 2 ^ 32 * bits (obArg s q c 3) 0 12))

/-- OB_HOLD: the host half of a Live object is incremented, sticking at its maximum (R226, R227). -/
def execObHold (q : Requester) (c : CoveId) (s : State) : Ans :=
  obCmd s q c (fun s =>
    match modRef s c (obArg s q c 0) (fun e => if e.state = 1 then e.incHost else none) with
    | (some e, s) =>
      if e.state ≠ 1 then (.plain .badref, s)
      else (.plain .ok, if !e.hsat && e.host == 65535 then incCtr s (C.OB_CV_SAT c) else s)
    | (none, s) => (.plain .badref, s))

/-- Whether a DROP acts on an entry: Live or Zombie, with a host half above 0 (R226, R227, R229). -/
def ObjEnt.droppable (e : ObjEnt) : Bool := (e.state == 1 || e.state == 2) && !e.hsat && e.host != 0

/-- OB_DROP: the host half of a Live or Zombie object is decremented; never below 0 (R226, R227, R229). -/
def execObDrop (q : Requester) (c : CoveId) (s : State) : Ans :=
  obCmd s q c (fun s =>
    let r := obArg s q c 0
    match modRef s c r (fun e => if e.droppable then some e.decHost.settled else none) with
    | (some e, s) =>
      if e.state ≠ 1 && e.state ≠ 2 then (.plain .badref, s)
      else if e.hsat then (.plain .ok, s)
      else if e.host = 0 then (.plain .badarg, s)
      else (.plain .ok, reclaimed s c (r % 2 ^ 24) e.decHost)
    | (none, s) => (.plain .badref, s))

/-- The Zombie a FREE makes of an entry, with its reclaim event (R227). -/
def toZombie (e : ObjEnt) (rev : Nat) (revEn : Bool) (rval : Nat) : ObjEnt :=
  { e with state := 2, host := (if e.hsat then e.host else e.host - 1), rev := rev, revEn := revEn, rval := rval }

/-- OB_FREE: a Live object becomes a Zombie with its reclaim event; a Zombie is refused (R227, R229). Log entry 28 (DESIGN CHOICE). -/
def execObFree (q : Requester) (c : CoveId) (s : State) : Ans :=
  obCmd s q c (fun s =>
    let r := obArg s q c 0
    let a1 := obArg s q c 1
    let z (e : ObjEnt) : ObjEnt := toZombie e (bits a1 0 16) (bit a1 16) (obVal s q c)
    match modRef s c r (fun e => if e.state = 1 && (e.hsat || e.host != 0) then some (z e).settled else none) with
    | (some e, s) =>
      if e.state ≠ 1 then (.plain .badref, s)
      else if !e.hsat && e.host = 0 then (.plain .badarg, s)
      else (.plain .ok, reclaimed (countLive (dropLookup s c (r % 2 ^ 24)) c (-1) 1) c (r % 2 ^ 24) (z e))
    | (none, s) => (.plain .badref, s))

/-- OB_QUERY: bytes 8–11 and 16–19 of the entry (R224). -/
def execObQuery (q : Requester) (c : CoveId) (s : State) : Ans :=
  obCmd s q c (fun s =>
    match refEnt s c (obArg s q c 0) with
    | (some e, s) => (⟨.ok, leAt e.bytes 8 4, leAt e.bytes 16 4⟩, s)
    | (none, s) => (.plain .badref, s))

/-! ### Graph slots, R240, R242 -/

/-- A graph slot of a cove. -/
def graphOf (s : State) (c i : Nat) : GraphSlot := tgetD s.ob.graphs (c * 256 + i) ⟨none, 0⟩
/-- The state with a graph slot set. -/
def setGraph (s : State) (c i : Nat) (g : GraphSlot) : State :=
  { s with ob := { s.ob with graphs := tsetD s.ob.graphs (c * 256 + i) ⟨none, 0⟩ g } }

/-- G_SET: the new image's device half is incremented, the old one's decremented, GEN advances (R242). -/
def execGSet (q : Requester) (c : CoveId) (s : State) : Ans :=
  obCmd s q c (fun s =>
    let i := bits (obArg s q c 0) 0 8
    let r := obArg s q c 1
    let g := graphOf s c i
    match refEnt s c r with
    | (some e, s) =>
      if e.state ≠ 1 then (.plain .badref, s)
      else if g.gen = 2 ^ 32 - 1 then (.plain .genx, s)
      else match incDev s c (r % 2 ^ 24) with
        | (false, s) => (.plain .badref, s)
        | (true, s) =>
          let s := match g.href with | some old => decDev s c (old % 2 ^ 24) | none => s
          (⟨.ok, g.gen + 1, 0⟩, setGraph s c i ⟨some r, g.gen + 1⟩)
    | (none, s) => (.plain .badref, s))

/-- G_CLEAR: the image's reference is dropped and GEN becomes 0 (R242). -/
def execGClear (q : Requester) (c : CoveId) (s : State) : Ans :=
  obCmd s q c (fun s =>
    let i := bits (obArg s q c 0) 0 8
    let s := match (graphOf s c i).href with | some old => decDev s c (old % 2 ^ 24) | none => s
    (.plain .ok, setGraph s c i ⟨none, 0⟩))

/-! ### The area, R218 -/

/-- OB_AREA_ENABLE: a write of OB_AREA with EN 1; ignored while EN is 1 (R218). -/
def execObAreaEnable (q : Requester) (c : CoveId) (v : Word) (s : State) : Ans :=
  let g := bits v.toNat 0 13
  let l := bits v.toNat 16 5
  let ok := coveExists s c && decide (10 ≤ l ∧ l ≤ 24) && ownsGranules s c g (areaSpan l)
  atFabric s q
    (if flag s (F.OB_AREA_EN c) then s
     else
      let s := setFld (setFld s (F.OB_AREA_GRANULE c) g) (F.OB_AREA_LOG2 c) l
      if ok then setFlag (setFlag s (F.OB_AREA_EN c) true) (F.OB_AREA_STATUS_INIT c) true
      else setFlag s (F.OB_AREA_STATUS_ERR c) true)

/-- One line write of the area's initialisation, when it has its turn at the controller: like a zero-fill write, it is not counted
by the range's use counter and not stopped by it (R101, R103, R116, R218). -/
def initLine (s : State) (fpa : Nat) (l : Line) : State :=
  let q : Req := ⟨16, 0x9000, fpa, .write (BitVec.allOnes 64) l, none, .demand⟩
  let s := takeTurn (mgmtCharge s fpa) q
  match decodeFpa s fpa with
  | .data g =>
    let (n, sda) := placeByte (dataPer s) g (granOf s g).mode (fpa % 2 ^ 28)
    if flag s (F.SC_STATUS_TRAINED n) then (sendLineTo s n sda (writeKid s g) l (granCove s g) false q).2 else s
  | _ => s

/-- Write `n` zero lines from byte `off` of the area. Log entry 20 (DESIGN CHOICE). -/
def zeroArea (s : State) (c off n : Nat) : State :=
  (List.range n).foldl (fun s i =>
    initLine s (areaFpa s c (off + 64 * i)) 0) s

/-- Write every entry as Free, chained in ascending order (R218). -/
def chainArea (s : State) (c : Nat) : State :=
  let n := tableSize s c
  (List.range (n / 2)).foldl (fun s i =>
    let two := (ObjEnt.freeEnt 0 (2 * i + 1)).bytes ++ (ObjEnt.freeEnt 0 ((2 * i + 2) % n)).bytes
    initLine s (areaFpa s c (0x400000 + 64 * i)) (lineOfBytes two)) s

/-- OB_AREA_INIT_DONE: events zeroed, entries chained, READY set (R218). -/
def execObAreaInitDone (c : CoveId) (s : State) : Ans :=
  if !flag s (F.OB_AREA_STATUS_INIT c) || !flag s (F.OB_AREA_EN c) then .next s
  else
    let s1 := chainArea (zeroArea s c 0 8192) c
    let s2 := setHeads s1 c ⟨tableSize s c, 0, tableSize s c - 1⟩
    atDomain s 94 (setFlag (setFlag s2 (F.OB_AREA_STATUS_INIT c) false) (F.OB_AREA_STATUS_READY c) true)

/-! ### The lookup port, R230 -/

/-- CP_LOOKUP: through the port's cache of Live entries, or one read of the entry (R230, R393). -/
def lookupPort (s : State) (c ctx r ofs : Nat) : State :=
  let h := r % 2 ^ 24
  let cache := tgetD s.ob.lookups c []
  let (e, s) := match cache.find? (fun x => x.1 == h) with
    | some x => (some x.2, s)
    | none => getEnt s c h
  match e with
  | some e =>
    if e.state ≠ 1 || e.inc ≠ r / 2 ^ 24 then emit s (.cpLookup c 1 0 0)
    else
      let s := { s with ob := { s.ob with lookups := tput s.ob.lookups c (((h, e) :: cache.filter (fun x => x.1 != h)).take 256) } }
      if e.ctx ≠ ctx && !e.anyctx then emit s (.cpLookup c 2 0 0)
      else if e.size ≤ ofs then emit s (.cpLookup c 3 0 0)
      else emit s (.cpLookup c 0 ((e.base + ofs) % 2 ^ 48) e.size)
  | none => emit s (.cpLookup c 1 0 0)

/-- CP_LOOKUP (R220, R230, R395). -/
def execCpLookup (c : CoveId) (ctx : BitVec 12) (href : Word) (ofs : BitVec 48) (s : State) : Ans :=
  if !coveExists s c || coveSt s c = 4 || cpInReset s c then .next s
  else if areaReady s c then atDomain s 94 (lookupPort s c ctx.toNat href.toNat ofs.toNat)
  else atDomain s 94 (emit s (.cpLookup c 4 0 0))

/-! ### Queues, R231–R233 -/

/-- A Free queue. -/
def Queue.init : Queue := ⟨.free, false, 0, 0, [], 0, false, none, [], 0, 0, 0, 0, 0, false⟩
/-- Queue `q` of a cove. -/
def queueOf (s : State) (c q : Nat) : Queue := tgetD s.ob.queues (c * 64 + q) Queue.init
/-- The state with a queue set. -/
def setQueue (s : State) (c q : Nat) (v : Queue) : State :=
  { s with ob := { s.ob with queues := tsetD s.ob.queues (c * 64 + q) Queue.init v } }

/-- Reserves of a cove's real-time queues (R231). -/
def reserveSum (s : State) (c : Nat) : Nat :=
  (List.range 64).foldl (fun a q => let x := queueOf s c q; if x.ph != .free && x.rt then a + x.reserve else a) 0

/-- Q_CREATE: a Free queue becomes Active with its parameters (R231). Log entry 29 (DESIGN CHOICE). -/
def execQCreate (q : Requester) (c : CoveId) (s : State) : Ans :=
  obCmd s q c (fun s =>
    let a0 := obArg s q c 0
    let a1 := obArg s q c 1
    let n := bits a0 0 6
    let rt := bit a0 8
    let share := bits a1 0 10
    let res := if rt then bits a1 16 6 else 0
    if (queueOf s c n).ph != .free then (.plain .state, s)
    else if rt && !flag s (F.CV_MANIFEST_RT_OK c) then (.plain .nort, s)
    else if share = 0 || (rt && (res = 0 || 48 < res)) then (.plain .badarg, s)
    else if 48 < reserveSum s c + res then (.plain .badarg, s)
    else (.plain .ok, setFlag (setQueue s c n { Queue.init with ph := .active, rt := rt, share := share, reserve := res })
      (F.OB_Q_STATUS_STUCK c n) false))

/-- Whether a context of a cove is KILLED (R221). -/
def isKilled (s : State) (c ctx : Nat) : Bool := tgetD s.ob.killed (c * 4096 + ctx) false

/-- The fields of a submitted entry (R232). -/
structure Sub where
  target : Nat
  ctx : Nat
  queue : Nat
  graph : Bool
  nref : Nat
  cevEn : Bool
  wevEn : Bool
  cev : Nat
  wev : Nat
  cval : Nat
  wtgt : Nat
  hrefs : List Nat
  /-- Every reserved bit is zero and NREF is at most 8. -/
  ok : Bool
deriving DecidableEq, Repr

/-- Read a submitted entry (R232). -/
def readSub (l : Line) : Sub :=
  let n := l.toNat
  let w0 := bits n 0 64
  let w1 := bits n 64 64
  let nref := bits w1 8 4
  let kind := bit w1 6
  { target := if kind then bits w0 0 8 else bits w0 0 48, ctx := bits w0 48 12, queue := bits w1 0 6, graph := kind,
    nref := nref, cevEn := bit w1 12, wevEn := bit w1 13, cev := bits w1 16 16, wev := bits w1 32 16,
    cval := bits n 128 64, wtgt := bits n 192 64,
    hrefs := (List.range (min nref 8)).map (fun i => bits n (256 + 32 * i) 32),
    ok := bits w0 60 4 == 0 && bit w1 7 == false && bits w1 14 2 == 0 && bits w1 48 16 == 0 && decide (nref ≤ 8)
      && (!kind || bits w0 8 40 == 0) }

/-- Check one HREF of an entry for acceptance: 0, or the status BADREF or CTX of R393 (R225, R230, R233). -/
def checkRef (s : State) (c ctx r : Nat) : Nat × State :=
  match refEnt s c r with
  | (some e, s) => (if e.state ≠ 1 then 4 else if e.ctx ≠ ctx && !e.anyctx then 5 else 0, s)
  | (none, s) => (4, s)

/-- The first status but 0 among the HREFs of an entry. -/
def checkRefs (s : State) (c ctx : Nat) : List Nat → Nat × State
  | [] => (0, s)
  | r :: rs => match checkRef s c ctx r with
    | (0, s) => checkRefs s c ctx rs
    | (st, s) => (st, s)

/-- The installed image of a graph slot as a launch pins it (R240, R241). -/
def imageOf (s : State) (c i : Nat) : Option GraphPin × State :=
  let g := graphOf s c i
  match g.href with
  | none => (none, s)
  | some r => match getEnt s c (r % 2 ^ 24) with
    | (some e, s) => (some ⟨r % 2 ^ 24, e.base, e.size, e.ctx, e.anyctx, g.gen⟩, s)
    | (none, s) => (some ⟨r % 2 ^ 24, 0, 0, 0, true, g.gen⟩, s)

/-- Entries a queue of a cove holds: those not released and those released and not retired (R231, R233, OB_Q_STATUS). -/
def depth (s : State) (c q : Nat) : Nat :=
  (queueOf s c q).fifo.length + (s.sq.runs.filter (fun r => r.cove == c && r.queue == q)).length

/-- The status of a submission (R233, R306), with the state after the reads it takes. Log entry 29 (DESIGN CHOICE). -/
def subStatus (s : State) (c : Nat) (e : Sub) : Nat × State :=
  if !areaReady s c then (8, s)
  else if !coveActive s c then (1, s)
  else if !e.ok then (7, s)
  else if (queueOf s c e.queue).ph != .active then (2, s)
  else if isKilled s c e.ctx then (3, s)
  else if 256 ≤ depth s c e.queue then (1, s)
  else match checkRefs s c e.ctx e.hrefs with
    | (0, s) => if e.graph && ((graphOf s c e.target).href).isNone then (6, s) else (0, s)
    | (st, s) => (st, s)

/-- Store an accepted entry at the tail of its queue: one device reference for each naming and for the graph's image, and the
ring line (R226, R232, R233). The answer: OK, or BADREF with nothing accepted when a reference cannot be taken. Log entry 29 (DESIGN CHOICE). -/
def acceptSub (s : State) (c : Nat) (e : Sub) (l : Line) (now : Nat) : Nat × State :=
  let (img, s) := if e.graph then imageOf s c e.target else (none, s)
  let hs := e.hrefs.map (· % 2 ^ 24) ++ (img.map (fun i => i.handle)).toList
  match incAll s c hs with
  | (false, s) => (4, s)
  | (true, s) =>
    let id := s.ob.nextEntry
    let s := (mgmtAccess s (areaFpa s c (0x80000 + 0x4000 * e.queue + (queueOf s c e.queue).tail * 64)) (.write (BitVec.allOnes 64) l)).2
    let x := queueOf s c e.queue
    let ent : QEntry := ⟨id, e.ctx, e.graph, e.target, img, if e.cevEn then some (e.cev, e.cval) else none,
      if e.wevEn then some (e.wev, e.wtgt) else none, hs, now⟩
    let s := { s with ob := { s.ob with nextEntry := id + 1 } }
    (0, unclean (setQueue s c e.queue { x with fifo := x.fifo ++ [ent], tail := (x.tail + 1) % 256 }) c)

/-- CP_SUBMIT: one status for the entry; acceptance is all or nothing (R233, R395). -/
def execCpSubmit (c : CoveId) (entry : Line) (now : Nat) (s : State) : Ans :=
  if !coveExists s c || coveSt s c = 4 || cpInReset s c then .next s
  else
    let e := readSub entry
    let (st, s1) := match subStatus s c e with
      | (0, s) => acceptSub s c e entry now
      | x => x
    atDomain s 94 (emit s1 (.cpStatus c st))

/-- DOORBELL_WRITE: forwarded to the command processor, unless the queue is Free (R235). -/
def execDoorbellWrite (q : Requester) (c : CoveId) (queue : Idx64) (v : Word) (s : State) : Ans :=
  atWindow s q c (winBase c + 0x10000 + queue.val * 0x1000)
    (if (queueOf s c queue).ph == .free then s else emit s (.doorbell c queue v))

/-- An entry gives its references back (R235). -/
def dropRefs (s : State) (c : Nat) (e : QEntry) : State := e.refs.foldl (fun s h => decDev s c h) s

/-! ### Context slots, R221–R223 -/

/-- The slot of a context, if it has one. -/
def slotOf (s : State) (c ctx : Nat) : Option CtxSlot := s.ob.slots.find? (fun x => x.cove == c && x.ctx == ctx)

/-- Whether a context holds a slot and is loaded (R221). -/
def isResident (s : State) (c ctx : Nat) : Bool :=
  match slotOf s c ctx with | some x => x.ph == .resident | none => false

/-- Whether a resident context is RUNNING: a tile in progress or paused, lane 1 of a split one among them, or a step between
preemption and resumption (R221, R388). -/
def isRunning (s : State) (c ctx : Nat) : Bool :=
  s.sq.engines.any (fun e => match tfind s.sq.steps e.2.step with
    | some x => x.cove == c && (x.ctx == ctx || (tfind s.en.ep e.1).any (fun t => t.split && t.ctx1 == ctx))
    | none => false)
  || s.sq.steps.any (fun e => e.2.cove == c && e.2.ctx == ctx &&
      match e.2.ph with | .stopping => true | .saving _ => true | .preempted _ => true | .resuming => true | _ => false)

/-- Slots a cove holds, or will hold once the evictions under way end (R222). -/
def heldSlots (s : State) (c : Nat) : Nat :=
  (s.ob.slots.filter (fun x => match x.ph with
    | .evicting dest => (dest.map (·.1)) == some c
    | _ => x.cove == c)).length
/-- The guaranteed minimum of a cove (R34). -/
def ctxMin (s : State) (c : Nat) : Nat := ((tfind s.plan.coves c).map (·.ctxMin)).getD 0

/-- The slot a request of cove `c` evicts: the least recently used that is not RUNNING, among coves above their minimum,
and among other coves when the requester is below its own (R222). -/
def victimSlot (s : State) (c : Nat) : Option CtxSlot :=
  s.ob.slots.reverse.find? (fun x =>
    x.ph == .resident && !isRunning s x.cove x.ctx && decide (ctxMin s x.cove < heldSlots s x.cove)
      && !(decide (heldSlots s c < ctxMin s c) && x.cove == c))

/-- Give the context a free slot or begin the eviction of a victim; nothing when none qualifies (R222). -/
def takeSlot (s : State) (c ctx : Nat) : Option State :=
  if s.ob.slots.length < 48 then
    some { s with ob := { s.ob with slots := s.ob.slots ++ [⟨c, ctx, .loading⟩] } }
  else match victimSlot s c with
    | some v =>
      some { s with ob := { s.ob with slots := s.ob.slots.map (fun x => if x = v then { x with ph := .evicting (some (c, ctx)) } else x) } }
    | none => none

/-- The waiter a slot goes to first: of the coves below their minimum the one that holds the fewest, then the longest
waiter; a context whose own slot is being evicted waits for that (R222). Log entry 29 (DESIGN CHOICE). -/
def nextWaiter (s : State) : Option (Nat × Nat) :=
  let waits := s.ob.waiters.filter (fun w => (slotOf s w.1 w.2).isNone)
  let below := waits.filter (fun w => decide (heldSlots s w.1 < ctxMin s w.1))
  match below.foldl (fun (b : Option (Nat × Nat)) w => match b with
    | some y => if heldSlots s w.1 < heldSlots s y.1 then some w else b
    | none => some w) none with
  | some w => some w
  | none => waits.head?

/-- Serve waiters while slots can be had (R222). Log entry 29 (DESIGN CHOICE). -/
def serveWaiters : Nat → State → State
  | 0, s => s
  | n + 1, s =>
    match nextWaiter s with
    | none => s
    | some w =>
      match takeSlot s w.1 w.2 with
      | some s' => serveWaiters n { s' with ob := { s'.ob with waiters := s'.ob.waiters.erase w } }
      | none => s

/-- Serve every waiter that can be served now. -/
def retrySlots (s : State) : State := serveWaiters s.ob.waiters.length s

/-- Whether a slot is already on its way to a context. -/
def slotComing (s : State) (c ctx : Nat) : Bool :=
  s.ob.waiters.contains (c, ctx) || s.ob.slots.any (fun x => x.ph == .evicting (some (c, ctx)))

/-- SLOT_REQUEST: the context takes a slot, or waits, behind those that go first (R222). -/
def execSlotRequest (c : CoveId) (ctx : BitVec 12) (s : State) : Ans :=
  if !coveExists s c || isKilled s c ctx.toNat || ((slotOf s c ctx.toNat).any (fun x => match x.ph with | .evicting _ => false | _ => true)) || slotComing s c ctx.toNat then .next s
  else atDomain s 94 (retrySlots { s with ob := { s.ob with waiters := s.ob.waiters ++ [(c.val, ctx.toNat)] } })

/-- Write the 512 bytes of a save record, whose layout is internal to the fabric (R223). Log entries 2 (DESIGN CHOICE), 32 (DESIGN CHOICE). -/
def saveRecord (s : State) (c ctx : Nat) : State :=
  if areaReady s c then
    (List.range 8).foldl (fun s i =>
      let (v, s) := drawFree s 512
      (mgmtAccess s (areaFpa s c (0x180000 + ctx * 512 + 64 * i)) (.write (BitVec.allOnes 64) v)).2) s
  else s

/-- Read the 512 bytes of a save record back; a line that cannot be read changes nothing in the load (R223). Log entry 32 (DESIGN CHOICE). -/
def loadRecord (s : State) (c ctx : Nat) : State :=
  if areaReady s c then
    (List.range 8).foldl (fun s i => (mgmtAccess s (areaFpa s c (0x180000 + ctx * 512 + 64 * i)) .read).2) s
  else s

/-- The state with a slot replaced by others, which no use has made recent (R222). -/
def passSlot (s : State) (x : CtxSlot) (new : List CtxSlot) : State :=
  { s with ob := { s.ob with slots := s.ob.slots.filter (fun y => y != x) ++ new } }

/-- CTX_EVICT_DONE: the save record is written and the slot passes to the waiting context, or is free (R222, R223). -/
def execCtxEvictDone (c : CoveId) (ctx : BitVec 12) (s : State) : Ans :=
  match slotOf s c ctx.toNat with
  | some x =>
    match x.ph with
    | .evicting dest =>
      let s1 := incCtr (incCtr (saveRecord s c ctx.toNat) C.OB_EVICT) (C.OB_CV_EVICT c)
      atDomain s 94 (retrySlots (passSlot s1 x (dest.toList.map (fun w => ⟨w.1, w.2, .loading⟩))))
    | _ => .next s
  | none => .next s

/-- CTX_LOAD_DONE: the save record has been read back and the context is RESIDENT; its slot can be evicted (R222, R223). -/
def execCtxLoadDone (c : CoveId) (ctx : BitVec 12) (s : State) : Ans :=
  match slotOf s c ctx.toNat with
  | some x =>
    if x.ph == .loading then
      let s1 := loadRecord s c ctx.toNat
      atDomain s 94 (retrySlots { s1 with ob := { s1.ob with slots := s1.ob.slots.map (fun y => if y = x then { y with ph := .resident } else y) } })
    else .next s
  | none => .next s

/-- A tile start or a resumption uses a context's slot (R222). -/
def useSlot (s : State) (c ctx : Nat) : State :=
  match slotOf s c ctx with
  | some x => { s with ob := { s.ob with slots := x :: s.ob.slots.filter (fun y => y != x) } }
  | none => s

/-- Contexts that satisfy `p` leave their slots: a slot that was to pass to another context passes at once, and one that was to
pass to them is free when its eviction ends (R222, R243). -/
def leaveSlots (s : State) (p : Nat → Nat → Bool) : State :=
  let keep (x : CtxSlot) : Option CtxSlot :=
    let others (t : Option (Nat × Nat)) : Option (Nat × Nat) := t.filter (fun w => !p w.1 w.2)
    match x.ph with
    | .evicting t => if p x.cove x.ctx then (others t).map (fun w => ⟨w.1, w.2, .loading⟩) else some { x with ph := .evicting (others t) }
    | _ => if p x.cove x.ctx then none else some x
  { s with ob := { s.ob with slots := s.ob.slots.filterMap keep, waiters := s.ob.waiters.filter (fun w => !p w.1 w.2) } }

/-- A context's slot is freed (R243). -/
def freeSlot (s : State) (c ctx : Nat) : State := retrySlots (leaveSlots s (fun c' x => c' == c && x == ctx))

end Sys2Proof.Machine
end

