-- ==== Sys2Proof/Machine/Xlate.lean ====
section
/-!
DEFINITION. Translation caches, the rights check, the dirty log and the return of a transfer (chapter 05), without what
a fault does, which stands in Faults.lean.
-/
namespace Sys2Proof.Machine

/-! ### Caches, R138–R140 -/

/-- Bits of an offset within a page of each size (R132). -/
def pageBits (size : Nat) : Nat := if size = 0 then 16 else if size = 1 then 21 else 30

/-- Whether a leaf translates a DVA of a context (R138, R139). -/
def Leaf.covers (l : Leaf) (cove ctx dva : Nat) : Bool :=
  l.cove == cove && l.ctx == ctx && l.vpn == dva / 2 ^ pageBits l.size

/-- The FPA a leaf gives a DVA (R134). -/
def Leaf.fpa (l : Leaf) (dva : Nat) : Nat := 2 ^ 16 * l.fpn + dva % 2 ^ pageBits l.size

/-- A client's TLB, most recently used first (R138). -/
def tlbOf (s : State) (client : Nat) : List Leaf := tgetD s.xl.tlb client []
/-- The state with a client's TLB set. Log entry 16 (DESIGN CHOICE). -/
def setTlb (s : State) (client : Nat) (l : List Leaf) : State :=
  { s with xl := { s.xl with tlb := tsetD s.xl.tlb client [] l } }
/-- Whether a client holds a TLB: sweep engines hold none (R138). -/
def hasTlb (client : Nat) : Bool := client < 196

/-- The set of the shared L2 for a page: the slice of R139 and 512 sets by page number. Log entry 16 (DESIGN CHOICE). -/
def l2Key (dva ctx size : Nat) : Nat :=
  ((bits dva 30 2) ^^^ (ctx % 4)) * 512 + (dva / 2 ^ pageBits size) % 512
/-- A set of the shared L2. Log entry 16 (DESIGN CHOICE). -/
def l2Set (s : State) (k : Nat) : List Leaf := tgetD s.xl.l2 k []
/-- The state with a set of the shared L2 replaced. -/
def setL2 (s : State) (k : Nat) (l : List Leaf) : State :=
  { s with xl := { s.xl with l2 := tsetD s.xl.l2 k [] l } }

/-- A list with an entry moved or put at its front, cut to `n` (least recently used replacement). Log entry 16 (DESIGN CHOICE). -/
def touch {α : Type} [DecidableEq α] (n : Nat) (x : α) (l : List α) : List α := (x :: l.filter (fun y => decide (y ≠ x))).take n

/-- Probe the L2 with all three page sizes (R139). -/
def l2Find (s : State) (cove ctx dva : Nat) : Option Leaf :=
  [0, 1, 2].findSome? (fun z => (l2Set s (l2Key dva ctx z)).find? (fun l => l.size == z && l.covers cove ctx dva))

/-- Whether two leaves are of one page of one context. -/
def Leaf.same (a b : Leaf) : Bool := a.cove == b.cove && a.ctx == b.ctx && a.size == b.size && a.vpn == b.vpn

/-- A cache's leaves with `l` in front, in place of any older leaf of its page, cut to `n`. Log entry 16 (DESIGN CHOICE). -/
def touchLeaf (n : Nat) (l : Leaf) (t : List Leaf) : List Leaf := (l :: t.filter (fun y => !y.same l)).take n

/-- Put a leaf into the L2, or to the front of its set. Log entry 16 (DESIGN CHOICE). -/
def l2Put (s : State) (l : Leaf) (dva : Nat) : State :=
  let k := l2Key dva l.ctx l.size
  setL2 s k (touchLeaf 16 { l with mark := none } (l2Set s k))

/-- Span of an entry of the walk cache, as bits below it: 39, 30, 21 for levels 3, 2, 1; the whole space for the
directory (R142). -/
def spanBits (level : Nat) : Nat := if level = 3 then 39 else if level = 2 then 30 else if level = 1 then 21 else 48

/-- The set of the walk cache for an entry. Log entry 16 (DESIGN CHOICE). -/
def wcKey (cove ctx level span : Nat) : Nat := (cove + ctx + level + span) % 64
/-- A set of the walk cache. Log entry 16 (DESIGN CHOICE). -/
def wcSet (s : State) (k : Nat) : List WalkEnt := tgetD s.xl.wc k []
/-- Find a cached pointer. -/
def wcFind (s : State) (cove ctx level dva : Nat) : Option WalkEnt :=
  let sp := dva / 2 ^ spanBits level
  (wcSet s (wcKey cove ctx level sp)).find? (fun e => e.cove == cove && e.ctx == ctx && e.level == level && e.span == sp)
/-- Put a pointer into the walk cache (R140). Log entry 16 (DESIGN CHOICE). -/
def wcPut (s : State) (e : WalkEnt) : State :=
  let k := wcKey e.cove e.ctx e.level e.span
  { s with xl := { s.xl with wc := tsetD s.xl.wc k [] (touch 16 e (wcSet s k)) } }

/-- The fault of a leaf that lacks the rights of an access (R136). Log entry 17 (DESIGN CHOICE). -/
def rightsFault (l : Leaf) (acc : Access) : Option Nat :=
  match acc with
  | .read => if l.r then none else some 2
  | .write _ _ => if l.w then none else some 3
  | .atomic _ _ _ _ _ => if l.r && l.w && l.a then none else some 4

/-- How a lookup ends. -/
inductive XRes where
  | hit (fpa : Nat) (dl : Bool)
  | miss
  | fault (reason level : Nat)
deriving DecidableEq, Repr

/-- Rights, then the address (R136). -/
def checkLeaf (l : Leaf) (acc : Access) (dva : Nat) : XRes :=
  match rightsFault l acc with
  | some r => .fault r l.size
  | none => .hit (l.fpa dva) l.dl

/-- Look a DVA up in the client's TLB and the shared L2 and check its rights (R129, R131, R136, R138, R139). Log entry 17 (DESIGN CHOICE). -/
def lookup (s : State) (client cove ctx dva len : Nat) (acc : Access) : XRes × State :=
  if 2 ^ 48 < dva + len then (.fault 8 7, s)
  else if !flag s (F.XL_CTXDIR_LO_EN cove) then (.fault 7 4, s)
  else match if hasTlb client then (tlbOf s client).find? (·.covers cove ctx dva) else none with
    | some l => (checkLeaf l acc dva, setTlb s client (touchLeaf 64 l (tlbOf s client)))
    | none =>
      match l2Find s cove ctx dva with
      | some l =>
        let s := l2Put s l dva
        (checkLeaf l acc dva, if hasTlb client then setTlb s client (touchLeaf 64 l (tlbOf s client)) else s)
      | none => (.miss, incCtr s C.XL_L2_MISS)

/-- Drop the cached leaves that a client finds for a DVA: those that lacked a right, before a replay walks again (R141, R152).
Log entry 17 (DESIGN CHOICE). -/
def forget (s : State) (client cove ctx dva : Nat) : State :=
  let out (l : List Leaf) : List Leaf := l.filter (fun x => !x.covers cove ctx dva)
  let s := if hasTlb client then setTlb s client (out (tlbOf s client)) else s
  [0, 1, 2].foldl (fun s z => let k := l2Key dva ctx z; setL2 s k (out (l2Set s k))) s

/-- Put a miss into the queue ahead of the walker; it is full at 256 (R140). Log entry 17 (DESIGN CHOICE). -/
def queueMiss (s : State) (m : Miss) : Option State :=
  if s.xl.missq.length < 256 then some { s with xl := { s.xl with missq := s.xl.missq ++ [m] } } else none

/-- A transfer of number `id` has missed: it waits for the walker, or for room in the miss queue (R140). Log entry 17 (DESIGN CHOICE). -/
def missXfer (s : State) (id : Nat) (x : Xfer) : State :=
  match queueMiss s ⟨x.tag, x.ctx, x.dva⟩ with
  | some s => setXfer s id { x with stage := .missing }
  | none => setXfer s id { x with stage := .queueing }

/-- Misses that have waited for room in the queue enter it, oldest transfer first (R140). Log entry 17 (DESIGN CHOICE). -/
def admitMisses (s : State) : State :=
  s.xl.xfers.foldl (fun s e => if e.2.stage == .queueing then missXfer s e.1 e.2 else s) s

/-- Whether a transfer waits for the walk of a page (R140). -/
def missWaits (s : State) (m : Miss) : Bool :=
  s.xl.xfers.any (fun e => e.2.stage == .missing && e.2.tag == m.cove && e.2.ctx == m.ctx && e.2.dva / 2 ^ 16 == m.dva / 2 ^ 16)

/-! ### Walks, R131–R135, R140 -/

/-- The host address of a cove's context directory. -/
def ctxDirBase (s : State) (c : Nat) : Nat :=
  fld s (F.XL_CTXDIR_LO_ADDR_LO c) * 2 ^ 12 + 2 ^ 32 * fld s (F.XL_CTXDIR_HI_ADDR_HI c)

/-- Index of a DVA at a level (R132). -/
def walkIndex (level dva : Nat) : Nat :=
  if level = 3 then bits dva 39 9 else if level = 2 then bits dva 30 9 else if level = 1 then bits dva 21 9
  else bits dva 16 5

/-- Where a walk begins: below the deepest cached pointer, or at the directory (R140). Log entry 17 (DESIGN CHOICE). -/
def walkStartAt (s : State) (cove ctx dva : Nat) : Nat × Nat :=
  let at' (e : WalkEnt) (level : Nat) := (level, e.next + 8 * walkIndex level dva)
  match wcFind s cove ctx 1 dva with
  | some e => at' e 0
  | none => match wcFind s cove ctx 2 dva with
    | some e => at' e 1
    | none => match wcFind s cove ctx 3 dva with
      | some e => at' e 2
      | none => match wcFind s cove ctx 4 dva with
        | some e => at' e 3
        | none => (4, ctxDirBase s cove + 8 * ctx)

/-- What the walker makes of the entry it has read (R131, R133–R135). -/
inductive EntryRes where
  | next (addr : Nat)
  | leaf (l : Leaf)
  | fault (reason : Nat)
deriving DecidableEq, Repr

/-- Read an entry of a level (R131, R133–R135). Log entry 17 (DESIGN CHOICE). -/
def readEntry (w : Walk) (e : Nat) : EntryRes :=
  if !e.testBit 0 then .fault (if w.level = 4 then 7 else 1)
  else if w.level = 4 then
    if bits e 1 11 != 0 then .fault 5 else .next (e / 2 ^ 12 * 2 ^ 12)
  else if e.testBit 1 then
    let fpn := bits e 16 25
    let size := w.level
    if w.level = 3 then .fault 5
    else if bits e 6 10 != 0 || e / 2 ^ 41 != 0 || fpn % 2 ^ (pageBits size - 16) != 0 then .fault 5
    else .leaf ⟨w.cove, w.ctx, size, w.dva / 2 ^ pageBits size, fpn, e.testBit 2, e.testBit 3, e.testBit 4, e.testBit 5, none⟩
  else if w.level = 0 then .fault 5
  else if bits e 2 6 != 0 || (2 ≤ w.level && bits e 8 4 != 0) then .fault 5
  else .next (e / 2 ^ 8 * 2 ^ 8)

/-- The state with walk `id` set. -/
def setWalk (s : State) (id : Nat) (w : Walk) : State := { s with xl := { s.xl with walks := tput s.xl.walks id w } }
/-- The state without walk `id`. -/
def delWalk (s : State) (id : Nat) : State := { s with xl := { s.xl with walks := tdel s.xl.walks id } }

/-- Whether two DVAs lie in one 64 KiB page, so that their misses coalesce (R140). Log entry 17 (DESIGN CHOICE). -/
def samePage (a b : Nat) : Bool := a / 2 ^ 16 == b / 2 ^ 16

/-- WALK_START: the walker takes the oldest miss; one of a page that is being walked, or whose walk has served every transfer
that waited, coalesces (R140). Log entry 17 (DESIGN CHOICE). -/
def execWalkStart (s : State) : Ans :=
  match s.xl.missq with
  | [] => .next s
  | m :: rest =>
    if 64 ≤ s.xl.walks.length || !running s 92 then .next s
    else
      let s := admitMisses { s with xl := { s.xl with missq := rest } }
      if !missWaits s m || s.xl.walks.any (fun e => e.2.cove == m.cove && e.2.ctx == m.ctx && samePage e.2.dva m.dva) then .next s
      else
        let (level, addr) := walkStartAt s m.cove m.ctx m.dva
        let s := incCtr (incCtr s C.XL_WALK_CNT) (C.XL_CV_MISS m.cove)
        let s := setWalk s s.xl.nextWalk ⟨m.cove, m.ctx, m.dva, level, addr, false⟩
        .next (emit { s with xl := { s.xl with nextWalk := s.xl.nextWalk + 1 } } (.hostRead 0 (addr % 2 ^ 64) 8))

/-! ### Dirty log, R156–R160 -/

/-- Whether a cove's dirty log is on. -/
def dlOn (s : State) (c : Nat) : Bool := flag s (F.XL_DL_STATUS_ON c)
/-- The number of the present epoch of a cove's dirty log (R157, R159). -/
def dlEpoch (s : State) (c : Nat) : Nat := tgetD s.xl.dlEpochs c 0
/-- Host address of the bitmap now marked. -/
def dlBase (s : State) (c : Nat) : Nat :=
  fld s (F.XL_DL_BASE_LO_ADDR_LO c) * 2 ^ 12 + 2 ^ 32 * fld s (F.XL_DL_BASE_HI_ADDR_HI c)

/-- The bits of a bitmap line that a page sets, and the line's host address (R156). -/
def dirtyBit (base page : Nat) : Nat × Line := (base + page / 512 * 64, 1#512 <<< (page % 512))

/-- The dirty-log cache, and the marks that wait for it, without a cove's lines that satisfy `p`. -/
def dlDrop (s : State) (p : DirtyLine → Bool) : State :=
  { s with xl := { s.xl with dlc := s.xl.dlc.filter (fun d => !p d), dlWait := s.xl.dlWait.filter (fun d => !p d) } }

/-- A host-bus error on a bitmap: ERR is set, logging is off, and source 515 is raised; a SWAP or STOP under way ends without
DONE, and what the cache held for the cove is dropped (R160). Log entry 17 (DESIGN CHOICE). -/
def dlFail (s : State) (c : Nat) : State :=
  let s := dlDrop s (fun d => d.cove == c)
  let s := setFlag (setFlag (setFlag s (F.XL_DL_STATUS_ERR c) true) (F.XL_DL_STATUS_ON c) false) (F.XL_DL_STATUS_BUSY c) false
  raiseSrc (setFld (setFld s (F.XL_DL_BASE_LO_ADDR_LO c) 0) (F.XL_DL_BASE_HI_ADDR_HI c) 0) 515

/-- Write a cached line of a bitmap back (R158); a host-bus error ends the log (R160). -/
def dlWriteBack (s : State) (d : DirtyLine) : State :=
  let (ok, s) := hostWrite s d.addr (lineBytes (d.data ||| d.marks))
  if ok then s else dlFail s d.cove

/-- Whether a bitmap is still being written: the active one while the log is on, one that was left while BUSY (R159, R160). -/
def dlTakes (s : State) (d : DirtyLine) : Bool := if d.old then flag s (F.XL_DL_STATUS_BUSY d.cove) else dlOn s d.cove

/-- Put the marks of a line into the walker's bitmap cache: ORed into a line that is there, or into one read from the host in
place of the oldest filled line; while all 256 lines are being read the marks wait (R158). Log entry 17 (DESIGN CHOICE). -/
def dlPut (s : State) (d : DirtyLine) : State :=
  let here (x : DirtyLine) : Bool := x.cove == d.cove && x.addr == d.addr && x.old == d.old
  let add (s : State) : State :=
    if dlTakes s d then emit { s with xl := { s.xl with dlc := s.xl.dlc ++ [d] } } (.hostRead 0 (d.addr % 2 ^ 64) 64) else s
  if s.xl.dlc.any here then
    { s with xl := { s.xl with dlc := s.xl.dlc.map (fun x => if here x then { x with marks := x.marks ||| d.marks } else x) } }
  else if s.xl.dlc.length < 256 then add s
  else match s.xl.dlc.find? (·.filled) with
    | some e => add (dlWriteBack { s with xl := { s.xl with dlc := s.xl.dlc.erase e } } e)
    | none => { s with xl := { s.xl with dlWait := s.xl.dlWait ++ [d] } }

/-- Mark a page of a cove in its active bitmap (R156, R158). -/
def dlMark (s : State) (c page : Nat) : State :=
  let (addr, m) := dirtyBit (dlBase s c) page
  dlPut s ⟨c, addr, false, 0, m, false⟩

/-- Marks that have waited enter the cache, oldest first (R158). -/
def dlAdmit (s : State) : State :=
  s.xl.dlWait.foldl dlPut { s with xl := { s.xl with dlWait := [] } }

/-- Whether a completion reports a performed write or atomic. -/
def Resp.performed : Resp → Bool
  | .error _ => false
  | _ => true

/-- Whether a TLB entry is the leaf through which a write to `fpa` was translated. -/
def Leaf.used (l : Leaf) (cove ctx dva fpa : Nat) : Bool := l.covers cove ctx dva && l.dl && l.fpa dva == fpa

/-- Mark the page of a completed write through a DL leaf, once per epoch and client; an entry of a larger page remembers no
mark, since it spans several (R157). -/
def markDirty (s : State) (client cove ctx dva fpa : Nat) (dl : Bool) (acc : Access) (r : Resp) : State :=
  let data := match decodeFpa s fpa with | .data _ => true | _ => false
  if acc == .read || !dl || !r.performed || !dlOn s cove || !data then s
  else
    let ep := dlEpoch s cove
    if (tlbOf s client).any (fun l => l.used cove ctx dva fpa && l.size == 0 && l.mark == some ep) then s
    else
      let s := setTlb s client ((tlbOf s client).map (fun l => if l.used cove ctx dva fpa then { l with mark := some ep } else l))
      dlMark s cove (fpa / 2 ^ 16)

/-- Mark what a transfer has written, by its client (R157). -/
def markXfer (s : State) (x : Xfer) (r : Resp) : State :=
  match x.client with
  | some cl => if x.tag < 16 then markDirty s cl x.tag x.ctx x.dva x.fpa x.dl x.acc r else s
  | none => s

/-- TRANSFER_COMPLETE: the completion returns to the client, which marks the dirty log (R144, R157). Log entry 6 (DESIGN CHOICE). -/
def execTransferComplete (id : Nat) (s : State) : Ans :=
  match tfind s.xl.xfers id with
  | some x =>
    match x.stage with
    | .done r => atDomain s (unitDomain x.src) (emit (delXfer (markXfer s x r) id) (.xferDone id r))
    | _ => .next s
  | none => .next s

/-- Writes of a cove that their controllers have performed and that have not returned are marked now, and not again when they
return: they have completed before the swap point (R144, R159). -/
def markPerformed (s : State) (c : Nat) : State :=
  s.xl.xfers.foldl (fun s e =>
    match e.2.stage with
    | .done r => if e.2.tag = c then setXfer (markXfer s e.2 r) e.1 { e.2 with dl := false } else s
    | _ => s) s

/-- Toggle a cove's epoch at the swap point: its marks so far are the old bitmap's (R159). Log entry 17 (DESIGN CHOICE). -/
def dlToggle (s : State) (c : Nat) (on : Bool) (base : Nat) : State :=
  let s := markPerformed s c
  let s := setFlag s (F.XL_DL_STATUS_EPOCH c) (!flag s (F.XL_DL_STATUS_EPOCH c))
  let s := setFlag (setFlag s (F.XL_DL_STATUS_ON c) on) (F.XL_DL_STATUS_BUSY c) true
  let s := setFld (setFld s (F.XL_DL_BASE_LO_ADDR_LO c) (base / 2 ^ 12)) (F.XL_DL_BASE_HI_ADDR_HI c) (base / 2 ^ 32)
  let aged (d : DirtyLine) : DirtyLine := if d.cove == c then { d with old := true } else d
  { s with xl := { s.xl with
      dlc := s.xl.dlc.map aged, dlWait := s.xl.dlWait.map aged, dlEpochs := tsetD s.xl.dlEpochs c 0 (dlEpoch s c + 1) } }

/-- XL_DL_SWAP: turn logging on, or move it to the next bitmap; ignored while BUSY (R159, R160). -/
def execXlDlSwap (q : Requester) (c : CoveId) (s : State) : Ans :=
  let base := fld s (F.XL_DL_NEXT_LO_ADDR_LO c) * 2 ^ 12 + 2 ^ 32 * fld s (F.XL_DL_NEXT_HI_ADDR_HI c)
  atFabric s q (if !coveExists s c || flag s (F.XL_DL_STATUS_BUSY c) then s else dlToggle s c true base)

/-- XL_DL_STOP: toggle the epoch and turn logging off (R159). -/
def execXlDlStop (q : Requester) (c : CoveId) (s : State) : Ans :=
  atFabric s q (if !coveExists s c || flag s (F.XL_DL_STATUS_BUSY c) then s else dlToggle s c false 0)

/-- DIRTY_LOG_LINE_FILL: a missed bitmap line arrives and the marks waiting for it are ORed in (R158). -/
def execDirtyLogLineFill (c : CoveId) (addr : BitVec 64) (data : Line) (s : State) : Ans :=
  atDomain s 92 (dlAdmit { s with xl := { s.xl with dlc := s.xl.dlc.map (fun d =>
    if d.cove == c.val && d.addr == addr.toNat && !d.filled then { d with filled := true, data := data } else d) } })

/-- DIRTY_LOG_SWAP_DONE: every cached line of the old bitmap is written back, DONE is set and source 515 raised (R159).
It waits for lines that are still being read. -/
def execDirtyLogSwapDone (c : CoveId) (s : State) : Ans :=
  let mine (l : List DirtyLine) : List DirtyLine := l.filter (fun d => d.cove == c.val && d.old)
  if !flag s (F.XL_DL_STATUS_BUSY c) || (mine s.xl.dlc).any (fun d => !d.filled) || !(mine s.xl.dlWait).isEmpty then .next s
  else
    let s1 := (mine s.xl.dlc).foldl (fun s d => if flag s (F.XL_DL_STATUS_BUSY c) then dlWriteBack s d else s)
      (dlDrop s (fun d => d.cove == c.val && d.old))
    let s2 := dlAdmit s1
    atDomain s 92
      (if flag s1 (F.XL_DL_STATUS_BUSY c) then
        raiseSrc (setFlag (setFlag s2 (F.XL_DL_STATUS_BUSY c) false) (F.XL_DL_STATUS_DONE c) true) 515
       else s2)

/-- DIRTY_LOG_HOST_ERROR: a read of the bitmap ends in an error (R160). Log entry 17 (DESIGN CHOICE). -/
def execDirtyLogHostError (c : CoveId) (s : State) : Ans :=
  if !dlOn s c && !flag s (F.XL_DL_STATUS_BUSY c) then .next s else atDomain s 92 (dlFail s c)

/-- Drop every cached translation of a cove (R155, R212). -/
def dropCoveXlate (s : State) (c : Nat) : State :=
  let f (t : Tbl (List Leaf)) : Tbl (List Leaf) :=
    (t.map (fun e => (e.1, e.2.filter (fun l => l.cove != c)))).filter (fun e => !e.2.isEmpty)
  { s with xl := { s.xl with
      tlb := f s.xl.tlb, l2 := f s.xl.l2,
      wc := (s.xl.wc.map (fun e => (e.1, e.2.filter (fun x => x.cove != c)))).filter (fun e => !e.2.isEmpty),
      missq := s.xl.missq.filter (fun m => m.cove != c),
      walks := s.xl.walks.filter (fun e => e.2.cove != c) } }

/-- Held transfers of a cove (XL_WQ_HELD.TRANSFERS). -/
def heldXfers (s : State) (c : Nat) : List (Nat × Xfer) :=
  s.xl.xfers.filter (fun e => e.2.tag == c && match e.2.stage with | .held _ _ => true | _ => false)

end Sys2Proof.Machine
end

