-- ==== Sys2Proof/Machine/Tide.lean ====
section
/-!
DEFINITION. Tide masters, the edge message, taps, arming and calibration (chapter 03), without what a launch does.
-/
namespace Sys2Proof.Machine

/-- A tap at reset: no source (TD_TAP_DATA1). -/
def Tap.init : Tap := ⟨31, 0, 0, false, false, [], none, none, none, false⟩
/-- Tap `t`. -/
def tapOf (s : State) (t : Nat) : Tap := tgetD s.tide.taps t Tap.init
/-- The state with tap `t` set. -/
def setTap (s : State) (t : Nat) (v : Tap) : State :=
  { s with tide := { s.tide with taps := tsetD s.tide.taps t Tap.init v } }
/-- The state with master `m` set. -/
def setMaster (s : State) (m : Nat) (v : Master) : State :=
  { s with tide := { s.tide with masters := tput s.tide.masters m v } }

/-- The clock tap of a domain (R74). -/
def clockTap (d : Nat) : Nat := if d < 96 then 192 + d else 191 + d

/-- Taps that listen to a tide, ascending (R74). -/
def tapsOf (s : State) (m : Nat) : List Nat := (s.tide.taps.filter (fun e => e.2.src == m)).map (·.1)

/-- Stored calibration of a tap and a source (R78). -/
def calOf (s : State) (t m : Nat) : TapCal := tgetD s.tide.cal (t * 32 + m) ⟨0, 0⟩

/-- The launch offset and the settling time of a tide over a set of taps (R79). -/
def tideFigures (s : State) (m : Nat) (taps : List Nat) : Nat × Nat :=
  (taps.foldl (fun a t => max a (calOf s t m).delay) 0, taps.foldl (fun a t => max a (calOf s t m).ackNs) 0 + 1000)

/-- Load a tap's lag for its source, clamped to 1,023 steps (R79, R80). -/
def loadLag (s : State) (t ofs : Nat) : State :=
  let x := tapOf s t
  let lag := ofs - (calOf s t x.src).delay
  let s := setTap s t { x with lag := min lag 1023, range := decide (1023 < lag) }
  if 1023 < lag then setFlag s F.TD_STATUS_RANGE true else s

/-- Derive the figures of tide `m` from the stored delays and load the lags of its taps (R79). -/
def retune (s : State) (m : Nat) : State :=
  let taps := tapsOf s m
  let (ofs, settle) := tideFigures s m taps
  let s := setMaster s m { masterOf s m with launchOfs := ofs, settle := settle }
  taps.foldl (fun s t => loadLag s t ofs) s

/-! ### The edge message, R75 -/

/-- The bits of a message at even, or odd, positions of 81–0. -/
def parityBits (msg : Nat) (odd : Bool) : Nat :=
  ((List.range 41).foldl (fun a k => a + (if msg.testBit (2 * k + (if odd then 1 else 0)) then 1 else 0)) 0) % 2

/-- The message of an edge (R75). -/
def edgeMsg (count due : Nat) : BitVec 84 :=
  let m := (count % 2 ^ 16) * 4 + 2 ^ 18 * (due % 2 ^ 64)
  BitVec.ofNat 84 (m + parityBits m false * 2 ^ 82 + 2 ^ 83 * ((parityBits m true + 1) % 2))

/-- Whether both parity bits of a received message agree (R75). -/
def parityOk (msg : BitVec 84) : Bool :=
  parityBits msg.toNat false == b2n (msg.getLsbD 82) && (parityBits msg.toNat true + 1) % 2 == b2n (msg.getLsbD 83)

/-! ### Missed edges, R89 -/

/-- Count one missed edge of a tap and raise the tide source (R89, R291). Log entry 26 (DESIGN CHOICE). -/
def countGap (s : State) (m : Nat) : State :=
  let s := incCtr s C.TD_GAP_CNT
  let s := if m < 16 then incCtr s (C.TD_GAP m) else s
  raiseSrc (setFlag s F.TD_STATUS_GAP true) 514

/-- A tap has missed an edge: the edge is counted, and the tap launches nothing and discards its stored actions until it has
resynchronised (R89). Log entry 26 (DESIGN CHOICE). -/
def missEdge (s : State) (t : Nat) : State :=
  let x := tapOf s t
  setTap (countGap s x.src) t { x with resync := true, acts := [], recv := none, net := none }

/-! ### The slate, R83, R84 -/

/-- The free entry of a master's slate that an arming takes: the lowest (R83). Log entry 26 (DESIGN CHOICE). -/
def freeEntry (m : Master) : Option Nat := (List.range 64).find? (fun e => !thas m.slate e)

/-- Arm an entry of tide `m`; with no free entry the arming is refused FULL and waits to be retried (R83). -/
def armEntry (s : State) (r : ArmReq) : State :=
  let m := masterOf s r.tide
  match freeEntry m with
  | some e => setMaster s r.tide { m with slate := tput m.slate e ⟨r.act, r.target, r.taps, [], none, 0, [], [], false⟩ }
  | none =>
    let s := if r.tide < 16 then setFlag s (F.TD_SLATE_FULL_SEEN r.tide) true else s
    emit { s with tide := { s.tide with armReqs := s.tide.armReqs ++ [r] } } (.slateFull r.tide)

/-- SLATE_ARM: an arming unit refused before tries again (R83). -/
def execSlateArm (m : TideId) (s : State) : Ans :=
  match s.tide.armReqs.find? (fun r => r.tide == m.val) with
  | none => .next s
  | some r => atDomain s 96 (armEntry { s with tide := { s.tide with armReqs := s.tide.armReqs.erase r } } r)

/-- TAP_ARM_ACTION: a tap stores the action of an entry and acknowledges it to its master (R83). -/
def execTapArmAction (t : TapId) (e : Idx64) (s : State) : Ans :=
  let x := tapOf s t.val
  let m := masterOf s x.src
  match tfind m.slate e.val with
  | some a =>
    if x.src ≤ 16 && a.taps.contains t.val && !a.stored.contains t.val && a.due.isNone then
      atDomain s (tapDomain t.val) (setTap (setMaster s x.src { m with slate := tput m.slate e.val { a with stored := t.val :: a.stored } })
        t.val { x with acts := tput x.acts e.val a.act })
    else .next s
  | none => .next s

/-- Whether every participating tap has acknowledged the launch of an entry, or missed it (R84). -/
def Slate.ended (a : Slate) : Bool := a.due.isSome && a.taps.all (fun t => a.acked.contains t || a.missed.contains t)

/-- The report of an ended entry (R84). -/
def Slate.report (a : Slate) (tide : Nat) : SlateReport :=
  ⟨tide, a.act, if a.missed.isEmpty then .done else .partially a.missed, a.due.getD 0⟩

/-- Free the ended entries of a master and collect their reports; a PARTIAL one sets TD_STATUS.PARTIAL and raises the
tide source (R84, R291). Log entry 26 (DESIGN CHOICE). -/
def freeEnded (s : State) (m : Nat) : List SlateReport × State :=
  let ms := masterOf s m
  let ended := ms.slate.filter (fun e => e.2.ended)
  let s := setMaster s m { ms with slate := ms.slate.filter (fun e => !e.2.ended) }
  let s := if ended.any (fun e => !e.2.missed.isEmpty) then raiseSrc (setFlag s F.TD_STATUS_PARTIAL true) 514 else s
  (ended.map (fun e => e.2.report m), s)

/-- A tap has missed the launch of every entry that still waits for it: each will end PARTIAL (R84, R89). Log entry 26 (DESIGN CHOICE). -/
def markMissed (s : State) (m t : Nat) : State :=
  let ms := masterOf s m
  setMaster s m { ms with
    await := ms.await.filter (· != t),
    slate := ms.slate.map (fun e => (e.1,
      if e.2.due.isSome && e.2.taps.contains t && !e.2.acked.contains t && !e.2.missed.contains t
      then { e.2 with missed := e.2.missed ++ [t] } else e.2)) }

/-- The master marks a tap missed whose acknowledgement has not come: a missed edge, which a tap that knows of it has counted
itself (R89). -/
def missAck (s : State) (m t : Nat) : State := markMissed (if (tapOf s t).resync then s else countGap s m) m t

/-- The scheduler takes the outcome of its entry: a PARTIAL one is counted; other outcomes go to their arming units (R84, R257).
Log entry 26 (DESIGN CHOICE). -/
def takeOutcome (s : State) (r : SlateReport) : State :=
  let part := match r.outcome with | .partially _ => true | _ => false
  match r.act with
  | .flip _ => { s with tide := { s.tide with reports := s.tide.reports ++ [r] } }
  | .dvfs _ => { s with tide := { s.tide with reports := s.tide.reports ++ [r] } }
  | .preempt c _ => if part then incCtr s (C.SQ_CV_PARTIAL c) else s
  | .stepStart c _ => if part then incCtr s (C.SQ_CV_PARTIAL c) else s
  | _ => s

/-- The report of an entry that a reset takes from the slate: one that has launched ends with its launch, and the taps that have not
acknowledged have missed it; another is CANCELLED (R84, R91). Log entry 26 (DESIGN CHOICE). -/
def Slate.cutReport (a : Slate) (tide : Nat) : SlateReport :=
  if a.applied then { a with missed := a.missed ++ a.taps.filter (fun t => !a.acked.contains t && !a.missed.contains t) }.report tide
  else ⟨tide, a.act, .cancelled, 0⟩

/-- Cancel every armed entry of a tide, and every arming that waits, and report it (R84, R91). -/
def cancelSlate (s : State) (m : Nat) : State :=
  let ms := masterOf s m
  let ends := ms.slate.map (fun e => e.2.cutReport m)
    ++ (s.tide.armReqs.filter (fun r => r.tide == m)).map (fun r => ⟨m, r.act, .cancelled, 0⟩)
  let s := if thas s.tide.masters m then setMaster s m { ms with slate := [] } else s
  ends.foldl takeOutcome { s with tide := { s.tide with armReqs := s.tide.armReqs.filter (fun r => r.tide != m) } }

/-- The count and DUE bits of the master's next edge, with the entries it launches and the number that slipped; one armed with N = 0
for the next possible edge never slips (R70, R83). Log entry 26 (DESIGN CHOICE). -/
def nextEdge (ms : Master) (now : Nat) : Nat × Nat × Tbl Slate × Nat :=
  let count := (ms.count + 1) % 2 ^ 64
  let isDue (a : Slate) : Bool := a.due.isNone && a.taps.all (fun t => a.stored.contains t) && a.target ≤ count
  let due := ms.slate.foldl (fun d e => if isDue e.2 then d ||| 2 ^ e.1 else d) 0
  let slips := (ms.slate.filter (fun e => isDue e.2 && e.2.target != 0 && e.2.target < count)).length
  (count, due, ms.slate.map (fun e => (e.1, if isDue e.2 then { e.2 with due := some count, dueNow := now } else e.2)), slips)

/-- Emit an edge of tide `m`: the count, the period, the DUE bits and the message to every tap that listens (R70, R71, R75, R83). -/
def emitEdge (s : State) (m now : Nat) : State :=
  let ms := masterOf s m
  let (count, due, slate, slips) := nextEdge ms now
  let taps := tapsOf s m
  let s := setMaster s m { ms with count := count, slate := slate, period := ms.newPeriod.getD ms.period, newPeriod := none, await := taps }
  let s := if m < 16 then addCtr s (C.TD_SLIP m) slips else s
  taps.foldl (fun s t => setTap s t { tapOf s t with net := some (edgeMsg count due) }) s

/-- TAP_EDGE_RECEIVE: a tap takes the message that has reached it, with the bits the net has flipped, and schedules its
launch, or has missed an edge (R75, R76, R89). -/
def execTapEdgeReceive (t : TapId) (flips : BitVec 84) (s : State) : Ans :=
  let x := tapOf s t.val
  match x.net with
  | none => .next s
  | some m =>
    let msg := m ^^^ flips
    let kind := msg.toNat % 4
    if !running s (tapDomain t.val) then .next (setTap s t.val { x with net := none })
    else if !parityOk msg then .next (missEdge s t.val)
    else if kind != 0 then .next (setTap s t.val { x with net := none })
    else if x.resync || bits msg.toNat 2 16 != (x.count + 1) % 2 ^ 16 then .next (missEdge s t.val)
    else
      let c := (x.count + 1) % 2 ^ 64
      .next (setTap s t.val { x with net := none, count := c, recv := some ⟨c, bits msg.toNat 18 64⟩ })

/-- A period in FIO cycles: round(PERIOD_MR × 400,000 ÷ XA_KHZ) (R73). -/
def fioPeriod (s : State) (p : Nat) : Nat :=
  let khz := s.plan.xaKhz
  if khz = 0 then p else (2 * p * 400000 + khz) / (2 * khz)

/-- A PERIOD_MR in the cycles that D96 now counts: of XA, or of FIO while ON_FIO (R70, R73). -/
def inCycles (s : State) (p : Nat) : Nat := if flag s F.TD_STATUS_ON_FIO then fioPeriod s p else p

/-- The masters resume after XA loss, with their periods in FIO cycles; a change that waited for an edge is in the PERIOD_MR
that is reloaded (R73). Log entry 26 (DESIGN CHOICE). -/
def resumeTides (s : State) : State :=
  if !flag s F.TD_STATUS_XA_LOST then s
  else
    let ms := s.tide.masters.map (fun e => (e.1, { e.2 with held := false, period := fioPeriod s e.2.periodMr, newPeriod := none }))
    setFlag (setFlag { s with tide := { s.tide with masters := ms } } F.TD_STATUS_XA_LOST false) F.TD_STATUS_ON_FIO true

/-- TD_RESUME: after XA loss the periods are reloaded in FIO cycles and the masters resume (R73). -/
def execTdResume (q : Requester) (s : State) : Ans := atFabric s q (resumeTides s)

/-- Start a calibration of every tap and source (R78). -/
def startCal (s : State) : State :=
  if flag s F.TD_STATUS_CAL_BUSY then s else setFlag s F.TD_STATUS_CAL_BUSY true

/-- TD_CAL: start a calibration; ignored while one runs (R78). -/
def execTdCal (q : Requester) (s : State) : Ans := atFabric s q (startCal s)

/-- Store the measured delays and acknowledge times (R78). Log entry 26 (DESIGN CHOICE). -/
def storeCal (s : State) (meas : List CalMeas) : State :=
  { s with tide := { s.tide with cal := meas.foldl (fun t c =>
      tsetD t (c.tap.val * 32 + c.src.val) ⟨0, 0⟩ ⟨c.delay, c.ackNs⟩) s.tide.cal } }

/-- The end of a calibration: delays, lags and settling times are loaded (R79, R80). -/
def endCal (s : State) (meas : List CalMeas) : State :=
  let s := storeCal s meas
  let s := setFlag (setFlag s F.TD_STATUS_CAL_BUSY false) F.TD_STATUS_CAL_DONE true
  (List.range 17).foldl (fun s m => if thas s.tide.masters m then retune s m else s) s

/-- A tap takes a source, with its lag, and has missed an edge by that (R81, R89); source 31 is none. Log entry 26 (DESIGN CHOICE). -/
def tapTake (s : State) (t src : Nat) : State :=
  let s := setTap s t { Tap.init with src := src }
  if src = 31 then s else missEdge s t

/-- Start a tide master at count 0 with a period; it is held while XA is lost, and what the slate of a tide that ran held is
cancelled (R71, R73, R84). -/
def startMaster (s : State) (m period : Nat) : State :=
  let s := cancelSlate s m
  let ms := masterOf s m
  setMaster s m { ms with
    running := true, held := flag s F.TD_STATUS_XA_LOST, count := 0, periodMr := period, period := inCycles s period,
    newPeriod := none, slate := [], await := [] }

end Sys2Proof.Machine
end

