-- ==== Sys2Proof/Machine/Sched.lean ====
section
/-!
DEFINITION. The scheduler's bookkeeping: steps, engines, ports, placement, groups, engine time, the retirement of entries
and the discard of work (chapter 09 and R235, R243, R244).
-/
namespace Sys2Proof.Machine

/-! ### Steps, engines and runs -/

/-- Step `i`, while it has not retired. -/
def stepOf (s : State) (i : Nat) : Option Step := tfind s.sq.steps i
/-- The state with step `i` set. -/
def setStep (s : State) (i : Nat) (x : Step) : State := { s with sq := { s.sq with steps := tput s.sq.steps i x } }
/-- The state with step `i` changed, when it exists. -/
def modStep (s : State) (i : Nat) (f : Step → Step) : State := { s with sq := { s.sq with steps := tmod s.sq.steps i f } }
/-- The state without step `i`. -/
def delStep (s : State) (i : Nat) : State :=
  { s with sq := { s.sq with steps := tdel s.sq.steps i, switching := tdel s.sq.switching i } }
/-- The engine with a tile at unit `u`. -/
def engOf (s : State) (u : Nat) : Option Eng := tfind s.sq.engines u
/-- The state with the engine at `u` set. -/
def setEng (s : State) (u : Nat) (e : Eng) : State := { s with sq := { s.sq with engines := tput s.sq.engines u e } }
/-- A unit without a tile presents urgency 0 (R281). -/
def calm (s : State) (u : Nat) : State :=
  match unitReg u with | some r => setRegul s r { regulOf s r with urg := 0 } | none => s
/-- The state with the engine at `u` free of its tile. -/
def delEng (s : State) (u : Nat) : State := calm { s with sq := { s.sq with engines := tdel s.sq.engines u } } u

/-- Steps of a cove that satisfy `p`. -/
def stepsWhere (s : State) (p : Step → Bool) : List (Nat × Step) := s.sq.steps.filter (fun e => p e.2)

/-- Released steps of a cove that have not retired (SQ_CV_STATE.RELEASED). -/
def releasedSteps (s : State) (c : Nat) : Nat := (stepsWhere s (fun x => x.cove == c)).length

/-- The physical unit of a tile's logical engine. -/
def Step.unitOf (x : Step) (t : TileEnt) : Option Nat := tfind x.map (t.kind * 128 + t.leng)

/-- Unit identifier of instance `i` of a tile kind (R30, R248). -/
def kindUnit (kind i : Nat) : Nat :=
  (if kind = 0 then 0x0000 else if kind = 1 then 0x1000 else if kind = 2 then 0x3000 else if kind = 3 then 0x4000 else 0x5000) + i

/-- Instances of a tile kind (R1, R248). -/
def kindMax (kind : Nat) : Nat := if kind = 0 then 128 else if kind = 1 then 64 else if kind = 2 then 16 else 8

/-- The key of a unit in the fence table (R55). -/
def unitKey (u : Nat) : Nat := match unitRes u with | some (k, i) => resKey k i | none => 0

/-- Whether an engine port is out of service while its array clears (R390, R391). -/
def portOut (s : State) (u : Nat) : Bool := u / 4096 == 0 && tgetD s.en.clearing u 0 != 0

/-- Whether a unit can be given new work of cove `c`: owned, not fenced, in service (R55, R253, R390). -/
def usable (s : State) (c u : Nat) : Bool :=
  unitOwner s u == some c && !fenceOn s (unitKey u) && !portOut s u

/-- Whether a unit's tile waits on a held fault (R152). -/
def paused (s : State) (u : Nat) : Bool :=
  s.xl.xfers.any (fun e => e.2.eng && e.2.src == u && match e.2.stage with | .held _ _ => true | _ => false)

/-! ### Stages and boundaries, R251, R263, R269 -/

/-- The boundary after the present stage of the present chunk (R251). -/
def Step.boundary (x : Step) : Nat := x.chunk * x.nstage + x.stage

/-- Whether every tile of the present stage of the present chunk is complete. -/
def Step.stageDone (x : Step) : Bool :=
  x.tiles.all (fun t => !(t.1.chunk == x.chunk && t.1.stage == x.stage) || t.2 == .complete)

/-- Whether the present boundary is the step's last. -/
def Step.atLast (x : Step) : Bool := x.chunk + 1 == x.nchunk && x.stage + 1 == x.nstage

/-- The live-map entry of the present boundary. -/
def Step.live? (x : Step) : Option LiveEnt := x.live[x.boundary]?

/-- Whether the present boundary can be the stop point of a preemption (R264, R265). Log entry 31 (DESIGN CHOICE). -/
def Step.stopHere (x : Step) : Bool :=
  match x.live? with
  | some l => l.mark && (!x.cheapOnly || l.cheap)
  | none => false

/-- A step whose later stages are not run: every tile counts as complete, and the last boundary is reached (R263). -/
def Step.skip (x : Step) : Step :=
  { x with tiles := x.tiles.map (fun t => (t.1, .complete)), chunk := x.nchunk - 1, stage := x.nstage - 1 }

/-- Tiles of the step in progress. -/
def Step.busy (x : Step) : Bool := x.tiles.any (fun t => t.2 == .running)

/-- Move past complete stages: to the next stage, or up to a boundary where an event decides, or to the end. After an error the
stage is still run to its end, and a victim at its stop point still stops there; later stages are not run (R263, R265, R269,
R273). Log entry 31 (DESIGN CHOICE). -/
def Step.forward : Nat → Step → Step
  | 0, x => x
  | n + 1, x =>
    if x.ph != .running && x.ph != .stopping then x
    else if !x.stageDone then x
    else if x.atLast then { x with ph := .retiring }
    else if x.ph == .stopping && x.stopHere then x
    else if x.err then { x.skip with ph := .retiring }
    else if x.stage + 1 == x.nstage then
      if x.ph == .running then x else Step.forward n { x with chunk := x.chunk + 1, stage := 0 }
    else Step.forward n { x with stage := x.stage + 1 }

/-- Go past the present boundary: to the end after an error (R263). -/
def Step.pass (x : Step) : Step :=
  let y := if x.err then x.skip else if x.stage + 1 == x.nstage then { x with chunk := x.chunk + 1, stage := 0 } else { x with stage := x.stage + 1 }
  Step.forward (x.nstage * x.nchunk + 1) y

/-- Move past complete stages from where the step stands. -/
def Step.settle (x : Step) : Step := Step.forward (x.nstage * x.nchunk + 1) x

/-! ### Ports and spill units, R254, R265 -/

/-- The step that occupies a port. -/
def occupant (s : State) (u : Nat) : Option Nat := (tfind s.sq.ports u).map (·.1)
/-- Free a port. -/
def freePort (s : State) (u : Nat) : State := { s with sq := { s.sq with ports := tdel s.sq.ports u } }
/-- Free every port a step occupies. -/
def freePorts (s : State) (i : Nat) : State :=
  { s with sq := { s.sq with ports := s.sq.ports.filter (fun e => e.2.1 != i) } }

/-- Spill units of a cove in use. -/
def spillUsed (s : State) (c : Nat) : List Nat :=
  (stepsWhere s (fun x => x.cove == c)).flatMap (fun e => e.2.units)

/-- Spill units a cove has (SQ_CV_INFO.UNITS). -/
def spillTotal (s : State) (c : Nat) : Nat :=
  if flag s (F.SQ_SPILL_STATUS_READY c) then fld s (F.SQ_SPILL_COUNT c) * 4096 else 0

/-- The lowest `k` numbers from `i` that are not in `used`, with `fuel` numbers tried. -/
def lowestUnits (used : List Nat) : Nat → Nat → Nat → List Nat
  | 0, _, _ => []
  | fuel + 1, i, k =>
    if k = 0 then [] else if used.contains i then lowestUnits used fuel (i + 1) k
    else i :: lowestUnits used fuel (i + 1) (k - 1)

/-- Reserve `k` spill units of a cove; without an enabled area nothing is ever reserved (R265, R266). -/
def reserveUnits (s : State) (c k : Nat) : Option (List Nat) :=
  let l := lowestUnits (spillUsed s c) (spillTotal s c) 0 k
  if flag s (F.SQ_SPILL_STATUS_READY c) && l.length == k then some l else none

/-! ### Engine time, R258, R259 -/

/-- The queue counters shown through SQ_CV_Q_SEL, one copy for each queue. -/
def qCtr (f : Nat → Nat) (c q : Nat) : Nat := f c + 2 ^ 32 * q
/-- The context counters shown through SQ_CV_CTX_SEL, one copy for each context. -/
def xCtr (f : Nat → Nat) (c x : Nat) : Nat := f c + 2 ^ 32 * x

/-- Whether a tile of a step can be taken: of the present stage and chunk of a step that runs, an error in it or not
(R247, R263, R269). -/
def Step.eligible (x : Step) (t : TileEnt × TileSt) : Bool :=
  (x.ph == .running || x.ph == .stopping || x.ph == .resuming) && t.2 == .waiting
    && t.1.chunk == x.chunk && t.1.stage == x.stage

/-- Whether a queue holds eligible work, the tiles that run among it. Log entry 27 (DESIGN CHOICE). -/
def hasWork (s : State) (c q : Nat) : Bool :=
  (stepsWhere s (fun x => x.cove == c && x.queue == q)).any (fun e => e.2.tiles.any (fun t => e.2.eligible t || t.2 == .running))

/-- Charge the engine time of a save or a restore to a context (R258). -/
def chargeCtx (s : State) (c ctx ns : Nat) : State := addCtr s (xCtr C.SQ_CV_CTX_ENG_NS c ctx) ns

/-- Charge engine time to a queue and a context (R258, R259, R260). Log entry 27 (DESIGN CHOICE). -/
def chargeTime (s : State) (c q ctx ns : Nat) : State :=
  let x := queueOf s c q
  let s := if x.ph == .free then s
    else setQueue s c q { x with vt := (x.vt + ns * 1024 / max x.share 1) % 2 ^ 64, used := x.used + ns }
  chargeCtx (addCtr s (qCtr C.SQ_CV_Q_ENG_NS c q) ns) c ctx ns

/-- A queue that gains eligible work takes the least VT of the working queues when its own is lower (R259). -/
def joinVt (s : State) (c q : Nat) : State :=
  let others := (List.range 64).filter (fun j => j != q && hasWork s c j)
  match others with
  | [] => s
  | j :: js =>
    let least := js.foldl (fun a k => min a (queueOf s c k).vt) (queueOf s c j).vt
    let x := queueOf s c q
    setQueue s c q { x with vt := max x.vt least }

/-- Do something to a queue's steps that may give it eligible work (R259). -/
def gaining (s : State) (c q : Nat) (f : State → State) : State :=
  let s' := f s
  if hasWork s c q || !hasWork s' c q then s' else joinVt s' c q

/-! ### Placement, R253 -/

/-- Classes 1 and 2 of an affinity for the instances of a kind, and class 3 for everything else. -/
def affClass (kind affKind affIdx i : Nat) : Nat :=
  let quad (i : Nat) : Nat :=
    if kind = 0 then i / 16 else if kind = 1 then i / 8 else if kind = 2 then i / 2 else i
  if affKind = 1 then
    let at1 (n : Nat) : Bool := if kind = 1 then i / 2 == n else quad i == n / 4
    if at1 affIdx then 1 else if (List.range 8).any (fun k => at1 (affIdx / 8 * 8 + k)) then 2 else 3
  else if affKind = 2 then
    if quad i = affIdx then 1 else if quad i = affIdx ^^^ 1 then 2 else 3
  else 3

/-- Estimated queued time of a unit: the eligible tiles mapped to it (R253). -/
def queuedEst (s : State) (u : Nat) : Nat :=
  s.sq.steps.foldl (fun a e => e.2.tiles.foldl (fun a t =>
    if e.2.eligible t && e.2.unitOf t.1 == some u then a + t.1.est else a) a) 0

/-- How many logical engines of a mapping use a unit. -/
def uses (m : Tbl Nat) (u : Nat) : Nat := (m.filter (fun e => e.2 == u)).length

/-- The physical unit of one logical engine, from the first tile that names it. The candidates are the usable units that
satisfy `ok` and that `m`, the mapping of the step's other logical engines, uses least: two logical engines share a unit only
when the cove has fewer of the kind than the step names (R253). Log entry 31 (DESIGN CHOICE). -/
def placeOne (s : State) (c : Nat) (ok : Nat → Bool) (m : Tbl Nat) (t : TileEnt) : Option Nat :=
  let unit (i : Nat) : Nat := kindUnit t.kind i
  let all := (List.range (kindMax t.kind)).filter (fun i => usable s c (unit i) && ok (unit i))
  let few := all.foldl (fun a i => min a (uses m (unit i))) m.length
  let cand := all.filter (fun i => uses m (unit i) == few)
  let best := cand.foldl (fun a i => min a (affClass t.kind t.affKind t.affIdx i)) 3
  let cls := cand.filter (fun i => affClass t.kind t.affKind t.affIdx i == best)
  let free := if t.kind = 0 then cls.filter (fun i => (occupant s i).isNone) else []
  let pool := if free.isEmpty then cls else free
  (pool.foldl (fun (a : Option Nat) i => match a with
    | some j => if queuedEst s (unit i) < queuedEst s (unit j) then some i else a
    | none => some i) none).map unit

/-- The mapping of every logical engine of a step, on units that satisfy `ok`; nothing when the cove has none for some of them
(R253). -/
def placeAll (s : State) (c : Nat) (ok : TileEnt → Nat → Bool) : List TileEnt → Tbl Nat → Option (Tbl Nat)
  | [], m => some m
  | t :: ts, m =>
    let k := t.kind * 128 + t.leng
    if thas m k then placeAll s c ok ts m
    else match placeOne s c (ok t) m t with
      | some u => placeAll s c ok ts (tput m k u)
      | none => none

/-- A delta tile goes only to the engine its slot is bound to; `tslots` holds the slot of each logical engine (R201). -/
def boundOk (s : State) (c : Nat) (tslots : Tbl Nat) (t : TileEnt) (u : Nat) : Bool :=
  if t.kind != 3 then true
  else match (tfind tslots t.leng).bind (fun k => tfind s.en.slots (c * 64 + k)) with
    | some b => u % 4096 == b.eng
    | none => true

/-- A step with the logical engines whose unit satisfies `p` mapped again, where the cove has a unit for them (R55, R253). -/
def Step.remap (s : State) (x : Step) (p : Nat → Bool) : Step :=
  let go (m : Tbl Nat) (k : Nat × Nat) : Tbl Nat :=
    if !p k.2 then m
    else match x.tiles.find? (fun t => t.1.kind * 128 + t.1.leng == k.1) with
      | some t => match placeOne s x.cove (boundOk s x.cove x.tslots t.1) (tdel m k.1) t.1 with
        | some u => tput m k.1 u
        | none => m
      | none => m
  { x with map := x.map.foldl go x.map }

/-- Map again the logical engines of a cove's steps that `p` picks, by step and unit (R55, R253, R262). -/
def remapSteps (s : State) (c : Nat) (p : Nat → Nat → Bool) : State :=
  s.sq.steps.foldl (fun s e =>
    if e.2.cove == c && e.2.map.any (fun k => p e.1 k.2) then modStep s e.1 (fun x => x.remap s (p e.1)) else s) s

/-- Tiles mapped to units that a cove's steps can no longer use go to units they can, but for those of the step that occupies the
unit (R55, R273). -/
def rehome (s : State) (c : Nat) : State := remapSteps s c (fun i u => !usable s c u && occupant s u != some i)

/-- The taps of the units a step is placed on (R256). -/
def Step.taps (x : Step) : List Nat := (x.map.filterMap (fun e => unitClient e.2)).dedup

/-! ### Start groups and preemption entries, R256, R265 -/

/-- The group of a cove. -/
def groupOf (t : Tbl Group) (c : Nat) : Group := tgetD t c ⟨0, [], []⟩

/-- Extend the taps of an armed entry, or of its arming request (R256). -/
def extendTaps (s : State) (m : Nat) (a : SlateAct) (taps : List Nat) : State :=
  let add (l : List Nat) : List Nat := l ++ taps.filter (fun t => !l.contains t)
  let ms := masterOf s m
  let s := setMaster s m { ms with slate := ms.slate.map (fun e => (e.1,
    if e.2.act = a && e.2.due.isNone then { e.2 with taps := add e.2.taps } else e.2)) }
  { s with tide := { s.tide with armReqs := s.tide.armReqs.map (fun r =>
    if r.act = a && r.tide = m then { r with taps := add r.taps } else r) } }

/-- The taps of a list of steps. -/
def stepTaps (s : State) (l : List Nat) : List Nat :=
  (l.flatMap (fun i => match stepOf s i with | some x => x.taps | none => [])).dedup

/-- Whether an armed entry of a cove's tide that satisfies `p` awaits launch (R256, R265). -/
def entryWaits (s : State) (c : Nat) (p : SlateAct → Bool) : Bool :=
  (masterOf s c).slate.any (fun e => p e.2.act && !e.2.applied) || s.tide.armReqs.any (fun r => r.tide == c && p r.act)

/-- Whether the entry that awaits launch has no edge yet, so that its taps can still grow (R83, R256). -/
def entryOpen (s : State) (c : Nat) (p : SlateAct → Bool) : Bool :=
  (masterOf s c).slate.any (fun e => p e.2.act && e.2.due.isNone) || s.tide.armReqs.any (fun r => r.tide == c && p r.act)

/-- Whether an action is the start of steps. -/
def SlateAct.starts : SlateAct → Bool | .stepStart _ _ => true | _ => false
/-- Whether an action is a preemption. -/
def SlateAct.stops : SlateAct → Bool | .preempt _ _ => true | _ => false

/-- Put a step into the present start group when it may join, or open one, or wait for the next (R256). -/
def joinStart (s : State) (c i : Nat) (far : Bool) : State :=
  let g := groupOf s.sq.starts c
  let put (s : State) (g : Group) : State := { s with sq := { s.sq with starts := tput s.sq.starts c g } }
  if !entryWaits s c SlateAct.starts then
    let id := s.sq.nextGroup
    let s := put { s with sq := { s.sq with nextGroup := id + 1 } } ⟨id, [i], g.waiting⟩
    armEntry s ⟨c, .stepStart c id, 0, stepTaps s [i]⟩
  else if g.armed.length < 32 && far && entryOpen s c SlateAct.starts then
    extendTaps (put s { g with armed := g.armed ++ [i] }) c (.stepStart c g.id) (stepTaps s [i])
  else put s { g with waiting := g.waiting ++ [i] }

/-- Arm the next start group with up to 32 of the waiting steps; a cove that quiesces arms none (R256, R306). -/
def nextStart (s : State) (c : Nat) : State :=
  let g := groupOf s.sq.starts c
  let now := if coveActive s c then g.waiting.take 32 else []
  let id := s.sq.nextGroup
  let s := { s with sq := { s.sq with nextGroup := id + 1, starts := tput s.sq.starts c ⟨id, now, g.waiting.drop now.length⟩ } }
  if now.isEmpty then s else armEntry s ⟨c, .stepStart c id, 0, stepTaps s now⟩

/-- Put a victim into the present preemption entry, or open one, or let it wait for the next (R265). -/
def joinPreempt (s : State) (c i : Nat) (far : Bool) : State :=
  let g := groupOf s.sq.preempts c
  let put (s : State) (g : Group) : State := { s with sq := { s.sq with preempts := tput s.sq.preempts c g } }
  if g.armed.contains i || g.waiting.contains i then s
  else if !entryWaits s c SlateAct.stops then
    let id := s.sq.nextGroup
    let s := put { s with sq := { s.sq with nextGroup := id + 1 } } ⟨id, [i], g.waiting⟩
    armEntry s ⟨c, .preempt c id, 0, stepTaps s [i]⟩
  else if far && entryOpen s c SlateAct.stops then
    extendTaps (put s { g with armed := g.armed ++ [i] }) c (.preempt c g.id) (stepTaps s [i])
  else put s { g with waiting := g.waiting ++ [i] }

/-- Arm the next preemption entry with the waiting victims (R265). -/
def nextPreempt (s : State) (c : Nat) : State :=
  let g := groupOf s.sq.preempts c
  let id := s.sq.nextGroup
  let s := { s with sq := { s.sq with nextGroup := id + 1, preempts := tput s.sq.preempts c ⟨id, g.waiting, []⟩ } }
  if g.waiting.isEmpty then s else armEntry s ⟨c, .preempt c id, 0, stepTaps s g.waiting⟩

/-- Take a step out of every group. -/
def leaveGroups (s : State) (i : Nat) : State :=
  let f (t : Tbl Group) : Tbl Group := t.map (fun e =>
    (e.1, { e.2 with armed := e.2.armed.filter (· != i), waiting := e.2.waiting.filter (· != i) }))
  { s with sq := { s.sq with starts := f s.sq.starts, preempts := f s.sq.preempts } }

/-! ### Records of the scheduler, R274 -/

/-- Write a record of the scheduler, at most one of each reason for a step (R274). -/
def sqNote (s : State) (i reason detail src : Nat) : State :=
  match stepOf s i with
  | none => s
  | some x =>
    if x.noted.contains reason then s
    else report (setStep s i { x with noted := reason :: x.noted }) x.cove
      ⟨0, false, false, 3, 1, reason, x.desc, 0, src, 7, detail⟩

/-! ### The end of tiles and steps -/

/-- Forget the work of a unit's tile: its engine state and its own transfers that wait (R152, R243). -/
def clearWork (s : State) (u : Nat) : State :=
  let e := s.en
  let e := { e with gp := tdel e.gp u, tu := tdel e.tu u, rm := tdel e.rm u, tk := tdel e.tk u, ep := tdel e.ep u }
  let e := { e with deliver := e.deliver.filter (fun d => d.src != u), issued := tdel e.issued u }
  { s with en := e, xl := { s.xl with xfers := s.xl.xfers.filter (fun e => !(e.2.eng && e.2.src == u)) } }

/-- The work of a unit's tile has ended; TILE_COMPLETE reports it to the scheduler (R192, R262). -/
def endTile (s : State) (u : Nat) (f : TileEnd) : State :=
  match engOf s u with
  | some e => setEng s u { e with begun := true, fin := some f }
  | none => s

/-- Free a port after a step's last tile on it, and its restore there (R254, R267). -/
def leavePort (s : State) (i u : Nat) : State :=
  match stepOf s i with
  | none => s
  | some x =>
    if u / 4096 = 0 && occupant s u == some i && !x.moves.any (fun m => m.unit == u) && !x.tiles.any (fun t => t.2 != .complete && x.unitOf t.1 == some u)
    then freePort s u else s

/-- Charge the tile on a unit that a command without an operand for its engine time ends: the time is a free value (R258).
Log entry 2 (DESIGN CHOICE). -/
def chargeOpen (s : State) (u : Nat) : State :=
  match (engOf s u).bind (fun e => stepOf s e.step) with
  | none => s
  | some x =>
    let (ns, s) := drawFree s 64
    chargeTime s x.cove x.queue x.ctx ns.toNat

/-- A tile ends on its unit: complete in its step, with an error noted, and the engine free (R263). -/
def dropTile (s : State) (u : Nat) (bad : Bool) : State :=
  match engOf s u with
  | none => s
  | some e =>
    let s := clearWork (delEng s u) u
    match stepOf s e.step with
    | none => s
    | some x =>
      let ts := x.tiles.zipIdx.map (fun t => if t.2 = e.tile then (t.1.1, TileSt.complete) else t.1)
      leavePort (setStep s e.step { x with tiles := ts, err := x.err || bad }) e.step u

/-- Discard a step: its tiles end at once and are charged, its spill units and ports are free (R243, R244, R258, R272).
Log entry 35 (DESIGN CHOICE). -/
def discardStep (s : State) (i : Nat) : State :=
  let us := (s.sq.engines.filter (fun e => e.2.step == i)).map (·.1)
  delStep (freePorts (leaveGroups (us.foldl (fun s u => clearWork (delEng (chargeOpen s u) u) u) s) i) i) i

/-- The run of an entry. -/
def runOf (s : State) (id : Nat) : Option Run := s.sq.runs.find? (fun r => r.ent.id == id)
/-- The state with the run of an entry changed. -/
def modRun (s : State) (id : Nat) (f : Run → Run) : State :=
  { s with sq := { s.sq with runs := s.sq.runs.map (fun r => if r.ent.id = id then f r else r) } }
/-- The state without the run of an entry. -/
def delRun (s : State) (id : Nat) : State :=
  { s with sq := { s.sq with runs := s.sq.runs.filter (fun r => r.ent.id != id) } }

/-- A step is complete. A step of a graph that is not its last retires at once and lets the next be released; the last
one waits for its entry's retirement (R255, R272). -/
def stepComplete (s : State) (i : Nat) : State :=
  match stepOf s i with
  | none => s
  | some x =>
    if x.ph != .retiring then s
    else
      let s := freePorts (leaveGroups s i) i
      match runOf s x.entry with
      | none => delStep s i
      | some r =>
        if r.todo.isEmpty then modRun s x.entry (fun r => { r with finished := true })
        else
          let s := incCtr s (C.SQ_CV_RETIRED x.cove)
          delStep (if x.err then incCtr s (C.SQ_CV_STEP_ERR x.cove) else s) i

/-- Move a step past complete stages and complete it when nothing is left. -/
def settleStep (s : State) (i : Nat) : State := stepComplete (modStep s i Step.settle) i

/-- Discard an entry's steps and drop its references without a signal (R235, R243, R244). -/
def discardRun (s : State) (r : Run) : State :=
  let is := (stepsWhere s (fun x => x.entry == r.ent.id)).map (·.1)
  dropRefs (delRun (is.foldl discardStep s) r.ent.id) r.cove r.ent

/-- Discard the waiting entries of a queue that satisfy `p` (R243, R244). -/
def discardFifo (s : State) (c q : Nat) (p : QEntry → Bool) : State :=
  let x := queueOf s c q
  (x.fifo.filter p).foldl (fun s e => dropRefs s c e) (setQueue s c q { x with fifo := x.fifo.filter (fun e => !p e) })

/-! ### The killing of a context, R243, R152 -/

/-- Held transfers of a cove that satisfy `p` complete with error status (R152); those of a tile's own work end with the tile. -/
def failHeld (s : State) (c : Nat) (p : Xfer → Bool) : State :=
  let keep := s.xl.xfers.filter (fun e => !(e.2.eng && e.2.src / 4096 != 7 && e.2.tag == c && e.2.client.isSome && p e.2))
  let fail (x : Xfer) : Xfer :=
    if x.tag == c && p x then
      match x.stage with
      | .held _ _ => { x with stage := .done (.error .killed) }
      | _ => x
    else x
  { s with xl := { s.xl with xfers := keep.map (fun e => (e.1, fail e.2)) } }

/-- Tiles of other steps that run lane 1 under a context end at once, both lanes (R388). -/
def dropLanes (s : State) (c ctx : Nat) : State :=
  (s.en.ep.filter (fun e => e.2.split && e.2.ctx1 == ctx && unitOwner s e.1 == some c)).foldl (fun s e =>
    match engOf s e.1 with
    | some g => settleStep (dropTile (chargeOpen s e.1) e.1 true) g.step
    | none => s) s

/-- Kill a context (R243); of a KILLED one, which is not killed again, the held transfers alone complete with error (R152). -/
def killCtx (s : State) (c ctx : Nat) : State :=
  if !coveExists s c then s
  else if isKilled s c ctx then failHeld s c (fun x => x.ctx == ctx)
  else
    let s := { s with ob := { s.ob with killed := tsetD s.ob.killed (c * 4096 + ctx) false true } }
    let s := failHeld s c (fun x => x.ctx == ctx)
    let runs := s.sq.runs.filter (fun r => r.cove == c && r.ent.ctx == ctx)
    let s := dropLanes (runs.foldl discardRun s) c ctx
    let s := (List.range 64).foldl (fun s q => discardFifo s c q (fun e => e.ctx == ctx)) s
    freeSlot (sendRing s c ⟨0, 0, 2, ctx, false⟩) c ctx

end Sys2Proof.Machine
end

