-- ==== Sys2Proof/Machine/Freq.lean ====
section
/-!
DEFINITION. Sources, domains and frequencies: the start-up plan, the frequency of a domain now and at an operating point, and
the deliverable bandwidth of a stack (R285, R329–R333, R342).
-/
namespace Sys2Proof.Machine

/-! ### Sources, R41, R329, R333 -/

/-- XA in kHz: the chart's figure, or the strap's before the first chart (R333). -/
def xaKhz (s : State) : Nat := if s.plan.xaKhz = 0 then 25000 * (fld s F.CK_STATUS_XA_SEL + 1) else s.plan.xaKhz

/-- A crystal or an oscillator in kHz, coded as a loop's REF (R41). -/
def refKhz (s : State) (ref : Nat) : Nat := if ref = 0 then xaKhz s else if ref = 1 then s.plan.xbKhz else 400000

/-- The plan of a loop by the strap (R333). -/
def startLoop (sel p : Nat) : LoopPlan :=
  let fast := p == 0 || p == 4 || p == 5
  let div := if sel = 2 then 3 else 1
  let mult := if sel = 0 || sel = 2 then (if fast then 160 else 128) else if sel = 1 then (if fast then 80 else 64)
    else if fast then 40 else 32
  ⟨0, div, mult, if p = 5 then 8 else if p = 2 || p = 3 then 2 else 4, true, 0, 0⟩

/-- The plan of loop `p` in force. Log entry 24 (DESIGN CHOICE). -/
def loopPlan (s : State) (p : Nat) : LoopPlan := tgetD s.plan.loops p ⟨0, 1, 8, 1, false, 0, 0⟩

/-- The output of a loop plan in kHz at a MULT (R41). -/
def LoopPlan.outAt (l : LoopPlan) (ref mult : Nat) : ℚ := (ref * mult : ℚ) / (l.refdiv * l.postdiv)
/-- The VCO of a loop plan in kHz at a MULT (R41). -/
def LoopPlan.vcoAt (l : LoopPlan) (ref mult : Nat) : ℚ := (ref * mult : ℚ) / l.refdiv

/-- The present output of a source in kHz, coded as a domain's SRC (R42). -/
def srcKhz (s : State) (src : Nat) : ℚ :=
  if src < 6 then (loopPlan s src).outAt (refKhz s (loopPlan s src).ref) (fld s (F.CK_LOOP_MULT src))
  else if src = 6 then 400000 else if src = 7 then 25000 else if src = 8 then xaKhz s else s.plan.xbKhz

/-- Whether a source runs and the monitor has not failed it (R330, R336). -/
def srcRuns (s : State) (src : Nat) : Bool :=
  if src < 6 then (fld s F.CK_STATUS_LOCK).testBit src
  else if src = 6 then flag s F.CK_STATUS_FIO_OK else if src = 7 then flag s F.CK_STATUS_SIO_OK
  else if src = 8 then flag s F.CK_STATUS_XA_OK else flag s F.CK_STATUS_XB_OK

/-! ### Domains, R331 -/

/-- The island of a domain; `128 + k` is the tidepool clock of D(80+k) (R331). -/
def domIsland (d : Nat) : Nat :=
  if 128 ≤ d then 1 else if d < 16 then 2 else if d < 32 then 3 else if d < 64 then 1 else if d < 88 then 0
  else if d < 96 then 4 else 5

/-- Domains of an island, D96 excepted, which no loop or divider changes (R331). -/
def islandDoms (i : Nat) : List Nat :=
  ((List.range 100).filter (fun d => domIsland d == i && d != 96)) ++ (if i = 1 then (List.range 8).map (128 + ·) else [])

/-- The start-up setting of a domain: source and divider (R331). Log entry 44 (DESIGN CHOICE). -/
def startDom (d : Nat) : Nat × Nat := if d = 96 then (8, 1) else (domIsland d, if d = 95 then 4 else 1)

/-- The clock a domain runs from; D94, and every other until step 6 of start-up, from FIO (R331, R334). -/
def domNow (s : State) (d : Nat) : DomNow := tgetD s.ck.doms d ⟨if d = 96 then 8 else 6, 1, false, none⟩
/-- The FMAX of an operating point in MHz (R43). -/
def fmaxMhz (s : State) (i k : Nat) : Nat := (tgetD s.plan.ops (i * 8 + k) ⟨0, 0, false⟩).fmax
/-- The state with a domain's clock set. -/
def setDom (s : State) (d : Nat) (x : DomNow) : State := { s with ck := { s.ck with doms := tput s.ck.doms d x } }

/-- The present nominal frequency of a domain in kHz. -/
def domKhz (s : State) (d : Nat) : ℚ := srcKhz s (domNow s d).src / (domNow s d).div

/-- The setting a plan gives a domain: a chart's, or the start-up one (R42). -/
def planDom (s : State) (d : Nat) : Nat × Nat :=
  match (if 128 ≤ d then tfind s.plan.tpDoms (d - 48) else tfind s.plan.doms d) with
  | some p => (p.src, p.div)
  | none => startDom d

/-! ### Operating points, R342 -/

/-- FMAX of an operating point in kHz (R43). -/
def fmaxKhz (s : State) (i k : Nat) : ℚ := (fmaxMhz s i k * 1000 : Nat)

/-- Whether a frequency is one of the set points of the stack PHYs (R332). -/
def isSetPoint (f : ℚ) : Bool := f == 800000 || f == 1000000 || f == 1200000 || f == 1400000 || f == 1600000

/-- The domains of an island that its loop feeds under the plan. -/
def loopDoms (s : State) (i : Nat) : List Nat := (islandDoms i).filter (fun d => (planDom s d).1 == i && !(domNow s d).forced)

/-- Whether a MULT suits a highest frequency without a change of dividers (R342). -/
def multFits (s : State) (i : Nat) (f : ℚ) (m : Nat) : Bool :=
  let l := loopPlan s i
  let out := l.outAt (refKhz s l.ref) m
  decide (2000000 ≤ l.vcoAt (refKhz s l.ref) m) && (loopDoms s i).all (fun d => decide (out / (planDom s d).2 ≤ f))
    && (i != 2 && i != 3 || isSetPoint out)

/-- The largest number from `n` down to 8 that satisfies `p`. -/
def downTo8 (p : Nat → Bool) (n : Nat) : Option Nat := ((List.range (n + 1)).filter (fun m => 8 ≤ m && p m)).getLast?

/-- The lowest MULT that keeps the VCO in range (R342). -/
def lowestMult (s : State) (i : Nat) : Nat :=
  let l := loopPlan s i
  ((List.range (l.mult + 1)).find? (fun m => 8 ≤ m && decide (2000000 ≤ l.vcoAt (refKhz s l.ref) m))).getD l.mult

/-- MULT of an island's loop at a highest frequency (R342). -/
def multAt (s : State) (i : Nat) (f : ℚ) : Nat := (downTo8 (multFits s i f) (loopPlan s i).mult).getD (lowestMult s i)

/-- MULT of an island's loop at an operating point (R342). -/
def opMult (s : State) (i k : Nat) : Nat := multAt s i (fmaxKhz s i k)

/-- The smallest divider from `div` on that keeps a source within a frequency, and a stack domain at a set point (R342). -/
def raiseDiv (src fmax : ℚ) (stack : Bool) (div : Nat) : Nat :=
  ((List.range 256).find? (fun k => div ≤ k && 1 ≤ k && decide (src / k ≤ fmax) && (!stack || isSetPoint (src / k)))).getD 255

/-- The divider of a domain at a highest frequency; a forced domain's meets it from the source it runs on (R342, R350). -/
def divAt (s : State) (i : Nat) (f : ℚ) (d : Nat) : Nat :=
  let (src, div) := planDom s d
  if (domNow s d).forced then raiseDiv (srcKhz s (domNow s d).src) f false div
  else if src = i then
    if (downTo8 (multFits s i f) (loopPlan s i).mult).isSome then div
    else raiseDiv ((loopPlan s i).outAt (refKhz s (loopPlan s i).ref) (multAt s i f)) f (i == 2 || i == 3) div
  else raiseDiv (srcKhz s src) f false div

/-- The divider of a domain at an operating point (R342). -/
def opDiv (s : State) (i k d : Nat) : Nat := divAt s i (fmaxKhz s i k) d

/-- The frequency of a domain at an operating point of its island (R342). Log entry 24 (DESIGN CHOICE). -/
def opKhz (s : State) (i k d : Nat) : ℚ :=
  let (src, _) := planDom s d
  (if src = i then (loopPlan s i).outAt (refKhz s (loopPlan s i).ref) (opMult s i k) else srcKhz s src) / opDiv s i k d

/-! ### Islands, R341 -/

/-- Island `i`. -/
def islOf (s : State) (i : Nat) : Isl := tgetD s.ck.isls i ⟨.idle, 0, 0, 0, 7, 0, 0, false⟩
/-- The state with island `i` set. -/
def setIsl (s : State) (i : Nat) (x : Isl) : State := { s with ck := { s.ck with isls := tput s.ck.isls i x } }

/-- The number of operating points an island defines; the top one is one less (R43). -/
def opCount (s : State) (i : Nat) : Nat := ((List.range 8).filter (fun k => thas s.plan.ops (i * 8 + k))).length
/-- The top operating point of an island. Log entry 45 (DESIGN CHOICE). -/
def topOp (s : State) (i : Nat) : Nat := opCount s i - 1
/-- The START point of an island (R43). Log entry 24 (DESIGN CHOICE). -/
def startOp (s : State) (i : Nat) : Nat :=
  ((List.range 8).find? (fun k => match tfind s.plan.ops (i * 8 + k) with | some o => o.start | none => false)).getD 0

/-- Member coves of an island (R341). -/
def members (s : State) (i : Nat) : List (Nat × Share) :=
  (List.range 16).filterMap (fun c => if coveExists s c then (tfind s.plan.shares (c * 8 + i)).map (fun x => (c, x)) else none)

/-- The request of a member cove (R341). -/
def memberReq (s : State) (i c : Nat) (x : Share) : Nat :=
  if flag s (F.VS_COVE_REQ_VALID i c) then max x.opMin (min x.opMax (fld s (F.VS_COVE_REQ_OP i c))) else x.opMax

/-- T of R341. -/
def wantedOp (s : State) (i : Nat) : Nat :=
  match members s i with
  | [] => if flag s (F.VS_ISL_REQ_EN i) then fld s (F.VS_ISL_REQ_OP i) else startOp s i
  | ms =>
    let wsum := ms.foldl (fun a m => a + m.2.weight) 0
    let w := (ms.foldl (fun a m => a + m.2.weight * memberReq s i m.1 m.2) 0 + wsum - 1) / wsum
    let f := ms.foldl (fun a m => max a m.2.opMin) 0
    let c := ms.foldl (fun a m => min a m.2.opMax) 7
    max f (min c w)

/-- H of R341: the manager's cap, the thermal ceiling and the highest surviving point. Log entry 45 (DESIGN CHOICE). -/
def ceilOp (s : State) (i : Nat) : Nat :=
  min (fld s (F.VS_ISL_CAP_CAP i)) (min (islOf s i).thermal (min (fld s (F.FB_ISL_ADJ_CEIL i)) (topOp s i)))

/-- The target operating point of an island (R341). Log entries 24 (DESIGN CHOICE), 45 (DESIGN CHOICE). -/
def targetOp (s : State) (i : Nat) : Nat := min (min (wantedOp s i) (topOp s i)) (ceilOp s i)

/-- Recompute an island's target and ceiling (R341); before the first chart there is none. A stuck island tries again when
its target changes (R344). -/
def retarget (s : State) (i : Nat) : State :=
  if flag s (F.VS_ISL_STATE_BOOT i) then s
  else
    let t := targetOp s i
    let x := islOf s i
    let s := match x.ph with
      | .failed up => if t = fld s (F.VS_ISL_STATE_TARGET i) then s
        else emit (setIsl s i { x with ph := if up then .raising else .lowering, tries := 0 }) (.avsWrite (Config.avsRail i) x.mv)
      | _ => s
    setFld (setFld s (F.VS_ISL_STATE_TARGET i) t) (F.VS_ISL_STATE_CEIL i) (ceilOp s i)

/-- Recompute the target of every island. -/
def retargetAll (s : State) : State := (List.range 6).foldl retarget s

/-- Whether an operating point survives: it has not been removed, and the chart, if there is one, defines it (R43, R348). -/
def survivesOp (s : State) (i k : Nat) : Bool :=
  !(fld s (F.FB_ISL_ADJ_REMOVED i)).testBit k && (opCount s i == 0 || thas s.plan.ops (i * 8 + k))

/-- The ceiling of an island is its highest surviving point (R348). -/
def showCeil (s : State) (i : Nat) : State :=
  setFld s (F.FB_ISL_ADJ_CEIL i) (((List.range 8).filter (survivesOp s i)).foldl max 0)

/-- The voltage of an island at an operating point; OP0 beyond the maximum is delivered at it (R340, R348). -/
def opMv (s : State) (i k : Nat) : Nat :=
  let v := (tgetD s.plan.ops (i * 8 + k) ⟨0, 0, false⟩).mv + fld s (F.FB_ISL_ADJ_ADD_MV i)
  if k = 0 then min v (fld s (F.VS_ISL_LIMIT_VMAX_MV i)) else v

/-! ### Deliverable bandwidth, R285 -/

/-- Fn in kHz: the frequency the present operating point of a stack's island gives its domain, and during a transition the lower of
the two points'; before the first chart, on a forced clock and at a point of an old plan, the frequency it runs at (R285).
Log entry 53 (DESIGN CHOICE). -/
def stackKhz (s : State) (n : Nat) : ℚ :=
  let i := domIsland n
  let now := opKhz s i (fld s (F.VS_ISL_STATE_OP i)) n
  if (domNow s n).forced || flag s (F.VS_ISL_STATE_BOOT i) || (islOf s i).stale then domKhz s n
  else match (islOf s i).ph with
    | .idle => now
    | _ => min now (opKhz s i (islOf s i).dest n)

/-- Kn in thousandths: 1,000, 960 or 920 at ×1, ×2 and ×4 refresh (R285, SC_STATUS.REF_RATE). -/
def refreshK (s : State) (n : Nat) : Nat :=
  if fld s (F.SC_STATUS_REF_RATE n) = 0 then 1000 else if fld s (F.SC_STATUS_REF_RATE n) = 1 then 960 else 920

/-- Deliverable bandwidth in MB/s of a trained stack at a frequency (R285). -/
def deliverable (khz : ℚ) (k : Nat) : ℚ := 696875 * (khz / 1600000) * (k / 1000 : ℚ)

/-- DBn in MB/s (R285). -/
def stackDb (s : State) (n : Nat) : ℚ :=
  if flag s (F.SC_STATUS_TRAINED n) then deliverable (stackKhz s n) (refreshK s n) else 0

end Sys2Proof.Machine
end

