-- ==== Sys2Proof/Machine/Image.lean ====
section
/-!
DEFINITION. The chart image: its records and entries, and the checks of reason codes 0x01, 0x02 and 0x04 (R31–R45, R60,
R331, R332).
-/
namespace Sys2Proof.Machine

/-- A reason code with what CH_DETAIL names (R60). -/
structure Fail where
  code : Nat
  record : Nat
  entry : Nat
  hdr : Bool
deriving DecidableEq, Repr

/-- A cove descriptor (R34). -/
structure ImgDesc where
  cove : Nat
  remove : Bool
  desc : CoveDesc
deriving DecidableEq, Repr

/-- A resource assignment; COVE 0xFF releases (R35, R36). -/
structure ImgAssign where
  kind : Nat
  cove : Nat
  first : Nat
  count : Nat
deriving DecidableEq, Repr

/-- A granule map entry (R37). -/
structure ImgGran where
  first : Nat
  count : Nat
  gran : Gran
deriving DecidableEq, Repr

/-- A key range entry (R38). -/
structure ImgRange where
  range : Nat
  scramble : Bool
  first : Nat
  count : Nat
  thresh : Nat
deriving DecidableEq, Repr

/-- A clock plan entry (R40–R44). -/
inductive ImgClock where
  | refs (xa xb : Nat)
  | loop (p : Nat) (l : LoopPlan)
  | dom (d : Nat) (a b : DomPlan)
  | op (isl k : Nat) (o : OpPoint)
  | share (c isl : Nat) (x : Share)
deriving DecidableEq, Repr

/-- A decoded image. -/
structure Image where
  full : Bool
  gen : Nat
  baseGen : Nat
  devno : Nat
  descs : List ImgDesc
  assigns : List ImgAssign
  grans : List ImgGran
  ranges : List ImgRange
  reguls : List (Nat × RegParam)
  clock : List ImgClock
  /-- TIDE and PERIOD_MR (R45). -/
  tides : List (Nat × Nat)
  life : Option (Nat × Nat)
  alg : Nat
  slot : Nat
  /-- The 192 bytes of key and signature, and the signed bytes (R46). -/
  sig : List Byte
  msg : List Byte
deriving DecidableEq, Repr

/-! ### Entries, R34–R45 -/

/-- Whether no bit of `v` outside the fields, given as low bit and width, is set (R33). -/
def clean (v : Nat) (fields : List (Nat × Nat)) : Bool := v == fields.foldl (fun a f => a + bits v f.1 f.2 * 2 ^ f.1) 0

/-- A cove descriptor; a CTX_MIN of 0, and any CTX_MIN with REMOVE, are left to rule 0x13 (R34, R60). -/
def imgDesc (full : Bool) (v : Nat) : Option ImgDesc :=
  let ctx := bits v 16 6
  let rm := bit v 25
  if !clean v [(0, 4), (8, 4), (16, 6), (24, 2), (32, 32)] || (full && rm) || (!rm && 48 < ctx) then none
  else some ⟨bits v 0 4, rm, ⟨bits v 8 4, ctx, bit v 24, bits v 32 32⟩⟩

/-- A resource assignment entry (R35, R36). -/
def imgAssign (full : Bool) (v : Nat) : Option ImgAssign :=
  let kind := bits v 0 8
  let c := bits v 8 8
  let n := bits v 32 16
  if !clean v [(0, 48)] || kind = 0 || 7 < kind || n = 0 || (15 < c && (full || c != 255)) then none
  else some ⟨kind, c, bits v 16 16, n⟩

/-- A granule map entry; a TARGET that does not match the home stack is left to rule 0x11 (R37, R98). -/
def imgGran (v : Nat) : Option ImgGran :=
  let o := bits v 32 5
  let n := bits v 16 13
  let mode := bits v 37 2
  let target := bits v 40 5
  let readers := bits v 48 16
  if !clean v [(0, 13), (16, 13), (32, 7), (40, 5), (48, 16)] || n = 0 || (16 < o && o < 31) || mode = 3
      || (o != 16 && readers != 0) || (o = 31 && (mode != 0 || target != 0)) then none
  else some ⟨bits v 0 13, n, ⟨o, mode, target, readers⟩⟩

/-- A key range entry (R37, R38). -/
def imgRange (full : Bool) (v : Nat) : Option ImgRange :=
  let n := bits v 48 13
  if !clean v [(0, 6), (8, 1), (32, 13), (48, 13), (64, 44)] || 4608 < n || (full && n = 0) then none
  else some ⟨bits v 0 6, bit v 8, bits v 32 13, n, bits v 64 44⟩

/-- A regulator entry (R39). -/
def imgRegul (v : Nat) : Option (Nat × RegParam) :=
  let cls := bits v 8 2
  let win := bits v 16 9
  let budget := bits v 32 24
  if !clean v [(0, 25), (32, 24)] || cls = 3 || win = 0 || 256 < win || (cls = 0 && budget = 0) then none
  else some (bits v 0 8, ⟨cls, bit v 10, bit v 11, bits v 12 4, win, budget⟩)

/-- The crystals and loop outputs that clock entries are judged with. -/
structure ClockBase where
  xa : Nat
  xb : Nat
  loops : Tbl LoopPlan
deriving DecidableEq, Repr

/-- The reference of a loop in kHz. -/
def ClockBase.ref (b : ClockBase) (l : LoopPlan) : Nat := if l.ref = 0 then b.xa else if l.ref = 1 then b.xb else 400000

/-- The output of a loop in kHz. -/
def ClockBase.out (b : ClockBase) (p : Nat) : ℚ :=
  let l := tgetD b.loops p ⟨0, 1, 8, 1, false, 0, 0⟩
  l.outAt (b.ref l) l.mult

/-- Whether a loop entry is in range (R41, R332); the phase detector and the VCO on a reference that is not fitted are left to rule
0x42. -/
def loopInRange (b : ClockBase) (p : Nat) (l : LoopPlan) : Bool :=
  let pfd : ℚ := (b.ref l : ℚ) / l.refdiv
  let vco := pfd * l.mult
  let step := pfd / l.postdiv
  decide (p ≤ 5) && l.ref != 3 && l.refdiv != 0 && decide (8 ≤ l.mult) && l.postdiv != 0 && decide (l.ssDepth ≤ 40)
    && (if l.ssDepth = 0 then l.ssRate == 0 else decide (p < 4) && decide (30 ≤ l.ssRate))
    && (b.ref l == 0 || (decide (10000 ≤ pfd) && decide (pfd ≤ 100000) && decide (2000000 ≤ vco) && decide (vco ≤ 6400000)))
    && (!(p == 2 || p == 3) || (decide (2 ≤ l.postdiv) && decide (l.postdiv ≤ 4) && isSetPoint (vco / l.postdiv)
      && (200000 / step).den == 1))

/-- The sources a domain may name (R331). -/
def domSources (d : Nat) : List Nat :=
  let i := domIsland d
  if i = 2 || i = 3 then [i] else [i, 6]

/-- Whether a domain entry is in range (R42, R331, R332). -/
def domInRange (b : ClockBase) (d : Nat) (x y : DomPlan) : Bool :=
  decide (d ≤ 99) && d != 96 && (domSources d).contains x.src && x.div != 0
    && (if 80 ≤ d && d ≤ 87 then (y.src == 1 || y.src == 6) && y.div != 0 else y.src == 0 && y.div == 0)
    && (31 < d || isSetPoint (b.out x.src / x.div))

/-- A clock plan entry without its ranges; none for a reserved subtype or bit (R40–R44). -/
def splitClock (v : Nat) : Option ImgClock :=
  match bits v 0 4 with
  | 0 => if clean v [(0, 4), (8, 48)] then some (.refs (bits v 8 24) (bits v 32 24)) else none
  | 1 => if clean v [(0, 29), (32, 6), (40, 6)]
      then some (.loop (bits v 4 4) ⟨bits v 8 2, bits v 10 6, bits v 16 8, bits v 24 4, bit v 28, bits v 32 6, bits v 40 6⟩) else none
  | 2 => if clean v [(0, 11), (12, 12), (32, 4), (40, 8)]
      then some (.dom (bits v 4 7) ⟨bits v 12 4, bits v 16 8⟩ ⟨bits v 32 4, bits v 40 8⟩) else none
  | 3 => if clean v [(0, 7), (8, 4), (16, 12), (32, 13)]
      then some (.op (bits v 4 3) (bits v 8 3) ⟨bits v 16 12, bits v 32 13, bit v 11⟩) else none
  | 4 => if clean v [(0, 11), (12, 3), (16, 3), (24, 8)]
      then some (.share (bits v 4 4) (bits v 8 3) ⟨bits v 12 3, bits v 16 3, bits v 24 8⟩) else none
  | _ => none

/-- Whether a clock plan entry is in range. -/
def clockInRange (b : ClockBase) : ImgClock → Bool
  | .refs xa xb => decide (25000 ≤ xa) && decide (xa ≤ 100000) && (xb == 0 || (decide (25000 ≤ xb) && decide (xb ≤ 100000)))
  | .loop p l => loopInRange b p l
  | .dom d x y => domInRange b d x y
  | .op i _ _ => decide (i ≤ 5)
  | .share _ i x => decide (i ≤ 5) && x.weight != 0

/-- The crystals and loops that stand with a clock plan: its own, and what runs where it names none (R42). -/
def clockBase (s : State) (vals : List Nat) : ClockBase :=
  let es := vals.filterMap splitClock
  let (xa, xb) := (es.findSome? (fun e => match e with | .refs a b => some (a, b) | _ => none)).getD (xaKhz s, s.plan.xbKhz)
  ⟨xa, xb, es.foldl (fun t e => match e with | .loop p l => tput t p l | _ => t) s.plan.loops⟩

/-- A tide plan entry (R45). -/
def imgTide (v : Nat) : Option (Nat × Nat) := if !clean v [(0, 5), (32, 32)] || 16 < bits v 0 5 then none else some (bits v 0 5, bits v 32 32)

/-- The lifecycle constraints: STATES and FW_MIN. -/
def imgLife (v : Nat) : Option (Nat × Nat) := if clean v [(0, 4), (16, 16)] then some (bits v 0 4, bits v 16 16) else none

/-- Every entry of a record, or the index of the first that is out of range. -/
def imgAll {α : Type} (f : Nat → Option α) : List Nat → Nat → Except Nat (List α)
  | [], _ => .ok []
  | v :: vs, i =>
    match f v, imgAll f vs (i + 1) with
    | none, _ => .error i
    | some a, .ok l => .ok (a :: l)
    | some _, .error j => .error j

/-! ### Records, R31–R33 -/

/-- A record header and where it stands (R32). -/
structure Rec where
  off : Nat
  typ : Nat
  rver : Nat
  count : Nat
  len : Nat
deriving DecidableEq, Repr

/-- The records of an image, each at the end of the one before by its LENGTH, as far as they can be followed. Log entry 21 (DESIGN CHOICE). -/
def walkRecs (img : List Byte) : Nat → Nat → List Rec
  | 0, _ => []
  | n + 1, off =>
    if img.length < off + 8 then []
    else
      let r : Rec := ⟨off, leAt img off 1, leAt img (off + 1) 1, leAt img (off + 2) 2, leAt img (off + 4) 4⟩
      if r.typ = 0x0F || r.len < 8 || r.len % 8 != 0 || img.length < off + r.len then [r] else r :: walkRecs img n (off + r.len)

/-- The bytes before the entries, and the bytes of an entry, of a record type (R31). -/
def recShape : Nat → Option (Nat × Nat)
  | 1 => some (48, 16) | 2 => some (8, 8) | 3 => some (8, 8) | 4 => some (8, 16) | 5 => some (8, 8)
  | 6 => some (8, 8) | 7 => some (8, 8) | 8 => some (8, 16) | 0x0F => some (8, 200) | _ => none

/-- The entries of a record as numbers. -/
def recVals (img : List Byte) (r : Rec) (head size : Nat) : List Nat :=
  (List.range r.count).map (fun i => leAt img (r.off + head + i * size) size)

/-- Whether a record header is in order after the type before it (R31, R33). Log entry 21 (DESIGN CHOICE). -/
def headOk (img : List Byte) (full : Bool) (prev : Nat) (r : Rec) : Bool :=
  match recShape r.typ with
  | some (head, size) =>
    decide (prev < r.typ) && (full || r.typ != 8) && r.len == head + r.count * size && decide (r.off + r.len ≤ img.length)
      && (r.count != 0 || r.typ == 4 || r.typ == 5) && (!(r.typ == 8 || r.typ == 0x0F) || r.count == 1)
  | none => false

/-- Whether the fixed part of the header record is in order (R33, R48). Log entry 21 (DESIGN CHOICE). -/
def fixedOk (img : List Byte) (r : Rec) : Bool :=
  let kind := leAt img 28 1 % 4
  clean (leAt img 28 4) [(0, 2), (16, 10)] && leAt img 36 8 == 0 && leAt img 44 4 == 0 && decide (kind ≤ 1)
    && decide (r.count ≤ 16) && (kind == 1 || leAt img 24 4 == 0)

/-- The entries of a record put into the image. Log entry 21 (DESIGN CHOICE). -/
def imgRec (s : State) (img : List Byte) (r : Rec) (m : Image) : Except Nat Image :=
  match recShape r.typ with
  | none => .ok m
  | some (head, size) =>
    let vs := recVals img r head size
    match r.typ with
    | 1 => (imgAll (imgDesc m.full) vs 0).map (fun l => { m with descs := l })
    | 2 => (imgAll (imgAssign m.full) vs 0).map (fun l => { m with assigns := l })
    | 3 => (imgAll imgGran vs 0).map (fun l => { m with grans := l })
    | 4 => (imgAll (imgRange m.full) vs 0).map (fun l => { m with ranges := l })
    | 5 => (imgAll imgRegul vs 0).map (fun l => { m with reguls := l })
    | 6 =>
      let b := clockBase s vs
      (imgAll (fun v => (splitClock v).bind (fun e => if clockInRange b e then some e else none)) vs 0).bind (fun l =>
        let refs := l.zipIdx.filter (fun e => match e.1 with | .refs _ _ => true | _ => false)
        if m.full && refs.length != 1 then .error ((refs[1]?).elim 0 (·.2)) else .ok { m with clock := l })
    | 7 => (imgAll imgTide vs 0).map (fun l => { m with tides := l })
    | 8 => (imgAll imgLife vs 0).map (fun l => { m with life := l.head? })
    | _ =>
      let v := vs.headD 0
      if !clean v [(0, 16), (64, 1536)] || 1 < bits v 0 8 || 3 < bits v 8 8 then .error 0
      else .ok { m with alg := bits v 0 8, slot := bits v 8 8, sig := (img.drop (r.off + 16)).take 192, msg := img.take (r.off + 112) }

/-- The records in image order under code 0x04 (R60). -/
def imgRecs (s : State) (img : List Byte) : List Rec → Nat → Image → Except Fail Image
  | [], _, m => .ok m
  | r :: rs, prev, m =>
    if !headOk img m.full prev r || (r.typ = 1 && !fixedOk img r) then .error ⟨4, r.typ, 0, true⟩
    else match imgRec s img r m with
      | .error i => .error ⟨4, r.typ, i, false⟩
      | .ok m => imgRecs s img rs r.typ m

/-- The record types an image must hold (R31). -/
def needRecs (full : Bool) : List Nat := if full then [1, 2, 3, 6, 7, 8, 0x0F] else [1, 0x0F]

/-- An image before its entries. -/
def Image.start (img : List Byte) : Image :=
  { full := leAt img 28 1 % 4 != 1, gen := leAt img 20 4, baseGen := leAt img 24 4, devno := leAt img 30 2 % 1024, descs := [],
    assigns := [], grans := [], ranges := [], reguls := [], clock := [], tides := [], life := none, alg := 0, slot := 0, sig := [], msg := [] }

/-- Decode an image under codes 0x01, 0x02 and 0x04, in that order (R33, R60). Log entry 21 (DESIGN CHOICE). -/
def decodeImage (s : State) (img : List Byte) : Except Fail Image :=
  let rs := walkRecs img (img.length / 8 + 1) 0
  if img.length < 12 || leAt img 8 4 != 0x48435350 then .error ⟨1, 1, 0, true⟩
  else if leAt img 13 1 != 1 || leAt img 12 1 != 0 || leAt img 14 2 != 0x16 then .error ⟨2, 1, 0, true⟩
  else match rs.find? (fun r => r.rver != 0) with
    | some r => .error ⟨2, r.typ, 0, true⟩
    | none =>
      if img.length != leAt img 16 4 then .error ⟨4, 0, 0, false⟩
      else match imgRecs s img rs 0 (Image.start img) with
        | .error f => .error f
        | .ok m =>
          let last := rs.getLastD ⟨0, 0, 0, 0, 0⟩
          if !(needRecs m.full).all (fun t => rs.any (fun r => r.typ == t)) || last.off + last.len != img.length then .error ⟨4, 0, 0, false⟩
          else .ok m

end Sys2Proof.Machine
end

