-- ==== Sys2Proof/Machine/Fp.lean ====
section
/-!
DEFINITION. The number formats of the shoal engines and rankers: exact values, conversion to and from the formats,
and FP32 arithmetic with one rounding to nearest even (R173–R180, R187, R188). NaNs are one value here: no rule tells
two of them apart.
-/
namespace Sys2Proof.Machine

/-- A number as an exact value: `(-1)^neg * m * 2^e`, an infinity, or a NaN. -/
inductive Fp where
  | nan
  | inf (neg : Bool)
  | fin (neg : Bool) (m : Nat) (e : Int)
deriving DecidableEq, Repr

/-- Positive zero. -/
def Fp.zero : Fp := .fin false 0 0

/-- A format: exponent bits, mantissa bits, and what an exponent of all ones stands for: 0 numbers, 1 infinities and
NaNs, 2 numbers but for the all-ones mantissa, a NaN (R175). -/
structure Fmt where
  eb : Nat
  mb : Nat
  top : Nat
deriving DecidableEq, Repr

/-- IEEE binary32. -/
def fp32 : Fmt := ⟨8, 23, 1⟩
/-- bfloat16. -/
def bf16 : Fmt := ⟨8, 7, 1⟩
/-- IEEE binary16. -/
def fp16 : Fmt := ⟨5, 10, 1⟩
/-- E4M3: no infinity, one NaN for each sign. -/
def e4m3 : Fmt := ⟨4, 3, 2⟩
/-- E5M2: IEEE-style. -/
def e5m2 : Fmt := ⟨5, 2, 1⟩
/-- E3M2. -/
def e3m2 : Fmt := ⟨3, 2, 0⟩
/-- E2M3. -/
def e2m3 : Fmt := ⟨2, 3, 0⟩
/-- E2M1. -/
def e2m1 : Fmt := ⟨2, 1, 0⟩

/-- Bias of a format's exponent (R175). -/
def Fmt.bias (f : Fmt) : Int := 2 ^ (f.eb - 1) - 1

/-- Exponent of the lowest bit of a subnormal. -/
def Fmt.low (f : Fmt) : Int := 1 - f.bias - f.mb

/-- The value of a code, sign in the top bit, subnormals honoured (R175). -/
def Fmt.decode (f : Fmt) (x : Nat) : Fp :=
  let neg := x.testBit (f.eb + f.mb)
  let e := bits x f.mb f.eb
  let m := bits x 0 f.mb
  let ones := e = 2 ^ f.eb - 1
  if ones && f.top == 1 then (if m = 0 then .inf neg else .nan)
  else if ones && f.top == 2 && m == 2 ^ f.mb - 1 then .nan
  else if e = 0 then .fin neg m f.low
  else .fin neg (2 ^ f.mb + m) (f.low + e - 1)

/-- `m * 2^e` as a whole multiple of `2^q`, rounded to nearest even. -/
def rne (m : Nat) (e q : Int) : Nat :=
  if q ≤ e then m * 2 ^ (e - q).toNat
  else
    let d := (q - e).toNat
    let k := m / 2 ^ d
    let r := m % 2 ^ d
    if 2 ^ d < 2 * r || (2 * r = 2 ^ d && k % 2 == 1) then k + 1 else k

/-- `floor(log2 (m * 2^e))` of a positive `m`. -/
def log2Of (m : Nat) (e : Int) : Int := (Nat.log2 m : Int) + e

/-- The magnitude code of `m * 2^e` rounded to nearest even, without a bound on the exponent. -/
def Fmt.magnitude (f : Fmt) (m : Nat) (e : Int) : Nat :=
  if m = 0 then 0
  else
    let q := max f.low (log2Of m e - f.mb)
    (q - f.low).toNat * 2 ^ f.mb + rne m e q

/-- A sign and a magnitude as a code. -/
def Fmt.signed (f : Fmt) (neg : Bool) (x : Nat) : Nat := x + b2n neg * 2 ^ (f.eb + f.mb)

/-- Code of infinity in an IEEE-style format. -/
def Fmt.infCode (f : Fmt) : Nat := (2 ^ f.eb - 1) * 2 ^ f.mb

/-- The code of a value in an IEEE-style format, and whether a finite value became infinite (R188). Log entry 34 (DESIGN CHOICE). -/
def Fmt.encode (f : Fmt) : Fp → Nat × Bool
  | .nan => (f.infCode + 2 ^ (f.mb - 1), false)
  | .inf n => (f.signed n f.infCode, false)
  | .fin n m e =>
    let x := f.magnitude m e
    if f.infCode ≤ x then (f.signed n f.infCode, true) else (f.signed n x, false)

/-- The code of a finite value clamped to the largest finite code (R188). -/
def Fmt.clamp (f : Fmt) (largest : Nat) (neg : Bool) (m : Nat) (e : Int) : Nat :=
  f.signed neg (min (f.magnitude m e) largest)

/-- The value of an FP32 lane. -/
def laneVal (w : Word) : Fp := fp32.decode w.toNat

/-- A value rounded once to FP32. Log entry 34 (DESIGN CHOICE). -/
def toLane (x : Fp) : Word := BitVec.ofNat 32 (fp32.encode x).1

/-- A value in the FP32 range, exactly, or infinite. -/
def Fp.narrow (x : Fp) : Fp := laneVal (toLane x)

/-- The negative of a value. -/
def Fp.neg : Fp → Fp
  | .nan => .nan
  | .inf n => .inf !n
  | .fin n m e => .fin (!n) m e

/-- Exact product (IEEE 754). -/
def Fp.mul : Fp → Fp → Fp
  | .nan, _ => .nan
  | _, .nan => .nan
  | .inf a, .inf b => .inf (a != b)
  | .inf a, .fin b m _ => if m = 0 then .nan else .inf (a != b)
  | .fin a m _, .inf b => if m = 0 then .nan else .inf (a != b)
  | .fin a m e, .fin b n f => .fin (a != b) (m * n) (e + f)

/-- The signed multiple of `2^q` that a finite value is. -/
def scaled (neg : Bool) (m : Nat) (e q : Int) : Int :=
  let k : Int := m * 2 ^ (e - q).toNat
  if neg then -k else k

/-- Exact sum; a zero sum of values of both signs is positive (IEEE 754). -/
def Fp.add : Fp → Fp → Fp
  | .nan, _ => .nan
  | _, .nan => .nan
  | .inf a, .inf b => if a = b then .inf a else .nan
  | .inf a, .fin _ _ _ => .inf a
  | .fin _ _ _, .inf b => .inf b
  | .fin a m e, .fin b n f =>
    let q := min e f
    let k := scaled a m e q + scaled b n f q
    .fin (if k = 0 then a && b else decide (k < 0)) k.natAbs q

/-- A sum rounded once to FP32. Log entry 34 (DESIGN CHOICE). -/
def addLane (a b : Fp) : Fp := (a.add b).narrow

/-- A fused multiply-add rounded once to FP32 (R180). Log entry 34 (DESIGN CHOICE). -/
def fmaLane (a b c : Fp) : Fp := ((a.mul b).add c).narrow

/-- An FP32 value divided by a positive whole number, rounded once; zero when the divisor is 0 (R180). -/
def divLane (x : Fp) (n : Nat) : Fp :=
  if n = 0 then .zero
  else match x with
    | .fin s m e =>
      if m = 0 then x
      else
        let k := Nat.log2 n + 64
        let num := m * 2 ^ k
        let quo := 2 * (num / n) + (if num % n = 0 then 0 else 1)
        (Fp.fin s quo (e - k - 1)).narrow
    | _ => x

/-- Whether one value is less than another; NaNs and equal values are not less. -/
def Fp.lt (a b : Fp) : Bool :=
  match a, b with
  | .nan, _ => false
  | _, .nan => false
  | .inf x, .inf y => x && !y
  | .inf x, .fin _ _ _ => x
  | .fin _ _ _, .inf y => !y
  | .fin s m e, .fin t n f => let q := min e f; decide (scaled s m e q < scaled t n f q)

/-- Whether a value is a zero with the sign bit set. -/
def Fp.negZero : Fp → Bool
  | .fin s m _ => s && m == 0
  | _ => false

/-- maxNum: a number wins against a NaN, and +0 is greater than -0 (R180, R187). -/
def Fp.maxNum (a b : Fp) : Fp :=
  match a, b with
  | .nan, y => y
  | x, .nan => x
  | x, y => if x.lt y then y else if y.lt x then x else if x.negZero then y else x

/-- Whether a value is finite. -/
def Fp.finite : Fp → Bool
  | .fin _ _ _ => true
  | _ => false

/-- `e(x)` of the accumulator guard: `floor(log2 |x|)`, and -150 for zero (R185). -/
def Fp.expo : Fp → Int
  | .fin _ m e => if m = 0 then -150 else log2Of m e
  | _ => -150

/-- TwoSum of FP32 values: the rounded sum and its rounding error (R186). -/
def twoSum (a b : Fp) : Fp × Fp :=
  let s := addLane a b
  let bb := addLane s a.neg
  let ea := addLane a (addLane s bb.neg).neg
  let eb := addLane b bb.neg
  (s, addLane ea eb)

/-- A power of two (R175, E8M0). -/
def pow2 (e : Int) : Fp := .fin false 1 e

/-- The value of an int8 element of MXINT8: `x * 2^-6` (R175). -/
def int8Val (x : Nat) : Fp :=
  if x < 128 then .fin false x (-6) else .fin true (256 - x) (-6)

end Sys2Proof.Machine
end

