-- ==== Sys2Proof/Machine/Faults.lean ====
section
/-!
DEFINITION. What a translation fault does, an engine's own accesses, and the commands of translation that can fault, replay,
kill or signal (chapter 05).
-/
namespace Sys2Proof.Machine

/-! ### Faults, R151–R154, R214, R388 -/

/-- The record of a held fault (R150, R151). -/
def faultRec (x : Xfer) (reason level : Nat) : WrackRec :=
  ⟨x.ctx, true, true, accCode x.acc, 0, reason, x.dva, 0, x.src, level, 0⟩

/-- A held transfer of a cove that a quiesce with ABORT drains completes with error status at once, and its tile ends (R306).
Log entry 39 (DESIGN CHOICE). -/
def abortHeld (s : State) (id : Nat) (x : Xfer) : State :=
  if !(quiescing s x.tag && quiesceAbort s x.tag) then s
  else if !x.eng then setXfer s id { x with stage := .done (.error .killed) }
  else if x.src / 4096 < 6 then endTile (clearWork s x.src) x.src .error
  else delXfer s id

/-- Hold transfer `id` on a fault: the record is written, or its context is killed when the queue is full, which releases the
transfer (R152, R154, R306). -/
def holdXfer (s : State) (id reason level : Nat) : State :=
  match tfind s.xl.xfers id with
  | none => s
  | some x =>
    let s := setXfer s id { x with stage := .held reason level }
    let s := incCtr s (C.XL_CV_FAULT x.tag)
    let (ok, s) := writeWrack s x.tag (faultRec x reason level)
    if ok then abortHeld s id x else killCtx (setFlag s (F.XL_WQ_STATUS_OFL x.tag) true) x.tag x.ctx

/-- A lane of a split engine-port tile becomes faulted, with one record (R388). Log entry 52 (DESIGN CHOICE). -/
def faultLane (s : State) (u : Nat) (lane : Bool) (acc : Nat) (dva ctx reason level : Nat) : State :=
  match tfind s.en.ep u, unitOwner s u with
  | some t, some c =>
    if (if lane then t.fault1 else t.fault0) then s
    else
      let t' := if lane then { t with fault1 := true } else { t with fault0 := true }
      report { s with en := { s.en with ep := tput s.en.ep u t' } } c
        ⟨ctx, true, false, acc, 1, 0x3A, dva, 0, u, level, reason⟩
  | _, _ => s

/-- Whether every line of a move has been moved, its hot copy included (R207, R214). -/
def Move.whole (m : Move) : Bool := decide ((match m.kind with | .compaction _ (some _) => 2 * m.len | _ => m.len) ≤ m.done)

/-- Where the next line of a move is read and written: after a compaction's main row comes its hot row (R207, R214). -/
def Move.at (m : Move) : Nat × Nat :=
  let k := m.done % m.len
  (m.src + k, (match m.kind with | .compaction _ (some h) => if m.len ≤ m.done then h else m.dst | _ => m.dst) + k)

/-- Whether a move proceeds: it has not ended, and it is not one that a quiesce keeps from starting (R214, R306). -/
def Move.live (s : State) (m : Move) : Bool :=
  m.failed.isNone && !m.whole && (decide (0 < m.done) || coveActive s m.cove)

/-- The move a sweep engine runs: the oldest of its kind order, prefetch, compaction, advice (R213). -/
def headMove (s : State) (n : Nat) : Option Move :=
  let mine := s.en.moves.filter (fun m => m.sweep == n && m.live s)
  (mine.find? (fun m => m.kind == .prefetch)).or
    ((mine.find? (fun m => match m.kind with | .compaction _ _ => true | _ => false)).or mine.head?)

/-- The move that an access of a sweep engine serves, while it has not ended (R214). -/
def moveOf (s : State) (x : Xfer) : Option Move := s.en.moves.find? (fun m => x.move == some m.id && m.failed.isNone)

/-- The state with a move changed. -/
def modMove (s : State) (id : Nat) (f : Move → Move) : State :=
  { s with en := { s.en with moves := s.en.moves.map (fun m => if m.id = id then f m else m) } }

/-- Whether a unit runs a split engine-port tile. -/
def isSplit (s : State) (u : Nat) : Bool :=
  u / 4096 == 0 && match tfind s.en.ep u with | some t => t.split | none => false

/-- Transfer `id` faults: held, but for a lane of a split tile and for a move, which do not hold;
every one counts (R152, R214, R388, XL_CV_FAULT). -/
def faultXfer (s : State) (id reason level : Nat) : State :=
  match tfind s.xl.xfers id with
  | none => s
  | some x =>
    let t := incCtr (delXfer s id) (C.XL_CV_FAULT x.tag)
    if x.eng && isSplit s x.src then faultLane t x.src x.lane (accCode x.acc) x.dva x.ctx reason level
    else if x.eng && x.src / 4096 = 6 then
      match moveOf s x with
      | some m => modMove t m.id (fun m => { m with failed := some (reason, x.dva) })
      | none => t
    else holdXfer s id reason level

/-! ### An engine's own accesses -/

/-- Why an engine's access does not proceed now. -/
inductive Why where
  | miss
  | fault (reason level : Nat)
  /-- A held fault of the context in its client, or a completion suppressed before: it waits. -/
  | blocked
  /-- A check has failed, with the state it leaves: the completion is suppressed (R121). -/
  | halted (t : State)
  /-- The unit's credit is used up: the rest is issued in later windows (R278). -/
  | credit
deriving DecidableEq, Repr

/-- An access that stalls its engine. -/
structure Stall where
  tag : Nat
  src : Nat
  client : Nat
  ctx : Nat
  dva : Nat
  acc : Access
  lane : Bool
  move : Option Nat
  why : Why
deriving DecidableEq, Repr

/-- A part of an engine's work: it completes with a value, or a stalled access stops it with nothing done. -/
abbrev Work (α : Type) := StateT State (Except Stall) α

/-- Who accesses: the unit, its client, the cove and the context, the lane of a split tile, and the move of a sweep engine. -/
structure Who where
  tag : Nat
  src : Nat
  client : Nat
  ctx : Nat
  lane : Bool
  move : Option Nat
deriving DecidableEq, Repr

/-- Whether a failed check has suppressed a completion that an engine's work of this context waits for (R121). Log entry 52 (DESIGN CHOICE). -/
def haltedAt (s : State) (src tag ctx : Nat) : Bool :=
  s.xl.xfers.any (fun e => e.2.eng && e.2.src == src && e.2.tag == tag && e.2.ctx == ctx && e.2.stage == .suppressed)

/-- One access of a line by DVA: translated, charged, performed and marked (R138, R144, R157, R275). Log entry 52 (DESIGN CHOICE). -/
def lineWork (w : Who) (dva : Nat) (acc : Access) : Work Resp := fun s =>
  let stall (y : Why) : Except Stall (Resp × State) := .error ⟨w.tag, w.src, w.client, w.ctx, dva, acc, w.lane, w.move, y⟩
  if ctxHeldAt s w.client w.tag w.ctx || haltedAt s w.src w.tag w.ctx then stall .blocked
  else
    let (r, s1) := lookup s w.client w.tag w.ctx dva 64 acc
    match r with
    | .miss => stall .miss
    | .fault reason level => stall (.fault reason level)
    | .hit fpa dl =>
      match chargeWork s1 w.src fpa with
      | none => stall .credit
      | some s2 =>
        let (resp, s3) := accessNow s2 ⟨w.tag, w.src, fpa, acc, some (w.ctx, some dva), .demand⟩
        match resp with
        | none => stall (.halted s3)
        | some resp => .ok (resp, markDirty s3 w.client w.tag w.ctx dva fpa dl acc resp)

/-- Lines of the bytes `[dva, dva + len)`: the DVA of each. Log entry 52 (DESIGN CHOICE). -/
def linesOf (dva len : Nat) : List Nat :=
  if len = 0 then [] else (List.range ((dva + len - 1) / 64 - dva / 64 + 1)).map (fun i => (dva / 64 + i) * 64)

/-- The bytes of a completed read; nothing for an error. -/
def Resp.bytes? : Resp → Option (List Byte)
  | .data l => some (lineBytes l)
  | _ => none

/-- Read the lines of a list; nothing when one completes with error status. -/
def readLines (w : Who) : List Nat → Work (Option (List Byte))
  | [] => pure (some [])
  | d :: ds => do
    let r ← lineWork w d .read
    match r.bytes? with
    | none => pure none
    | some b => do
      let rest ← readLines w ds
      pure (rest.map (b ++ ·))

/-- Read bytes by DVA; nothing when a line completes with error status. -/
def readWork (w : Who) (dva len : Nat) : Work (Option (List Byte)) := do
  let b ← readLines w (linesOf dva len)
  pure (b.map (fun b => (b.drop (dva % 64)).take len))

/-- The reason of the record of a line that completed with error status (R21, R56, R94, R116, R119). Log entry 37 (DESIGN CHOICE). -/
def errReason : Resp → Nat
  | .error .dropped => 0x20
  | .error .fenced => 0x21
  | .error .address => 0x22
  | .error .poison => 0x23
  | .error .keyStop => 0x24
  | _ => 0

/-- Read the lines of a list; the DVA of the first that completes with error status, and the reason of its record. -/
def readLinesAt (w : Who) : List Nat → Work (Except (Nat × Nat) (List Byte))
  | [] => pure (.ok [])
  | d :: ds => do
    let r ← lineWork w d .read
    match r.bytes? with
    | none => pure (.error (d, errReason r))
    | some b => do
      let rest ← readLinesAt w ds
      pure (rest.map (b ++ ·))

/-- Read bytes by DVA; the DVA of the first that cannot be read. -/
def readAt (w : Who) (dva len : Nat) : Work (Except Nat (List Byte)) := do
  let b ← readLinesAt w (linesOf dva len)
  pure (match b with
    | .ok b => .ok ((b.drop (dva % 64)).take len)
    | .error e => .error (max e.1 dva))

/-- The write of the bytes of `data` (from DVA `dva`) that fall into the line at `d`. -/
def linePart (dva : Nat) (data : List Byte) (d : Nat) : Access :=
  let skip := dva - d
  let part := (data.drop (d - dva)).take (64 - skip)
  .write (enables skip part.length) (lineOfBytes part <<< (8 * skip))

/-- Write the parts of some lines; false when one is refused. -/
def writeLines (w : Who) (dva : Nat) (data : List Byte) : List Nat → Work Bool
  | [] => pure true
  | d :: ds => do
    let r ← lineWork w d (linePart dva data d)
    if r.performed then writeLines w dva data ds else pure false

/-- Write bytes by DVA; false when a line is refused. -/
def writeWork (w : Who) (dva : Nat) (data : List Byte) : Work Bool := writeLines w dva data (linesOf dva data.length)

/-- A stalled access is kept: a miss queued for the walker, or a fault held with its record, and nothing else of the work has
happened; after a failed check what it has done stays done; without credit the lines that it pays for are issued
(R121, R138, R140, R152, R278). Log entry 52 (DESIGN CHOICE). -/
def keepStall (s : State) (x : Stall) : State :=
  let old := s.xl.xfers.any (fun e => e.2.eng && e.2.src == x.src && e.2.ctx == x.ctx && samePage e.2.dva x.dva)
  let xf : Xfer := ⟨x.tag, x.src, some x.client, x.ctx, x.dva, 64, x.acc, 0, false, 1, 0, true, x.lane, x.move, false, 0, .missing⟩
  match x.why with
  | .blocked => s
  | .credit => issueRest s x.src
  | .halted t => addXfer t { xf with stage := .suppressed }
  | .miss =>
    if old then s else missXfer (addXfer (incCtr s C.XL_L2_MISS) xf) s.xl.nextXfer xf
  | .fault reason level => if old then s else faultXfer (addXfer s xf) s.xl.nextXfer reason level

/-- Run a part of an engine's work: what it makes of the state, or the state with its stalled access kept.
Log entries 6 (DESIGN CHOICE), 52 (DESIGN CHOICE). -/
def runWork (s : State) (w : Work State) : State :=
  match w s with
  | .ok (s', _) => s'
  | .error x => keepStall s x

/-- A command of a unit that works: it acts while the unit's domain runs; the work itself waits for its credit (R278).
Log entry 52 (DESIGN CHOICE). -/
def atEngine (s : State) (u : Nat) (s' : State) : Ans := atDomain s (unitDomain u) s'

/-- Use the state a part of the work has reached. -/
def getSt : Work State := fun s => .ok (s, s)
/-- Replace the state. -/
def putSt (s : State) : Work Unit := fun _ => .ok ((), s)

/-- The scheduler reads descriptors by DVA through the shared L2, under the cove's tag, as the management core (R250, R274).
Log entry 31 (DESIGN CHOICE). -/
def sqWho (c ctx : Nat) : Who := ⟨c, 0x9000, 228, ctx, false, none⟩

/-- An engine as an accessor under a context. -/
def engWho (c u ctx : Nat) : Who := ⟨c, u, (unitClient u).getD 228, ctx, false, none⟩

/-! ### Requests and walks, R138–R140, R146 -/

/-- Add a transfer that has been looked up (R138). -/
def addLooked (s : State) (x : Xfer) (r : XRes) : State :=
  match r with
  | .hit fpa dl => addXfer s { x with fpa := fpa, dl := dl, stage := .ready }
  | .miss => missXfer (addXfer s x) s.xl.nextXfer x
  | .fault reason level => faultXfer (addXfer s x) s.xl.nextXfer reason level

/-- The lines of a request, each with its DVA and length: a read of more than one line is split by the unit that issues it, and
a write or an atomic is of one line (R101, R275). -/
def splitLines (dva len : Nat) (acc : Access) : List (Nat × Nat) :=
  if acc == .read && decide (64 < dva % 64 + len) then
    (linesOf dva len).map (fun a => (max a dva, min (a + 64) (dva + len) - max a dva))
  else [(dva, len)]

/-- A client looks one line of a request up (R138). -/
def requestLine (u c cl ctx : Nat) (acc : Access) (s : State) (x : Nat × Nat) : State :=
  let (r, s1) := lookup s cl c ctx x.1 x.2 acc
  addLooked s1 ⟨c, u, some cl, ctx, x.1, x.2, acc, 0, false, 1, 0, false, false, none, false, 0, .missing⟩ r

/-- TRANSLATE_REQUEST: a client looks a DVA up, line by line; a sweep or bounce engine does so for the cove it serves
(R138, R275). -/
def execTranslateRequest (src : BitVec 16) (cove : CoveId) (ctx : BitVec 12) (dva : BitVec 64) (len : Nat) (acc : Access)
    (s : State) : Ans :=
  let u := src.toNat
  let tag := if u / 4096 = 6 || u / 4096 = 7 then some cove.val else unitOwner s u
  match tag, unitClient u with
  | some c, some cl =>
    if !coveExists s c then .next s
    else atDomain s (unitDomain u) ((splitLines dva.toNat len acc).foldl (requestLine u c cl ctx.toNat acc) s)
  | _, _ => .next s

/-- Missing transfers of a context that satisfy `p`, in the order of their clients (R155). -/
def missingOf (s : State) (cove ctx : Nat) (p : Nat → Bool) : List Nat :=
  (List.range 229).flatMap (fun cl => (s.xl.xfers.filter (fun e =>
    e.2.client == some cl && e.2.tag == cove && e.2.ctx == ctx && e.2.stage == .missing && p e.2.dva)).map (·.1))

/-- A missing transfer meets its leaf: it proceeds or faults on its rights; the engine of its own work tries again (R136, R138). -/
def meetLeaf (l : Leaf) (s : State) (id : Nat) : State :=
  match tfind s.xl.xfers id with
  | none => s
  | some x =>
    let s := match x.client with
      | some cl => if hasTlb cl then setTlb s cl (touchLeaf 64 { l with mark := none } (tlbOf s cl)) else s
      | none => s
    match checkLeaf l x.acc x.dva with
    | .hit fpa dl => if x.eng then delXfer s id else setXfer s id { x with fpa := fpa, dl := dl, stage := .ready }
    | .fault reason level => faultXfer s id reason level
    | .miss => s

/-- A walk ends on a fault: every transfer that waited for it faults (R140, R155). -/
def endWalk (s : State) (w : Nat) (reason : Nat) : State :=
  match tfind s.xl.walks w with
  | none => s
  | some k =>
    let s := delWalk s w
    (missingOf s k.cove k.ctx (samePage k.dva)).foldl (fun s id => faultXfer s id reason k.level) s

/-- A walk whose read failed (R140). -/
def failWalk (s : State) (w : Nat) : State := endWalk (incCtr s C.XL_WALK_ERR) w 6

/-- A walk takes the entry it has read (R131, R135, R146). -/
def stepWalk (s : State) (w : Nat) (k : Walk) (e : Nat) : State :=
  if k.stale then
    let addr := ctxDirBase s k.cove + 8 * k.ctx
    emit (setWalk s w { k with level := 4, addr := addr, stale := false }) (.hostRead 0 (addr % 2 ^ 64) 8)
  else match readEntry k e with
    | .fault reason => endWalk s w reason
    | .next a =>
      let s := wcPut s ⟨k.cove, k.ctx, k.level, k.dva / 2 ^ spanBits k.level, a⟩
      let addr := a + 8 * walkIndex (k.level - 1) k.dva
      emit (setWalk s w { k with level := k.level - 1, addr := addr }) (.hostRead 0 (addr % 2 ^ 64) 8)
    | .leaf l =>
      let s := l2Put (delWalk s w) l k.dva
      (missingOf s k.cove k.ctx (fun d => l.covers k.cove k.ctx d)).foldl (meetLeaf l) s

/-- WALK_READ_DONE: the entry arrives, or the read completes with an error (R135, R140). Log entry 6 (DESIGN CHOICE). -/
def execWalkReadDone (w : Nat) (data : Option Dword) (s : State) : Ans :=
  match tfind s.xl.walks w with
  | none => .next s
  | some k => atDomain s 92 (match data with
    | some e => stepWalk s w k e.toNat
    | none => failWalk s w)

/-- WALK_TIMEOUT (R140). -/
def execWalkTimeout (w : Nat) (s : State) : Ans := if thas s.xl.walks w then atDomain s 92 (failWalk s w) else .next s

/-! ### Invalidation, R142–R148 -/

/-- Whether ranges `[a, a + n)` and `[b, b + m)` meet. Log entry 18 (DESIGN CHOICE). -/
def meets (a n b m : Nat) : Bool := decide (a < b + m) && decide (b < a + n)

/-- Length of an invalidation in bytes. -/
def Inv.bytes (i : Inv) : Nat := 2 ^ 16 * i.pages

/-- Whether an invalidation is for a context. -/
def Inv.forCtx (i : Inv) (ctx : Nat) : Bool := match i.ctx with | some x => x == ctx | none => true

/-- Whether an invalidation matches a leaf (R142). -/
def Inv.hitsLeaf (i : Inv) (c : Nat) (l : Leaf) : Bool :=
  l.cove == c && i.forCtx l.ctx && meets i.base i.bytes (l.vpn * 2 ^ pageBits l.size) (2 ^ pageBits l.size)

/-- Whether an invalidation matches an entry of the walk cache (R142). -/
def Inv.hitsWalkEnt (i : Inv) (c : Nat) (e : WalkEnt) : Bool :=
  e.cove == c && i.forCtx e.ctx &&
    (if e.level = 4 then i.pages == 2 ^ 32
     else meets i.base i.bytes (e.span * 2 ^ spanBits e.level) (2 ^ spanBits e.level))

/-- Whether an invalidation matches a walk in flight (R142). -/
def Inv.hitsWalk (i : Inv) (c : Nat) (w : Walk) : Bool :=
  w.cove == c && i.forCtx w.ctx && (i.pages == 2 ^ 32 || meets i.base i.bytes (w.dva / 2 ^ 30 * 2 ^ 30) (2 ^ 30))

/-- Whether an invalidation matches a transfer sent to memory (R142, R144). -/
def Inv.hitsXfer (i : Inv) (c : Nat) (x : Xfer) : Bool :=
  x.tag == c && x.client.isSome && i.forCtx x.ctx && meets i.base i.bytes x.dva (max x.len 1) &&
    match x.stage with | .ready => true | .waiting => true | .suppressed => true | .done _ => x.acc == .read | _ => false

/-- Filter every list of a table, dropping emptied ones. -/
def filterTbl {α : Type} (t : Tbl (List α)) (p : α → Bool) : Tbl (List α) :=
  (t.map (fun e => (e.1, e.2.filter p))).filter (fun e => !e.2.isEmpty)

/-- Drop the matching walk-cache, L2 and TLB entries and mark the matching walks stale (R143). Log entry 18 (DESIGN CHOICE). -/
def dropInv (s : State) (c : Nat) (i : Inv) : State :=
  { s with xl := { s.xl with
      tlb := filterTbl s.xl.tlb (fun l => !i.hitsLeaf c l),
      l2 := filterTbl s.xl.l2 (fun l => !i.hitsLeaf c l),
      wc := filterTbl s.xl.wc (fun e => !i.hitsWalkEnt c e),
      walks := s.xl.walks.map (fun e => (e.1, if i.hitsWalk c e.2 then { e.2 with stale := true } else e.2)) } }

/-- Participants of a cove's invalidations: its clients, the bounce engines, and the sweep engines with moves of the cove (R143).
Log entry 18 (DESIGN CHOICE). -/
def participants (s : State) (c : Nat) : List Nat :=
  (List.range 192).filter (fun cl => match clientRes cl with | some (k, i) => ownerOf s k i == some c | none => false)
  ++ [192, 193, 194, 195]
  ++ (List.range 32).filterMap (fun n => if s.en.moves.any (fun m => m.cove == c && m.sweep == n) then some (196 + n) else none)

/-- Outstanding invalidations of a cove, oldest first. -/
def invsOf (s : State) (c : Nat) : List Inv := tgetD s.xl.invs c []
/-- The state with a cove's invalidations replaced. -/
def setInvs (s : State) (c : Nat) (l : List Inv) : State := { s with xl := { s.xl with invs := tsetD s.xl.invs c [] l } }

/-- A write to a register of a cove's window that belongs to the driver and the manager: ignored from a virtual function
(R161). Log entry 17 (DESIGN CHOICE). -/
def atDriver (s : State) (q : Requester) (c off : Nat) (s' : State) : Ans :=
  match q with
  | .vf v => atWindow s (.vf v) c off s
  | _ => atWindow s q c off s'

/-- XL_INV_GO: latch the staging registers and start an invalidation, or set FULL (R143). Log entry 18 (DESIGN CHOICE). -/
def execXlInvGo (q : Requester) (c : CoveId) (s : State) : Ans :=
  let pages := fld s (F.XL_INV_LEN_PAGES c)
  let i : Inv :=
    { base := 2 ^ 16 * fld s (F.XL_INV_BASE_LO_DVA_LO c) + 2 ^ 32 * fld s (F.XL_INV_BASE_HI_DVA_HI c),
      pages := if pages = 0 then 2 ^ 32 else pages,
      ctx := if flag s (F.XL_INV_SCOPE_ALL c) then none else some (fld s (F.XL_INV_SCOPE_CTX c)),
      event := fld s (F.XL_INV_EVENT_EVENT c),
      value := fld64 s (F.XL_INV_VAL_LO_VALUE c) (F.XL_INV_VAL_HI_VALUE c), slow := false, await := participants s c }
  atDriver s q c (winBase c + 0x303C)
    (if 16 ≤ (invsOf s c).length then setFlag s (F.XL_INV_STATUS_FULL c) true
     else setInvs (dropInv s c i) c (invsOf s c ++ [i]))

/-- Complete the oldest invalidations whose participants have all acknowledged, in the order accepted (R143). Log entry 18 (DESIGN CHOICE). -/
def finishInvs : Nat → State → Nat → State
  | 0, s, _ => s
  | n + 1, s, c =>
    match invsOf s c with
    | [] => s
    | i :: rest =>
      if i.await.isEmpty then finishInvs n (signalEvent (setInvs s c rest) c i.event i.value 3) c else s

/-- Whether a client holds a matching transfer that it has sent (R143, R144). -/
def invBusy (s : State) (c client : Nat) (i : Inv) : Bool :=
  s.xl.xfers.any (fun e => e.2.client == some client && i.hitsXfer c e.2)

/-- INV_ACK: a participant acknowledges every invalidation of the cove that no transfer of its own holds up (R143, R147).
Log entry 18 (DESIGN CHOICE). -/
def execInvAck (c : CoveId) (client : Fin 228) (s : State) : Ans :=
  let l := (invsOf s c).map (fun i =>
    if invBusy s c client i then i else { i with await := i.await.filter (· != client.val) })
  if running s 92 then atDomain s (clientDomain client) (finishInvs l.length (setInvs s c l) c) else .next s

/-- The oldest invalidation that is not slow yet becomes slow. -/
def firstSlow : List Inv → List Inv
  | [] => []
  | i :: l => if i.slow then i :: firstSlow l else { i with slow := true } :: l

/-- INV_SLOW: the oldest invalidation whose 1 ms after GO has not been reported has not completed (R147). -/
def execInvSlow (c : CoveId) (s : State) : Ans :=
  if (invsOf s c).any (fun i => !i.slow) then
    atDomain s 92 (raiseSrc (setFlag (setInvs s c (firstSlow (invsOf s c))) (F.XL_INV_STATUS_SLOW c) true) 515)
  else .next s

/-! ### The wrack queue's registers, R149, R152 -/

/-- XL_WQ_CONS: ignored with BADCONS when the count would exceed 256 (R149). -/
def execXlWqCons (q : Requester) (c : CoveId) (v : Word) (s : State) : Ans :=
  let n := v.toNat % 65536
  atDriver s q c (winBase c + 0x3004)
    (if (fld s (F.XL_WQ_PROD_PROD c) + 65536 - n) % 65536 ≤ 256 then setFld s (F.XL_WQ_CONS_CONS c) n
     else setFlag s (F.XL_WQ_STATUS_BADCONS c) true)

/-- Held transfers of a context, in the order of their clients. -/
def heldOf (s : State) (c ctx : Nat) : List Nat :=
  (List.range 229).flatMap (fun cl => (s.xl.xfers.filter (fun e =>
    e.2.client == some cl && e.2.tag == c && e.2.ctx == ctx && match e.2.stage with | .held _ _ => true | _ => false)).map (·.1))

/-- A held transfer translates again; one that a cached leaf refuses walks again, and the engine of its own work tries its
access again (R141, R152). -/
def replayXfer (s : State) (id : Nat) : State :=
  match tfind s.xl.xfers id with
  | none => s
  | some x =>
    match x.stage, x.client with
    | .held _ _, some cl =>
      let (r, s) := lookup s cl x.tag x.ctx x.dva x.len x.acc
      match r with
      | .hit fpa dl => if x.eng then delXfer s id else setXfer s id { x with fpa := fpa, dl := dl, stage := .ready }
      | .miss => missXfer s id x
      | .fault reason level =>
        if reason < 5 then missXfer (incCtr (forget s cl x.tag x.ctx x.dva) C.XL_L2_MISS) id x else holdXfer s id reason level
    | _, _ => s

/-- XL_WQ_REPLAY: every held transfer of the context translates again (R152). -/
def execXlWqReplay (q : Requester) (c : CoveId) (ctx : BitVec 12) (s : State) : Ans :=
  atDriver s q c (winBase c + 0x300C) ((heldOf s c ctx.toNat).foldl replayXfer s)

/-- XL_WQ_KILL: the context is killed and its held transfers complete with error (R152, R243). -/
def execXlWqKill (q : Requester) (c : CoveId) (ctx : BitVec 12) (s : State) : Ans :=
  atDriver s q c (winBase c + 0x300C) (killCtx s c ctx.toNat)

/-- OB_CTX_KILL (R243). -/
def execObCtxKill (q : Requester) (c : CoveId) (ctx : BitVec 12) (s : State) : Ans :=
  atFabric s q (if areaReady s c then killCtx s c ctx.toNat else s)

/-- OB_CTX_REVIVE: a KILLED context with no tile left becomes IDLE, with its accounting cleared (R243, SQ_CV_CTX_). -/
def execObCtxRevive (q : Requester) (c : CoveId) (ctx : BitVec 12) (s : State) : Ans :=
  let clr (s : State) (f : Nat → Nat) : State := setCtr s (xCtr f c ctx.toNat) 0
  atFabric s q
    (if areaReady s c && isKilled s c ctx.toNat && !isRunning s c ctx.toNat then
      clr (clr (clr { s with ob := { s.ob with killed := tsetD s.ob.killed (c.val * 4096 + ctx.toNat) false false } }
        C.SQ_CV_CTX_ENG_NS) C.SQ_CV_CTX_WAIT_NS) C.SQ_CV_CTX_PREEMPT
     else s)

end Sys2Proof.Machine
end

