-- ==== Sys2Proof/Machine/Tiles.lean ====
section
/-!
DEFINITION. What every engine's tile has in common: its command, its end, its deliveries to a port, and the table and
overlay descriptors and the overlay index that the shoal and table update engines share (R166, R196–R199, R385).
-/
namespace Sys2Proof.Machine

/-- A tile on a unit: the engine, its step, and the tile's entry. -/
structure OnTile where
  eng : Eng
  step : Step
  tile : TileEnt
deriving DecidableEq, Repr

/-- The tile on a unit. Log entry 6 (DESIGN CHOICE). -/
def tileOn (s : State) (u : Nat) : Option OnTile :=
  match engOf s u with
  | none => none
  | some e => match stepOf s e.step with
    | none => none
    | some x => (x.tiles[e.tile]?).map (fun t => ⟨e, x, t.1⟩)

/-- The tile on a unit that has been placed there and whose command has not been read. -/
def newTile (s : State) (u : Nat) : Option OnTile :=
  match tileOn s u with
  | some t => if t.eng.begun || t.eng.fin.isSome || paused s u then none else some t
  | none => none

/-- The tile on a unit that is in progress and not paused on a held fault (R152). -/
def liveTile (s : State) (u : Nat) : Option OnTile :=
  match tileOn s u with
  | some t => if t.eng.begun && t.eng.fin.isNone && !paused s u then some t else none
  | none => none

/-- The work of a unit's tile has begun. -/
def beginTile (s : State) (u : Nat) : State :=
  match engOf s u with
  | some e => setEng s u { e with begun := true }
  | none => s

/-- The physical port of a logical engine port that a KIND 0 tile of the step uses (R164, R385). -/
def Step.portOf (x : Step) (leng : Nat) : Option Nat :=
  if x.tiles.any (fun t => t.1.kind == 0 && t.1.leng == leng) then tfind x.map leng else none

/-- The physical port a delivery goes to now (R253, R385). -/
def Delivery.port (s : State) (d : Delivery) : Option Nat := (stepOf s d.step).bind (fun x => tfind x.map d.leng)

/-- Whether a delivery of `len` bytes at an offset keeps to the input buffer (R385). -/
def inBuffer (off len : Nat) : Bool := off % 64 == 0 && decide (off + len ≤ 2 ^ 20)

/-- Send bytes on their way to a port (R385). -/
def sendDelivery (s : State) (d : Delivery) : State := { s with en := { s.en with deliver := s.en.deliver ++ [d] } }

/-- Whether a unit still has deliveries on their way. -/
def delivering (s : State) (u : Nat) : Bool := s.en.deliver.any (fun d => d.src == u)

/-! ### Table descriptors, R166, R173 -/

/-- Read a table descriptor, with whether its reserved bits are zero (R166). -/
def readTable (b : List Byte) : TableDesc × Bool :=
  let q (i : Nat) : Nat := leAt b (8 * i) 8
  (⟨q 0 % 2 ^ 48, bits (q 1) 0 40, bits (q 1) 48 4, bits (q 1) 56 8, bits (q 2) 0 16, bits (q 2) 16 5, bit (q 2) 24,
    bit (q 2) 25, bit (q 2) 26, q 3 % 2 ^ 40, q 4 % 2 ^ 48, q 5 % 2 ^ 48, bits (q 6) 0 24, bits (q 6) 32 24, q 7 % 2 ^ 48,
    q 8, q 9 % 2 ^ 48, (List.range 8).map (fun i => leAt b (80 + 2 * i) 2)⟩,
   q 0 < 2 ^ 48 && bits (q 1) 40 8 == 0 && bits (q 1) 52 4 == 0 && bits (q 2) 21 3 == 0 && q 2 < 2 ^ 27 && q 3 < 2 ^ 40
     && q 4 < 2 ^ 48 && q 5 < 2 ^ 48 && bits (q 6) 24 8 == 0 && q 6 < 2 ^ 56 && q 7 < 2 ^ 48 && q 9 < 2 ^ 48
     && leAt b 96 32 == 0)

/-- Elements of a row (R166). -/
def TableDesc.dim (t : TableDesc) : Nat := 32 * t.dimb

/-- Width of an element of a row format in bits (R173, R174). -/
def elemBits : Nat → Nat
  | 0 => 32 | 1 => 16 | 2 => 16 | 3 => 8 | 4 => 8 | 5 => 6 | 6 => 6 | 7 => 4 | 8 => 8 | 9 => 3 | _ => 2

/-- Whether a format carries the row header (R173). -/
def hasHeader (fmt : Nat) : Bool := 3 ≤ fmt
/-- Whether a format is one of the MX formats (R173). -/
def isMx (fmt : Nat) : Bool := decide (3 ≤ fmt ∧ fmt ≤ 8)

/-- Bytes of a row ahead of its elements (R173). -/
def TableDesc.ahead (t : TableDesc) : Nat := (if hasHeader t.fmt then 4 else 0) + (if isMx t.fmt then t.dimb else 0)

/-- Bytes of a row (R173). -/
def TableDesc.rowSize (t : TableDesc) : Nat := t.ahead + t.dim * elemBits t.fmt / 8

/-! ### Overlay descriptors and the index, R196–R199 -/

/-- Read an overlay descriptor, with whether its reserved bits are zero (R196). -/
def readOvl (b : List Byte) : OvlDesc × Bool :=
  (⟨leAt b 0 8 % 2 ^ 48, leAt b 8 8 % 2 ^ 48, leAt b 16 3, leAt b 20 1 % 32, leAt b 21 1 % 64, leAt b 22 1 % 128,
    leAt b 24 8, leAt b 32 8 % 2 ^ 48⟩,
   leAt b 0 8 < 2 ^ 48 && leAt b 8 8 < 2 ^ 48 && leAt b 19 1 == 0 && leAt b 20 1 < 32 && leAt b 21 1 < 64
     && leAt b 22 1 < 128 && leAt b 23 1 == 0 && leAt b 32 8 < 2 ^ 48 && leAt b 40 24 == 0)

/-- The 64-bit hash of R170 without its range reduction (R170, R198). -/
def hashMix (x : BitVec 64) : BitVec 64 :=
  let h := (x ^^^ (x >>> 30)) * 0xBF58476D1CE4E5B9#64
  let h := (h ^^^ (h >>> 27)) * 0x94D049BB133111EB#64
  h ^^^ (h >>> 31)

/-- The row a key maps to (R170). -/
def hashRow (k seed rows : Nat) : Nat :=
  (hashMix (BitVec.ofNat 64 k ^^^ BitVec.ofNat 64 seed)).toNat * rows / 2 ^ 64

/-- The two candidate buckets of a row (R198). -/
def OvlDesc.buckets (o : OvlDesc) (r : Nat) : Nat × Nat :=
  let nb := 2 ^ o.log2nb
  let x := BitVec.ofNat 64 r
  let i := BitVec.ofNat 64 o.iseed
  let b1 := (hashMix (x ^^^ i)).toNat % nb
  let b2 := (hashMix (x ^^^ ~~~i)).toNat % nb
  (b1, if b2 = b1 then b1 ^^^ 1 else b2)

/-- An entry of the overlay index (R197). -/
structure OvlEnt where
  row : Nat
  v : Bool
  born : Nat
  slot : Nat
deriving DecidableEq, Repr

/-- The four entries of a bucket (R197). -/
def readBucket (b : List Byte) : List OvlEnt :=
  (List.range 4).map (fun i => ⟨leAt b (16 * i) 5, bit (leAt b (16 * i + 5) 1) 0, leAt b (16 * i + 8) 4, leAt b (16 * i + 12) 3⟩)

/-- The bytes of an entry; an invalid one is all zero (R197). -/
def OvlEnt.bytes (e : OvlEnt) : List Byte :=
  if e.v then toBytes 8 (e.row + 2 ^ 40) ++ toBytes 4 e.born ++ toBytes 4 e.slot else toBytes 16 0

/-- The bytes of a bucket. -/
def bucketBytes (l : List OvlEnt) : List Byte := l.flatMap OvlEnt.bytes

/-- DVA of a bucket (R196). -/
def OvlDesc.bucketAt (o : OvlDesc) (b : Nat) : Nat := o.index + 64 * b

/-- The entry a probe of row `r` under generation `g` takes (R199). -/
def probeEnts (l : List OvlEnt) (r g : Nat) : Option OvlEnt :=
  (l.filter (fun e => e.v && e.row == r && decide (e.born ≤ g))).foldl (fun a e => match a with
    | some b => if b.born < e.born then some e else a
    | none => some e) none

end Sys2Proof.Machine
end

