-- ==== Sys2Proof/Machine/Gather.lean ====
section
/-!
DEFINITION. The shoal engines: the gather tile, deduplication, row fetch, dequantisation, pooling, the accumulator guard and
the output of bags (chapter 06).
-/
namespace Sys2Proof.Machine

/-- Unit identifier of shoal engine `n` (R30). -/
def gpUnit (n : Nat) : Nat := 0x1000 + n
/-- Unit identifier of the dedup slice of a pair (R30). -/
def sliceUnit (pair : Nat) : Nat := 0x2000 + pair

/-- The gather in progress on engine `n`. -/
def gatherOf (s : State) (n : Nat) : Option Gather := tfind s.en.gp (gpUnit n)
/-- The state with the gather of engine `n` set. -/
def setGather (s : State) (n : Nat) (g : Gather) : State := { s with en := { s.en with gp := tput s.en.gp (gpUnit n) g } }

/-- A report of a shoal engine or slice (R190). -/
structure GpNote where
  src : Nat
  reason : Nat
  detail : Nat
  addr : Nat
  /-- Row number, or the value of an index entry; 0 for reasons 0x42 and 0x43. -/
  row : Nat
  ctx : Nat
  table : Nat
deriving DecidableEq, Repr

/-- Capture a report, or note that one was lost (GP_CV_CAP0–GP_CV_CAP4, GP_CV_CAP_STATUS). -/
def captureNote (s : State) (c n : Nat) (x : GpNote) : State :=
  if flag s (F.GP_CV_CAP_STATUS_VALID c) then setFlag s (F.GP_CV_CAP_STATUS_OVERRUN c) true
  else
    let s := setFld (setFld (setFld s (F.GP_CV_CAP0_REASON c) x.reason) (F.GP_CV_CAP0_DETAIL c) x.detail) (F.GP_CV_CAP0_CTX c) x.ctx
    let s := setFld (setFld s (F.GP_CV_CAP1_GP c) n) (F.GP_CV_CAP1_ROW_HI c) (bits x.row 32 8)
    let s := setFld (setFld s (F.GP_CV_CAP2_ROW_LO c) x.row) (F.GP_CV_CAP3_TABLE_LO c) x.table
    setFlag (setFld s (F.GP_CV_CAP4_TABLE_HI c) (x.table / 2 ^ 32)) (F.GP_CV_CAP_STATUS_VALID c) true

/-- Write a report to the cove's wrack queue and capture it (R190). -/
def gpNote (s : State) (c n : Nat) (x : GpNote) : State :=
  report (captureNote s c n x) c ⟨0, false, false, 3, if x.reason = 0x40 then 2 else 1, x.reason, x.addr, 0, x.src, 7, x.detail⟩

/-- Write a report of a gather in progress, at most one of each reason for a tile (R190). -/
def tileNote (s : State) (c n : Nat) (g : Gather) (src reason detail addr row : Nat) : State :=
  if g.noted.contains reason then s
  else gpNote (setGather s n { g with noted := reason :: g.noted }) c n ⟨src, reason, detail, addr, row, g.ctx, g.cmd.table⟩

/-! ### The command, R164–R167 -/

/-- Read a gather command, with whether its reserved bits are zero (R164). -/
def readGather (b : List Byte) : GatherCmd × Bool :=
  let m := leAt b 46 1
  let out := leAt b 32 8
  (⟨leAt b 0 8 % 2 ^ 48, leAt b 8 8 % 2 ^ 48, leAt b 16 8 % 2 ^ 48, leAt b 24 8 % 2 ^ 48, out % 2 ^ 48, leAt b 40 4 % 2 ^ 17,
    leAt b 44 2 % 2 ^ 13, bits m 0 2, bits m 2 2, bit m 4, leAt b 48 4 % 2 ^ 20⟩,
   leAt b 0 8 < 2 ^ 48 && leAt b 8 8 < 2 ^ 48 && leAt b 16 8 < 2 ^ 48 && leAt b 24 8 < 2 ^ 48 && out < 2 ^ 48
     && (!bit m 4 || bits out 7 9 == 0) && leAt b 40 4 < 2 ^ 17 && leAt b 44 2 < 2 ^ 13 && m < 32 && leAt b 47 1 == 0
     && leAt b 48 4 < 2 ^ 20 && leAt b 52 12 == 0)

/-- Bytes of one bag's output (R165). -/
def outSize (dim outf : Nat) : Nat := if outf < 2 then 2 * dim else dim / 32 + dim

/-- Whether a command's output to a port keeps to R385. -/
def portOutOk (x : Step) (out bytes : Nat) : Bool := (x.portOf (bits out 0 7)).isSome && inBuffer (bits out 16 32) bytes

/-- The DETAIL of reason 0x42 that a command and its descriptor earn, the lowest of several, or none (R167). Log entry 33 (DESIGN CHOICE). -/
def gatherFault (x : Step) (k : GatherCmd) (okK : Bool) (t : TableDesc) (okT : Bool) : Option Nat :=
  let size := outSize t.dim k.outf
  if !okK || !okT then some 2
  else if 0xB ≤ t.fmt then some 3
  else if t.dimb = 0 || 128 < t.dimb then some 4
  else if t.stride < t.rowSize || t.stride % 8 != 0 then some 5
  else if t.rows < t.hotCount then some 6
  else if t.fmt = 9 && t.codebook.any (fun l => !(fp16.decode l).finite) then some 7
  else if (k.mode == 2) != (k.wgt != 0) then some 8
  else if 65536 < k.nidx || k.nbag = 0 || 4096 < k.nbag || k.stride < size || k.stride % 64 != 0
      || (k.outk && !portOutOk x k.out ((k.nbag - 1) * k.stride + size)) then some 9
  else none

/-- The first offset that breaks R165, by its place in the list. Log entry 33 (DESIGN CHOICE). -/
def badOffset (ofs : List Nat) (last : Nat) : Option Nat :=
  if ofs.head? != some 0 then some 0
  else match (List.range (ofs.length - 1)).find? (fun i => decide ((ofs[i + 1]?).getD 0 < (ofs[i]?).getD 0)) with
    | some i => some (i + 1)
    | none => if ofs.getLast? = some last then none else some (ofs.length - 1)

/-- A tile that fails before it has begun: a record and status ERROR (R167). Log entry 33 (DESIGN CHOICE). -/
def failStart (s : State) (c n : Nat) (t : OnTile) (k : GatherCmd) (reason detail addr : Nat) : State :=
  gpNote (endTile s (gpUnit n) .error) c n ⟨gpUnit n, reason, detail, addr, 0, t.step.ctx, k.table⟩

/-- The generation a step holds of a table slot (R195). -/
def Step.genOf (x : Step) (slot : Nat) : Nat := tgetD x.vec slot 0

/-- The guard gap of a tile that starts now on engine `n` (R185, GP_GUARD). -/
def guardGap (s : State) (n : Nat) (t : TableDesc) : Option Nat :=
  if flag s (F.GP_GUARD_EN n) then some (if t.guard = 0 then fld s (F.GP_GUARD_GAP n) else t.guard) else none

/-- Begin a gather whose command and descriptor hold: the offsets are read and judged (R165, R189). -/
def beginGather (s : State) (c n : Nat) (t : OnTile) (k : GatherCmd) (d : TableDesc) (o : Option OvlDesc) : Work State := do
  putSt s
  let b ← readAt (engWho c (gpUnit n) t.step.ctx) k.ofs (4 * (k.nbag + 1))
  let s ← getSt
  match b with
  | .error a => pure (failStart s c n t k 0x43 2 a)
  | .ok b =>
    let ofs := (List.range (k.nbag + 1)).map (fun i => leAt b (4 * i) 4)
    match badOffset ofs k.nidx with
    | some i => pure (failStart s c n t k 0x43 4 (k.ofs + 4 * i))
    | none =>
      let g : Gather :=
        { cmd := k, cmdDva := t.tile.cmd, ctx := t.step.ctx, tbl := d, ovl := o,
          gen := (o.map (fun o => t.step.genOf o.tslot)).getD 0, gap := guardGap s n d, offs := ofs, next := 0, passes := 0,
          rows := [], lost := [], occ := [], arrived := [], ahead := none, bags := [], emitted := 0, noted := [] }
      pure (setGather (beginTile s (gpUnit n)) n g)

/-- Read the command and the table descriptor, which are judged, and then the overlay descriptor that the table names (R166, R167,
R196). A read of the command itself that fails ends the tile at once with DETAIL 1 and ADDR 0: no descriptor is read.
Log entry 33 (DESIGN CHOICE). -/
def startGather (c n : Nat) (t : OnTile) : Work State := do
  let w := engWho c (gpUnit n) t.step.ctx
  let kb ← readWork w t.tile.cmd 64
  let (k, okK) := readGather (kb.getD [])
  let tb ← if kb.isNone then pure none else readWork w k.table 128
  let (d, okT) := readTable (tb.getD [])
  let s ← getSt
  if tb.isNone then pure (failStart s c n t k 0x42 1 k.table)
  else match gatherFault t.step k okK d okT with
    | some det => pure (failStart s c n t k 0x42 det k.table)
    | none =>
      if !d.ovl then beginGather s c n t k d none
      else do
        let ob ← readWork w d.ovlDesc 64
        let s ← getSt
        match ob with
        | none => pure (failStart s c n t k 0x42 1 k.table)
        | some b => beginGather s c n t k d (some (readOvl b).1)

/-- GATHER_TILE_START (R167). -/
def execGatherTileStart (gp : Idx64) (s : State) : Ans :=
  let u := gpUnit gp
  match newTile s u, unitOwner s u with
  | some t, some c =>
    if t.eng.abort then atDomain s (unitDomain u) (endTile s u .aborted)
    else atEngine s u (runWork s (startGather c gp t))
  | _, _ => .next s

/-- The tile ends at an input that fails, or an output that is refused (R189). -/
def failGather (s : State) (c n : Nat) (g : Gather) (detail addr : Nat) : State :=
  endTile (tileNote s c n g (gpUnit n) 0x43 detail addr 0) (gpUnit n) .error

/-- A command of a gather in progress, for its owner. Log entry 6 (DESIGN CHOICE). -/
def atGather (s : State) (n : Nat) (f : Nat → OnTile → Gather → Option State) : Ans :=
  let u := gpUnit n
  match liveTile s u, gatherOf s n, unitOwner s u with
  | some t, some g, some c => match f c t g with
    | some s' => atEngine s u s'
    | none => .next s
  | _, _, _ => .next s

/-! ### Deduplication, R170, R171, R184 -/

/-- A pass being built. -/
structure Pass where
  next : Nat
  rows : Tbl (Option (List Word))
  uniq : Nat
  occ : Tbl (Option Nat)
  oor : Nat
  /-- The first entry out of range: its position and its value. -/
  bad : Option (Nat × Nat)
deriving DecidableEq, Repr

/-- Take one index entry into a pass (R170, R171, R184). -/
def Pass.take (p : Pass) (t : TableDesc) (v : Nat) : Pass :=
  let i := p.next
  let p := { p with next := i + 1 }
  if !t.hash && decide (t.rows ≤ v) then
    { p with occ := tput p.occ i none, oor := p.oor + 1, bad := p.bad.or (some (i, v)) }
  else
    let r := if t.hash then hashRow v t.seed t.rows else v
    if thas p.rows r then { p with occ := tput p.occ i (some r) }
    else { p with occ := tput p.occ i (some r), rows := tput p.rows r none, uniq := p.uniq + 1 }

/-- Whether a pass has ended (R171). -/
def Pass.full (p : Pass) (nidx : Nat) : Bool := decide (8192 ≤ p.uniq) || decide (nidx ≤ p.next)

/-- Bytes of an index entry (R164). -/
def TableDesc.idxSize (t : TableDesc) : Nat := if t.idx64 then 8 else 4

/-- Take the entries of a block until the pass ends. -/
def Pass.block (p : Pass) (g : Gather) (b : List Byte) (n : Nat) : Pass :=
  (List.range n).foldl (fun p i =>
    if p.full g.cmd.nidx then p else p.take g.tbl (leAt b (g.tbl.idxSize * i) g.tbl.idxSize)) p

/-- Read index entries line by line until the pass ends, or an entry cannot be read. -/
def readPass (w : Who) (g : Gather) : Nat → Pass → Work (Except Nat Pass)
  | 0, p => pure (.ok p)
  | fuel + 1, p =>
    if p.full g.cmd.nidx then pure (.ok p)
    else do
      let z := g.tbl.idxSize
      let a := g.cmd.idx + z * p.next
      let n := min (g.cmd.nidx - p.next) (max 1 ((64 - a % 64) / z))
      let b ← readAt w a (z * n)
      match b with
      | .error e => pure (.error e)
      | .ok b => readPass w g fuel (p.block g b n)

/-- Whether the slice can build the next pass of a gather: entries remain, and it has none built that the engine has not begun;
the engine pools meanwhile (R171). Log entry 33 (DESIGN CHOICE). -/
def Gather.passDue (g : Gather) : Bool := decide (g.next < g.cmd.nidx) && g.ahead.isNone

/-- The order in which the slice of a pair takes tiles, begun or not: by the start launch of their steps, and of one launch the
lower engine (R171, R189). Log entry 33 (DESIGN CHOICE). -/
def sliceTurn (s : State) (n : Nat) (t : OnTile) : Bool :=
  let m := if n % 2 = 0 then n + 1 else n - 1
  match tileOn s (gpUnit m) with
  | some y =>
    y.eng.fin.isSome || ((gatherOf s m).map (fun h => !h.passDue)).getD false
      || decide (t.step.startAt < y.step.startAt) || (t.step.startAt == y.step.startAt && decide (n < m))
  | none => true

/-- A pass that the slice has built becomes the one the engine fetches and pools, or waits behind it (R171). -/
def Gather.enter (g : Gather) (a : AheadPass) : Gather :=
  if g.occ.isEmpty then { g with rows := a.rows.map (fun r => (r, none)), lost := [], occ := a.occ, arrived := [], ahead := none }
  else { g with ahead := some a }

/-- The state with the gather of an engine set, and the urgency its row buffer then calls for (R163, R281). -/
def setFill (s : State) (n : Nat) (g : Gather) : State := presentUrg (setGather s n g) (128 + n) g.urg

/-- The counters of a pass (R171, R184). -/
def countPass (s : State) (c n : Nat) (g : Gather) (p : Pass) : State :=
  let k := n / 4
  let keys := p.next - g.next
  let s := addCtr (addCtr s (C.GP_CV_DD_KEYS c) keys) (C.GP_CV_DD_UNIQ c) p.uniq
  let s := addCtr s (C.HD_UNIQ k) p.uniq
  let s := if g.tbl.hash then addCtr s (C.HD_KEYS k) keys else s
  let s := if g.passes = 0 then s else incCtr (incCtr s (C.GP_CV_SPLIT c)) (C.HD_SPLIT k)
  addCtr s (C.GP_CV_IDXOOR c) p.oor

/-- Build the next pass of a gather (R171). -/
def dedupPass (c n : Nat) (g : Gather) : Work State := do
  let p ← readPass (engWho c (gpUnit n) g.ctx) g g.cmd.nidx ⟨g.next, [], 0, [], 0, none⟩
  let s ← getSt
  match p with
  | .error a => pure (failGather s c n g 1 a)
  | .ok p =>
    let g' := { g with next := p.next, passes := g.passes + 1 }.enter ⟨p.rows.map Prod.fst, p.occ⟩
    let s := countPass (setFill s n g') c n g p
    pure (match p.bad with
      | some (i, v) => tileNote s c n g' (sliceUnit (n / 2)) 0x41 0 (g.cmd.idx + g.tbl.idxSize * i) v
      | none => s)

/-- DEDUP_PASS (R171); hashing needs the shared hash unit's domain to run (R162). -/
def execDedupPass (gp : Idx64) (s : State) : Ans :=
  atGather s gp (fun c t g =>
    if g.passDue && sliceTurn s gp t && (!g.tbl.hash || running s (80 + gp.val / 8)) then some (runWork s (dedupPass c gp g))
    else none)

/-! ### Row fetch and dequantisation, R168, R173–R179, R182, R183 -/

/-- What the fetch of a row gives. -/
inductive RowGot where
  | lanes (l : List Fp)
  /-- Quarantined, with the DETAIL (R182). -/
  | quarantine (detail : Nat)
  /-- A line completed with error status (R183). -/
  | failed
deriving DecidableEq, Repr

/-- A fetched row with the counts that belong to it, and the DVA of its header. -/
structure Fetched where
  got : RowGot
  hot : Bool
  ovl : Bool
  esc : Bool
  /-- Rows read, escape rows included. -/
  reads : Nat
  eesc : Nat
  addr : Nat
deriving DecidableEq, Repr

/-- Element `i` of packed elements of `w` bits (R174). -/
def elemAt (x w i : Nat) : Nat := bits x (w * i) w

/-- The values of FP16 elements (R177, R178). -/
def fp16Row (b : List Byte) (n : Nat) : List Fp := (List.range n).map (fun i => fp16.decode (leAt b (2 * i) 2))

/-- The element format of an MX format (R173, R175). -/
def mxFmt (fmt : Nat) : Fmt :=
  if fmt = 3 then e4m3 else if fmt = 4 then e5m2 else if fmt = 5 then e3m2 else if fmt = 6 then e2m3 else e2m1

/-- The value of an MX element (R175). -/
def mxElem (fmt x : Nat) : Fp := if fmt = 8 then int8Val x else (mxFmt fmt).decode x

/-- Dequantise a row of an MX format (R175, R179, R182). -/
def mxRow (t : TableDesc) (b : List Byte) : RowGot :=
  if (List.range t.dimb).any (fun j => leAt b (4 + j) 1 == 0xFF) then .quarantine 3
  else
    let x := ofBytes ((b.drop t.ahead).take (t.rowSize - t.ahead))
    let w := elemBits t.fmt
    .lanes ((List.range t.dim).map (fun i =>
      ((mxElem t.fmt (elemAt x w i)).mul (pow2 ((leAt b (4 + i / 32) 1 : Int) - 127))).narrow))

/-- Dequantise a row of PT3 (R175, R179). -/
def pt3Row (t : TableDesc) (b : List Byte) : RowGot :=
  let x := ofBytes ((b.drop 4).take (t.rowSize - 4))
  let sc := e4m3.decode (leAt b 0 1)
  .lanes ((List.range t.dim).map (fun i => ((fp16.decode ((t.codebook[elemAt x 3 i]?).getD 0)).mul sc).narrow))

/-- The level of a PT2 code other than the element escape (R175). -/
def pt2Level (x : Nat) : Fp := if x = 1 then .fin false 1 0 else if x = 2 then .fin true 1 0 else .zero

/-- Values of PT2 codes, with the escaped elements in order (R178, R179). -/
def pt2Vals (sc : Fp) : List Nat → List Fp → List Fp
  | [], _ => []
  | x :: xs, es =>
    if x = 3 then (es.head?.getD .zero) :: pt2Vals sc xs es.tail
    else ((pt2Level x).mul sc).narrow :: pt2Vals sc xs es

/-- Codes of a PT2 row (R174). Log entry 33 (DESIGN CHOICE). -/
def pt2Codes (t : TableDesc) (b : List Byte) : List Nat :=
  let x := ofBytes ((b.drop 4).take (t.rowSize - 4))
  (List.range t.dim).map (elemAt x 2)

/-- Dequantise a PT2 row, reading its element escape cell (R178, R179, R182). Answers the row and the escapes applied. -/
def pt2Row (w : Who) (t : TableDesc) (b : List Byte) : Work (RowGot × Nat) := do
  let codes := pt2Codes t b
  let n := codes.countP (· == 3)
  let idx := leAt b 0 4 / 512
  let sc := e4m3.decode (leAt b 0 1)
  if idx = 0 then pure (if n = 0 then .lanes (pt2Vals sc codes []) else .quarantine 4, 0)
  else if t.ecells ≤ idx - 1 then pure (.quarantine 4, 0)
  else do
    let cell ← readWork w (t.ecellBase + 32 * (idx - 1)) 32
    match cell with
    | none => pure (.failed, 0)
    | some cell =>
      if leAt cell 0 1 != n || 15 < n then pure (.quarantine 4, 0)
      else pure (.lanes (pt2Vals sc codes (fp16Row (cell.drop 2) 15)), n)

/-- Dequantise the bytes of a row that is not escaped (R173–R179). Of several causes of quarantine the scale's is reported
(R182). Log entry 33 (DESIGN CHOICE). -/
def dequant (w : Who) (t : TableDesc) (b : List Byte) : Work (RowGot × Nat) :=
  let rs := leAt b 0 1
  if t.fmt = 0 then pure (.lanes ((List.range t.dim).map (fun i => fp32.decode (leAt b (4 * i) 4))), 0)
  else if t.fmt = 1 then pure (.lanes ((List.range t.dim).map (fun i => bf16.decode (leAt b (2 * i) 2))), 0)
  else if t.fmt = 2 then pure (.lanes (fp16Row b t.dim), 0)
  else if t.fmt ≤ 8 then pure (mxRow t b, 0)
  else if rs % 128 = 0 then pure (.quarantine 1, 0)
  else if e4m3.decode rs = .nan then pure (.quarantine 2, 0)
  else if t.fmt = 9 then pure (pt3Row t b, 0)
  else pt2Row w t b

/-- The overlay entry a row is found in at the tile's generation; an error when a bucket cannot be read (R168, R199). -/
def probeOvl (w : Who) (g : Gather) (r : Nat) : Work (Option (Option OvlEnt)) :=
  match g.ovl with
  | none => pure (some none)
  | some o => do
    let (b1, b2) := o.buckets r
    let x ← readWork w (o.bucketAt b1) 64
    let y ← readWork w (o.bucketAt b2) 64
    match x, y with
    | some x, some y => pure (some (probeEnts (readBucket x ++ readBucket y) r g.gen))
    | _, _ => pure none

/-- Read an escape row (R177). -/
def fetchEsc (w : Who) (t : TableDesc) (idx : Nat) : Work RowGot := do
  let b ← readWork w (t.escBase + idx * 2 * t.dim) (2 * t.dim)
  pure (match b with | some b => .lanes (fp16Row b t.dim) | none => .failed)

/-- Fetch and dequantise one unique row; an escaped row is judged by IDX alone (R168, R177, R182). Log entry 33 (DESIGN CHOICE). -/
def fetchRow (w : Who) (g : Gather) (r : Nat) : Work Fetched := do
  let t := g.tbl
  let e ← probeOvl w g r
  match e with
  | none => pure ⟨.failed, false, false, false, 0, 0, 0⟩
  | some e =>
    let hot := e.isNone && decide (r < t.hotCount)
    let addr := match e, g.ovl with
      | some e, some o => o.arena + e.slot * t.stride
      | _, _ => (if r < t.hotCount then t.hotBase else t.base) + r * t.stride
    let b ← readWork w addr t.rowSize
    match b with
    | none => pure ⟨.failed, hot, e.isSome, false, 1, 0, addr⟩
    | some b =>
      let h := leAt b 0 4
      if hasHeader t.fmt && bit h 8 then
        if t.escRows ≤ h / 512 then pure ⟨.quarantine 5, hot, e.isSome, false, 1, 0, addr⟩
        else do
          let x ← fetchEsc w t (h / 512)
          pure ⟨x, hot, e.isSome, true, 2, 0, addr⟩
      else do
        let (x, n) ← dequant w t b
        pure ⟨x, hot, e.isSome, false, 1, n, addr⟩

/-- Occurrences of a row in the present pass. -/
def Gather.occurs (g : Gather) (r : Nat) : Nat := g.occ.countP (fun e => e.2 == some r)

/-- The counters of a fetch (R168, GP_CV_). Log entry 33 (DESIGN CHOICE). -/
def countFetch (s : State) (c n : Nat) (f : Fetched) : State :=
  let s := addCtr s (C.GP_FETCH n) f.reads
  let s := if f.hot then incCtr s (C.GP_CV_HOTHIT c) else s
  let s := if f.ovl then incCtr s (C.GP_CV_OVLHIT c) else s
  let s := if f.esc then incCtr s (C.GP_CV_ESC c) else s
  addCtr s (C.GP_CV_EESC c) f.eesc

/-- A unique row arrives, after those that have: its lanes are kept, or it is lost for this pass (R168, R181–R183). -/
def arriveRow (s : State) (c n : Nat) (g : Gather) (r : Nat) (f : Fetched) : State :=
  let s := countFetch s c n f
  let k := g.occurs r
  let g := { g with arrived := g.arrived ++ [r] }
  match f.got with
  | .lanes l => setFill s n { g with rows := tput g.rows r (some (l.map toLane)) }
  | .quarantine d =>
    let g := { g with lost := tput g.lost r true }
    let s := addCtr (addCtr (setFill s n g) (C.GP_CV_QUAR c) k) (C.GP_QUAR n) k
    tileNote s c n g (gpUnit n) 0x40 d f.addr r
  | .failed => addCtr (setFill s n { g with lost := tput g.lost r false }) (C.GP_CV_ROWERR c) k

/-- ROW_FETCH_DONE (R168). -/
def execRowFetchDone (gp : Idx64) (row : BitVec 40) (s : State) : Ans :=
  atGather s gp (fun c _ g =>
    if tfind g.rows row.toNat == some none && !thas g.lost row.toNat then
      some (runWork s (do
        let f ← fetchRow (engWho c (gpUnit gp) g.ctx) g row.toNat
        let s ← getSt
        pure (arriveRow s c gp g row.toNat f)))
    else none)

/-! ### Pooling, R180, R185 -/

/-- The bag an index position belongs to (R165). -/
def Gather.bagOf (g : Gather) (pos : Nat) : Option Nat :=
  (List.range g.cmd.nbag).find? (fun b => decide ((g.offs[b]?).getD 0 ≤ pos) && decide (pos < (g.offs[b + 1]?).getD 0))

/-- Occurrences of a bag (R165). -/
def Gather.bagLen (g : Gather) (b : Nat) : Nat := (g.offs[b + 1]?).getD 0 - (g.offs[b]?).getD 0

/-- A bag before its first occurrence (R180). -/
def Bag.new (dim : Nat) : Bag := ⟨.pooling, List.replicate dim 0, List.replicate dim (-150), []⟩

/-- Pool one occurrence into a lane (R180). -/
def poolLane (mode : Nat) (first : Bool) (acc v w : Fp) : Fp :=
  if mode = 2 then fmaLane v w acc
  else if mode = 3 then (if first then v else acc.maxNum v)
  else addLane acc v

/-- The largest exponent of a lane's running value; a value that is not finite takes no part (R185). -/
def growExpo (m : Int) (x : Fp) : Int := if x.finite then max m x.expo else m

/-- Pool one occurrence into a bag (R180, R185). -/
def Bag.pool (x : Bag) (mode : Nat) (o : Occ) : Bag :=
  let w := laneVal o.wgt
  let acc := List.zipWith (fun a v => toLane (poolLane mode x.occs.isEmpty (laneVal a) (laneVal v) w)) x.acc o.lanes
  { x with acc := acc, emax := List.zipWith (fun m a => growExpo m (laneVal a)) x.emax acc, occs := x.occs ++ [o] }

/-- The lanes an index position of the pass yields: its row's, or zeros for a row that yields none; nothing while the row has
not arrived (R180). -/
def Gather.yields (g : Gather) : Option Nat → Option (List Word)
  | none => some (List.replicate g.tbl.dim 0)
  | some r => if thas g.lost r then some (List.replicate g.tbl.dim 0) else (tfind g.rows r).bind id

/-- Whether the occurrences of a row are the next to be pooled: the row arrived before the others that wait; an index out of range
waits for no row (R181, R184). Log entry 33 (DESIGN CHOICE). -/
def Gather.next? (g : Gather) : Option Nat → Bool
  | some r => g.arrived.head? == some r
  | none => true

/-- The gather after an occurrence has been pooled: a row goes with its last one, and after the pass's last one the pass that was
built ahead begins (R163, R171, R181). -/
def Gather.pooled (g : Gather) (pos : Nat) : Gather :=
  let occ := tdel g.occ pos
  let g := { g with occ := occ, arrived := g.arrived.filter (fun r => occ.any (fun e => e.2 == some r)) }
  match g.ahead with
  | some a => if occ.isEmpty then g.enter a else g
  | none => g

/-- The weight of an index position (R164). -/
def readWeight (w : Who) (g : Gather) (pos : Nat) : Work (Except Nat Word) :=
  if g.cmd.mode = 2 then do
    let b ← readAt w (g.cmd.wgt + 4 * pos) 4
    pure (b.map (fun b => BitVec.ofNat 32 (leAt b 0 4)))
  else pure (.ok 0)

/-- Pool the occurrence at an index position; it is noted whether its row was lost (R180, R186). -/
def poolAt (c n : Nat) (g : Gather) (pos b : Nat) (row : Option Nat) (l : List Word) : Work State := do
  let w ← readWeight (engWho c (gpUnit n) g.ctx) g pos
  let s ← getSt
  match w with
  | .error a => pure (failGather s c n g 3 a)
  | .ok w =>
    let x := tgetD g.bags b (Bag.new g.tbl.dim)
    let g' := { g with bags := tput g.bags b (x.pool g.cmd.mode ⟨row, l, w, (row.map (thas g.lost)).getD false⟩) }.pooled pos
    pure (incCtr (incCtr (setFill s n g') (C.GP_CV_ROWS c)) (C.GP_ROWS n))

/-- ROW_POOL: one occurrence of the row that arrived first is pooled (R180, R181). Log entry 33 (DESIGN CHOICE). -/
def execRowPool (gp : Idx64) (pos : BitVec 17) (s : State) : Ans :=
  atGather s gp (fun c _ g =>
    match tfind g.occ pos.toNat, g.bagOf pos.toNat with
    | some r, some b => if !g.next? r then none else (g.yields r).map (fun l => runWork s (poolAt c gp g pos.toNat b r l))
    | _, _ => none)

/-- Whether the guard asks for a replay of a bag (R185). -/
def Gather.guardFires (g : Gather) (x : Bag) : Bool :=
  match g.gap with
  | none => false
  | some k => g.cmd.mode != 3 && (List.zip x.emax x.acc).any (fun e =>
      let v := laneVal e.2
      v.finite && decide ((k : Int) < e.1 - v.expo))

/-- The lanes of a bag after its last occurrence: for the mean, divided by the number of occurrences (R180). -/
def Gather.settled (g : Gather) (b : Nat) (acc : List Word) : List Word :=
  if g.cmd.mode = 1 then acc.map (fun a => toLane (divLane (laneVal a) (g.bagLen b))) else acc

/-- BAG_END: every occurrence of a bag is pooled, and the guard decides on a replay; a tile told to abort ends here
(R180, R185, R189). Log entry 33 (DESIGN CHOICE). -/
def execBagEnd (gp : Idx64) (bag : BitVec 12) (s : State) : Ans :=
  atGather s gp (fun _ t g =>
    let b := bag.toNat
    let x := tgetD g.bags b (Bag.new g.tbl.dim)
    if g.cmd.nbag ≤ b || b < g.emitted || x.ph != .pooling || x.occs.length != g.bagLen b then none
    else if t.eng.abort then some (endTile s (gpUnit gp) .aborted)
    else
      let y := if g.guardFires x then { x with ph := .replay } else { x with ph := .ready, acc := g.settled b x.acc }
      some (setGather s gp { g with bags := tput g.bags b y }))

/-! ### Replay, R186 -/

/-- A lane of a replay: the pair after one more value (R186). -/
def pairAdd (p : Fp × Fp) (v : Fp) : Fp × Fp := let (h, t) := twoSum p.1 v; (h, addLane p.2 t)

/-- A lane of a replay after one occurrence (R186). -/
def pairStep (mode : Nat) (p : Fp × Fp) (v w : Fp) : Fp × Fp :=
  if mode = 2 then
    let q := (v.mul w).narrow
    let e := fmaLane v w q.neg
    let p := pairAdd p q
    (p.1, addLane p.2 e)
  else pairAdd p v

/-- The lanes of a replayed bag, before any division (R186). -/
def replayLanes (mode dim : Nat) (occs : List Occ) : List Word :=
  let start : List (Fp × Fp) := List.replicate dim (Fp.zero, Fp.zero)
  (occs.foldl (fun ps o => List.zipWith (fun p v => pairStep mode p (laneVal v) (laneVal o.wgt)) ps o.lanes) start).map
    (fun p => toLane (addLane p.1 p.2))

/-- Fetch rows again, each once (R186). -/
def refetchRows (w : Who) (g : Gather) : List Nat → Work (Tbl Fetched)
  | [] => pure []
  | r :: rs => do
    let f ← fetchRow w g r
    let t ← refetchRows w g rs
    pure (tput t r f)

/-- An occurrence with the lanes that its row yields when it is fetched again; what yields none yields zeros. One whose row was lost
at first and reads well now is pooled with what was read now (R180, R186). Log entry 33 (DESIGN CHOICE). -/
def Occ.again (o : Occ) (dim : Nat) (t : Tbl Fetched) : Occ :=
  match o.row.bind (tfind t) with
  | some f => { o with lanes := match f.got with | .lanes l => l.map toLane | _ => List.replicate dim 0 }
  | none => o

/-- Whether the row buffer still holds the rows of a bag (R186). -/
def Gather.buffered (g : Gather) (x : Bag) : Bool := decide (x.occs.length * g.tbl.dim * 4 ≤ 131072)

/-- A row that the second fetch loses: occurrences that the first had not lost count, and a quarantine is recorded; what was lost
already is not counted again (R182, R183, R186). Log entry 33 (DESIGN CHOICE). -/
def lostAgain (c n : Nat) (x : Bag) (s : State) (e : Nat × Fetched) : State :=
  let k := x.occs.countP (fun o => o.row == some e.1 && !o.lost)
  if k = 0 then s
  else match e.2.got with
    | .lanes _ => s
    | .quarantine d =>
      let s := addCtr (addCtr s (C.GP_CV_QUAR c) k) (C.GP_QUAR n) k
      match gatherOf s n with
      | some g => tileNote s c n g (gpUnit n) 0x40 d e.2.addr e.1
      | none => s
    | .failed => addCtr s (C.GP_CV_ROWERR c) k

/-- Replay a bag, from the row buffer or from rows fetched again, which are counted (R168, R186). -/
def replayBag (c n : Nat) (g : Gather) (b : Nat) (x : Bag) : Work State := do
  let t ← if g.buffered x then pure [] else refetchRows (engWho c (gpUnit n) g.ctx) g (x.occs.filterMap (·.row)).dedup
  let s ← getSt
  let acc := g.settled b (replayLanes g.cmd.mode g.tbl.dim (x.occs.map (fun o => o.again g.tbl.dim t)))
  let s := setGather s n { g with bags := tput g.bags b { x with ph := .ready, acc := acc } }
  let s := t.foldl (fun s e => lostAgain c n x (countFetch s c n e.2) e) s
  pure (incCtr (incCtr s (C.GP_CV_REPLAY c)) (C.GP_REPLAY n))

/-- BAG_REPLAY_DONE (R186). -/
def execBagReplayDone (gp : Idx64) (bag : BitVec 12) (s : State) : Ans :=
  atGather s gp (fun c _ g =>
    match tfind g.bags bag.toNat with
    | some x => if x.ph == .replay then some (runWork s (replayBag c gp g bag.toNat x)) else none
    | none => none)

/-! ### Output, R165, R169, R187, R188 -/

/-- A lane as two bytes, and whether a finite value became infinite; the NaN that comes out is a free one (R187, R188).
Log entries 2 (DESIGN CHOICE), 34 (DESIGN CHOICE). -/
def out16 (f : Fmt) (s : State) (x : Fp) : List Byte × Bool × State :=
  match x with
  | .nan =>
    let (r, s) := drawFree s 16
    (toBytes 2 (r.toNat / 2 ^ (f.mb + f.eb) * 2 ^ (f.mb + f.eb) + f.infCode + 2 ^ (f.mb - 1) + r.toNat % 2 ^ (f.mb - 1)), false, s)
  | x => let (c, o) := f.encode x; (toBytes 2 c, o, s)

/-- The bytes of a list of lanes as BF16 or FP16 (R188). -/
def outRow16 (f : Fmt) : State → List Fp → List Byte × Bool × State
  | s, [] => ([], false, s)
  | s, x :: xs =>
    let (b, o, s) := out16 f s x
    let (bs, os, s) := outRow16 f s xs
    (b ++ bs, o || os, s)

/-- The largest magnitude of a list of finite values. Log entry 34 (DESIGN CHOICE). -/
def amax (l : List Fp) : Nat × Int :=
  l.foldl (fun a x => match x with
    | .fin _ m e => if (Fp.fin false a.1 a.2).lt (.fin false m e) then (m, e) else a
    | _ => a) (0, 0)

/-- A block of 32 lanes as MXFP8: its scale byte and its elements. A block with an infinite lane, for which no rule states a
result, is free (R188). Log entries 2 (DESIGN CHOICE), 34 (DESIGN CHOICE). -/
def outBlock (f : Fmt) (top largest : Nat) (s : State) (l : List Fp) : Byte × List Byte × State :=
  if l.any (· == .nan) then (0xFF, List.replicate 32 0, s)
  else if l.any (fun x => !x.finite) then
    let (r, s) := drawFree s 264
    (r.setWidth 8, toBytes 32 (r.toNat / 256), s)
  else
    let (m, e) := amax l
    let x : Int := if m = 0 then -127 else log2Of m e - top
    (BitVec.ofNat 8 (min 254 (max 0 (x + 127))).toNat,
     l.map (fun y => match y with
       | .fin n m e => BitVec.ofNat 8 (f.clamp largest n m (e - x))
       | _ => 0), s)

/-- The blocks of a bag as MXFP8: the scale bytes, then the elements (R165, R188). -/
def outBlocks (f : Fmt) (top largest : Nat) (l : List Fp) : List Nat → State → List Byte × List Byte × State
  | [], s => ([], [], s)
  | j :: js, s =>
    let (c, b, s) := outBlock f top largest s ((l.drop (32 * j)).take 32)
    let (cs, bs, s) := outBlocks f top largest l js s
    (c :: cs, b ++ bs, s)

/-- The bytes of a bag's output, whether a finite lane overflowed, and the state with its free values drawn (R188). -/
def outBytes (s : State) (g : Gather) (l : List Fp) : List Byte × Bool × State :=
  if g.cmd.outf = 0 then outRow16 bf16 s l
  else if g.cmd.outf = 1 then outRow16 fp16 s l
  else
    let (cs, bs, s) := if g.cmd.outf = 2 then outBlocks e4m3 8 0x7E l (List.range g.tbl.dimb) s
      else outBlocks e5m2 15 0x7B l (List.range g.tbl.dimb) s
    (cs ++ bs, false, s)

/-- A bag has been emitted; after the last one the tile ends, and completes once its deliveries have arrived (R169, R385). -/
def emitted (s : State) (n : Nat) (g : Gather) : State :=
  let g' := { g with bags := tdel g.bags g.emitted, emitted := g.emitted + 1 }
  let s := setGather s n g'
  if g.cmd.nbag ≤ g'.emitted then endTile s (gpUnit n) .done else s

/-- Emit the next bag: to memory, or on its way to a port (R165, R169, R187, R188). -/
def emitBag (c n : Nat) (t : OnTile) (g : Gather) (x : Bag) : Work State := do
  let s ← getSt
  let l := x.acc.map laneVal
  let (b, ovf, s) := outBytes s g l
  putSt s
  let off := g.emitted * g.cmd.stride
  let ok ← if g.cmd.outk then pure true else writeWork (engWho c (gpUnit n) g.ctx) (g.cmd.out + off) b
  let s ← getSt
  if !ok then pure (failGather s c n g 5 (g.cmd.out + off))
  else
    let s := incCtr s (C.GP_CV_BAGS c)
    let s := if l.any (fun y => !y.finite) then incCtr s (C.GP_CV_NONFIN c) else s
    let s := if ovf then incCtr s (C.GP_CV_OUTOVF c) else s
    let s := if g.cmd.outk then
        sendDelivery s ⟨gpUnit n, t.eng.step, bits g.cmd.out 0 7, bits g.cmd.out 16 32 + off, b⟩
      else s
    pure (emitted s n g)

/-- BAG_OUTPUT: the next bag in order is emitted once it is ready; a tile told to abort ends here (R169, R188, R189).
Log entry 33 (DESIGN CHOICE). -/
def execBagOutput (gp : Idx64) (s : State) : Ans :=
  atGather s gp (fun c t g =>
    match tfind g.bags g.emitted with
    | some x =>
      if x.ph != .ready then none
      else if t.eng.abort then some (endTile s (gpUnit gp) .aborted)
      else some (runWork s (emitBag c gp t g x))
    | none => none)

/-! ### Hash arbitration, R172 -/

/-- Whether two different coves own the pairs of a dedup engine (R172). Log entry 33 (DESIGN CHOICE). -/
def splitOwned (s : State) (k : Nat) : Bool :=
  match ownerOf s kSH (2 * k), ownerOf s kSH (2 * k + 1) with
  | some a, some b => a != b
  | _, _ => false

/-- HD_CTL_ARB (R172). -/
def execHdCtlArb (q : Requester) (k : Fin 16) (on : Bool) (s : State) : Ans :=
  atFabric s q
    (if on then setFlag s (F.HD_CTL_ARB k) true
     else if splitOwned s k then setFlag s (F.HD_STATUS_ARB_REF k) true
     else setFlag s (F.HD_CTL_ARB k) false)

end Sys2Proof.Machine
end

