-- ==== Sys2Proof/Machine/Tables.lean ====
section
/-!
DEFINITION. Live table updates: binding, delta tiles, the insertion into the overlay index, flips, reclaim, limbo and
compaction (R193–R207).
-/
namespace Sys2Proof.Machine

/-- Unit identifier of table update engine `n` (R30). -/
def tuUnit (n : Nat) : Nat := 0x4000 + n

/-- A bound slot of a cove. -/
def tabOf (s : State) (c i : Nat) : Option TSlot := tfind s.en.slots (c * 64 + i)
/-- The state with a bound slot set. -/
def setTab (s : State) (c i : Nat) (x : TSlot) : State :=
  { s with en := { s.en with slots := tput s.en.slots (c * 64 + i) x } }
/-- The state with a bound slot changed. -/
def modTab (s : State) (c i : Nat) (f : TSlot → TSlot) : State :=
  { s with en := { s.en with slots := tmod s.en.slots (c * 64 + i) f } }

/-- Live steps of the cove that hold PUB - 1 of a slot (R195). -/
def pinOld (s : State) (c i : Nat) (pub : Nat) : Nat :=
  if pub = 0 then 0
  else (stepsWhere s (fun x => x.cove == c && x.started && x.genOf i == pub - 1)).length

/-- The oldest generation held (R206). -/
def oldestHeld (s : State) (c i : Nat) (x : TSlot) : Nat := if pinOld s c i x.pub = 0 then x.pub else x.pub - 1

/-- Who accesses for a bound slot: its engine under the table's context. -/
def slotWho (c : Nat) (x : TSlot) : Who := engWho c (tuUnit x.eng) x.ctx

/-- Published entries of a table (R207). -/
def TSlot.published (x : TSlot) : Nat := x.entries - x.pending

/-! ### Slot operations, R193, R194, R203 -/

/-- The end of a slot operation: DONE, or ERR with a code (TU_BIND_STATUS). -/
def bindEnd (s : State) (code : Nat) : State :=
  let s := setFlag { s with en := { s.en with bind := none } } F.TU_BIND_STATUS_BUSY false
  if code = 0 then setFld (setFlag s F.TU_BIND_STATUS_DONE true) F.TU_BIND_STATUS_CODE 0
  else setFld (setFlag s F.TU_BIND_STATUS_ERR true) F.TU_BIND_STATUS_CODE code

/-- A slot operation is taken unless one is running (TU_BIND_STATUS.BUSY). -/
def slotOp (s : State) (q : Requester) (f : State → State) : Ans :=
  atFabric s q (if s.en.bind.isSome then s else f s)

/-- TU_BIND: the slot must be free and the engine the cove's; the engine then reads the descriptors (R193). -/
def execTuBind (q : Requester) (c : CoveId) (slot : Idx64) (ctx : BitVec 12) (eng : Fin 8) (s : State) : Ans :=
  slotOp s q (fun s =>
    if (tabOf s c slot).isSome then bindEnd s 1
    else if !coveExists s c || ownerOf s kTU eng != some c.val then bindEnd s 2
    else
      let b : Bind := ⟨1, c, slot, ctx.toNat, eng, fld64 s F.TU_BIND_DESC_LO_DVA_LO F.TU_BIND_DESC_HI_DVA_HI⟩
      setFlag { s with en := { s.en with bind := some b } } F.TU_BIND_STATUS_BUSY true)

/-- Whether a table descriptor and its overlay descriptor can be bound to a slot (R166, R167, R193, R196). Log entry 35 (DESIGN CHOICE). -/
def bindable (slot : Nat) (t : TableDesc) (okT : Bool) (o : OvlDesc) (okO : Bool) : Bool :=
  okT && okO && t.ovl && decide (t.fmt < 0xB) && decide (1 ≤ t.dimb ∧ t.dimb ≤ 128) && decide (t.rowSize ≤ t.stride)
    && t.stride % 8 == 0 && decide (t.hotCount ≤ t.rows) && t.ovlDesc % 64 == 0 && o.index % 64 == 0 && o.freemap % 8 == 0
    && decide (1 ≤ o.arenaRows) && decide (4 ≤ o.log2nb ∧ o.log2nb ≤ 20) && o.tslot == slot && decide (o.compact ≤ 100)

/-- Write `n` bytes of zeros from a DVA, line by line; false when a line is refused. -/
def zeroBytes (w : Who) (dva : Nat) : Nat → Nat → Work Bool
  | 0, _ => pure true
  | fuel + 1, n =>
    if n = 0 then pure true
    else do
      let k := min n (64 - dva % 64)
      let ok ← writeWork w dva (toBytes k 0)
      if ok then zeroBytes w (dva + k) fuel (n - k) else pure false

/-- The bind: descriptors read, index and free map zero-filled, PUB 0, BOUND (R193). A refused write of the fill refuses the
bind as well. Log entry 35 (DESIGN CHOICE). -/
def doBind (b : Bind) : Work State := do
  let w := engWho b.cove (tuUnit b.eng) b.ctx
  let tb ← readWork w b.desc 128
  let (t, okT) := readTable (tb.getD [])
  let ob ← if tb.isSome then readWork w t.ovlDesc 64 else pure none
  let (o, okO) := readOvl (ob.getD [])
  if tb.isNone || ob.isNone || !bindable b.slot t okT o okO || b.desc % 64 != 0 then do
    let s ← getSt
    pure (bindEnd s 3)
  else do
    let n1 := 64 * 2 ^ o.log2nb
    let n2 := (o.arenaRows + 7) / 8
    let ok1 ← zeroBytes w o.index (n1 / 64 + 1) n1
    let ok2 ← zeroBytes w o.freemap (n2 / 64 + 2) n2
    let s ← getSt
    if !ok1 || !ok2 then pure (bindEnd s 3)
    else
      let x : TSlot :=
        { eng := b.eng, ctx := b.ctx, desc := b.desc, tbl := t, ovl := o, pub := 0, incomplete := false, compacting := false,
          auto := false, folding := none, skip := [], entries := 0, pending := 0 }
      pure (bindEnd (setTab s b.cove b.slot x) 0)

/-- Whether a delta tile of a slot is in progress (R204). -/
def deltaRuns (s : State) (c i : Nat) : Bool := s.en.tu.any (fun e => e.2.tslot == i && unitOwner s e.1 == some c)

/-- Whether OP 2 or 3 is refused with code 4 (TU_BIND_STATUS). -/
def slotPinned (s : State) (c i : Nat) (x : TSlot) : Bool :=
  pinOld s c i x.pub != 0 || deltaRuns s c i || thas s.en.flips c

/-- Whether a move folds a row of a table slot (R207). -/
def Move.folds (m : Move) (c i : Nat) : Bool := m.cove == c && match m.kind with | .compaction j _ => j == i | _ => false

/-- Forget a bound slot, its arena slots in limbo and its compaction moves. Log entry 35 (DESIGN CHOICE). -/
def dropSlot (s : State) (c i : Nat) : State :=
  { s with en := { s.en with
      slots := tdel s.en.slots (c * 64 + i),
      moves := s.en.moves.filter (fun m => !m.folds c i),
      limbo := filterTbl s.en.limbo (fun l => !(l.cove == c && l.slot == i)) } }

/-- TU_UNBIND (R194). -/
def execTuUnbind (q : Requester) (c : CoveId) (slot : Idx64) (s : State) : Ans :=
  slotOp s q (fun s => match tabOf s c slot with
    | none => bindEnd s 1
    | some x => if slotPinned s c slot x then bindEnd s 4 else bindEnd (dropSlot s c slot) 0)

/-! ### Buckets, limbo and reclaim, R206 -/

/-- Send an arena slot to its engine's limbo, where it waits for the drain of the cove's next edge (R206). -/
def toLimbo (s : State) (c i eng arena : Nat) : State :=
  let l : Limbo := ⟨c, i, arena, tideCount s c + 1⟩
  { s with en := { s.en with limbo := tput s.en.limbo eng (tgetD s.en.limbo eng [] ++ [l]) } }

/-- Whether an engine's limbo, which holds 65,536 slots, has room for `n` more (R206). -/
def limboRoom (s : State) (eng n : Nat) : Bool := decide ((tgetD s.en.limbo eng []).length + n ≤ 65536)

/-- Whether an engine's limbo is full (R206). Log entry 35 (DESIGN CHOICE). -/
def limboFull (s : State) (eng : Nat) : Bool := !limboRoom s eng 1

/-- Read a bucket; nothing when it cannot be read. -/
def getBucket (w : Who) (o : OvlDesc) (b : Nat) : Work (Option (List OvlEnt)) := do
  let x ← readWork w (o.bucketAt b) 64
  pure (x.map readBucket)

/-- Both buckets of a row, with bucket `b` taken as `ents` where it is one of them. -/
def rowEnts (w : Who) (o : OvlDesc) (b : Nat) (ents : List OvlEnt) (r : Nat) : Work (List OvlEnt) := do
  let (b1, b2) := o.buckets r
  let x ← if b1 = b then pure (some ents) else getBucket w o b1
  let y ← if b2 = b then pure (some ents) else getBucket w o b2
  pure (x.getD [] ++ y.getD [])

/-- Whether an entry is reclaimable, given the entries of its row (R206). -/
def reclaimable (oldest : Nat) (l : List OvlEnt) (e : OvlEnt) : Bool :=
  e.v && l.any (fun f => f.v && f.row == e.row && decide (e.born < f.born) && decide (f.born ≤ oldest))

/-- An invalid entry. -/
def OvlEnt.none : OvlEnt := ⟨0, false, 0, 0⟩

/-- The entries of a bucket with the reclaimable ones cleared, and the arena slots these held (R206). -/
def reclaimEnts (w : Who) (o : OvlDesc) (oldest b : Nat) (all : List OvlEnt) : List OvlEnt → Work (List OvlEnt × List Nat)
  | [] => pure ([], [])
  | e :: es => do
    let (fs, gone) ← reclaimEnts w o oldest b all es
    if !e.v then pure (e :: fs, gone)
    else do
      let l ← rowEnts w o b all e.row
      pure (if reclaimable oldest l e then (OvlEnt.none :: fs, e.slot :: gone) else (e :: fs, gone))

/-- A bucket as it reads once what can be reclaimed is cleared; nothing is reclaimed unless limbo has room for it and for `extra`
slots more (R206). Log entry 35 (DESIGN CHOICE). -/
def freedBucket (c i : Nat) (x : TSlot) (extra b : Nat) : Work (Option (List OvlEnt × List Nat)) := do
  let w := slotWho c x
  let l ← getBucket w x.ovl b
  let s ← getSt
  match l with
  | none => pure none
  | some l =>
    if limboFull s x.eng then pure (some (l, []))
    else do
      let r ← reclaimEnts w x.ovl (oldestHeld s c i x) b l l
      pure (some (if limboRoom s x.eng (r.2.length + extra) then r else (l, [])))

/-- Write a bucket whose reclaimed arena slots go to limbo (R200, R206). -/
def putBucket (c i : Nat) (x : TSlot) (b : Nat) (ents : List OvlEnt) (gone : List Nat) : Work Bool := do
  let ok ← writeWork (slotWho c x) (x.ovl.bucketAt b) (bucketBytes ents)
  if !ok then pure false
  else do
    let s ← getSt
    let s := gone.foldl (fun s a => toLimbo s c i x.eng a) s
    let s := modTab s c i (fun x => { x with entries := x.entries - gone.length })
    putSt (addCtr s (C.TU_CV_TU_RECLAIM c) gone.length)
    pure true

/-- The bucket of a row that is not `b` (R198). -/
def OvlDesc.other (o : OvlDesc) (r b : Nat) : Nat := let (b1, b2) := o.buckets r; if b1 = b then b2 else b1

/-- The first free way of a bucket. -/
def freeWay (l : List OvlEnt) : Option Nat := l.findIdx? (fun e => !e.v)

/-! ### Insertion, R202 -/

/-- A chain of moves that makes room: each bucket with the way it moves out of, and the bucket with a free way it ends in. -/
structure Chain where
  moves : List (Nat × Nat)
  last : Nat
deriving DecidableEq, Repr

/-- What the search has found so far. -/
structure Search where
  found : Option Chain
  frontier : List (Nat × List (Nat × Nat))
  seen : List Nat
deriving DecidableEq, Repr

/-- Look past one way of a bucket: the other bucket of a pending entry of another row (R202). -/
def lookWay (c i : Nat) (x : TSlot) (r b : Nat) (path : List (Nat × Nat)) (e : OvlEnt) (way : Nat) (z : Search) : Work Search :=
  if z.found.isSome || !e.v || e.born != x.pub + 1 || e.row == r then pure z
  else
    let b' := x.ovl.other e.row b
    if z.seen.contains b' then pure z
    else do
      let l ← freedBucket c i x 0 b'
      let path := path ++ [(b, way)]
      pure (match l with
        | none => { z with seen := b' :: z.seen }
        | some (l, _) =>
          if (freeWay l).isSome then { z with found := some ⟨path, b'⟩ }
          else { z with seen := b' :: z.seen, frontier := z.frontier ++ [(b', path)] })

/-- Look past every way of a list of buckets. -/
def lookAll (c i : Nat) (x : TSlot) (r : Nat) : List (Nat × List (Nat × Nat)) → Search → Work Search
  | [], z => pure z
  | (b, path) :: rest, z => do
    let l ← getBucket (slotWho c x) x.ovl b
    let z ← ((l.getD []).zipIdx).foldlM (fun z e => lookWay c i x r b path e.1 e.2 z) z
    if z.found.isSome then pure z else lookAll c i x r rest z

/-- The shortest chain of at most `fuel` moves from the buckets of a row (R202). Log entry 35 (DESIGN CHOICE). -/
def findChain (c i : Nat) (x : TSlot) (r : Nat) : Nat → Search → Work (Option Chain)
  | 0, z => pure z.found
  | fuel + 1, z => do
    let z' ← lookAll c i x r z.frontier { z with frontier := [] }
    if z'.found.isSome || z'.frontier.isEmpty then pure z'.found else findChain c i x r fuel z'

/-- Put an entry into a free way of a bucket (R202, R206). -/
def placeEnt (c i : Nat) (x : TSlot) (b : Nat) (e : OvlEnt) : Work Bool := do
  let l ← freedBucket c i x 0 b
  match l with
  | none => pure false
  | some (l, gone) => match freeWay l with
    | none => pure false
    | some k => putBucket c i x b (l.set k e) gone

/-- Clear a way of a bucket whose arena slot stays in use, or follows into limbo (R202, R207). -/
def clearWay (c i : Nat) (x : TSlot) (extra b : Nat) (e : OvlEnt) : Work Bool := do
  let l ← freedBucket c i x extra b
  match l with
  | none => pure false
  | some (l, gone) => putBucket c i x b (l.map (fun f => if f = e then OvlEnt.none else f)) gone

/-- Move the entry of a way into another bucket: the destination first, then the source (R202). -/
def moveEnt (c i : Nat) (x : TSlot) (b way dst : Nat) : Work Bool := do
  let l ← getBucket (slotWho c x) x.ovl b
  match (l.getD [])[way]? with
  | none => pure false
  | some e => do
    let ok ← placeEnt c i x dst e
    if ok then clearWay c i x 0 b e else pure false

/-- Perform a chain of moves, the last first; the bucket that has room then is the first one. -/
def runChain (c i : Nat) (x : TSlot) : List (Nat × Nat) → Nat → Work (Option Nat)
  | [], dst => pure (some dst)
  | (b, way) :: rest, dst => do
    let ok ← moveEnt c i x b way dst
    if ok then runChain c i x rest b else pure none

/-- How an insertion ends. -/
inductive Insert where
  | done | noWay | refused
deriving DecidableEq, Repr

/-- Insert an entry: into a free or reclaimable way of its first bucket or its second, or after a chain of moves (R202). -/
def insertEnt (c i : Nat) (x : TSlot) (e : OvlEnt) : Work Insert := do
  let (b1, b2) := x.ovl.buckets e.row
  let l1 ← freedBucket c i x 0 b1
  let l2 ← freedBucket c i x 0 b2
  match l1, l2 with
  | some (l1, _), some (l2, _) =>
    let room : Option Nat := if (freeWay l1).isSome then some b1 else if (freeWay l2).isSome then some b2 else none
    let at' ← match room with
      | some b => pure (some (some b))
      | none => do
        let ch ← findChain c i x e.row 16 ⟨none, [(b1, []), (b2, [])], [b1, b2]⟩
        match ch with
        | none => pure none
        | some ch => do
          let b ← runChain c i x ch.moves.reverse ch.last
          pure (some b)
    match at' with
    | none => pure .noWay
    | some none => pure .refused
    | some (some b) => do
      let ok ← placeEnt c i x b e
      pure (if ok then .done else .refused)
  | _, _ => pure .refused

/-- The lowest arena slot whose bit is clear, looking from slot `a` on a line at a time (R202). Log entry 35 (DESIGN CHOICE). -/
def findArena (w : Who) (o : OvlDesc) : Nat → Nat → Work (Option (Option Nat))
  | 0, _ => pure (some none)
  | fuel + 1, a =>
    if o.arenaRows ≤ a then pure (some none)
    else do
      let n := min 512 (o.arenaRows - a)
      let b ← readWork w (o.freemap + a / 8) ((n + 7) / 8)
      match b with
      | none => pure none
      | some b =>
        match (List.range n).find? (fun k => !(ofBytes b).testBit k) with
        | some k => pure (some (some (a + k)))
        | none => findArena w o fuel (a + 512)

/-- Set or clear the bit of an arena slot in the free map; false when the line cannot be read or written (R196). -/
def markArena (w : Who) (o : OvlDesc) (a : Nat) (used : Bool) : Work Bool := do
  let b ← readWork w (o.freemap + a / 8) 1
  match b with
  | none => pure false
  | some b => writeWork w (o.freemap + a / 8) (toBytes 1 (setBit (ofBytes b) (a % 8) used))

/-! ### Delta tiles, R201–R203 -/

/-- The delta tile in progress on engine `n`. -/
def deltaOf (s : State) (n : Nat) : Option Delta := tfind s.en.tu (tuUnit n)
/-- The state with the delta tile of engine `n` set. -/
def setDelta (s : State) (n : Nat) (d : Delta) : State := { s with en := { s.en with tu := tput s.en.tu (tuUnit n) d } }

/-- A record of one of the units of this chapter (R216). -/
def unitNote (s : State) (c src reason detail addr : Nat) : State :=
  report s c ⟨0, false, false, 3, 1, reason, addr, 0, src, 7, detail⟩

/-- The tile ends ERROR with a record (R203, R209, R212). -/
def failTile (s : State) (c u reason detail addr : Nat) : State := unitNote (endTile s u .error) c u reason detail addr

/-- Read a delta command, with whether its reserved bits are zero (R201). -/
def readDelta (b : List Byte) (cmd ctx : Nat) : Delta × Bool :=
  (⟨cmd, ctx, leAt b 0 1 % 64, leAt b 8 8 % 2 ^ 48, leAt b 16 8 % 2 ^ 48, leAt b 24 2 % 2 ^ 13, 0⟩,
   leAt b 0 1 < 64 && leAt b 1 7 == 0 && leAt b 8 8 < 2 ^ 48 && leAt b 16 8 < 2 ^ 48 && leAt b 24 2 < 2 ^ 13 && leAt b 26 38 == 0)

/-- Whether delta tiles of a slot wait for a flip (R204). -/
def flipHolds (s : State) (c i : Nat) : Bool :=
  match tfind s.en.flips c with | some f => f.mask.testBit i | none => false

/-- A delta tile fails: it ends, and the slot it names is INCOMPLETE where it is bound (R203). Log entry 35 (DESIGN CHOICE). -/
def failSlot (s : State) (c n slot reason detail addr : Nat) : State :=
  failTile (modTab s c slot (fun x => { x with incomplete := true })) c (tuUnit n) reason detail addr

/-- Read and judge a delta command; a tile of a slot whose flip is outstanding waits. Of a command that cannot be read, the slot is
the one the scheduler placed the tile by (R201, R203, R204). Log entry 35 (DESIGN CHOICE). -/
def startDelta (c n : Nat) (t : OnTile) : Work State := do
  let u := tuUnit n
  let b ← readWork (engWho c u t.step.ctx) t.tile.cmd 64
  let s ← getSt
  match b with
  | none => pure (failSlot s c n (tgetD t.step.tslots t.tile.leng 64) 0x59 1 t.tile.cmd)
  | some b =>
    let (d, ok) := readDelta b t.tile.cmd t.step.ctx
    if !ok then pure (failSlot s c n d.tslot 0x58 1 t.tile.cmd)
    else if d.nrec = 0 || 4096 < d.nrec then pure (failSlot s c n d.tslot 0x58 2 t.tile.cmd)
    else match tabOf s c d.tslot with
      | some x =>
        if x.eng != n then pure (failSlot s c n d.tslot 0x58 3 t.tile.cmd)
        else if flipHolds s c d.tslot then pure s
        else pure (setDelta (beginTile s u) n d)
      | none => pure (failTile s c u 0x58 3 t.tile.cmd)

/-- DELTA_TILE_START (R201, R203). -/
def execDeltaTileStart (tu : Fin 8) (s : State) : Ans :=
  let u := tuUnit tu
  match newTile s u, unitOwner s u with
  | some t, some c => atEngine s u (runWork s (startDelta c tu t))
  | _, _ => .next s

/-- A failing record: the tile ends and its slot is INCOMPLETE (R203). Log entry 35 (DESIGN CHOICE). -/
def failDelta (s : State) (c n : Nat) (d : Delta) (reason detail addr : Nat) : State := failSlot s c n d.tslot reason detail addr

/-- A record has been applied; after the last one the tile ends (R202). -/
def nextRecord (s : State) (c n : Nat) (d : Delta) : State :=
  let s := incCtr (setDelta s n { d with next := d.next + 1 }) (C.TU_CV_TU_ROWS c)
  if d.nrec ≤ d.next + 1 then endTile s (tuUnit n) .done else s

/-- Give a row its first entry of the pending generation (R202). -/
def addRow (c n : Nat) (d : Delta) (x : TSlot) (w : Who) (key r : Nat) (row : List Byte) : Work State := do
  let a ← findArena (slotWho c x) x.ovl (x.ovl.arenaRows / 512 + 1) 0
  let s ← getSt
  match a with
  | none => pure (failDelta s c n d 0x59 4 x.ovl.freemap)
  | some none => pure (failDelta s c n d 0x5A 2 key)
  | some (some a) => do
    let dst := x.ovl.arena + a * x.tbl.stride
    let ok ← writeWork w dst row
    let s ← getSt
    if !ok then pure (failDelta s c n d 0x59 4 dst)
    else do
      let z ← insertEnt c d.tslot x ⟨r, true, x.pub + 1, a⟩
      let s ← getSt
      match z with
      | .noWay => pure (failDelta s c n d 0x5A 1 key)
      | .refused => pure (failDelta s c n d 0x59 4 (x.ovl.bucketAt (x.ovl.buckets r).1))
      | .done => do
        let ok ← markArena (slotWho c x) x.ovl a true
        let s ← getSt
        let s := modTab s c d.tslot (fun x => { x with entries := x.entries + 1, pending := x.pending + 1 })
        pure (if ok then nextRecord s c n d else failDelta s c n d 0x59 4 (x.ovl.freemap + a / 8))

/-- Apply one delta record (R202, R203). Log entry 35 (DESIGN CHOICE). -/
def applyRecord (c n : Nat) (d : Delta) (x : TSlot) : Work State := do
  let w := engWho c (tuUnit n) d.ctx
  let key := d.keys + 8 * d.next
  let kb ← readWork w key 8
  let s ← getSt
  match kb with
  | none => pure (failDelta s c n d 0x59 1 key)
  | some kb =>
    let r := ofBytes kb % 2 ^ 40
    if x.tbl.rows ≤ r then pure (failDelta s c n d 0x59 3 key)
    else do
      let src := d.data + d.next * x.tbl.stride
      let row ← readWork w src x.tbl.rowSize
      let (b1, b2) := x.ovl.buckets r
      let l1 ← getBucket (slotWho c x) x.ovl b1
      let l2 ← getBucket (slotWho c x) x.ovl b2
      let s ← getSt
      match row, l1, l2 with
      | none, _, _ => pure (failDelta s c n d 0x59 2 src)
      | some row, some l1, some l2 =>
        match (l1 ++ l2).find? (fun e => e.v && e.row == r && e.born == x.pub + 1) with
        | none => addRow c n d x w key r row
        | some e => do
          let dst := x.ovl.arena + e.slot * x.tbl.stride
          let ok ← writeWork w dst row
          let s ← getSt
          pure (if ok then nextRecord s c n d else failDelta s c n d 0x59 4 dst)
      | _, _, _ => pure (failDelta s c n d 0x59 4 (x.ovl.bucketAt b1))

/-- DELTA_RECORD (R202). -/
def execDeltaRecord (tu : Fin 8) (s : State) : Ans :=
  let u := tuUnit tu
  match liveTile s u, deltaOf s tu, unitOwner s u with
  | some _, some d, some c => match tabOf s c d.tslot with
    | some x => atEngine s u (runWork s (applyRecord c tu d x))
    | none => atDomain s (unitDomain u) (failTile s c u 0x58 3 d.cmdDva)
  | _, _, _ => .next s

/-! ### Discarding the pending generation, R203 -/

/-- How a bucket, or a table, comes out of a discard. -/
inductive Discard where
  /-- No pending entry is left. -/
  | clean
  /-- A bucket could not be read or written. -/
  | failed
  /-- The engine's limbo has no room. -/
  | full
deriving DecidableEq, Repr

/-- Clear the pending entries of a bucket, and what can be reclaimed with them, into limbo (R203, R206). -/
def discardBucket (c i : Nat) (x : TSlot) (b : Nat) : Work Discard := do
  let pend (e : OvlEnt) : Bool := e.v && e.born == x.pub + 1
  let w := slotWho c x
  let l ← getBucket w x.ovl b
  match l with
  | none => pure .failed
  | some l => do
    let n := (l.filter pend).length
    let s ← getSt
    if n = 0 then pure .clean
    else if !limboRoom s x.eng n then pure .full
    else do
      let r ← freedBucket c i x n b
      let (l, gone) := r.getD (l, [])
      let out := (l.filter pend).map (·.slot)
      let ok ← putBucket c i x b (l.map (fun e => if pend e then OvlEnt.none else e)) gone
      if !ok then pure .failed
      else do
        let s ← getSt
        let s := out.foldl (fun s a => toLimbo s c i x.eng a) s
        putSt (modTab s c i (fun x => { x with entries := x.entries - n, pending := x.pending - n }))
        pure .clean

/-- Discard buckets until limbo is full; whether all of them are clean (R203, R206). -/
def discardBuckets (c i : Nat) (x : TSlot) : Nat → Nat → Work Discard
  | 0, _ => pure .clean
  | fuel + 1, b => do
    let d ← discardBucket c i x b
    if d = .full then pure .full
    else do
      let r ← discardBuckets c i x fuel (b + 1)
      pure (if d = .failed && r == .clean then .failed else r)

/-- OP 3: the pending generation is discarded, and INCOMPLETE clears once no pending entry is left; while limbo is full the
operation goes on (R203, R206). Log entry 35 (DESIGN CHOICE). -/
def doDiscard (c i : Nat) (x : TSlot) : Work State := do
  let d ← discardBuckets c i x (2 ^ x.ovl.log2nb) 0
  let s ← getSt
  pure (match d with
    | .full =>
      setFlag { s with en := { s.en with bind := some ⟨3, c, i, x.ctx, x.eng, x.desc⟩ } } F.TU_BIND_STATUS_BUSY true
    | .failed => bindEnd s 0
    | .clean => bindEnd (modTab s c i (fun x => { x with incomplete := false })) 0)

/-- Run a slot operation, or leave it running for TU_BIND_DONE while an access of it waits. Log entry 35 (DESIGN CHOICE). -/
def slotWork (s : State) (b : Bind) (w : Work State) : State :=
  match w s with
  | .ok (s', _) => s'
  | .error e => keepStall (setFlag { s with en := { s.en with bind := some b } } F.TU_BIND_STATUS_BUSY true) e

/-- The work of a slot operation. -/
def bindWork (s : State) (b : Bind) : Work State :=
  if b.op = 1 then doBind b
  else match tabOf s b.cove b.slot with
    | some x => doDiscard b.cove b.slot x
    | none => pure (bindEnd s 1)

/-- TU_BIND_DONE: the operation in progress completes (R193, R203). -/
def execTuBindDone (s : State) : Ans :=
  match s.en.bind with
  | none => .next s
  | some b => atEngine s (tuUnit b.eng) (slotWork s b (bindWork s b))

/-- TU_DISCARD_PENDING (R203). -/
def execTuDiscardPending (q : Requester) (c : CoveId) (slot : Idx64) (s : State) : Ans :=
  slotOp s q (fun s => match tabOf s c slot with
    | none => bindEnd s 1
    | some x =>
      if slotPinned s c slot x then bindEnd s 4
      else slotWork s ⟨3, c, slot, x.ctx, x.eng, x.desc⟩ (doDiscard c slot x))

/-! ### Compaction, R207, R214 -/

/-- Stacks that the granules of a cove reach, by what `p` counts as the cove's (R62, R97, R214). -/
def reached (s : State) (p : Gran → Bool) : List Nat :=
  let gs := s.plan.gran.filter (fun e => p e.2)
  if gs.any (fun e => e.2.mode == 0) then List.range 32
  else (List.range 32).filter (fun n => gs.any (fun e =>
    let h := e.1 / dataPer s
    if e.2.mode = 1 then n / 8 == h / 8 else n == h))

/-- Moves queued at a sweep engine. -/
def queuedAt (s : State) (n : Nat) : Nat := (s.en.moves.filter (fun m => m.sweep == n)).length

/-- The sweep engine a move of a cove goes to (R214). Log entry 37 (DESIGN CHOICE). -/
def chooseSweep (s : State) (c : Nat) : Nat :=
  let near := (reached s (fun g => g.owner == c)).filter (fun n => flag s (F.SC_STATUS_TRAINED n))
  let pool := if near.isEmpty then List.range 32 else near
  pool.foldl (fun a n => if queuedAt s n < queuedAt s a then n else a) (pool.headD 0)

/-- Queue a move (R214). -/
def addMove (s : State) (c ctx src dst len : Nat) (kind : MoveKind) (ev : Option (Nat × Nat)) : State :=
  let m : Move := ⟨s.en.nextMove, c, ctx, src, dst, len, 0, kind, chooseSweep s c, ev, none⟩
  { s with en := { s.en with moves := s.en.moves ++ [m], nextMove := s.en.nextMove + 1 } }

/-- Whether an entry is the newest of its row, old enough to fold, and not yet tried (R207). Log entry 35 (DESIGN CHOICE). -/
def foldable (x : TSlot) (oldest : Nat) (l : List OvlEnt) (e : OvlEnt) : Bool :=
  e.v && decide (e.born ≤ oldest) && !x.skip.contains e.row && !l.any (fun f => f.v && f.row == e.row && decide (e.born < f.born))

/-- The foldable entry of oldest BORN among the buckets from `b` on (R207). -/
def findFold (c : Nat) (x : TSlot) (oldest : Nat) : Nat → Nat → Option OvlEnt → Work (Option OvlEnt)
  | 0, _, best => pure best
  | fuel + 1, b, best => do
    let w := slotWho c x
    let l ← getBucket w x.ovl b
    let l := l.getD []
    let best ← l.foldlM (fun best e => do
      if !e.v then pure best
      else do
        let all ← rowEnts w x.ovl b l e.row
        let better := match best with | some f => decide (e.born < f.born) | none => true
        pure (if better && foldable x oldest all e then some e else best)) best
    findFold c x oldest fuel (b + 1) best

/-- Whether a running compaction is over: an automatic one at half its fill (R207). -/
def TSlot.compacted (x : TSlot) : Bool := x.auto && decide (x.published * 200 ≤ x.ovl.compact * (4 * 2 ^ x.ovl.log2nb))

/-- Ask for the next compaction move of a slot; with no entry left that could ever fold now, the compaction ends (R207).
Log entry 35 (DESIGN CHOICE). -/
def askFold (c i : Nat) (x : TSlot) : Work State := do
  let s ← getSt
  if x.compacted then pure (modTab s c i (fun x => { x with compacting := false, auto := false, skip := [] }))
  else if limboFull s x.eng then pure s
  else do
    let e ← findFold c x (oldestHeld s c i x) (2 ^ x.ovl.log2nb) 0 none
    let s ← getSt
    match e with
    | none =>
      pure (if pinOld s c i x.pub = 0 then modTab s c i (fun x => { x with compacting := false, auto := false, skip := [] }) else s)
    | some e =>
      let src := x.ovl.arena + e.slot * x.tbl.stride
      let hot := if e.row < x.tbl.hotCount then some (x.tbl.hotBase + e.row * x.tbl.stride) else none
      let s := modTab s c i (fun x => { x with folding := some ⟨e.row, e.born, e.slot, false⟩ })
      pure (addMove s c x.ctx src (x.tbl.base + e.row * x.tbl.stride) x.tbl.rowSize (.compaction i hot) none)

/-- Start a compaction. -/
def startFold (s : State) (c i : Nat) (auto : Bool) : State :=
  match tabOf s c i with
  | none => s
  | some x =>
    let y := if x.compacting then x else { x with compacting := true, auto := auto, skip := [] }
    let s := setTab s c i y
    if y.folding.isSome then s else runWork s (askFold c i y)

/-- TU_COMPACT_NOW (R207). -/
def execTuCompactNow (q : Requester) (c : CoveId) (slot : Idx64) (s : State) : Ans :=
  slotOp s q (fun s => match tabOf s c slot with
    | none => bindEnd s 1
    | some _ => bindEnd (startFold s c slot false) 0)

/-- Start an automatic compaction where the published entries exceed their limit (R207). -/
def autoFold (s : State) (c i : Nat) : State :=
  match tabOf s c i with
  | some x => if x.ovl.compact != 0 && decide (x.ovl.compact * (4 * 2 ^ x.ovl.log2nb) < x.published * 100) then startFold s c i true else s
  | none => s

/-- Clear a folded entry and send its arena slot to limbo; one that has been reclaimed meanwhile is left (R206, R207).
Log entry 35 (DESIGN CHOICE). -/
def clearFold (c i : Nat) (x : TSlot) (f : Fold) : Work State := do
  let e : OvlEnt := ⟨f.row, true, f.born, f.arena⟩
  let (b1, b2) := x.ovl.buckets f.row
  let l1 ← getBucket (slotWho c x) x.ovl b1
  let l2 ← getBucket (slotWho c x) x.ovl b2
  let at1 := (l1.getD []).contains e
  if !at1 && !(l2.getD []).contains e && l1.isSome && l2.isSome then do
    let s ← getSt
    pure (modTab s c i (fun x => { x with folding := none }))
  else do
    let ok ← clearWay c i x 1 (if at1 then b1 else b2) e
    let s ← getSt
    if !ok then pure (modTab s c i (fun x => { x with folding := none, skip := f.row :: x.skip }))
    else
      let s := incCtr (toLimbo s c i x.eng f.arena) (C.TU_CV_TU_COMPACT c)
      pure (modTab s c i (fun x => { x with folding := none, entries := x.entries - 1 }))

/-- COMPACTION_MOVE_DONE: a folded entry is cleared, and the next move is asked for; not while limbo is full (R206, R207).
Log entry 35 (DESIGN CHOICE). -/
def execCompactionMoveDone (c : CoveId) (slot : Idx64) (s : State) : Ans :=
  match tabOf s c slot with
  | none => .next s
  | some x =>
    match x.folding with
    | some f =>
      if f.done && !limboFull s x.eng then
        let s1 := runWork s (clearFold c slot x f)
        atEngine s (tuUnit x.eng) (match tabOf s1 c slot with
          | some y => if y.folding.isNone && y.compacting then runWork s1 (askFold c slot y) else s1
          | none => s1)
      else .next s
    | none => if x.compacting then atEngine s (tuUnit x.eng) (runWork s (askFold c slot x)) else .next s

/-! ### Flips, R204 -/

/-- The slots of a mask. -/
def maskSlots (m : Nat) : List Nat := bitList 64 m

/-- The code a flip is refused with, or none (R204). Log entry 35 (DESIGN CHOICE). -/
def flipRefusal (s : State) (c m : Nat) : Option Nat :=
  let xs := (maskSlots m).map (tabOf s c)
  if xs.any (·.isNone) then some 1
  else if xs.any (fun x => (x.map (·.incomplete)).getD false) then some 2
  else if xs.any (fun x => (x.map (·.pub)).getD 0 == 0xFFFFFFFF) then some 3
  else if thas s.en.flips c then some 4
  else if m = 0 then some 5
  else if xs.any (fun x => match x with | some x => fenceOn s (resKey kTU x.eng) | none => false) then some 6
  else none

/-- TU_FLIP_GO (R204). -/
def execTuFlipGo (q : Requester) (c : CoveId) (s : State) : Ans :=
  let m := fld64 s F.TU_FLIP_MASK_LO F.TU_FLIP_MASK_HI
  atFabric s q (match flipRefusal s c m with
    | some code => setFld (setFlag s (F.TU_FLIP_STATUS_REFUSED c) true) (F.TU_FLIP_STATUS_CODE c) code
    | none =>
      let f : Flip := ⟨m, fld64 s F.TU_FLIP_TGT_LO F.TU_FLIP_TGT_HI, fld s F.TU_FLIP_EVENT,
        fld64 s F.TU_FLIP_VAL_LO F.TU_FLIP_VAL_HI, false⟩
      { s with en := { s.en with flips := tput s.en.flips c f } })

/-- Whether some step of the cove still holds the old generation of a masked slot (R204). -/
def flipPinned (s : State) (c m : Nat) : Bool :=
  (maskSlots m).any (fun i => match tabOf s c i with | some x => pinOld s c i x.pub != 0 | none => false)

/-- TU_FLIP_STATUS.STATE: 1 while pins remain, 2 while delta tiles run, 3 armed (R204). -/
def flipState (s : State) (c : Nat) : Nat :=
  match tfind s.en.flips c with
  | none => 0
  | some f => if f.armed then 3 else if flipPinned s c f.mask then 1 else 2

/-- Taps of a flip: every shoal-pair tap and table-update tap of the cove (R204). -/
def flipTaps (s : State) (c : Nat) : List Nat :=
  ((List.range 32).filter (fun n => ownerOf s kSH n == some c)).map (128 + ·)
  ++ ((List.range 8).filter (fun n => ownerOf s kTU n == some c)).map (176 + ·)

/-- The lowest-numbered engine bound to a masked slot (R204). -/
def flipEngine (s : State) (c m : Nat) : Option Nat :=
  ((maskSlots m).filterMap (fun i => (tabOf s c i).map (·.eng))).foldl (fun a e => match a with
    | some b => some (min b e)
    | none => some e) none

/-- FLIP_ARM (R204). -/
def execFlipArm (c : CoveId) (s : State) : Ans :=
  match tfind s.en.flips c with
  | none => .next s
  | some f =>
    match flipEngine s c f.mask with
    | none => .next s
    | some e =>
      if f.armed || flipPinned s c f.mask || (maskSlots f.mask).any (deltaRuns s c) then .next s
      else
        let s1 := { s with en := { s.en with flips := tput s.en.flips c { f with armed := true } } }
        atDomain s (unitDomain (tuUnit e)) (armEntry s1 ⟨c, .flip c, f.target, flipTaps s c⟩)

/-- The launch of a flip: PUB of every masked slot advances in one step (R204). -/
def publish (s : State) (c : Nat) : State :=
  match tfind s.en.flips c with
  | none => s
  | some f => (maskSlots f.mask).foldl (fun s i => modTab s c i (fun x => { x with pub := x.pub + 1, pending := 0 })) s

/-- Take the first report of an action from the reports of ended entries (R84). -/
def takeReport (s : State) (p : SlateAct → Bool) : Option (SlateReport × State) :=
  match s.tide.reports.find? (fun r => p r.act) with
  | none => none
  | some r => some (r, { s with tide := { s.tide with reports := s.tide.reports.erase r } })

/-- The outcome of a flip: the launch count and the event, or nothing published (R204). -/
def flipEnd (s : State) (c : Nat) (f : Flip) (r : SlateReport) : State :=
  let s := { s with en := { s.en with flips := tdel s.en.flips c } }
  match r.outcome with
  | .cancelled => setFld s (F.TU_FLIP_STATUS_OUTCOME c) 3
  | o =>
    let s := setFld s (F.TU_FLIP_STATUS_OUTCOME c) (match o with | .done => 1 | _ => 2)
    let s := setFld64 (setFlag s (F.TU_FLIP_STATUS_DONE c) true) (F.TU_CV_FLIP_AT_LO c) (F.TU_CV_FLIP_AT_HI c) r.count
    let s := signalEvent s c f.event f.value 3
    (maskSlots f.mask).foldl (fun s i => autoFold s c i) s

/-- FLIP_OUTCOME (R204). -/
def execFlipOutcome (c : CoveId) (s : State) : Ans :=
  match tfind s.en.flips c, takeReport s (fun a => a == .flip c) with
  | some f, some (r, s1) => atDomain s 94 (flipEnd s1 c f r)
  | _, _ => .next s

/-! ### Drain and limbo, R206 -/

/-- PAIR_DRAIN_ACK: a pair acknowledges the last edge its tap has launched, once no fetch it took before is waiting (R206).
Log entry 35 (DESIGN CHOICE). -/
def execPairDrainAck (pair : Fin 32) (s : State) : Ans :=
  let x := tapOf s (128 + pair.val)
  let edge := if x.recv.isSome then x.count - 1 else x.count
  let busy := s.xl.xfers.any (fun e => e.2.eng && (e.2.src == gpUnit (2 * pair.val) || e.2.src == gpUnit (2 * pair.val + 1)))
  if busy || x.resync then .next s
  else atDomain s (32 + pair.val) { s with en := { s.en with drained := tput s.en.drained pair.val edge } }

/-- Whether every pair of a cove has acknowledged drain of an edge (R206). -/
def drainedAll (s : State) (c edge : Nat) : Bool :=
  (List.range 32).all (fun n => ownerOf s kSH n != some c || decide (edge ≤ tgetD s.en.drained n 0))

/-- Free the arena slots of a list of limbo entries; answers those that stay (R206). -/
def freeLimbo : List Limbo → Work (List Limbo)
  | [] => pure []
  | l :: ls => do
    let s ← getSt
    let rest ← freeLimbo ls
    match tabOf s l.cove l.slot with
    | none => pure rest
    | some x =>
      if !drainedAll s l.cove l.edge then pure (l :: rest)
      else do
        let ok ← markArena (slotWho l.cove x) x.ovl l.arena false
        pure (if ok then rest else l :: rest)

/-- LIMBO_RELEASE: arena slots whose drain is acknowledged return to the free map (R206). -/
def execLimboRelease (tu : Fin 8) (s : State) : Ans :=
  match tgetD s.en.limbo tu.val [] with
  | [] => .next s
  | l => atEngine s (tuUnit tu) (runWork s (do
      let rest ← freeLimbo l
      let s ← getSt
      pure { s with en := { s.en with limbo := tsetD s.en.limbo tu.val [] rest } }))

end Sys2Proof.Machine
end

