-- ==== Sys2Proof/Machine/Capacity.lean ====
section
/-!
DEFINITION. The real-time guarantees: the shares of coves in the stacks they reach, the scale factors and their installation
(R62, R285–R288).
-/
namespace Sys2Proof.Machine

/-- The guarantee of a class-RT regulator's budget in MB/s: BUDGET × 64 B in WINDOW × 0.25 µs (R62). -/
def guarantee (budget window : Nat) : ℚ := budget * 256 / window

/-- The regulators of class RT whose master a cove owns. -/
def rtRegs (s : State) (c : Nat) : List Nat :=
  (List.range 224).filter (fun r => regOwner s r == c && (regulOf s r).par.cls == 0)

/-- The unscaled guarantee of a cove (R62). -/
def coveGuarantee (s : State) (c : Nat) : ℚ :=
  ((rtRegs s c).map (fun r => guarantee (regulOf s r).par.budget (regulOf s r).par.window)).sum

/-- Whether a granule is a cove's or readable by it (R20, R62). -/
def Gran.reads (g : Gran) (c : Nat) : Bool := g.owner == c || (g.owner == 16 && g.readers.testBit c)

/-- The share of a guarantee on each of the stacks it reaches; nothing where it reaches none (R62). -/
def spread (g : ℚ) (reach : List Nat) (n : Nat) : ℚ := if reach.contains n then g / reach.length else 0

/-- What the scaling needs of a cove: its number, its priority, its guarantee and the stacks it reaches. -/
structure Scaled where
  cove : Nat
  prio : Nat
  total : ℚ
  reach : List Nat
deriving DecidableEq, Repr

/-- The coves that exist, as the scaling sees them. -/
def scaledCoves (s : State) : List Scaled :=
  s.plan.coves.map (fun e => ⟨e.1, e.2.prio, coveGuarantee s e.1, reached s (fun g => g.reads e.1)⟩)

/-- The load on stack `n` under scale factors `k` (R286). -/
def stackLoad (l : List Scaled) (k : Tbl Nat) (n : Nat) : ℚ :=
  (l.map (fun x => spread x.total x.reach n * tgetD k x.cove 256 / 256)).sum

/-- Scale one cove for one stack (R286). -/
def scaleOne (l : List Scaled) (db : Nat → ℚ) (x : Scaled) (k : Tbl Nat) (n : Nat) : Tbl Nat :=
  let excess := stackLoad l k n - db n * 4 / 5
  let share := spread x.total x.reach n
  if 0 < excess ∧ share ≠ 0 then
    let cur := tgetD k x.cove 256
    let need := (share * cur / 256 - excess) * 256 / share
    tput k x.cove (max 16 (min cur need.floor.toNat))
  else k

/-- Every scale factor: lowest priority first, higher cove number first (R286). -/
def scaleFactors (l : List Scaled) (db : Nat → ℚ) : Tbl Nat :=
  ((List.range 16).reverse.flatMap (fun p => l.reverse.filter (fun x => x.prio == p))).foldl
    (fun k x => x.reach.foldl (scaleOne l db x) k) []

/-- The effective budget of a regulator under a scale factor (R286). -/
def RegParam.effective (p : RegParam) (k : Nat) : Nat := if p.cls = 0 then max 1 (p.budget * k / 256) else p.budget

/-- The taps of a list of regulators' masters. -/
def regTaps (rs : List Nat) : List Nat := (rs.filterMap (fun r => unitClient (regulUnit r))).dedup

/-- The factor whose budgets are in force in a cove (BW_CV_STATUS.SCALE). -/
def inForceK (s : State) (c : Nat) : Nat := fld s (F.BW_CV_STATUS_SCALE c)
/-- The factor a cove is to have. -/
def coveK (s : State) (c : Nat) : Nat := fld s (F.BW_COVE_SCALE_K c)

/-- The factor of a cove changes: its RT regulators take their new effective budgets on its next tide edge (R286, R287). -/
def rescale (s : State) (c k : Nat) : State :=
  let s := setFld s (F.BW_COVE_SCALE_K c) k
  armEntry s ⟨c, .budgets c, 0, regTaps (rtRegs s c)⟩

/-- The guarantee of a cove in force, in MB/s (BW_CV_RTBW). -/
def rtbw (s : State) (c : Nat) : Nat :=
  ((rtRegs s c).map (fun r => guarantee (regulOf s r).eff (regulOf s r).par.window)).sum.floor.toNat

/-- The guarantee in force shows in BW_CV_RTBW (R287). -/
def showRtbw (s : State) (c : Nat) : State := setFld s (F.BW_CV_RTBW_RTBW c) (rtbw s c)

/-- The factors show on the cove's edge: its guarantee in force and its scale, and a change of it (R287). Log entry 53 (DESIGN CHOICE). -/
def showScale (s : State) (c : Nat) : State :=
  let old := fld s (F.BW_CV_STATUS_SCALE c)
  let k := coveK s c
  let s := showRtbw s c
  if k = old then s
  else
    let s := setFlag (setFld s (F.BW_CV_STATUS_SCALE c) k) (F.BW_CV_STATUS_SCALED c) (decide (k < 256))
    let s := raiseSrc (setFlag s (F.BW_CV_STATUS_SCALE_CHG c) true) (32 * c + 2)
    if k < old then raiseSrc (setFlag s F.BW_SHORTFALL_RAISED true) 517 else s

/-- The launch of a cove's new effective budgets (R85, R287). Log entry 53 (DESIGN CHOICE). -/
def applyBudgets (s : State) (c : Nat) : State :=
  showScale ((rtRegs s c).foldl (fun s r => let g := regulOf s r; setRegul s r { g with eff := g.par.effective (coveK s c) }) s) c

/-- Recompute DBn, every scale factor, and what follows from them (R285–R287). -/
def recompute (s : State) : State :=
  let db := stackDb s
  let s := (List.range 32).foldl (fun s n => setFld s (F.BW_STACK_CAP_CAP n) (db n).floor.toNat) s
  let l := scaledCoves s
  let k := scaleFactors l db
  let s := (List.range 32).foldl (fun s n => setFld s (F.BW_STACK_RT_LOAD n) (stackLoad l k n).floor.toNat) s
  let unmet := (List.range 32).any (fun n => decide (db n * 4 / 5 < stackLoad l (l.map (fun x => (x.cove, 16))) n))
  let s := setFlag (setFlag s F.BW_SHORTFALL_ACTIVE (l.any (fun x => decide (tgetD k x.cove 256 < 256)))) F.BW_SHORTFALL_UNMET unmet
  let s := if unmet then setFlag s F.BW_SHORTFALL_UNMET_SEEN true else s
  l.foldl (fun s x => let v := tgetD k x.cove 256; if v = coveK s x.cove then s else rescale s x.cove v) s

/-- DB_RECOMPUTE (R285–R288). -/
def execDbRecompute (s : State) : Ans := atDomain s 94 (recompute s)

/-- Whether new budgets are on their way to an edge. -/
def budgetsDue (s : State) : Bool :=
  let p (a : SlateAct) : Bool := match a with | .budgets _ => true | _ => false
  s.tide.masters.any (fun m => m.2.slate.any (fun e => p e.2.act)) || s.tide.armReqs.any (fun r => p r.act)

/-- The descriptor and the shares of a cove that an applied image has changed take effect (R65). -/
def takeDesc (s : State) (c : Nat) : State :=
  let p := s.plan
  let coves := match tfind p.newDesc c with | some d => tput p.coves c d | none => p.coves
  let mine := p.newShares.filter (fun e => e.1 / 8 == c)
  { s with plan := { p with
      coves := coves, newDesc := tdel p.newDesc c,
      shares := mine.foldl (fun t e => tput t e.1 e.2) p.shares, newShares := p.newShares.filter (fun e => e.1 / 8 != c) } }

end Sys2Proof.Machine
end

