-- ==== Sys2Proof/Machine/Sweep.lean ====
section
/-!
DEFINITION. The stacks' own commands and the sweep engines' work on keys: refresh, temperature, re-key, verify, zero-fill and
patrol (R101–R105, R113–R117, R124, R125, R213, R398).
-/
namespace Sys2Proof.Machine

/-- Unit identifier of sweep engine `n` (R30). -/
def swUnit (n : Nat) : Nat := 0x6000 + n

/-! ### Controllers, R101, R103, R105, R398 -/

/-- REFRESH: a refresh is issued at the stack's rate (R103). -/
def execRefresh (n : StackId) (s : State) : Ans := atDomain s n (emit s (.refresh n (fld s (F.SC_STATUS_REF_RATE n))))

/-- SC_TEMP_READ: a stack in service and out of self-refresh is read, and the rate follows (R103). Log entry 8 (DESIGN CHOICE). -/
def execScTempRead (n : StackId) (temp : Byte) (rate : Fin 3) (s : State) : Ans :=
  if !flag s (F.SC_STATUS_TRAINED n) || flag s (F.SC_STATUS_SELF_REFRESH n) then .next s
  else atDomain s n (setFld (setFld s (F.SC_STATUS_TEMP_C n) temp.toNat) (F.SC_STATUS_REF_RATE n) rate)

/-- SC_MDC_FLUSH (R105). -/
def execScMdcFlush (q : Requester) (n : StackId) (s : State) : Ans := atFabric s q (mdcFlush s n)

/-- SC_PEAK_CLR (R101). -/
def execScPeakClr (q : Requester) (n : StackId) (s : State) : Ans := atFabric s q (setFld s (F.SC_OUTST_PEAK n) (slotsUsed s n))

/-- PHY_UPDATE_REQUEST: the controller grants the PHY's update; requests wait and none is dropped (R398). -/
def execPhyUpdateRequest (n : StackId) (s : State) : Ans := atDomain s n (emit s (.phyGrant n))

/-! ### Sets of lines -/

/-- Lines of a granule. -/
def granLines : Nat := 2 ^ 22

/-- Whether a set holds every line of a granule. -/
def allLines (x : Nat) : Bool := x == 2 ^ granLines - 1

/-- The stack and the stack data address of a line of a placed granule (R97). -/
def placedAt (s : State) (p : Place) (line : Nat) : Nat × Nat := placeByte (dataPer s) p.gran p.mode (line * 64)

/-- Whether a set lacks some line of a placed granule that lies on stack `n`. -/
def lacksOn (s : State) (n : Nat) (p : Place) (x : Nat) : Bool :=
  (List.range granLines).any (fun l => !x.testBit l && (placedAt s p l).1 == n)

/-! ### Zero-fill, R66 -/

/-- The line of a placed granule at a stack data address, if it has one there (R97). -/
def placeLineAt (d : Nat) (p : Place) (n sda : Nat) : Option Nat :=
  let h := p.gran / d
  let r := sda % 2 ^ 28
  let l := (sda % 2 ^ 11) / 64
  if p.gran % d ≠ sda / 2 ^ 28 then none
  else if p.mode = 0 then
    if r / 2 ^ 23 = h then some ((32 * ((r % 2 ^ 23) / 2 ^ 11) + (n + 32 - h) % 32) * 32 + l) else none
  else if p.mode = 1 then
    if n / 8 = h / 8 ∧ r / 2 ^ 25 = h % 8 then some ((8 * ((r % 2 ^ 25) / 2 ^ 11) + (n % 8 + 8 - h % 8) % 8) * 32 + l) else none
  else if n = h then some (r / 64) else none

/-- The zero-fill that governs the line at an address, with the line's number in its granule: the first that has it. -/
def fillAt (s : State) (n sda : Nat) : Option (ZFill × Nat) :=
  s.plan.fills.findSome? (fun f => (placeLineAt (dataPer s) f.1.place n sda).map (fun l => (f.1, l)))

/-- Whether zero-fill waits on stack `n` (R213). -/
def fillWaits (s : State) (n : Nat) : Bool := s.plan.fills.any (fun f => lacksOn s n f.1.place f.1.done)

/-- Whether a line of a fill's place carries other data than the fill's: another fill governs it, or it belongs to a granule
that keeps its place. -/
def lineTaken (s : State) (n sda : Nat) (f : ZFill) : Bool :=
  match fillAt s n sda with
  | some (g, _) => g.place != f.place || (match ownerOfLine s n sda with | some (h, _) => h != f.place.gran | none => false)
  | none => false

/-- The zero-fill that stack `n` serves: the first to have come that still lacks a line there (R213). Log entry 20 (DESIGN CHOICE). -/
def headFill (s : State) (n : Nat) : Option ZFill := (s.plan.fills.find? (fun f => lacksOn s n f.1.place f.1.done)).map (·.1)

/-- A sweep engine's transaction on a data line: charged, and performed when it has its turn at the controller (R101, R125, R279).
Nothing when the credit is 0 (R278). -/
def sweepTurn (s : State) (q : Req) : Option State := (chargeWork s q.src q.fpa).map (fun s => takeTurn s q)

/-- A sweep engine's full-line write (R103, R122). -/
def sweepWrite (s : State) (n sda kid : Nat) (l : Line) (g : Option Nat) (q : Req) : Option State :=
  (sweepTurn s { q with acc := .write (BitVec.allOnes 64) l }).map (fun s => (sendLineTo s n sda kid l (g.bind (granCove s)) false q).2)

/-- Write one zero line of a zero-fill under its KID (R66, R122, R213). Log entry 14 (DEDUCED). -/
def fillLine (s : State) (n line : Nat) (f : ZFill) : Option State :=
  let sda := (placedAt s f.place line).2
  let q := sweepReq n (2 ^ 28 * f.place.gran + line * 64) .demand
  let s1 := if lineTaken s n sda f then some s
    else (sweepWrite s n sda f.kid 0 (some f.place.gran) q).map (fun s => incCtr s (C.SW_ZFILL n))
  s1.map (fun s => { s with plan := { s.plan with fills := s.plan.fills.map (fun e =>
      if e.1.place = f.place then ({ e.1 with done := setBit e.1.done line true }, e.2) else e) } })

/-- ZERO_FILL_LINE: a line of the zero-fill that has come first (R66, R213). -/
def execZeroFillLine (n : StackId) (g : BitVec 13) (line : BitVec 22) (s : State) : Ans :=
  match headFill s n with
  | some f =>
    if f.place.gran != g.toNat || f.done.testBit line.toNat || (placedAt s f.place line.toNat).1 != n.val then .next s
    else atEngine s (swUnit n) (paidOr s (swUnit n) (fillLine s n line.toNat f))
  | none => .next s

/-! ### The life of a KID, R114 -/

/-- Whether nothing carries a Draining KID any more: its sweep is done, and no zero-fill of its lines runs (R114). -/
def drained (s : State) (k : Nat) : Bool :=
  !s.mem.kr.any (fun e => e.2.pred == some k && e.2.phase == 2 && !e.2.sweepDone)
    && !s.plan.fills.any (fun f => f.2 != .applied && (kidOf s k).covered.any (fun p => p.gran == f.1.place.gran))

/-- The use counter of a range clears, and writes refused at its stop resume (R115, R116). -/
def clearUse (s : State) (r : Nat) : State :=
  { s with mem := { s.mem with kr := tmod s.mem.kr r (fun k => { k with use := 0, stopped := false }) } }

/-- The re-key of range `r` is over, its predecessor Flushing: it is counted, and a queued one starts (R114, R117, R353). -/
def endRekey (s : State) (r : Nat) (k : KeyRange) : State :=
  let s := { s with mem := { s.mem with sweepQ := s.mem.sweepQ.filter (· != r) } }
  let s := lbAdd (setKr s r { k with phase := 3, sweepDone := false, queued := false, swept := [] }) 14 1
  if k.queued then startRekey s r else s

/-- A Draining KID moves to Flushing: the use counter of its range clears, and the re-key it was the predecessor of is over
(R114–R117). -/
def leaveDraining (s : State) (k : Nat) : State :=
  let x := kidOf s k
  let s := setKid s k { x with st := .flushing, range := none }
  let s := match x.range with | some r => clearUse s r | none => s
  match s.mem.kr.find? (fun e => e.2.pred == some k && e.2.phase == 2) with
  | some (r, kr) => endRekey s r kr
  | none => s

/-- Move every Draining KID that nothing carries to Flushing (R114). -/
def flushDrained (s : State) : State :=
  (List.range 64).foldl (fun s k => if (kidOf s k).st = .draining && drained s k then leaveDraining s k else s) s

/-- A granule that a zero-fill has written whole needs no visit of the re-key sweep of its range (R117). -/
def sweptBy (s : State) (g : Nat) : State :=
  match rangeOf s g with
  | some (r, k) => if k.phase = 2 then setKr s r { k with swept := tput k.swept g (2 ^ granLines - 1) } else s
  | none => s

/-- The fills of a granule are complete: a scrub's are over, and an apply's stand until it ends. -/
def endFills (s : State) (g : Nat) : State :=
  let s := sweptBy s g
  { s with plan := { s.plan with fills := s.plan.fills.filterMap (fun e =>
      if e.1.place.gran != g then some e
      else match e.2 with
        | .scrub _ => none
        | _ => some (e.1, .applied)) } }

/-- ZERO_FILL_DONE: a granule's zero-fills are complete, and KIDs they have taken over from leave Draining (R66, R114).
Log entry 6 (DESIGN CHOICE). -/
def execZeroFillDone (g : BitVec 13) (s : State) : Ans :=
  let mine := s.plan.fills.filter (fun e => e.1.place.gran == g.toNat && e.2 != .applied)
  if !mine.isEmpty && mine.all (fun e => allLines e.1.done) then atDomain s 94 (flushDrained (endFills s g.toNat)) else .next s

/-- KID_RETIRE: a Flushing KID is drained and removed from every controller, and its key zeroised (R114). Log entry 20 (DESIGN CHOICE). -/
def execKidRetire (k : Fin 64) (s : State) : Ans :=
  if (kidOf s k).st != .flushing then .next s
  else
    let s1 := setKid s k { kidOf s k with st := .retired, loaded := false, verified := [] }
    atDomain s 94 { s1 with mem := { s1.mem with
      keys := tdel s1.mem.keys k
      verifyQ := s1.mem.verifyQ ++ [k.val]
      kr := s1.mem.kr.map (fun e => (e.1, if e.2.pred = some k.val && e.2.phase != 2
        then { e.2 with pred := none, phase := if e.2.phase = 3 then 0 else e.2.phase } else e.2)) } }

/-! ### Re-key, R115, R117 -/

/-- SC_KR_CMD_REKEY: ignored for an undefined or unscrambled range (R115, R117). -/
def execScKrCmdRekey (q : Requester) (r : Idx64) (s : State) : Ans := atFabric s q (startRekey s r)

/-- Zero-fills of the owned granules of a cove that satisfy `p`, under a KID (R310). Log entry 39 (DESIGN CHOICE). -/
def scrubFills (s : State) (c kid : Nat) (p : Nat → Bool) : State :=
  let gs := s.plan.gran.filter (fun e => e.2.owner == c && p e.1 && (fillOf s e.1).isNone)
  { s with plan := { s.plan with fills := s.plan.fills ++ gs.map (fun e => (⟨⟨e.1, e.2.mode⟩, kid, 0⟩, .scrub c)) } }

/-- A scrambled range takes a fresh KID for a scrub: the old one drains, and the owned granules are filled under the new one
(R114, R310). -/
def takeScrub (s : State) (r kid : Nat) : State :=
  match tfind s.mem.kr r with
  | none => s
  | some k =>
    let s := loadKey s kid
    let s := drainKid s k.cur r (rangePlaces s k)
    let s := { s with mem := { s.mem with sweepQ := s.mem.sweepQ.filter (· != r) } }
    let s := setKr s r { k with cur := kid, pred := none, phase := 0, sweepDone := false, queued := false, swept := [] }
    flushDrained (scrubFills s k.owner kid (fun g => decide (k.first ≤ g ∧ g < k.first + k.count)))

/-- A range that has waited takes a KID: for its scrub, or for a re-key (R115, R310). Log entry 20 (DESIGN CHOICE). -/
def takeWaiting (s : State) (r kid : Nat) : State :=
  if s.sc.scrubQ.contains r then takeScrub { s with sc := { s.sc with scrubQ := s.sc.scrubQ.filter (· != r) } } r kid
  else takeKid s r kid

/-- REKEY_KID_TAKE: the re-key that has waited longest takes the lowest Free KID (R115). Log entry 20 (DESIGN CHOICE). -/
def execRekeyKidTake (s : State) : Ans :=
  match s.mem.rekeyQ, takeable s with
  | r :: rest, some k => atDomain s 94 (takeWaiting { s with mem := { s.mem with rekeyQ := rest } } r k)
  | _, _ => .next s

/-- The range whose re-key sweep stack `n` serves: the first to have begun that still has a line to visit there (R213).
Log entry 20 (DESIGN CHOICE). -/
def headRekey (s : State) (n : Nat) : Option Nat :=
  s.mem.sweepQ.find? (fun r => match tfind s.mem.kr r with
    | some k => k.phase == 2 && !k.sweepDone &&
        (rangePlaces s k).any (fun p => (fillOf s p.gran).isNone && lacksOn s n p (tgetD k.swept p.gran 0))
    | none => false)

/-- Whether re-key work waits on stack `n` (R213). -/
def rekeyWaits (s : State) (n : Nat) : Bool := (headRekey s n).isSome

/-- A sweep engine reads a line where the KIDs of `e` are expected, when it has its turn; no transfer waits on a line of no granule
(R98, R101, R118). -/
def sweepRead (s : State) (n sda : Nat) (e : Expect) (g : Option Nat) (q : Req) : Option (Finding × State) :=
  (if g.isSome then sweepTurn s q else chargeWork s q.src q.fpa).map (fun s => checkLine s n sda e (g.bind (granCove s)) false q)

/-- Visit one line of a re-keying range: a line tagged with the old KID is rewritten under the new one (R115, R119).
Log entry 20 (DESIGN CHOICE). -/
def rekeyLine (s : State) (n r g line : Nat) (k : KeyRange) : Option State :=
  let s := setKr s r { k with swept := tput k.swept g (setBit (tgetD k.swept g 0) line true) }
  let sda := (placeLine s g line).2
  let q := sweepReq n (2 ^ 28 * g + line * 64) .rekey
  match sweepRead s n sda (expectedKids s g) (some g) q with
  | none => none
  | some (.good l kid _, s) => if kid = k.cur then some s else sweepWrite s n sda k.cur l (some g) q
  | some (_, s) => some s

/-- REKEY_SWEEP_LINE (R115). -/
def execRekeySweepLine (n : StackId) (g : BitVec 13) (line : BitVec 22) (s : State) : Ans :=
  let gn := g.toNat
  match rangeOf s gn with
  | some (r, k) =>
    if headRekey s n != some r || (granOf s gn).owner = 31 || (placeLine s gn line.toNat).1 != n || (tgetD k.swept gn 0).testBit line.toNat
        || fillWaits s n || (fillOf s gn).isSome then .next s
    else atEngine s (swUnit n) (paidOr s (swUnit n) (rekeyLine s n r gn line.toNat k))
  | none => .next s

/-- REKEY_SWEEP_DONE: every line of the range has been visited; the predecessor leaves Draining unless a zero-fill of lines it
covered still runs (R114–R117). Log entries 6 (DESIGN CHOICE), 20 (DESIGN CHOICE). -/
def execRekeySweepDone (r : Idx64) (s : State) : Ans :=
  match tfind s.mem.kr r.val with
  | some k =>
    if k.phase != 2 || k.sweepDone || !(rangePlaces s k).all (fun p => allLines (tgetD k.swept p.gran 0)) then .next s
    else atDomain s 94 (flushDrained (setKr s r { k with sweepDone := true }))
  | none => .next s

/-! ### Verify, R114 -/

/-- The KID whose verify pass stack `n` serves: the first to have been retired that still has a line to read there (R213).
Log entry 20 (DESIGN CHOICE). -/
def headVerify (s : State) (n : Nat) : Option Nat :=
  s.mem.verifyQ.find? (fun k => (kidOf s k).covered.zipIdx.any (fun p => lacksOn s n p.1 (tgetD (kidOf s k).verified p.2 0)))

/-- Whether verify work waits on stack `n` (R213). -/
def verifyWaits (s : State) (n : Nat) : Bool := (headVerify s n).isSome

/-- The KIDs expected on a line of a stack, its FPA and its granule, by the zero-fill that governs it, or by the granule its data
belong to now; a line of no granule has FPA 0 (R98, R113, R121). Log entries 14 (DEDUCED), 58 (DESIGN CHOICE). -/
def expectedAt (s : State) (n sda : Nat) : Expect × Nat × Option Nat :=
  match fillAt s n sda, ownerOfLine s n sda with
  | some (f, line), _ =>
    (⟨f.kid, none, (rangeOf s f.place.gran).map (·.1), none⟩, 2 ^ 28 * f.place.gran + line * 64, some f.place.gran)
  | none, some (g, line) => (expectedKids s g, 2 ^ 28 * g + line * 64, some g)
  | none, none => (Expect.none, 0, none)

/-- Read one line of a verify pass for a Retired KID; a failed check leaves it unread (R114, R118). -/
def verifyLine (s : State) (n k i sda line : Nat) : Option State :=
  let (e, fpa, g) := expectedAt s n sda
  (sweepRead s n sda { e with bar := some k } g (sweepReq n fpa .verify)).map (fun r =>
    match r.1 with
    | .failed _ => r.2
    | _ => let x := kidOf r.2 k; setKid r.2 k { x with verified := tput x.verified i (setBit (tgetD x.verified i 0) line true) })

/-- VERIFY_LINE: a line of the `j`-th granule that a Retired KID has covered (R114). -/
def execVerifyLine (n : StackId) (k : Fin 64) (j : Nat) (line : BitVec 22) (s : State) : Ans :=
  let x := kidOf s k
  match x.covered[j]? with
  | some p =>
    let (m, sda) := placedAt s p line.toNat
    if headVerify s n != some k.val || m != n || (tgetD x.verified j 0).testBit line.toNat || fillWaits s n || rekeyWaits s n then .next s
    else atEngine s (swUnit n) (paidOr s (swUnit n) (verifyLine s n k j sda line.toNat))
  | none => .next s

/-- KID_VERIFY_DONE: no line the KID covered carries it, and it is Free again (R114). -/
def execKidVerifyDone (k : Fin 64) (s : State) : Ans :=
  let x := kidOf s k
  if x.st = .retired && x.covered.zipIdx.all (fun p => allLines (tgetD x.verified p.2 0)) then
    atDomain s 94 (setKid { s with mem := { s.mem with verifyQ := s.mem.verifyQ.filter (· != k.val) } } k Kid.init)
  else .next s

/-! ### Patrol, R125 -/

/-- Lines of a stack, data and metadata (R96). -/
def stackLines (s : State) : Nat := slotsPer s * granLines

/-- A metadata line as it stands now, in the cache or stored, and the words that its transfer has lost (R103, R105). -/
def metaNow (s : State) (n line : Nat) : RawLine × Nat :=
  match (tgetD s.mem.mdc (mdcKey n line) []).find? (fun e => e.line == line) with
  | some e => (e.raw, e.bad)
  | none => (rawLine s n line, if linkBad s n false then 255 else 0)

/-- The state with a metadata line put back where it stands (R105). -/
def putMeta (s : State) (n line : Nat) (r : RawLine) : State :=
  let set := tgetD s.mem.mdc (mdcKey n line) []
  if set.any (fun e => e.line == line) then
    setMdc s n line (set.map (fun e => if e.line = line then { e with raw := r, dirty := true } else e))
  else (writeMeta s n line r).2

/-- Patrol one word of a metadata line: a corrected word is put back, and an uncorrectable one makes its data line
uncorrectable (R103, R108, R118, R119, R124). Log entry 20 (DESIGN CHOICE). -/
def patrolWord (n line : Nat) (s : State) (w : Nat) : State :=
  let (raw, bad) := metaNow s n line
  match metaWord raw bad w with
  | some (v, true) => putMeta s n line (raw.setMeta w v)
  | some _ => s
  | none =>
    let d := 8 * (line - dataPer s * granLines) + w
    let (_, fpa, g) := expectedAt s n (d * 64)
    if dataPer s * granLines ≤ d then s else metaLost s n (d * 64) (g.bind (granCove s)) (sweepReq n fpa .patrol)

/-- The FPA of a metadata line, in the metadata granules of its stack (R93, R96). -/
def metaFpa (s : State) (n line : Nat) : Nat :=
  2 ^ 28 * (32 * dataPer s + n * (slotsPer s - dataPer s)) + 64 * (line - dataPer s * granLines)

/-- Patrol one line (R103, R118, R119, R125, R275). Log entry 20 (DESIGN CHOICE). -/
def patrolLine (s : State) (n line : Nat) : Option State :=
  if dataPer s * granLines ≤ line then
    (chargeWork s (swUnit n) (metaFpa s n line)).map (fun s => (List.range 8).foldl (patrolWord n line) (countOnDie s n))
  else
    let (e, fpa, g) := expectedAt s n (line * 64)
    (sweepRead s n (line * 64) e g (sweepReq n fpa .patrol)).map (·.2)

/-- Whether patrol pauses at a line: its granule is fenced (R55, R125). -/
def patrolPauses (s : State) (n line : Nat) : Bool :=
  decide (line < dataPer s * granLines) && match ownerOfLine s n (line * 64) with
    | some (g, _) => fenceOn s (granKey g)
    | none => false

/-- PATROL_VISIT: the next line of the stack is read, after zero-fill, re-key and verify, and after moves too unless patrol is
`behind` its schedule by more than 1/24 of its interval (R125, R213). Log entry 20 (DESIGN CHOICE). -/
def execPatrolVisit (t : SweepTurn) (s : State) : Ans :=
  let line := fld s (F.SW_PATROL_POS_LINE t.stack)
  if stackLines s ≤ line || !flag s (F.SC_STATUS_TRAINED t.stack) || patrolPauses s t.stack line || fillWaits s t.stack || rekeyWaits s t.stack
      || verifyWaits s t.stack || (!t.behind && (headMove s t.stack).isSome) then .next s
  else atEngine s (swUnit t.stack) (paidOr s (swUnit t.stack)
    ((patrolLine s t.stack line).map (fun s => setFld s (F.SW_PATROL_POS_LINE t.stack) (line + 1))))

/-- PATROL_PASS_END: every line has been visited; `late` when the pass has taken longer than its interval (R213). -/
def execPatrolPassEnd (n : StackId) (late : Bool) (s : State) : Ans :=
  if fld s (F.SW_PATROL_POS_LINE n) < stackLines s then .next s
  else
    let s1 := lbAdd (incCtr (setFld s (F.SW_PATROL_POS_LINE n) 0) (C.SW_PASSES n)) 15 1
    atDomain s n (if late then setFlag s1 (F.SW_STATUS_LATE n) true else s1)

end Sys2Proof.Machine
end

