-- ==== Sys2Proof/Machine/Movers.lean ====
section
/-!
DEFINITION. The row movers, the top-K rankers, and the moves that the sweep engines carry (R208–R216).
-/
namespace Sys2Proof.Machine

/-! ### Row movers, R208, R209 -/

/-- Unit identifier of row mover `n` (R30). -/
def rmUnit (n : Nat) : Nat := 0x3000 + n
/-- Unit identifier of top-K ranker `n` (R30). -/
def tkUnit (n : Nat) : Nat := 0x5000 + n
/-- The state with the mover tile of engine `n` set. -/
def setMover (s : State) (n : Nat) (m : Mover) : State := { s with en := { s.en with rm := tput s.en.rm (rmUnit n) m } }
/-- The state with the ranker tile of engine `n` set. -/
def setRanker (s : State) (n : Nat) (r : Ranker) : State := { s with en := { s.en with tk := tput s.en.tk (tkUnit n) r } }

/-- Read a mover command, with whether its reserved bits are zero (R208). -/
def readMover (b : List Byte) (cmd ctx : Nat) : Mover × Bool :=
  let m := leAt b 32 1
  let dst := leAt b 8 8
  (⟨cmd, ctx, leAt b 0 8 % 2 ^ 48, dst % 2 ^ 48, leAt b 16 4, leAt b 20 4, leAt b 24 4 % 2 ^ 17, leAt b 28 4 % 2 ^ 17,
    2 ^ bits m 0 2, bit m 2, bit m 3, 0⟩,
   leAt b 0 8 < 2 ^ 48 && dst < 2 ^ 48 && (!bit m 3 || bits dst 7 9 == 0) && leAt b 24 4 < 2 ^ 17 && leAt b 28 4 < 2 ^ 17
     && m < 16 && leAt b 33 31 == 0)

/-- Destination rows and bytes of one (R208). -/
def Mover.dstRows (m : Mover) : Nat := if m.trans then m.cols else m.rows
/-- Bytes of a destination row (R208). -/
def Mover.dstBytes (m : Mover) : Nat := m.esize * (if m.trans then m.rows else m.cols)

/-- The DETAIL of reason 0x50 a command earns, or none (R209). -/
def moverFault (x : Step) (m : Mover) (ok : Bool) : Option Nat :=
  let off := if m.outk then bits m.dst 16 32 else m.dst
  let e := m.esize
  if !ok then some 1
  else if m.rows = 0 || 65536 < m.rows || m.cols = 0 || 65536 < m.cols then some 2
  else if m.src % e != 0 || off % e != 0 || m.sstride % e != 0 || m.dstride % e != 0 || m.sstride < m.cols * e
      || m.dstride < m.dstBytes then some 3
  else if m.outk && !portOutOk x m.dst ((m.dstRows - 1) * m.dstride + m.dstBytes) then some 4
  else none

/-- Read and judge a mover command (R208, R209). -/
def startMover (c n : Nat) (t : OnTile) : Work State := do
  let u := rmUnit n
  let b ← readWork (engWho c u t.step.ctx) t.tile.cmd 64
  let s ← getSt
  match b with
  | none => pure (failTile s c u 0x51 1 t.tile.cmd)
  | some b =>
    let (m, ok) := readMover b t.tile.cmd t.step.ctx
    match moverFault t.step m ok with
    | some d => pure (failTile s c u 0x50 d t.tile.cmd)
    | none => pure (setMover (beginTile s u) n m)

/-- MOVER_TILE_START (R209). -/
def execMoverTileStart (rm : Fin 16) (s : State) : Ans :=
  let u := rmUnit rm
  match newTile s u, unitOwner s u with
  | some t, some c =>
    if t.eng.abort then atDomain s (unitDomain u) (endTile s u .aborted)
    else atEngine s u (runWork s (startMover c rm t))
  | _, _ => .next s

/-- Blocks of a mover in a row of blocks, and in all (R209). -/
def Mover.blockCols (m : Mover) : Nat := (m.cols + 63) / 64
/-- Blocks of a mover. -/
def Mover.blocks (m : Mover) : Nat := (m.rows + 63) / 64 * m.blockCols

/-- A block: first row and column, and how many of each (R209). -/
def Mover.block (m : Mover) : Nat × Nat × Nat × Nat :=
  let i := m.next / m.blockCols * 64
  let j := m.next % m.blockCols * 64
  (i, j, min 64 (m.rows - i), min 64 (m.cols - j))

/-- Read the rows of a block; the failing DVA where a read fails. -/
def readBlock (w : Who) (m : Mover) (j cols : Nat) : List Nat → Work (Except Nat (List (List Byte)))
  | [] => pure (.ok [])
  | i :: is => do
    let r ← readAt w (m.src + i * m.sstride + j * m.esize) (cols * m.esize)
    match r with
    | .error a => pure (.error a)
    | .ok b => do
      let rest ← readBlock w m j cols is
      pure (rest.map (b :: ·))

/-- The destination runs of a block: offset from DST and bytes (R208). -/
def Mover.runs (m : Mover) (data : List (List Byte)) : List (Nat × List Byte) :=
  let (i, j, _, cols) := m.block
  if m.trans then
    (List.range cols).map (fun k =>
      ((j + k) * m.dstride + i * m.esize, data.flatMap (fun r => (r.drop (k * m.esize)).take m.esize)))
  else data.zipIdx.map (fun r => ((i + r.2) * m.dstride + j * m.esize, r.1))

/-- Write runs at a DVA; the failing DVA where a write is refused. -/
def writeRuns (w : Who) (dst : Nat) : List (Nat × List Byte) → Work (Option Nat)
  | [] => pure none
  | r :: rs => do
    let ok ← writeWork w (dst + r.1) r.2
    if ok then writeRuns w dst rs else pure (some (dst + r.1))

/-- The stored lines and words of `s` as `old` has them: a block that is refused is not written (R209). Log entry 36 (DESIGN CHOICE). -/
def undoWrites (s old : State) : State :=
  { s with mem := { s.mem with lines := old.mem.lines, mdc := old.mem.mdc, tpw := old.mem.tpw, tpWritten := old.mem.tpWritten } }

/-- A block has been moved; after the last one the tile ends (R209). -/
def nextBlock (s : State) (c n : Nat) (m : Mover) (bytes : Nat) : State :=
  let s := addCtr (setMover s n { m with next := m.next + 1 }) (C.TU_CV_RM_BYTES c) bytes
  if m.blocks ≤ m.next + 1 then endTile s (rmUnit n) .done else s

/-- Move one block (R209). Log entry 36 (DESIGN CHOICE). -/
def moveBlock (c n : Nat) (t : OnTile) (m : Mover) : Work State := do
  let u := rmUnit n
  let w := engWho c u m.ctx
  let (i, j, rows, cols) := m.block
  let d ← readBlock w m j cols ((List.range rows).map (i + ·))
  let s ← getSt
  match d with
  | .error a => pure (failTile s c u 0x51 1 a)
  | .ok d =>
    let bytes := rows * cols * m.esize
    if m.outk then
      let s := (m.runs d).foldl (fun s r => sendDelivery s ⟨u, t.eng.step, bits m.dst 0 7, bits m.dst 16 32 + r.1, r.2⟩) s
      pure (nextBlock s c n m bytes)
    else do
      let bad ← writeRuns w m.dst (m.runs d)
      let s' ← getSt
      pure (match bad with
        | some a => failTile (undoWrites s' s) c u 0x51 2 a
        | none => nextBlock s' c n m bytes)

/-- MOVER_BLOCK: the next block; a tile told to abort ends here (R209). -/
def execMoverBlock (rm : Fin 16) (s : State) : Ans :=
  let u := rmUnit rm
  match liveTile s u, tfind s.en.rm u, unitOwner s u with
  | some t, some m, some c =>
    if t.eng.abort then atDomain s (unitDomain u) (endTile s u .aborted)
    else atEngine s u (runWork s (moveBlock c rm t m))
  | _, _, _ => .next s

/-! ### Rankers, R210–R212 -/

/-- What a ranker command names, with the fields a tile in progress does not keep. -/
structure RankCmd where
  rk : Ranker
  ofs : Nat
  n : Nat
  nseg : Nat
deriving DecidableEq, Repr

/-- Read a ranker command, with whether its reserved bits are zero (R210). -/
def readRank (b : List Byte) (cmd ctx : Nat) : RankCmd × Bool :=
  let m := leAt b 40 1
  (⟨⟨cmd, ctx, leAt b 0 8 % 2 ^ 48, leAt b 8 8 % 2 ^ 48, leAt b 24 8 % 2 ^ 48, [], leAt b 38 2 % 2 ^ 13, bits m 0 2, bit m 2,
     bit m 3, leAt b 44 4 % 2 ^ 24, 0⟩, leAt b 16 8 % 2 ^ 48, leAt b 32 4 % 2 ^ 21, leAt b 36 2 % 2 ^ 13⟩,
   leAt b 0 8 < 2 ^ 48 && leAt b 8 8 < 2 ^ 48 && leAt b 16 8 < 2 ^ 48 && leAt b 24 8 < 2 ^ 48 && leAt b 32 4 < 2 ^ 21
     && leAt b 36 2 < 2 ^ 13 && leAt b 38 2 < 2 ^ 13 && m < 16 && bits m 0 2 != 3 && leAt b 41 3 == 0
     && leAt b 44 4 < 2 ^ 24 && leAt b 48 16 == 0)

/-- Whether the sizes of a ranker command are in range (R210, R212). Log entry 36 (DESIGN CHOICE). -/
def RankCmd.sizesOk (k : RankCmd) : Bool :=
  decide (1 ≤ k.n ∧ k.n ≤ 1048576) && decide (1 ≤ k.nseg ∧ k.nseg ≤ 4096) && decide (1 ≤ k.rk.k ∧ k.rk.k ≤ 4096)
    && k.rk.stride % 16 == 0 && decide (16 * k.rk.k ≤ k.rk.stride)

/-- Begin a ranker tile with its offsets, when these keep to R165. Log entry 36 (DESIGN CHOICE). -/
def beginRank (s : State) (c n : Nat) (k : RankCmd) (offs : List Nat) : State :=
  let u := tkUnit n
  match badOffset offs k.n with
  | some i => failTile s c u 0x60 3 (if k.ofs = 0 then k.rk.cmdDva else k.ofs + 4 * i)
  | none => setRanker (beginTile s u) n { k.rk with offs := offs }

/-- Read and judge a ranker command (R210, R212). -/
def startRank (c n : Nat) (t : OnTile) : Work State := do
  let u := tkUnit n
  let w := engWho c u t.step.ctx
  let b ← readWork w t.tile.cmd 64
  let s ← getSt
  match b with
  | none => pure (failTile s c u 0x61 1 t.tile.cmd)
  | some b =>
    let (k, ok) := readRank b t.tile.cmd t.step.ctx
    if !ok then pure (failTile s c u 0x60 1 t.tile.cmd)
    else if !k.sizesOk then pure (failTile s c u 0x60 2 t.tile.cmd)
    else if k.ofs = 0 then
      if k.nseg = 1 then pure (beginRank s c n k [0, k.n]) else pure (failTile s c u 0x60 3 t.tile.cmd)
    else do
      let o ← readAt w k.ofs (4 * (k.nseg + 1))
      let s ← getSt
      pure (match o with
        | .error a => failTile s c u 0x61 3 a
        | .ok o => beginRank s c n k ((List.range (k.nseg + 1)).map (fun i => leAt o (4 * i) 4)))

/-- RANKER_TILE_START (R212). -/
def execRankerTileStart (tk : Fin 8) (s : State) : Ans :=
  let u := tkUnit tk
  match newTile s u, unitOwner s u with
  | some t, some c =>
    if t.eng.abort then atDomain s (unitDomain u) (endTile s u .aborted)
    else atEngine s u (runWork s (startRank c tk t))
  | _, _ => .next s

/-- Bytes of a score (R210). -/
def Ranker.scoreSize (r : Ranker) : Nat := if r.sfmt = 0 then 4 else 2

/-- A score converted exactly to FP32 (R211); a NaN keeps its sign and its payload's leading bits. -/
def Ranker.toF32 (r : Ranker) (x : Nat) : Word :=
  if r.sfmt = 0 then BitVec.ofNat 32 x
  else if r.sfmt = 1 then BitVec.ofNat 32 (2 ^ 16 * x)
  else if bits x 10 5 = 31 then BitVec.ofNat 32 (2 ^ 31 * bits x 15 1 + 0x7F800000 + 2 ^ 13 * bits x 0 10)
  else toLane (fp16.decode x)

/-- Whether score `a` stands before score `b` by value: NaNs last, equal values neither (R211). -/
def before (desc : Bool) (a b : Word) : Bool :=
  let x := laneVal a
  let y := laneVal b
  if x == .nan then false else if y == .nan then true
  else if desc then y.lt x else x.lt y

/-- Put a score with its position into a list in order, after its equals (R211). -/
def insertScore (desc : Bool) (e : Word × Nat) : List (Word × Nat) → List (Word × Nat)
  | [] => [e]
  | x :: xs => if before desc e.1 x.1 then e :: x :: xs else x :: insertScore desc e xs

/-- The first `k` of a list of scores in order (R211). -/
def topScores (desc : Bool) (k : Nat) (l : List Word) : List (Word × Nat) :=
  (l.zipIdx).foldl (fun a e => (insertScore desc e a).take k) []

/-- The identifiers of the entries that are output; the failing DVA where a read fails (R211). -/
def readIds (w : Who) (r : Ranker) (first : Nat) : List Nat → Work (Except Nat (List Nat))
  | [] => pure (.ok [])
  | p :: ps => do
    let z := if r.ids64 then 8 else 4
    let x ← if r.ids = 0 then pure (.ok (toBytes 8 p)) else readAt w (r.ids + (first + p) * z) z
    match x with
    | .error a => pure (.error a)
    | .ok b => do
      let rest ← readIds w r first ps
      pure (rest.map (ofBytes b :: ·))

/-- The entry of R211. -/
def rankEntry (score : Word) (pos id : Nat) : List Byte := toBytes 4 score.toNat ++ toBytes 4 pos ++ toBytes 8 id

/-- The padding entry of R211. -/
def padEntry : List Byte := rankEntry 0x7FC00000 0xFFFFFFFF (2 ^ 64 - 1)

/-- The bytes of a segment's output (R211). -/
def rankBytes (k : Nat) (top : List (Word × Nat)) (ids : List Nat) : List Byte :=
  (List.zipWith (fun (e : Word × Nat) i => rankEntry e.1 e.2 i) top ids).flatten
    ++ (List.replicate (k - top.length) padEntry).flatten

/-- A segment has been output; after the last one the tile ends (R212). -/
def nextSegment (s : State) (c n : Nat) (r : Ranker) (len : Nat) : State :=
  let s := incCtr (addCtr (setRanker s n { r with next := r.next + 1 }) (C.TU_CV_TK_SCORES c) len) (C.TU_CV_TK_SEGS c)
  if r.offs.length ≤ r.next + 2 then endTile s (tkUnit n) .done else s

/-- Rank one segment (R211, R212). -/
def rankSegment (c n : Nat) (r : Ranker) : Work State := do
  let u := tkUnit n
  let w := engWho c u r.ctx
  let a := (r.offs[r.next]?).getD 0
  let len := (r.offs[r.next + 1]?).getD 0 - a
  let z := r.scoreSize
  let b ← readAt w (r.scores + a * z) (len * z)
  let s ← getSt
  match b with
  | .error d => pure (failTile s c u 0x61 1 d)
  | .ok b => do
    let top := topScores r.desc r.k ((List.range len).map (fun i => r.toF32 (leAt b (i * z) z)))
    let ids ← readIds w r a (top.map (·.2))
    let s ← getSt
    match ids with
    | .error d => pure (failTile s c u 0x61 2 d)
    | .ok ids => do
      let dst := r.out + r.next * r.stride
      let ok ← writeWork w dst (rankBytes r.k top ids)
      let s ← getSt
      pure (if ok then nextSegment s c n r len else failTile s c u 0x61 4 dst)

/-- RANKER_SEGMENT: the next segment; a tile told to abort ends here (R211, R212). -/
def execRankerSegment (tk : Fin 8) (s : State) : Ans :=
  let u := tkUnit tk
  match liveTile s u, tfind s.en.tk u, unitOwner s u with
  | some t, some r, some c =>
    if t.eng.abort then atDomain s (unitDomain u) (endTile s u .aborted)
    else atEngine s u (runWork s (rankSegment c tk r))
  | _, _, _ => .next s

/-! ### Moves, R213–R215 -/

/-- Tenant moves of a cove that are queued or running (SW_CV_MV_STATUS.QUEUED). -/
def tenantMoves (s : State) (c : Nat) : Nat :=
  (s.en.moves.filter (fun m => m.cove == c && (m.kind == .prefetch || m.kind == .advice))).length

/-- The event a staged move signals, unless NOEV is set. -/
def stagedEvent (s : State) (c : Nat) : Option (Nat × Nat) :=
  if flag s (F.SW_CV_MV_NOEV c) then none
  else some (fld s (F.SW_CV_MV_EVENT c), fld64 s (F.SW_CV_MV_VAL_LO c) (F.SW_CV_MV_VAL_HI c))

/-- Signal a move's event. -/
def moveEvent (s : State) (c : Nat) (e : Option (Nat × Nat)) : State :=
  match e with | some (e, v) => signalEvent s c e v 3 | none => s

/-- A GO of a move: malformed, full, dropped, or queued (R214). Log entry 37 (DESIGN CHOICE). -/
def moveGo (s : State) (c : Nat) : State :=
  let src := fld64 s (F.SW_CV_MV_SRC_LO c) (F.SW_CV_MV_SRC_HI c)
  let dst := fld64 s (F.SW_CV_MV_DST_LO c) (F.SW_CV_MV_DST_HI c)
  let len := fld s (F.SW_CV_MV_LEN c)
  let advice := flag s (F.SW_CV_MV_ADVICE c)
  let n := tenantMoves s c
  if src % 64 != 0 || dst % 64 != 0 || 2 ^ 48 ≤ src || 2 ^ 48 ≤ dst || len % 64 != 0 || len < 64 || 2 ^ 30 < len then
    setFlag s (F.SW_CV_MV_STATUS_BAD c) true
  else if !advice && 64 ≤ n then setFlag s (F.SW_CV_MV_STATUS_FULL c) true
  else if advice && 32 ≤ n then moveEvent (incCtr s (C.SW_CV_MV_DROPPED c)) c (stagedEvent s c)
  else addMove s c (fld s (F.SW_CV_MV_CTX c)) src dst len (if advice then .advice else .prefetch) (stagedEvent s c)

/-- SW_CV_MV_GO (R214). -/
def execSwCvMvGo (q : Requester) (c : CoveId) (s : State) : Ans :=
  atWindow s q c (winBase c + 0x50A4) (moveGo s c)

/-- Whether a DVA of a context leads to a fenced granule, so that the move pauses (R215). Log entry 37 (DESIGN CHOICE). -/
def fencedAt (s : State) (w : Who) (dva : Nat) (acc : Access) : Bool :=
  match (lookup s w.client w.tag w.ctx dva 64 acc).1 with
  | .hit fpa _ => fenceOn s (granKey (fpa / 2 ^ 28))
  | _ => false

/-- Bytes of the move's next access: a line, or the rest of a row. Log entry 37 (DESIGN CHOICE). -/
def Move.step (m : Move) : Nat := min (64 - (m.at.1) % 64) (m.len - m.done % m.len)

/-- Write the parts of some lines; the line refused with the reason of its record, or none. -/
def writeLinesErr (w : Who) (dva : Nat) (data : List Byte) : List Nat → Work (Option (Nat × Nat))
  | [] => pure none
  | d :: ds => do
    let r ← lineWork w d (linePart dva data d)
    if r.performed then writeLinesErr w dva data ds else pure (some (errReason r, max d dva))

/-- Move the next line of a move: read it, then write it (R213, R214). Log entry 37 (DESIGN CHOICE). -/
def moveLine (s : State) (m : Move) : Work State := do
  let w : Who := { engWho m.cove (swUnit m.sweep) m.ctx with move := some m.id }
  let (src, dst) := m.at
  let n := m.step
  if fencedAt s w src .read || fencedAt s w dst (.write 0 0) || fencedAt s w (dst + m.step - 1) (.write 0 0) then pure s
  else do
    let r ← lineWork w (src / 64 * 64) .read
    let s ← getSt
    match r.bytes? with
    | none => pure (modMove s m.id (fun x => { x with failed := some (errReason r, src) }))
    | some b => do
      let bad ← writeLinesErr w dst ((b.drop (src % 64)).take n) (linesOf dst n)
      let s ← getSt
      pure (match bad with
        | some e => modMove s m.id (fun x => { x with failed := some e })
        | none => addCtr (modMove s m.id (fun x => { x with done := x.done + n })) (C.SW_CV_MV_MOVED m.cove) n)

/-- MOVE_LINE: the sweep engine moves one line of the move it runs, when its regulator holds credit; after zero-fill, re-key and
verify, and after a patrol that is `behind` its schedule by more than 1/24 of its interval (R213, R214). Log entry 20 (DESIGN CHOICE). -/
def execMoveLine (t : SweepTurn) (s : State) : Ans :=
  match headMove s t.stack with
  | some m =>
    if fillWaits s t.stack || rekeyWaits s t.stack || verifyWaits s t.stack || t.behind then .next s
    else atEngine s (swUnit t.stack) (runWork s (moveLine s m))
  | none => .next s

/-- The state without a move, and without what waits for it. Log entry 37 (DESIGN CHOICE). -/
def dropMove (s : State) (id : Nat) : State := { s with en := { s.en with moves := s.en.moves.filter (fun m => m.id != id) } }

/-- The row of a compaction move has been folded, or is left for this compaction (R207). Log entry 37 (DESIGN CHOICE). -/
def endFold (s : State) (m : Move) (ok : Bool) : State :=
  match m.kind with
  | .compaction slot _ => modTab s m.cove slot (fun x => match x.folding with
    | some f => if ok then { x with folding := some { f with done := true } }
      else { x with folding := none, skip := f.row :: x.skip }
    | none => x)
  | _ => s

/-- How a move that has failed ends; the status register is of the tenant's moves (R214). -/
def endFailed (s : State) (m : Move) (reason dva : Nat) : State :=
  let s := endFold s m false
  let tenant := match m.kind with | .compaction _ _ => false | _ => true
  if reason = 0 then moveEvent (if tenant then setFlag s (F.SW_CV_MV_STATUS_ERR m.cove) true else s) m.cove m.event
  else if m.kind = .advice then moveEvent (incCtr s (C.SW_CV_MV_DROPPED m.cove)) m.cove m.event
  else
    let s := if m.kind = .prefetch then setFlag s (F.SW_CV_MV_STATUS_ERR m.cove) true else s
    moveEvent (unitNote s m.cove (swUnit m.sweep) 0x68 reason dva) m.cove m.event

/-- MOVE_END: a move whose lines have all been moved, or that has failed, ends (R214). Log entry 37 (DESIGN CHOICE). -/
def execMoveEnd (id : Nat) (s : State) : Ans :=
  match s.en.moves.find? (fun m => m.id == id) with
  | none => .next s
  | some m =>
    let s' := dropMove s id
    match m.failed with
    | some (reason, dva) => atDomain s (unitDomain (swUnit m.sweep)) (endFailed s' m reason dva)
    | none =>
      if m.whole then
        atDomain s (unitDomain (swUnit m.sweep)) (moveEvent (endFold (incCtr s' (C.SW_MOVES m.sweep)) m true) m.cove m.event)
      else .next s

end Sys2Proof.Machine
end

