-- ==== Sys2Proof/Machine/Steps.lean ====
section
/-!
DEFINITION. The commands of the scheduler: release, placement, tiles, watchdog, preemption, chunks, retirement, and the
destruction of a queue (chapter 09, R234, R235, R244).
-/
namespace Sys2Proof.Machine

/-! ### Step descriptors, R247–R251 -/

/-- A step descriptor's header (R247). -/
structure StepHdr where
  ntile : Nat
  nstage : Nat
  nchunk : Nat
  tok : Nat
  skind : Nat
  livemap : Nat
  fallback : Nat
  deadline : Nat
  est : Nat
  nlive : Nat
  /-- Every reserved bit is zero. -/
  ok : Bool
deriving DecidableEq, Repr

/-- Read a header (R247). -/
def readHdr (b : List Byte) : StepHdr :=
  { ntile := leAt b 0 2 % 2 ^ 13, nstage := leAt b 2 1, nchunk := leAt b 3 1 % 128, tok := leAt b 4 2 % 1024,
    skind := leAt b 6 1 % 4, livemap := leAt b 8 6, fallback := leAt b 16 6, deadline := leAt b 24 4, est := leAt b 28 4,
    nlive := leAt b 32 2,
    ok := leAt b 0 2 < 2 ^ 13 && leAt b 3 1 < 128 && leAt b 4 2 < 1024 && leAt b 6 1 < 3 && leAt b 7 1 == 0
      && leAt b 14 2 == 0 && leAt b 22 2 == 0 && leAt b 34 30 == 0 }

/-- Whether the counts of a header lie in their ranges (R247, R250). -/
def StepHdr.inRange (h : StepHdr) : Bool :=
  decide (1 ≤ h.ntile ∧ h.ntile ≤ 4096) && decide (1 ≤ h.nstage ∧ h.nstage ≤ 255) && decide (1 ≤ h.nchunk ∧ h.nchunk ≤ 64)
    && (if 1 < h.nchunk || h.skind = 1 then decide (1 ≤ h.tok ∧ h.tok ≤ 512) else h.tok == 0)
    && (if h.livemap = 0 then h.nlive == 0 else h.nlive == h.nchunk * h.nstage)

/-- A tile entry (R248), with whether its reserved bits are zero. -/
def readTile (b : List Byte) (i : Nat) : TileEnt × Bool :=
  let w0 := leAt b (16 * i) 8
  let w1 := leAt b (16 * i + 8) 8
  (⟨bits w0 0 48, bits w0 48 3, bits w0 51 7, bits w0 58 6, bits w1 0 8, bits w1 8 2, bits w1 10 5, bits w1 16 16⟩,
   !bit w1 15 && w1 / 2 ^ 32 == 0 && bits w1 8 2 != 3)

/-- A live-map entry (R251), with whether its reserved bits are zero. -/
def readLive (b : List Byte) (i : Nat) : LiveEnt × Bool :=
  let w0 := leAt b (16 * i) 8
  (⟨bits w0 0 48, bits w0 48 8, bit w0 56, bit w0 57 && bit w0 56, leAt b (16 * i + 8) 4⟩,
   w0 / 2 ^ 58 == 0 && leAt b (16 * i + 12) 4 == 0)

/-- A checked step: what its descriptor holds. -/
structure StepDesc where
  hdr : StepHdr
  tiles : List TileEnt
  live : List LiveEnt
deriving DecidableEq, Repr

/-- Whether a chunked step with a live map has a chunk end, other than the last, that is not CHEAP (R250). Log entry 31 (DESIGN CHOICE). -/
def badChunk (h : StepHdr) (live : List LiveEnt) : Bool :=
  1 < h.nchunk && h.livemap != 0 &&
    (List.range (h.nchunk - 1)).any (fun c => !((live[c * h.nstage + h.nstage - 1]?).map (·.cheap)).getD false)

/-- Read and check a step descriptor: the step, or the DETAIL of reason 0x31 (R250). `isFallback` says that the
descriptor was named by a FALLBACK. Log entries 29 (DESIGN CHOICE), 31 (DESIGN CHOICE). -/
def readDesc (w : Who) (desc : Nat) (isFallback : Bool) : Work (Except Nat StepDesc) := do
  let b ← readWork w desc 64
  match b with
  | none => pure (.error 1)
  | some b =>
    let h := readHdr b
    if !h.ok then pure (.error 2)
    else if !h.inRange then pure (.error 3)
    else do
      let tb ← readWork w (desc + 64) (16 * h.ntile)
      match tb with
      | none => pure (.error 1)
      | some tb =>
        let ts := (List.range h.ntile).map (readTile tb)
        if ts.any (fun t => !t.2) then pure (.error 2)
        else if ts.any (fun t => 4 < t.1.kind || h.nstage ≤ t.1.stage || h.nchunk ≤ t.1.chunk) then pure (.error 4)
        else do
          let lb ← readWork w h.livemap (16 * h.nlive)
          match lb with
          | none => pure (.error 1)
          | some lb =>
            let ls := (List.range h.nlive).map (readLive lb)
            if ls.any (fun l => !l.2) then pure (.error 2)
            else if badChunk h (ls.map (·.1)) then pure (.error 5)
            else if isFallback && h.fallback != 0 then pure (.error 6)
            else pure (.ok ⟨h, ts.map (·.1), ls.map (·.1)⟩)

/-- Read a range list: the ranges, or DETAIL 1 unreadable, 2 a mismatch (R251, R385). Log entry 31 (DESIGN CHOICE). -/
def readRanges (w : Who) (spMib : Nat) (l : LiveEnt) : Work (Except Nat (List LiveRange)) := do
  let b ← readWork w l.ranges (16 * l.nr)
  match b with
  | none => pure (.error 1)
  | some b =>
    let rs := (List.range l.nr).map (fun i =>
      let w0 := leAt b (16 * i) 8
      let w1 := leAt b (16 * i + 8) 8
      ((⟨bits w0 0 48, bit w0 48, bits w0 49 7, bits w1 0 25⟩ : LiveRange), w0 / 2 ^ 56 == 0 && w1 / 2 ^ 25 == 0))
    let ok (r : LiveRange × Bool) : Bool := r.2 && r.1.len % 64 == 0 && decide (64 ≤ r.1.len ∧ r.1.len ≤ 2 ^ 24)
      && (!r.1.scratch || decide (r.1.addr + r.1.len ≤ 2 ^ 20 * (1 + spMib)))
    if rs.all ok && rs.foldl (fun a r => a + r.1.len) 0 == l.bytes then pure (.ok (rs.map (·.1))) else pure (.error 2)

/-! ### Release, R234, R255 -/

/-- Released entries of a queue that have not retired. -/
def runsOf (s : State) (c q : Nat) : List Run := s.sq.runs.filter (fun r => r.cove == c && r.queue == q)

/-- QUEUE_HEAD_RELEASE: the head goes to the scheduler when its event and its slot allow it and there is room (R234, R255). -/
def execQueueHeadRelease (c : CoveId) (queue : Idx64) (s : State) : Ans :=
  let x := queueOf s c queue
  match x.fifo with
  | [] => .next s
  | e :: rest =>
    let (ok, s1) := match e.wev with
      | none => (true, s)
      | some (ev, tgt) => match evValue s c ev with
        | (some v, s1) => (decide (tgt ≤ v), s1)
        | (none, s1) => (false, s1)
    if !coveActive s c || x.ph != .active then .next s
    else if ok && isResident s c e.ctx && decide ((runsOf s c queue).length < 4) && decide (releasedSteps s c < 256) then
      let r : Run := ⟨c, queue, e, !e.graph, if e.graph then [] else [e.target], false, false, none, none, false, 0⟩
      atDomain s 94 { setQueue s1 c queue { x with fifo := rest } with sq := { s1.sq with runs := s1.sq.runs ++ [r] } }
    else atDomain s 94 s1

/-- An entry retires at once: no further step of it runs (R241, R250). -/
def endRun (s : State) (id : Nat) : State := modRun s id (fun r => { r with todo := [], finished := true })

/-- Read the image of a graph launch: its steps' descriptors, or the DETAIL of reason 0x48 (R240, R241). -/
def readImage (w : Who) (base size : Nat) : Work (Except Nat (List Nat)) := do
  let h ← readWork w base 64
  match h with
  | none => pure (.error 1)
  | some h =>
    let n := leAt h 0 4
    if n = 0 || 4096 < n || leAt h 4 60 != 0 || size < 64 + 8 * n then pure (.error 2)
    else do
      let b ← readWork w (base + 64) (8 * n)
      match b with
      | none => pure (.error 1)
      | some b =>
        let ds := (List.range n).map (fun i => leAt b (8 * i) 8)
        if ds.any (fun d => 2 ^ 48 ≤ d) then pure (.error 2) else pure (.ok ds)

/-- The EST_NS of a list of descriptors, and DEADLINE_NS of the first; an unreadable header gives zeros (R270, R271). -/
def readEsts (w : Who) : List Nat → Work (List (Nat × Nat))
  | [] => pure []
  | d :: ds => do
    let b ← readWork w d 64
    let h := readHdr (b.getD [])
    let rest ← readEsts w ds
    pure ((h.est, h.deadline) :: rest)

/-- A tide's period in ns, from XA or, while ON_FIO, from FIO at 400 MHz (R71, R73). -/
def periodNs (s : State) (c : Nat) : Nat :=
  let p := (masterOf s c).period
  if flag s F.TD_STATUS_ON_FIO then p * 10 / 4 else if s.plan.xaKhz = 0 then 0 else p * 1000000 / s.plan.xaKhz

/-- The deadline decision of a released entry (R270, R271). -/
def judge (s : State) (c q : Nat) (r : Run) (now : Nat) (ests : List (Nat × Nat)) : State :=
  let sum := ests.foldl (fun a e => a + e.1) 0
  let x := queueOf s c q
  let x := if x.seeded then x else { x with avg := sum, dev := sum / 8, seeded := true }
  let dl := ((ests.head?).map (·.2)).getD 0
  let d := r.ent.accepted + dl
  let late := dl != 0 && decide (d < now + periodNs s c + 2000 + (x.avg + 2 * x.dev))
  let x := if late then { x with avg := (Int.toNat ((x.avg : Int) - Int.tdiv ((x.avg : Int) - sum) 8)) } else x
  let s := setQueue s c q x
  let s := if late then incCtr s (qCtr C.SQ_CV_Q_FALLBACK c q) else s
  modRun s r.ent.id (fun r => { r with judged := true, fallback := late, estSum := sum,
                                       deadline := if dl = 0 then none else some d })

/-- The table slots that delta tiles name in their commands, by logical engine: that of the engine's first tile (R201). -/
def readSlots (w : Who) : List TileEnt → Work (Tbl Nat)
  | [] => pure []
  | t :: ts => do
    let rest ← readSlots w ts
    if t.kind = 3 then do
      let b ← readWork w t.cmd 1
      pure (match b with | some b => tput rest t.leng (leAt b 0 1 % 64) | none => rest)
    else pure rest

/-- The mapping of a step on the units its cove has now (R201, R253). -/
def Step.place (s : State) (x : Step) : Option (Tbl Nat) :=
  placeAll s x.cove (boundOk s x.cove x.tslots) (x.tiles.map (·.1)) []

/-! ### Preemption triggers, R264 -/

/-- Free ports of a cove: usable ones without an occupant. -/
def freePortsOf (s : State) (c : Nat) : List Nat :=
  (List.range 128).filter (fun u => usable s c u && (occupant s u).isNone)

/-- Ranges that a preempted step will restore (R267). -/
def Step.restores (x : Step) : List LiveRange := match x.ph with | .preempted _ => x.saved | _ => []

/-- Whether a step has a tile to run, or a range to restore, on a logical port. -/
def Step.wantsPort (x : Step) (leng : Nat) : Bool :=
  x.tiles.any (fun t => t.2 != .complete && t.1.kind == 0 && t.1.leng == leng) || x.restores.any (fun r => r.leng == leng)

/-- Ports a step holds when it resumes: those of the logical ports it still has tiles or ranges on. -/
def Step.portsNeeded (x : Step) : List Nat :=
  ((x.map.filter (fun e => e.1 / 128 == 0 && x.wantsPort e.1)).map (·.2)).dedup

/-- Candidate victims of a cove: steps of normal queues that occupy ports and have a stop point, most recent start first,
ties to the higher queue (R264). -/
def victims (s : State) (c : Nat) : List (Nat × Step) :=
  let occ (i : Nat) : Bool := s.sq.ports.any (fun e => e.2.1 == i)
  let l := stepsWhere s (fun x => x.cove == c && !(queueOf s c x.queue).rt && x.liveDva != 0 && x.ph == .running)
  (l.filter (fun e => occ e.1)).mergeSort (fun a b => decide (b.2.startAt < a.2.startAt) ||
    (a.2.startAt == b.2.startAt && decide (b.2.queue ≤ a.2.queue)))

/-- Choose victims until enough ports would be freed (R264). -/
def chooseVictims (s : State) : List (Nat × Step) → Nat → List Nat
  | [], _ => []
  | _, 0 => []
  | (i, _) :: rest, n + 1 =>
    let freed := (s.sq.ports.filter (fun e => e.2.1 == i)).length
    i :: chooseVictims s rest (n + 1 - freed)

/-- Ports that the victims of a preemption hold. -/
def victimPorts (s : State) (vs : List Nat) : List Nat := (s.sq.ports.filter (fun e => vs.contains e.2.1)).map (·.1)

/-- Preempt victims for a step: they join the preemption's entry, and its switch time will be taken (R265, R268). -/
def preemptFor (s : State) (c i : Nat) (vs : List Nat) (far : Bool) : State :=
  let w : Switch := ⟨vs, victimPorts s vs, none⟩
  let s := vs.foldl (fun s v => joinPreempt s c v far) s
  { s with sq := { s.sq with switching := tput s.sq.switching i w } }

/-- Ports a step needs on the cove's ports: one for each logical port, or all of them when the step names more (R253). -/
def portNeed (s : State) (c : Nat) (x : Step) : Nat :=
  min ((x.tiles.filter (fun t => t.1.kind == 0)).map (·.1.leng)).dedup.length ((List.range 128).filter (usable s c)).length

/-- The victims of a step of a real-time queue that finds fewer free ports than it needs (R264). -/
def rtVictims (s : State) (c : Nat) (x : Step) : List Nat :=
  if (queueOf s c x.queue).rt then chooseVictims s (victims s c) (portNeed s c x - (freePortsOf s c).length) else []

/-- A step preempts its victims, which stop at their next marked boundary, CHEAP or not (R264, R265). -/
def triggerPreempt (s : State) (c i : Nat) (vs : List Nat) (far : Bool) : State :=
  if vs.isEmpty then s
  else preemptFor (vs.foldl (fun s v => modStep s v (fun x => { x with cheapOnly := false })) s) c i vs far

/-- Place a step, the ports of its victims as if free, and put it into a start group; without engines it waits unplaced
(R253, R256, R264). Log entry 32 (DESIGN CHOICE). -/
def placeStep (s : State) (c i : Nat) (far : Bool) : State :=
  match stepOf s i with
  | none => s
  | some x =>
    let vs := rtVictims s c x
    match x.place (vs.foldl freePorts s) with
    | none => s
    | some m => triggerPreempt (joinStart (setStep s i { x with map := m, placed := true }) c i far) c i vs far

/-- Make a step of a checked descriptor (R272). -/
def newStep (c q ctx : Nat) (r : Run) (desc : Nat) (d : StepDesc) (tslots : Tbl Nat) : Step :=
  { cove := c, queue := q, entry := r.ent.id, ctx := ctx, desc := desc, nstage := d.hdr.nstage, nchunk := d.hdr.nchunk,
    skind := d.hdr.skind, liveDva := d.hdr.livemap, live := d.live, tiles := d.tiles.map (fun t => (t, .waiting)),
    ph := .placed, map := [], placed := false, tslots := tslots, ctxs := [], vec := [], chunk := 0, stage := 0, cheapOnly := false, err := false,
    seq := 0, started := false, accepted := r.ent.accepted, startAt := 0, since := 0, units := [], moves := [], saved := [],
    noted := [], tokens := 0, fallback := d.hdr.fallback, deadlineNs := d.hdr.deadline, est := d.hdr.est }

/-- The descriptor an entry runs: the fallback of the step where the entry runs its fallback path (R271). -/
def takePath (w : Who) (fb : Bool) (d : Nat) : Except Nat StepDesc → Work (Except Nat StepDesc × Nat)
  | .error e => pure (.error e, d)
  | .ok x =>
    if fb && x.hdr.fallback != 0 then
      readDesc w x.hdr.fallback true >>= fun y => pure (y, x.hdr.fallback)
    else pure (.ok x, d)

/-- Release the next step of a run: the descriptor is read and checked, the path chosen, the step placed (R250, R253, R271). -/
def releaseNext (s : State) (c q : Nat) (r : Run) (now : Nat) (far : Bool) : Work State := do
  let w := sqWho c r.ent.ctx
  match r.todo with
  | [] => pure (endRun s r.ent.id)
  | d :: rest => do
    let ests ← if (queueOf s c q).rt && !r.judged then readEsts w r.todo else pure []
    let s ← do
      let s ← getSt
      pure (if (queueOf s c q).rt && !r.judged then judge s c q r now ests else s)
    putSt s
    let fb := ((runOf s r.ent.id).map (·.fallback)).getD false
    let d1 ← readDesc w d false
    let (d2, at') ← takePath w fb d d1
    match d2 with
    | .error det => do
      let s ← getSt
      pure (endRun (report s c ⟨0, false, false, 3, 1, 0x31, at', 0, 0x9000, 7, det⟩) r.ent.id)
    | .ok x => do
      let s ← getSt
      putSt s
      let sl ← readSlots w x.tiles
      let s ← getSt
      let i := s.sq.nextStep
      let s := setStep { s with sq := { s.sq with nextStep := i + 1 } } i (newStep c q r.ent.ctx r at' x sl)
      pure (placeStep (modRun s r.ent.id (fun r => { r with todo := rest })) c i far)

/-- Open a graph launch: its pinned image is read, under the context the object belongs to or, where it is valid in every
context, the launch's own; or the launch retires with reason 0x48 (R224, R241). -/
def openRun (c : Nat) (r : Run) : Work State := do
  let p := r.ent.image.getD ⟨0, 0, 0, r.ent.ctx, true, 0⟩
  let base := p.base
  let x ← readImage (sqWho c (if p.anyctx then r.ent.ctx else p.ctx)) base p.size
  let s' ← getSt
  match x with
  | .ok ds => pure (modRun s' r.ent.id (fun r => { r with opened := true, todo := ds }))
  | .error det => pure (endRun (report s' c ⟨0, false, false, 3, 1, 0x48, base, 0, 0x9000, 7, det⟩) r.ent.id)

/-- The first run of a queue whose next step may be released: none of its own is live (R255). -/
def nextRun (s : State) (c q : Nat) : Option Run :=
  (runsOf s c q).find? (fun r => !r.finished && !s.sq.steps.any (fun e => e.2.entry == r.ent.id))

/-- A step of a queue that has waited unplaced and can be placed now (R253). -/
def unplacedOf (s : State) (c q : Nat) : Option Nat :=
  (s.sq.steps.find? (fun e => e.2.cove == c && e.2.queue == q && !e.2.placed && (e.2.place s).isSome)).map (·.1)

/-- STEP_RELEASE: an unplaced step of the queue that can be is placed, or the next step of its entries is released; steps that
stay unplaced hold nothing back (R250, R253, R255). -/
def execStepRelease (c : CoveId) (queue : Idx64) (now : Nat) (far : Bool) (s : State) : Ans :=
  if !coveActive s c || (queueOf s c queue).ph != .active then .next s
  else match unplacedOf s c queue with
    | some i =>
      atDomain s 94 (placeStep s c i far)
    | none => match nextRun s c queue with
      | none => .next s
      | some r =>
        if !isResident s c r.ent.ctx then .next s
        else atDomain s 94 (runWork s (if r.opened then releaseNext s c queue r now far else openRun c r))

/-! ### Retirement, R235, R270, R271 -/

/-- The monitor takes the duration of an entry that ran its primary path (R270). -/
def monitor (x : Queue) (d : Nat) : Queue :=
  let a := Int.toNat ((x.avg : Int) + Int.tdiv ((d : Int) - x.avg) 8)
  let e := (d - x.avg) + (x.avg - d)
  { x with avg := a, dev := Int.toNat ((x.dev : Int) + Int.tdiv ((e : Int) - x.dev) 8) }

/-- Retire an entry (R235, R270, R271). Log entries 27 (DESIGN CHOICE), 31 (DESIGN CHOICE). -/
def retireRun (s : State) (c q : Nat) (r : Run) (now : Nat) : State :=
  let mine := stepsWhere s (fun x => x.entry == r.ent.id)
  let s := mine.foldl (fun s e =>
    let s := incCtr s (C.SQ_CV_RETIRED c)
    delStep (freePorts (if e.2.err then incCtr s (C.SQ_CV_STEP_ERR c) else s) e.1) e.1) s
  let s := delRun s r.ent.id
  let x := queueOf s c q
  let s := match r.first with
    | some t => if x.rt && !r.fallback then setQueue s c q (monitor x (now - t)) else s
    | none => s
  let s := match r.deadline with
    | some d => if d < now then incCtr s (qCtr C.SQ_CV_Q_MISS c q) else s
    | none => s
  let s := match r.ent.cev with | some (e, v) => signalEvent s c e v 0 | none => s
  dropRefs s c r.ent

/-- ENTRY_RETIRE: the oldest released entry of a queue retires when it is complete (R235, R255). -/
def execEntryRetire (c : CoveId) (queue : Idx64) (now : Nat) (s : State) : Ans :=
  match runsOf s c queue with
  | r :: _ =>
    if r.finished && (queueOf s c queue).ph == .active && !(stepsWhere s (fun x => x.entry == r.ent.id)).any (fun e => e.2.busy)
    then atDomain s 94 (retrySlots (retireRun s c queue r now)) else .next s
  | [] => .next s

/-! ### Tiles, R254, R258–R263 -/

/-- Whether a unit takes a new tile now. -/
def takesTile (s : State) (c u : Nat) : Bool :=
  usable s c u && coveActive s c && (engOf s u).isNone
    && match unitClient u with | some t => !(tapOf s t).resync | none => true

/-- Whether a step's tile may run on a port: the port is free or its own, and its ranges have been restored (R254, R267). -/
def portFor (s : State) (i : Nat) (x : Step) (u : Nat) : Bool :=
  if u / 4096 = 0 then (match occupant s u with | some j => j == i | none => true) && !x.moves.any (fun m => m.unit == u)
  else true

/-- A tile an engine could take: its step and its place in it. -/
structure Cand where
  step : Nat
  x : Step
  tile : Nat
  t : TileEnt
deriving DecidableEq, Repr

/-- The eligible tiles mapped to a unit of a cove, of contexts that are resident (R221, R253, R261). -/
def candidates (s : State) (c u : Nat) : List Cand :=
  s.sq.steps.flatMap (fun e =>
    if e.2.cove == c && (queueOf s c e.2.queue).ph == .active && !isKilled s c e.2.ctx && isResident s c e.2.ctx && portFor s e.1 e.2 u then
      (e.2.tiles.zipIdx.filter (fun t => e.2.eligible t.1 && e.2.unitOf t.1.1 == some u)).map
        (fun t => ⟨e.1, e.2, t.2, t.1.1⟩)
    else [])

/-- The tests of R261 in order, as numbers compared one after the other. -/
def rank (s : State) (k : Cand) : List Nat :=
  let q := queueOf s k.x.cove k.x.queue
  let within := q.rt && decide (q.used < q.entitled)
  [if k.x.ph == .resuming then 0 else if within then 1 else 2, q.vt, k.x.queue, k.x.seq, k.t.stage, k.tile]

/-- Lexicographic comparison of two ranks. -/
def rankLt : List Nat → List Nat → Bool
  | a :: as, b :: bs => if a < b then true else if b < a then false else rankLt as bs
  | [], _ :: _ => true
  | _, _ => false

/-- The tile an engine takes next (R261). -/
def pickTile (s : State) (c u : Nat) : Option Cand :=
  (candidates s c u).foldl (fun a k => match a with
    | some b => if rankLt (rank s k) (rank s b) then some k else a
    | none => some k) none

/-- The switch time of a preemption (SQ_CV_SWITCH, R268). -/
def recordSwitch (s : State) (c now t0 : Nat) : State :=
  let us := min ((now - t0) / 1000) 65535
  setFld (setFld s (F.SQ_CV_SWITCH_LAST c) us) (F.SQ_CV_SWITCH_MAX c) (max us (fld s (F.SQ_CV_SWITCH_MAX c)))

/-- A preempting step begins its first tile on a port: on the last of the victims' ports that it needs, its switch time is
recorded (R268). Log entry 32 (DESIGN CHOICE). -/
def noteSwitch (s : State) (u i now : Nat) : State :=
  match tfind s.sq.switching i, stepOf s i with
  | some w, some x =>
    let left := w.ports.filter (· != u)
    if !w.ports.contains u then s
    else if x.portsNeeded.any left.contains then { s with sq := { s.sq with switching := tput s.sq.switching i { w with ports := left } } }
    else
      let s := { s with sq := { s.sq with switching := tdel s.sq.switching i } }
      match w.launched with
      | some t0 => recordSwitch s x.cove now t0
      | none => s
  | _, _ => s

/-- A step begins a tile on a port, which it takes unless it holds it (R254, R268). -/
def takePort (s : State) (u i now : Nat) : State :=
  let s := if (occupant s u).isNone then { s with sq := { s.sq with ports := tput s.sq.ports u (i, now) } } else s
  noteSwitch s u i now

/-- Start a tile on a unit (R254, R261). -/
def startTile (s : State) (c u : Nat) (k : Cand) (now : Nat) : State :=
  let ts := k.x.tiles.zipIdx.map (fun t => if t.2 = k.tile then (t.1.1, TileSt.running) else t.1)
  let s := setStep s k.step { k.x with tiles := ts }
  let s := setEng s u ⟨k.step, k.tile, false, false, none, 0⟩
  let s := useSlot s c k.x.ctx
  if u / 4096 = 0 then takePort s u k.step now else s

/-- ENGINE_TILE_BOUNDARY (R254, R261). -/
def execEngineTileBoundary (unit : BitVec 16) (now : Nat) (s : State) : Ans :=
  let u := unit.toNat
  match unitOwner s u with
  | none => .next s
  | some c =>
    if !takesTile s c u then .next s
    else match pickTile s c u with
      | some k => atDomain s (unitDomain u) (startTile s c u k now)
      | none => .next s

/-- TILE_COMPLETE: a tile whose work has ended is charged, and later stages become eligible (R258, R259, R262, R263). -/
def execTileComplete (unit : BitVec 16) (ns : Nat) (s : State) : Ans :=
  let u := unit.toNat
  match engOf s u with
  | none => .next s
  | some e =>
    match e.fin, stepOf s e.step with
    | some f, some x =>
      if s.en.deliver.any (fun d => d.src == u) then .next s else
      let s1 := chargeTime s x.cove x.queue x.ctx ns
      let s2 := settleStep (dropTile s1 u (f == .error || e.expired != 0)) e.step
      atDomain s (unitDomain u) (retrySlots s2)
    | _, _ => .next s

/-- Whether a tile has ended; one whose deliveries wait for a port has not (R262, R385). -/
def tileEnded (s : State) (u : Nat) (e : Eng) : Bool := e.fin.isSome && !s.en.deliver.any (fun d => d.src == u)

/-- TILE_WATCHDOG: ABORT goes to the tile, which will complete ERROR; a table update engine takes it as FINISH (R262). -/
def execTileWatchdog (unit : BitVec 16) (s : State) : Ans :=
  let u := unit.toNat
  match engOf s u with
  | none => .next s
  | some e =>
    match stepOf s e.step with
    | none => .next s
    | some x =>
      if e.expired != 0 || tileEnded s u e || paused s u then .next s
      else
        let s1 := setEng s u { e with expired := 1, abort := decide (u / 4096 ≠ 4) }
        let s2 := incCtr (incCtr s1 (C.SQ_CV_WDOG x.cove)) C.SQ_WDOG
        atDomain s 94 (sqNote s2 e.step 0x30 1 u)

/-- Whether a paired replay runs on a shoal engine (GP_STATUS.REPLAY, R262). -/
def replaying (s : State) (u : Nat) : Bool :=
  match tfind s.en.gp u with | some g => g.bags.any (fun b => b.2.ph == .replay) | none => false

/-- A port goes out of service until its array has been cleared (R390). -/
def dueClear (s : State) (p : Nat) : State := { s with en := { s.en with clearing := tput s.en.clearing p 3 } }

/-- The state an occupant had on a port is lost: its later tiles there are not run (R273, R390). -/
def loseOccupant (s : State) (i u : Nat) : State :=
  match stepOf s i with
  | none => s
  | some x =>
    if x.tiles.any (fun t => t.2 == .waiting && x.unitOf t.1 == some u) then
      let ts := x.tiles.map (fun t => if t.2 == .waiting && x.unitOf t.1 == some u then (t.1, TileSt.complete) else t)
      settleStep (sqNote (setStep s i { x with tiles := ts, err := true }) i 0x33 0 u) i
    else s

/-- The reset of a port loses its occupant's state: the tiles there that are not yet eligible are not run, with a record; eligible
ones are placed again (R262, R390). Log entry 31 (DESIGN CHOICE). -/
def losePort (s : State) (i u : Nat) : State :=
  match stepOf s i with
  | none => s
  | some x =>
    let lost (t : TileEnt × TileSt) : Bool := t.2 == .waiting && !x.eligible t && x.unitOf t.1 == some u
    sqNote (setStep s i { x with tiles := x.tiles.map (fun t => if lost t then (t.1, TileSt.complete) else t), err := true }) i 0x33 0 u

/-- The reset of a unit: its tile ends ERROR and is charged; a port's occupant loses its state there, and the array is cleared
before the port serves again (R258, R262, R390). -/
def resetTile (s : State) (u : Nat) (charge : State → State) : State :=
  let port := decide (u / 4096 = 0)
  let occ := if port then occupant s u else none
  let settle (s : State) : State := match occ with | some i => settleStep s i | none => s
  let s := match occ with | some i => losePort s i u | none => s
  let s := match engOf s u with
    | some e => settleStep (dropTile (charge (sqNote s e.step 0x30 2 u)) u true) e.step
    | none => s
  if port then emit (dueClear (settle (freePort s u)) u) (.arrReset u) else s

/-- A unit's tiles are placed again (R253, R262). -/
def remapUnit (s : State) (c u : Nat) : State := remapSteps s c (fun _ v => v == u)

/-- Whether a unit has transfers of its own, or deliveries, in flight (R55, R262). -/
def unitBusy (s : State) (u : Nat) : Bool :=
  s.xl.xfers.any (fun e => e.2.src == u) || s.en.deliver.any (fun d => d.src == u)

/-- The reset of a drained engine, whose tile has taken `ns` (R258, R262). -/
def resetEngine (s : State) (u : Nat) (x : Step) (ns : Nat) : State :=
  resetTile s u (fun s => chargeTime s x.cove x.queue x.ctx ns)

/-- TILE_WATCHDOG_LIMIT2: the engine is reset once it has drained, and its other tiles are placed again (R262). -/
def execTileWatchdogLimit2 (w : UnitTime) (s : State) : Ans :=
  let u := w.unit.toNat
  match engOf s u with
  | none => .next s
  | some e =>
    match stepOf s e.step with
    | none => .next s
    | some x =>
      if e.expired != 1 || tileEnded s u e || unitBusy s u || replaying s u then .next s
      else atDomain s 94 (retrySlots (remapUnit (resetEngine s u x w.ns) x.cove u))

/-! ### Slices and preemption, R264–R268 -/

/-- Token steps of a cove that wait to start (R269). -/
def tokenWaits (s : State) (c : Nat) : Bool := s.sq.steps.any (fun e => e.2.cove == c && e.2.skind == 2 && e.2.ph == .placed)
/-- Whether a token step of a cove is released, and not retired, or waits to be placed (R269). -/
def tokenLive (s : State) (c : Nat) : Bool := s.sq.steps.any (fun e => e.2.cove == c && e.2.skind == 2)

/-- Whether a flip of the cove waits for pins that the step holds (R204, R267). -/
def holdsPin (s : State) (x : Step) : Bool :=
  match tfind s.en.flips x.cove with
  | some f => !f.armed && (List.range 64).any (fun k => f.mask.testBit k &&
      match tfind s.en.slots (x.cove * 64 + k) with
      | some t => tgetD x.vec k 0 + 1 == t.pub
      | none => false)
  | none => false

/-- Whether a step that is PREEMPTED or YIELDED may resume when its ports are free (R267, R269). -/
def mayResume (s : State) (x : Step) : Bool :=
  match x.ph with
  | .preempted y =>
    (!y || decide (fld s (F.SQ_CV_CTL_MIX x.cove) ≤ x.tokens) || !tokenWaits s x.cove)
      && (holdsPin s x || !s.sq.steps.any (fun e => e.2.cove == x.cove && holdsPin s e.2 &&
            match e.2.ph with | .preempted _ => true | _ => false))
  | _ => false

/-- Whether another step holds the port a tile is mapped to. -/
def heldFrom (s : State) (i : Nat) (x : Step) (t : TileEnt) : Bool :=
  t.kind == 0 && match (x.unitOf t).bind (occupant s) with | some j => j != i | none => false

/-- Whether a step waits for a port: placed, or with an eligible tile, and another step holds the port; or able to resume but for
its ports (R254, R264, R267). Log entry 32 (DESIGN CHOICE). -/
def waitsPort (s : State) (i : Nat) (x : Step) : Bool :=
  match x.ph with
  | .placed => x.tiles.any (fun t => heldFrom s i x t.1)
  | .running => x.tiles.any (fun t => x.eligible t && heldFrom s i x t.1)
  | .stopping => x.tiles.any (fun t => x.eligible t && heldFrom s i x t.1)
  | .preempted _ => mayResume s x && x.tiles.any (fun t => t.2 != .complete && t.1.kind == 0)
  | _ => false

/-- The step of a normal queue of VT lower than `vt` that waits for a port while none is free: of the lowest VT (R264).
Log entry 32 (DESIGN CHOICE). -/
def portWaiter (s : State) (c vt : Nat) : Option Nat :=
  let key (e : Nat × Step) : Nat := (queueOf s c e.2.queue).vt
  let l := (stepsWhere s (fun x => x.cove == c && !(queueOf s c x.queue).rt && decide ((queueOf s c x.queue).vt < vt))).filter
    (fun e => waitsPort s e.1 e.2)
  if (freePortsOf s c).isEmpty then
    (l.foldl (fun (a : Option (Nat × Step)) e => match a with | some b => if key e < key b then some e else a | none => some e) none).map (·.1)
  else none

/-- SLICE_EXPIRY (R264). -/
def execSliceExpiry (port : Fin 128) (now : Nat) (far : Bool) (s : State) : Ans :=
  match tfind s.sq.ports port.val with
  | none => .next s
  | some (i, t0) =>
    match stepOf s i with
    | none => .next s
    | some x =>
      let slice := fld s (F.SQ_CV_CTL_SLICE x.cove)
      let q := queueOf s x.cove x.queue
      if slice != 0 && decide (t0 + slice * 1000 < now) && !q.rt && x.liveDva != 0 && x.ph == .running then
        match portWaiter s x.cove q.vt with
        | some j => atDomain s 94 (preemptFor (setStep s i { x with cheapOnly := true }) x.cove j [i] far)
        | none => .next s
      else .next s

/-- FPA of byte `off` of the spill units a step holds (R265, R266). -/
def spillFpa (s : State) (x : Step) (off : Nat) : Nat :=
  fld s (F.SQ_SPILL_GRANULE x.cove) * 2 ^ 28 + (x.units[off / 65536]?).getD 0 * 65536 + off % 65536

/-- The ranges of a boundary as moves of their ports, one after the other in the spill units; a range of a logical port that the
step does not name has no agent to move it. Log entry 32 (DESIGN CHOICE). -/
def makeMoves (x : Step) : List LiveRange → Nat → List SpillMove
  | [], _ => []
  | r :: rs, off =>
    let rest := makeMoves x rs (off + r.len)
    match tfind x.map r.leng with | some u => ⟨u, r, off, 0⟩ :: rest | none => rest

/-- The last range has been written: PREEMPTED, counted for each of the step's contexts, or YIELDED (R265, R269).
Log entry 32 (DESIGN CHOICE). -/
def saved (s : State) (i : Nat) (x : Step) (yielding : Bool) (now : Nat) : State :=
  let s := setStep s i { x with ph := .preempted yielding, since := now, moves := [] }
  if yielding then s
  else (x.ctx :: x.ctxs).dedup.foldl (fun s k => incCtr s (xCtr C.SQ_CV_CTX_PREEMPT x.cove k))
    (incCtr (incCtr s C.SQ_PREEMPT) (C.SQ_CV_PREEMPT x.cove))

/-- Begin to save a boundary's ranges into reserved units; ports with no range are free at once (R265). Log entry 32 (DESIGN CHOICE). -/
def beginSave (s : State) (i : Nat) (x : Step) (rs : List LiveRange) (units : List Nat) (yielding : Bool) (now : Nat) : State :=
  let ms := makeMoves x rs 0
  let y := { x with ph := .saving yielding, units := units, moves := ms, saved := rs }
  let s := setStep s i y
  let s := { s with sq := { s.sq with ports := s.sq.ports.filter (fun e => e.2.1 != i || ms.any (fun m => m.unit == e.1)) } }
  if ms.isEmpty then saved s i y yielding now else s

/-- Spill units that `bytes` take (R265). -/
def unitsFor (bytes : Nat) : Nat := (bytes + 65535) / 65536

/-- A step goes on from a boundary: its queue may gain eligible work, and a context that stops RUNNING may give its slot up
(R222, R259). -/
def goOn (s : State) (c q i : Nat) (f : Step → Step) : State :=
  retrySlots (gaining s c q (fun s => stepComplete (modStep s i f) i))

/-- PREEMPT_STOP_POINT: a victim at its stop point reserves spill space and begins to save, or defers (R265). Log entry 32 (DESIGN CHOICE). -/
def execPreemptStopPoint (b : StepTime) (s : State) : Ans :=
  match stepOf s b.step with
  | none => .next s
  | some x =>
    match x.live? with
    | none => .next s
    | some l =>
      if x.ph != .stopping || !x.stageDone || x.busy || !x.stopHere || x.atLast || workStopped s x.cove then .next s
      else atDomain s 94 (runWork s (do
        let rs ← readRanges (sqWho x.cove x.ctx) (fld s F.FAB_ARR_INFO_SP_MIB) l
        let s ← getSt
        match rs with
        | .error det =>
          pure (goOn (sqNote s b.step 0x32 det 0x9000) x.cove x.queue b.step Step.pass)
        | .ok rs => match reserveUnits s x.cove (unitsFor l.bytes) with
          | some us => pure (beginSave s b.step x rs us false b.now)
          | none =>
            pure (goOn (incCtr s (C.SQ_CV_DEFER x.cove)) x.cove x.queue b.step (fun x => Step.pass { x with cheapOnly := true }))))

/-- Copy one line between memory by DVA and spill units (R265, R267). Log entry 32 (DESIGN CHOICE). -/
def spillLine (x : Step) (m : SpillMove) (out : Bool) (k : Nat) : Work Unit := do
  let w := engWho x.cove m.unit x.ctx
  let s ← getSt
  let fpa := spillFpa s x (m.at' + 64 * k)
  let spill (s : State) (acc : Access) : Work Resp := fun _ =>
    let stall (y : Why) : Except Stall (Resp × State) := .error ⟨w.tag, w.src, w.client, w.ctx, 0, acc, false, none, y⟩
    match chargeWork s m.unit fpa with
    | none => stall .credit
    | some s => match accessNow s ⟨x.cove, m.unit, fpa, acc, some (x.ctx, none), .demand⟩ with
      | (some r, s) => .ok (r, s)
      | (none, s) => stall (.halted s)
  if out then do
    let r ← lineWork w (m.range.addr + 64 * k) .read
    let s ← getSt
    let l := match r with | .data l => l | _ => 0
    let _ ← spill s (.write (BitVec.allOnes 64) l)
    pure ()
  else do
    let r ← spill s .read
    let l := match r with | .data l => l | _ => 0
    let _ ← lineWork w (m.range.addr + 64 * k) (.write (BitVec.allOnes 64) l)
    pure ()

/-- Copy every line of the memory ranges of a list of moves. -/
def spillMoves (x : Step) (out : Bool) : List SpillMove → Work Unit
  | [] => pure ()
  | m :: ms => do
    if m.range.scratch then pure ()
    else (List.range (m.range.len / 64)).foldlM (fun (_ : Unit) k => spillLine x m out k) ()
    spillMoves x out ms

/-- Whether every scratchpad line of the moves of a port has been moved (R382). Log entry 32 (DESIGN CHOICE). -/
def scratchMoved (x : Step) (u : Nat) : Bool :=
  x.moves.all (fun m => m.unit != u || !m.range.scratch || m.moved == m.range.len / 64)

/-- SAVE_DONE: a port's ranges are written and the port is free, and the context is charged; after the last the step is
PREEMPTED or YIELDED (R258, R265). -/
def execSaveDone (step : Nat) (w : PortTime) (now : Nat) (s : State) : Ans :=
  match stepOf s step with
  | none => .next s
  | some x =>
    match x.ph with
    | .saving y =>
      let mine := x.moves.filter (fun m => m.unit == w.port.val)
      if mine.isEmpty || !scratchMoved x w.port || workStopped s x.cove then .next s
      else atEngine s w.port.val (runWork s (do
        spillMoves x true mine
        let s ← getSt
        let rest := x.moves.filter (fun m => m.unit != w.port.val)
        let s := freePort (setStep (chargeCtx s x.cove x.ctx w.ns) step { x with moves := rest }) w.port
        pure (if rest.isEmpty then saved s step { x with moves := [] } y now else s)))
    | _ => .next s

/-- CHUNK_END: the next chunk continues, or the step yields to the token steps (R269). -/
def execChunkEnd (b : StepTime) (s : State) : Ans :=
  match stepOf s b.step with
  | none => .next s
  | some x =>
    let mix := fld s (F.SQ_CV_CTL_MIX x.cove)
    let go (s : State) : State := goOn s x.cove x.queue b.step Step.pass
    if x.ph != .running || x.stage + 1 != x.nstage || x.chunk + 1 == x.nchunk || !x.stageDone || workStopped s x.cove then .next s
    else match x.live? with
      | none => atDomain s 94 (go s)
      | some l =>
        if mix = 0 || !tokenLive s x.cove then atDomain s 94 (go s)
        else atDomain s 94 (runWork s (do
          let rs ← readRanges (sqWho x.cove x.ctx) (fld s F.FAB_ARR_INFO_SP_MIB) l
          let s ← getSt
          match rs with
          | .error det => pure (go (sqNote s b.step 0x32 det 0x9000))
          | .ok rs => match reserveUnits s x.cove (unitsFor l.bytes) with
            | some us => pure (beginSave (incCtr s (C.SQ_CV_YIELD x.cove)) b.step { x with tokens := 0 } rs us true b.now)
            | none => pure (go s)))

/-- A step as it stands when it resumes on the engines of `m`: it restores what it saved, or runs at once (R267). -/
def Step.resumed (x : Step) (m : List (Nat × Nat)) : Step :=
  let y := { x with map := m }
  let z := Step.pass { y with ph := .running, cheapOnly := false }
  let ms := makeMoves y x.saved 0
  if ms.isEmpty then { z with units := [], moves := [] } else { z with ph := .resuming, moves := ms }

/-- A preempted step resumes on the engines of `m`: it holds the ports it still has tiles or ranges on, its waiting is charged and its context used (R258, R267).
Log entry 32 (DESIGN CHOICE). -/
def resumeStep (s : State) (step : Nat) (x : Step) (m : List (Nat × Nat)) (now : Nat) : State :=
  let ports := { x with map := m }.portsNeeded
  let hold (s : State) : State :=
    { s with sq := { s.sq with ports := ports.foldl (fun t u => tput t u (step, now)) s.sq.ports } }
  let s2 := gaining s x.cove x.queue (fun s => stepComplete (hold (setStep s step (x.resumed m))) step)
  retrySlots (useSlot (addCtr s2 (xCtr C.SQ_CV_CTX_WAIT_NS x.cove x.ctx) (now - x.since)) x.cove x.ctx)

/-- Whether a port can be given to a step that resumes (R267). -/
def portIdle (s : State) (u : Nat) : Bool := (occupant s u).isNone && (engOf s u).isNone

/-- The engines a preempted step resumes on: free ports for all of its logical ports, shared by several only where the cove has
fewer ports than the step names (R253, R267). Log entry 32 (DESIGN CHOICE). -/
def Step.resumeMap (s : State) (x : Step) : Option (Tbl Nat) :=
  let ok (t : TileEnt) (u : Nat) : Bool := boundOk s x.cove x.tslots t u && (u / 4096 != 0 || portIdle s u)
  match placeAll s x.cove ok (x.tiles.map (·.1)) [] with
  | none => none
  | some m =>
    let ports := m.filter (fun e => e.1 / 128 == 0)
    let own := (List.range 128).filter (usable s x.cove)
    if min ports.length own.length ≤ (ports.map (·.2)).dedup.length then some m else none

/-- STEP_RESUME: ports are free for all of its logical ports; the step is mapped again and its restore begins (R267). -/
def execStepResume (step : Nat) (now : Nat) (s : State) : Ans :=
  match stepOf s step with
  | none => .next s
  | some x =>
    if !mayResume s x || !coveActive s x.cove then .next s
    else match x.resumeMap s with
      | none => .next s
      | some m => atDomain s 94 (resumeStep s step x m now)

/-- RESTORE_DONE: a port's ranges are restored, and the context is charged; after the last the step runs and its units are
free (R258, R267). -/
def execRestoreDone (step : Nat) (w : PortTime) (s : State) : Ans :=
  match stepOf s step with
  | none => .next s
  | some x =>
    let mine := x.moves.filter (fun m => m.unit == w.port.val)
    if x.ph != .resuming || mine.isEmpty || !scratchMoved x w.port || workStopped s x.cove then .next s
    else atEngine s w.port.val (runWork s (do
      spillMoves x false mine
      let s ← getSt
      let rest := x.moves.filter (fun m => m.unit != w.port.val)
      let y := if rest.isEmpty then { x with moves := [], units := [], ph := .running } else { x with moves := rest }
      let s := leavePort (setStep (chargeCtx s x.cove x.ctx w.ns) step y) step w.port
      pure (if rest.isEmpty then retrySlots (settleStep s step) else s)))

/-- SQ_SPILL_ENABLE: a write of SQ_SPILL with EN 1; ignored while EN is 1 (R266). -/
def execSqSpillEnable (q : Requester) (c : CoveId) (v : Word) (s : State) : Ans :=
  let g := bits v.toNat 0 13
  let n := bits v.toNat 16 7
  let ok := coveExists s c && decide (1 ≤ n ∧ n ≤ 64) && ownsGranules s c g n
  atFabric s q
    (if flag s (F.SQ_SPILL_EN c) then s
     else
      let s := setFld (setFld s (F.SQ_SPILL_GRANULE c) g) (F.SQ_SPILL_COUNT c) n
      if ok then setFlag (setFlag s (F.SQ_SPILL_EN c) true) (F.SQ_SPILL_STATUS_READY c) true
      else setFlag s (F.SQ_SPILL_STATUS_ERR c) true)

/-! ### The destruction of a queue, R244, R245 -/

/-- ABORT to every engine that runs a tile of a step satisfying `p`; a table update engine takes it as FINISH, and the tile of a
fenced engine runs to FINISH (R201, R244, R245). -/
def abortTiles (s : State) (p : Step → Bool) : State :=
  { s with sq := { s.sq with engines := s.sq.engines.map (fun e =>
      (e.1, match tfind s.sq.steps e.2.step with
        | some x => if p x && e.1 / 4096 != 4 && !fenceOn s (unitKey e.1) then { e.2 with abort := true } else e.2
        | none => e.2)) } }

/-- Engines that hold work of a queue: those its steps are mapped to, and those that run a tile of it (R244). -/
def holders (s : State) (c q : Nat) : List Nat :=
  let mine := stepsWhere s (fun x => x.cove == c && x.queue == q)
  (mine.flatMap (fun e => e.2.map.map (·.2)) ++ (s.sq.engines.filter (fun e => mine.any (fun y => y.1 == e.2.step))).map (·.1)).dedup

/-- The end of a destruction: the released entries give their references back, the queue is Free, its event is signalled (R244). -/
def finishDestroy (s : State) (c q : Nat) : State :=
  let ev := (queueOf s c q).onFree
  let s := (runsOf s c q).foldl discardRun s
  let s := setQueue s c q Queue.init
  retrySlots (match ev with | some (e, v) => signalEvent s c e v 3 | none => s)

/-- Finish the destruction of a queue when no engine is awaited. -/
def tryDestroy (s : State) (c q : Nat) : State :=
  let x := queueOf s c q
  if x.ph == .draining && x.await.isEmpty then finishDestroy s c q else s

/-- Whether a step holds no engine and is discarded at once by a destruction (R244). -/
def Step.parked (x : Step) : Bool :=
  match x.ph with | .preempted _ => true | .saving _ => true | .resuming => !x.busy | _ => false

/-- Begin the destruction of an Active queue (R244). Log entry 29 (DESIGN CHOICE). -/
def beginDestroy (s : State) (c q : Nat) (abort : Bool) (ev : Option (Nat × Nat)) : State :=
  let s := discardFifo s c q (fun _ => true)
  let parked := (stepsWhere s (fun x => x.cove == c && x.queue == q && x.parked)).map (·.1)
  let s := parked.foldl discardStep s
  let s := (stepsWhere s (fun x => x.cove == c && x.queue == q)).foldl (fun s e => leaveGroups s e.1) s
  let s := if abort then abortTiles s (fun x => x.cove == c && x.queue == q) else s
  retrySlots (tryDestroy (setQueue s c q { queueOf s c q with ph := .draining, abort := abort, onFree := ev, await := holders s c q }) c q)

/-- Q_DESTROY: refused unless the queue is Active (R244, R245). Log entry 29 (DESIGN CHOICE). -/
def execQDestroy (q : Requester) (c : CoveId) (s : State) : Ans :=
  obCmd s q c (fun s =>
    let a0 := obArg s q c 0
    let a1 := obArg s q c 1
    let n := bits a0 0 6
    if (queueOf s c n).ph != .active then (.plain .state, s)
    else (.plain .ok, beginDestroy s c n (bit a0 8) (if bit a1 16 then some (bits a1 0 16, obVal s q c) else none)))

/-- QDESTROY_ENGINE_ACK: an engine acknowledges once it runs no tile of the queue (R244). -/
def execQdestroyEngineAck (c : CoveId) (queue : Idx64) (unit : BitVec 16) (s : State) : Ans :=
  let u := unit.toNat
  let x := queueOf s c queue
  let busy := match engOf s u with
    | some e => match stepOf s e.step with | some y => y.cove == c.val && y.queue == queue.val | none => false
    | none => false
  if x.ph != .draining || !x.await.contains u || busy then .next s
  else atDomain s 94 (tryDestroy (setQueue s c queue { x with await := x.await.filter (· != u) }) c queue)

/-- QDESTROY_STUCK: a destruction has not completed in 1 ms (R244). -/
def execQdestroyStuck (c : CoveId) (queue : Idx64) (s : State) : Ans :=
  if (queueOf s c queue).ph != .draining || flag s (F.OB_Q_STATUS_STUCK c queue) then .next s
  else atDomain s 94 (raiseSrc (setFlag s (F.OB_Q_STATUS_STUCK c queue) true) 516)

end Sys2Proof.Machine
end

