-- ==== Sys2Proof/Machine/Ports.lean ====
section
/-!
DEFINITION. The engine ports: the edge agents' tiles, the input buffers and deliveries, the scratchpad channel and the clears
of the arrays (R382–R391).
-/
namespace Sys2Proof.Machine

/-! ### Input buffers, R385 -/

/-- Bytes of a port's input buffer. -/
def readInbuf (s : State) (p off len : Nat) : List Byte :=
  (((linesOf off len).flatMap (fun a => lineBytes (tgetD s.en.inbuf (16384 * p + a / 64 % 16384) 0))).drop (off % 64)).take len

/-- The state with bytes written to a port's input buffer. -/
def writeInbuf (s : State) (p off : Nat) (data : List Byte) : State :=
  (linesOf off data.length).foldl (fun s a =>
    match linePart off data a with
    | .write en l =>
      let k := 16384 * p + a / 64 % 16384
      { s with en := { s.en with inbuf := tsetD s.en.inbuf k 0 (mergeLine (tgetD s.en.inbuf k 0) l en) } }
    | _ => s) s

/-- EP_DELIVERY: the oldest delivery to a port arrives, when the port belongs to its cove and is free or its step's own; it
counts as the start of a tile there (R20, R254, R385). Log entry 38 (DESIGN CHOICE). -/
def execEpDelivery (port : Fin 128) (now : Nat) (s : State) : Ans :=
  let p := port.val
  match s.en.deliver.find? (fun d => d.port s == some p) with
  | none => .next s
  | some d =>
    let mine := occupant s p == some d.step
    let own := unitOwner s p == (stepOf s d.step).map (·.cove)
    if !own || portOut s p || (!mine && ((occupant s p).isSome || fenceOn s (unitKey p))) then .next s
    else
      let s1 := writeInbuf { s with en := { s.en with deliver := s.en.deliver.erase d } } p d.off d.bytes
      atDomain s (unitDomain p) (takePort s1 p d.step now)

/-! ### The tile's command, R383, R384 -/

/-- Read an engine-port command: the tile, MASK and AOP, and whether its reserved bits are zero (R383). Log entry 38 (DESIGN CHOICE). -/
def readEp (b : List Byte) (cmd ctx : Nat) : EpTile × Nat × Nat × Bool :=
  let m := leAt b 46 1
  let q (i : Nat) : Nat := leAt b (8 * i) 8
  let split := bit m 0
  let ain := bit m 1
  (⟨cmd, ctx, leAt b 56 2 % 2 ^ 12, q 0 % 2 ^ 48, q 1 % 2 ^ 48, q 2 % 2 ^ 48, q 3 % 2 ^ 48, leAt b 40 2 % 2 ^ 13,
    leAt b 42 2 % 2 ^ 13, leAt b 44 2 % 2 ^ 13, split, ain, leAt b 48 4 % 2 ^ 24, leAt b 52 4 % 2 ^ 24, 0, 0, 0, false, 0, 0,
    false, false, [], false, false⟩,
   q 4 % 2 ^ 48, leAt b 58 6,
   q 0 < 2 ^ 48 && q 1 < 2 ^ 48 && q 2 < 2 ^ 48 && q 3 < 2 ^ 48 && q 4 < 2 ^ 48 && leAt b 40 2 < 2 ^ 13 && leAt b 42 2 < 2 ^ 13
     && leAt b 44 2 < 2 ^ 13 && m < 4 && leAt b 47 1 == 0 && leAt b 48 4 < 2 ^ 24 && leAt b 52 4 < 2 ^ 24 && leAt b 56 2 < 2 ^ 12
     && (!ain || (q 0 < 2 ^ 20 && q 2 < 2 ^ 20)))

/-- The DETAIL of reason 0x39 a command earns, or none (R383, R384). Log entry 38 (DESIGN CHOICE). -/
def epFault (t : EpTile) (ok : Bool) : Option Nat :=
  let last := (t.rows - 1) * t.astride + t.rbytes
  if !ok then some 1
  else if t.rows = 0 || 4096 < t.rows || t.rbytes % 128 != 0 || t.rbytes = 0 || 4096 < t.rbytes || t.obytes % 128 != 0
      || 4096 < t.obytes then some 2
  else if t.astride < t.rbytes || t.astride % 64 != 0 || t.ostride < t.obytes || t.ostride % 64 != 0
      || (!t.split && (t.a1 != 0 || t.out1 != 0)) then some 3
  else if t.ain && (2 ^ 20 < t.a0 + last || (t.split && 2 ^ 20 < t.a1 + last)) then some 4
  else none

/-- The command beat (R382). -/
def epBeat (t : EpTile) (aop : Nat) : BitVec 128 :=
  BitVec.ofNat 128 (aop + 2 ^ 48 * b2n t.split + 2 ^ 49 * t.rows + 2 ^ 62 * t.rbytes + 2 ^ 75 * t.obytes + 2 ^ 88 * t.ctx
    + t.ctx1 * 2 ^ 100)

/-- The engine-port tile on a port. -/
def epOf (s : State) (p : Nat) : Option EpTile := tfind s.en.ep p
/-- The state with a port's tile set. -/
def setEp (s : State) (p : Nat) (t : EpTile) : State := { s with en := { s.en with ep := tput s.en.ep p t } }

/-- The step of a split tile runs under the context of lane 1 too (R265, R383). -/
def noteLane (s : State) (p : Nat) (t : EpTile) : State :=
  match engOf s p with
  | some e => if t.split then modStep s e.step (fun x => { x with ctxs := (t.ctx1 :: x.ctxs).dedup }) else s
  | none => s

/-- Begin a tile whose command and masks have been read: the command beat is sent, and lane 1 of a KILLED context is faulted
from row 0 (R386, R388). Log entry 38 (DESIGN CHOICE). -/
def beginEp (s : State) (c p : Nat) (t : EpTile) (aop : Nat) : State :=
  let s := emit (setEp (noteLane (beginTile s p) p t) p t) (.eaCmd p (epBeat t aop))
  if t.split && isKilled s c t.ctx1 then faultLane s p true 3 t.a1 t.ctx1 0 7 else s

/-- Read and judge an engine-port command and its masks (R383, R384). Log entry 38 (DESIGN CHOICE). -/
def startEp (c p : Nat) (t : OnTile) : Work State := do
  let w := engWho c p t.step.ctx
  let b ← readWork w t.tile.cmd 64
  let s ← getSt
  match b with
  | none => pure (failTile s c p 0x39 5 t.tile.cmd)
  | some b =>
    let (e, mask, aop, ok) := readEp b t.tile.cmd t.step.ctx
    match epFault e ok with
    | some d => pure (failTile s c p 0x39 d t.tile.cmd)
    | none =>
      if mask = 0 then pure (beginEp s c p e aop)
      else do
        let n := 8 * ((e.rows + 63) / 64)
        let k ← readWork w mask (if e.split then 2 * n else n)
        let s ← getSt
        pure (match k with
          | none => failTile s c p 0x39 5 t.tile.cmd
          | some k => beginEp s c p { e with mask0 := leAt k 0 n, mask1 := leAt k n n } aop)

/-- EP_TILE_START (R384, R386). -/
def execEpTileStart (port : Fin 128) (s : State) : Ans :=
  let p := port.val
  match newTile s p, unitOwner s p with
  | some t, some c =>
    if t.eng.abort then atDomain s (unitDomain p) (endTile s p .aborted)
    else atEngine s p (runWork s (startEp c p t))
  | _, _ => .next s

/-! ### Feeding, R386–R390 -/

/-- Lanes of a tile. -/
def EpTile.lanes (t : EpTile) : Nat := if t.split then 2 else 1
/-- Lane and row of the next feed (R386). -/
def EpTile.nextFeed (t : EpTile) : Bool × Nat := (decide (t.fed % t.lanes = 1), t.fed / t.lanes)
/-- Whether every row has been fed. -/
def EpTile.fedAll (t : EpTile) : Bool := decide (t.rows * t.lanes ≤ t.fed)
/-- Context of a lane (R383). -/
def EpTile.ctxOf (t : EpTile) (lane : Bool) : Nat := if lane then t.ctx1 else t.ctx
/-- Whether a row of a lane is masked (R383). -/
def EpTile.masked (t : EpTile) (lane : Bool) (row : Nat) : Bool := (if lane then t.mask1 else t.mask0).testBit row
/-- Whether a lane is faulted (R388). -/
def EpTile.faulted (t : EpTile) (lane : Bool) : Bool := if lane then t.fault1 else t.fault0
/-- Where an input row of a lane stands (R383). -/
def EpTile.inAt (t : EpTile) (lane : Bool) (row : Nat) : Nat := (if lane then t.a1 else t.a0) + row * t.astride
/-- Where an output row of a lane goes (R386). -/
def EpTile.outAt (t : EpTile) (lane : Bool) (row : Nat) : Nat := (if lane then t.out1 else t.out0) + row * t.ostride
/-- Output rows a lane has returned. -/
def EpTile.ret (t : EpTile) (lane : Bool) : Nat := if lane then t.ret1 else t.ret0

/-- Feeding ends and EA_TB_REQ is asserted; nothing is left to read, so the port presents urgency 0 (R281, R386, R389, R390). -/
def endFeed (s : State) (p : Nat) (t : EpTile) : State := emit (presentUrg (setEp s p { t with tbReq := true }) p 0) (.eaTbReq p)

/-- A row has been fed; after the last one the tile boundary is requested (R386). Log entry 38 (DESIGN CHOICE). -/
def fedRow (s : State) (p : Nat) (t : EpTile) (zero : Bool) (bytes : List Byte) : State :=
  let (lane, row) := t.nextFeed
  let t' := { t with fed := t.fed + 1 }
  let s := emit (setEp s p t') (.eaFeed p lane row (t.ctxOf lane) zero bytes)
  if t'.fedAll then endFeed s p t' else s

/-- Feed the next row: zeros for a masked row or a faulted lane, the input buffer's bytes, or fetched ones (R386–R389).
Log entry 38 (DESIGN CHOICE). -/
def feedRow (c p : Nat) (t : EpTile) : Work State := do
  let (lane, row) := t.nextFeed
  let s ← getSt
  let zeros := toBytes t.rbytes 0
  if t.masked lane row || t.faulted lane then pure (fedRow s p t true zeros)
  else if t.ain then pure (fedRow s p t false (readInbuf s p (t.inAt lane row) t.rbytes))
  else do
    let w : Who := { engWho c p (t.ctxOf lane) with lane := lane }
    let d := t.inAt lane row
    let ls := linesOf d t.rbytes
    let b ← readLinesAt w ls
    let s ← getSt
    match b with
    | .ok b => pure (fedRow s p t false ((b.drop (d % 64)).take t.rbytes))
    | .error (a, reason) =>
      if t.split then do
        let s := faultLane s p lane 0 (max a d) (t.ctxOf lane) reason 7
        pure (match epOf s p with | some t => fedRow s p t true zeros | none => s)
      else pure (fedRow s p { t with skip := row :: t.skip, bad := true } false zeros)

/-- EP_FEED_ROW: one row is fed; a tile told to abort stops at the end of its group of 64 rows (R386, R390). -/
def execEpFeedRow (port : Fin 128) (s : State) : Ans :=
  let p := port.val
  match liveTile s p, epOf s p, unitOwner s p with
  | some o, some t, some c =>
    if t.tbReq || t.fedAll then .next s
    else if o.eng.abort && t.fed % (64 * t.lanes) = 0 then atDomain s (unitDomain p) (endFeed s p t)
    else atEngine s p (runWork s (feedRow c p t))
  | _, _, _ => .next s

/-! ### Outputs, R386–R391 -/

/-- Whether an output row is discarded: masked, of a faulted lane, or fed as a failed fetch (R387–R389). Log entry 38 (DESIGN CHOICE). -/
def EpTile.drops (t : EpTile) (lane : Bool) (row : Nat) : Bool := t.masked lane row || t.faulted lane || t.skip.contains row

/-- A lane has returned one more output row. -/
def EpTile.returned (t : EpTile) (lane : Bool) : EpTile :=
  if lane then { t with ret1 := t.ret1 + 1 } else { t with ret0 := t.ret0 + 1 }

/-- Write an output row back (R386, R388, R389). -/
def writeBack (c p : Nat) (t : EpTile) (lane : Bool) (row : Nat) (data : List Byte) : Work State := do
  let s ← getSt
  let t' := t.returned lane
  if t.drops lane row then pure (setEp s p t')
  else do
    let d := t.outAt lane row
    let bad ← writeLinesErr { engWho c p (t.ctxOf lane) with lane := lane } d data (linesOf d data.length)
    let s ← getSt
    pure (match bad with
      | none => setEp s p t'
      | some (reason, a) =>
        if t.split then faultLane (setEp s p t') p lane 1 a (t.ctxOf lane) reason 7 else setEp s p { t' with bad := true })

/-- Rows of a lane that have been fed. -/
def EpTile.fedOf (t : EpTile) (lane : Bool) : Nat := (t.fed + (if lane then 0 else t.lanes - 1)) / t.lanes

/-- ARR_OUTPUT_ROW: the array returns the next output row of a lane, in feed order (R386, R391). Log entry 38 (DESIGN CHOICE). -/
def execArrOutputRow (port : Fin 128) (lane : Bool) (row : BitVec 13) (data : List Byte) (s : State) : Ans :=
  let p := port.val
  match liveTile s p, epOf s p, unitOwner s p with
  | some _, some t, some c =>
    if t.obytes = 0 || data.length != t.obytes || (lane && !t.split) || row.toNat != t.ret lane || t.fedOf lane ≤ row.toNat then
      .next s
    else atEngine s p (runWork s (writeBack c p t lane row.toNat data))
  | _, _, _ => .next s

/-- How a tile ends at its boundary (R388–R390). Log entry 38 (DESIGN CHOICE). -/
def EpTile.outcome (t : EpTile) (abort : Bool) : TileEnd :=
  if t.arrErr then .error else if abort then .aborted
  else if t.split then (if t.fault0 then .error else .done) else if t.bad then .error else .done

/-- ARR_TB_ACK: after the last output the tile is at its boundary and complete (R386). -/
def execArrTbAck (port : Fin 128) (s : State) : Ans :=
  let p := port.val
  match liveTile s p, epOf s p with
  | some o, some t =>
    let all := t.obytes == 0 || t.arrErr || (t.ret0 == t.fedOf false && (!t.split || t.ret1 == t.fedOf true))
    if t.tbReq && all then atDomain s (unitDomain p) (endTile s p (t.outcome o.eng.abort)) else .next s
  | _, _ => .next s

/-- ARR_ERR: feeding stops, the tile will complete ERROR, with a record (R389). Log entry 38 (DESIGN CHOICE). -/
def execArrErr (port : Fin 128) (s : State) : Ans :=
  let p := port.val
  match tileOn s p, epOf s p, unitOwner s p with
  | some o, some t, some c =>
    if t.arrErr || o.eng.fin.isSome then .next s
    else
      let t' := { t with arrErr := true }
      let s1 := if t.tbReq then setEp s p t' else endFeed s p t'
      atDomain s (unitDomain p) (unitNote s1 c p 0x3B 0 t.cmdDva)
  | _, _, _ => .next s

/-! ### The scratchpad channel, R265, R267, R385 -/

/-- The step that saves or restores through a port's local space, with its next range of that space. -/
def spWork (s : State) (p : Nat) : Option (Nat × Step × SpillMove) :=
  s.sq.steps.findSome? (fun e =>
    let busy := match e.2.ph with | .saving _ => true | .resuming => true | _ => false
    if !busy then none
    else (e.2.moves.find? (fun m => m.unit == p && m.range.scratch && decide (m.moved < m.range.len / 64))).map
      (fun m => (e.1, e.2, m)))

/-- One more line of a range has been moved. -/
def Step.movedLine (x : Step) (m : SpillMove) : Step :=
  { x with moves := x.moves.map (fun y => if y = m then { y with moved := y.moved + 1 } else y) }

/-- Save or restore one line of a port's local space: below 1 MiB the input buffer, above it the array's scratchpad, whose
read data the array supplies (R265–R267, R385). Log entry 32 (DESIGN CHOICE). -/
def spLine (s : State) (p i : Nat) (x : Step) (m : SpillMove) (data : Line) : Option State :=
  let off := m.range.addr + 64 * m.moved
  let fpa := spillFpa s x (m.at' + 64 * m.moved)
  (chargeWork (setStep s i (x.movedLine m)) p fpa).map fun s =>
  let q (acc : Access) : Req := ⟨x.cove, p, fpa, acc, some (x.ctx, none), .demand⟩
  match x.ph with
  | .saving _ =>
    let l := if off < 2 ^ 20 then lineOfBytes (readInbuf s p off 64) else data
    let s := if off < 2 ^ 20 then s else emit s (.eaSp p ((off - 2 ^ 20) / 64) none)
    (accessNow s (q (.write (BitVec.allOnes 64) l))).2
  | _ =>
    let (r, s) := accessNow s (q .read)
    let l := match r with | some (.data l) => l | _ => 0
    if off < 2 ^ 20 then writeInbuf s p off (lineBytes l) else emit s (.eaSp p ((off - 2 ^ 20) / 64) (some l))

/-- EP_SCRATCHPAD_ACCESS: one line of local space moves, between tiles (R382, R386). -/
def execEpScratchpadAccess (port : Fin 128) (data : Line) (s : State) : Ans :=
  let p := port.val
  match spWork s p with
  | some (i, x, m) => if (engOf s p).isSome || workStopped s x.cove then .next s else atEngine s p (paidOr s p (spLine s p i x m data))
  | none => .next s

/-! ### Clears, R390, R391 -/

/-- ARRAY_CLEAR: a due clear begins: the input buffer is zeroed and EA_CLR raised (R390). -/
def execArrayClear (port : Fin 128) (s : State) : Ans :=
  let p := port.val
  if tgetD s.en.clearing p 0 != 3 then .next s
  else
    atDomain s (unitDomain p) (emit { s with en := { s.en with
      inbuf := s.en.inbuf.filter (fun e => e.1 / 16384 != p), clearing := tput s.en.clearing p 1 } } (.eaClr p))

/-- A port enters service, and tiles that waited for a port are placed (R253, R390). -/
def portIn (s : State) (p : Nat) : State :=
  let s := { s with en := { s.en with clearing := tdel s.en.clearing p } }
  match ownerOf s kEP p with | some c => rehome s c | none => s

/-- ARR_CLR_DONE: the port enters service; a clear that has passed 1 ms waits for a later one (R390, R391). Log entry 38 (DESIGN CHOICE). -/
def execArrClrDone (port : Fin 128) (s : State) : Ans :=
  let p := port.val
  let k := tgetD s.en.clearing p 0
  if k = 1 then atDomain s (unitDomain p) (portIn s p) else .next s

/-- ARRAY_CLEAR_TIMEOUT: a clear is not done within 1 ms (R391). -/
def execArrayClearTimeout (port : Fin 128) (s : State) : Ans :=
  let p := port.val
  if tgetD s.en.clearing p 0 != 1 then .next s
  else
    let f := F.FAB_ARR_CLRFAIL_CLRFAIL (p / 32)
    let s1 := setFld { s with en := { s.en with clearing := tput s.en.clearing p 2 } } f (setBit (fld s f) (p % 32) true)
    atDomain s (unitDomain p) (match ownerOf s kEP p with
      | some c => raiseSrc s1 (576 + c)
      | none => raiseSrc (setFlag s1 F.BC_STATUS_CLRFAIL true) 524)

end Sys2Proof.Machine
end

