-- ==== Sys2Proof/Machine/Crypto.lean ====
section
/-!
DEFINITION. The cryptographic functions the spec names and leaves to their published standards (PRESUMED): SHA-384,
HMAC and HKDF-Expand over it, AES-256 and its GCM mode, ECDSA verification over P-384, and CRC-32.
-/
namespace Sys2Proof.Machine

/-- The number that bytes spell, highest first. -/
def ofBytesBE (l : List Byte) : Nat := l.foldl (fun a b => a * 256 + b.toNat) 0

/-- The `n` bytes of a number, highest first. -/
def toBytesBE (n x : Nat) : List Byte := (toBytes n x).reverse

/-- A list cut into pieces of `n`, of which there are at most `fuel`. -/
def chunksOf {α : Type} (n : Nat) : Nat → List α → List (List α)
  | 0, _ => []
  | _, [] => []
  | fuel + 1, l => l.take n :: chunksOf n fuel (l.drop n)

/-! ### SHA-384 (R35, R46, R314, R315, R323) -/

/-- The 64-bit words that a number spells, `n` of them, highest first. -/
def dwordsOf (n x : Nat) : List Dword := ((List.range n).map (fun i => BitVec.ofNat 64 (x / 2 ^ (64 * i)))).reverse

/-- Four round constants of SHA-384 in each number, in the order of the rounds, first part. -/
def shaKeysA : List Nat :=
  [0x428a2f98d728ae227137449123ef65cdb5c0fbcfec4d3b2fe9b5dba58189dbbc,
   0x3956c25bf348b53859f111f1b605d019923f82a4af194f9bab1c5ed5da6d8118,
   0xd807aa98a303024212835b0145706fbe243185be4ee4b28c550c7dc3d5ffb4e2,
   0x72be5d74f27b896f80deb1fe3b1696b19bdc06a725c71235c19bf174cf692694,
   0xe49b69c19ef14ad2efbe4786384f25e30fc19dc68b8cd5b5240ca1cc77ac9c65,
   0x2de92c6f592b02754a7484aa6ea6e4835cb0a9dcbd41fbd476f988da831153b5,
   0x983e5152ee66dfaba831c66d2db43210b00327c898fb213fbf597fc7beef0ee4,
   0xc6e00bf33da88fc2d5a79147930aa72506ca6351e003826f142929670a0e6e70,
   0x27b70a8546d22ffc2e1b21385c26c9264d2c6dfc5ac42aed53380d139d95b3df,
   0x650a73548baf63de766a0abb3c77b2a881c2c92e47edaee692722c851482353b]

/-- Four round constants of SHA-384 in each number, in the order of the rounds, second part. -/
def shaKeysB : List Nat :=
  [0xa2bfe8a14cf10364a81a664bbc423001c24b8b70d0f89791c76c51a30654be30,
   0xd192e819d6ef5218d69906245565a910f40e35855771202a106aa07032bbd1b8,
   0x19a4c116b8d2d0c81e376c085141ab532748774cdf8eeb9934b0bcb5e19b48a8,
   0x391c0cb3c5c95a634ed8aa4ae3418acb5b9cca4f7763e373682e6ff3d6b2b8a3,
   0x748f82ee5defb2fc78a5636f43172f6084c87814a1f0ab728cc702081a6439ec,
   0x90befffa23631e28a4506cebde82bde9bef9a3f7b2c67915c67178f2e372532b,
   0xca273eceea26619cd186b8c721c0c207eada7dd6cde0eb1ef57d4f7fee6ed178,
   0x06f067aa72176fba0a637dc5a2c898a6113f9804bef90dae1b710b35131c471b,
   0x28db77f523047d8432caab7b40c724933c9ebe0a15c9bebc431d67c49c100d4c,
   0x4cc5d4becb3e42b6597f299cfc657e2a5fcb6fab3ad6faec6c44198c4a475817]

/-- The constant of each of the 80 rounds. -/
def shaKeys : List Dword := (shaKeysA ++ shaKeysB).flatMap (dwordsOf 4)

/-- The chaining value before the first block. -/
def shaStart : List Dword :=
  dwordsOf 4 0xcbbb9d5dc1059ed8629a292a367cd5079159015a3070dd17152fecd8f70e5939
    ++ dwordsOf 4 0x67332667ffc00b318eb44a8768581511db0c2e0d64f98fa747b5481dbefa4fa4

/-- A word turned right by each of some distances, and the results added bit by bit. -/
def turns (x : Dword) (by' : List Nat) : Dword := by'.foldl (fun a n => a ^^^ x.rotateRight n) 0

/-- The message schedule, newest word first: each further word from the 2nd, 7th, 15th and 16th before it. -/
def shaExpand : Nat → List Dword → List Dword
  | 0, l => l
  | n + 1, l =>
    let near := l.getD 1 0
    let far := l.getD 14 0
    let w := (turns near [19, 61] ^^^ near >>> 6) + (turns far [1, 8] ^^^ far >>> 7) + l.getD 6 0 + l.getD 15 0
    shaExpand n (w :: l)

/-- One round on the eight working words: `i` is the sum of the round's constant and its message word. -/
def shaRound (v : List Dword) (i : Dword) : List Dword :=
  let at' (k : Nat) : Dword := v.getD k 0
  let choice := at' 6 ^^^ (at' 4 &&& (at' 5 ^^^ at' 6))
  let most := (at' 0 &&& at' 1) ||| (at' 2 &&& (at' 0 ||| at' 1))
  let x := at' 7 + i + choice + turns (at' 4) [14, 18, 41]
  [x + most + turns (at' 0) [28, 34, 39]] ++ v.take 3 ++ [at' 3 + x] ++ (v.drop 4).take 3

/-- The chaining value after one block of 128 bytes. -/
def shaBlock (h : List Dword) (blk : List Byte) : List Dword :=
  let inputs := List.zipWith (· + ·) shaKeys (shaExpand 64 (dwordsOf 16 (ofBytesBE blk)).reverse).reverse
  List.zipWith (· + ·) h (inputs.foldl shaRound h)

/-- A message with its padding, a multiple of 128 bytes. -/
def shaPad (m : List Byte) : List Byte :=
  m ++ 0x80 :: List.replicate ((239 - m.length % 128) % 128) 0 ++ toBytesBE 16 (8 * m.length)

/-- SHA-384 of a message: 48 bytes. Log entry 5 (PRESUMED). -/
def sha384 (m : List Byte) : List Byte :=
  let p := shaPad m
  (((chunksOf 128 p.length p).foldl shaBlock shaStart).take 6).flatMap (fun w => toBytesBE 8 w.toNat)

/-- HMAC over SHA-384. Log entry 5 (PRESUMED). -/
def hmac384 (key m : List Byte) : List Byte :=
  let k := if 128 < key.length then sha384 key else key
  let k := k ++ List.replicate (128 - k.length) 0
  sha384 (k.map (· ^^^ 0x5C) ++ sha384 (k.map (· ^^^ 0x36) ++ m))

/-- The first `len` bytes, at most 48, of HKDF-Expand over SHA-384 (R315). Log entry 5 (PRESUMED). -/
def hkdfExpand (secret info : List Byte) (len : Nat) : List Byte := (hmac384 secret (info ++ [1])).take len

/-! ### AES-256 and GCM (R304, R316, R324) -/

/-- Doubling in the field of AES. -/
def xtime (x : Byte) : Byte := (x <<< 1) ^^^ (if x.getLsbD 7 then 0x1B else 0)

/-- Product in the field of AES over the lowest `n` bits of `b`. -/
def aesMulAux : Nat → Byte → Byte → Byte
  | 0, _, _ => 0
  | n + 1, a, b => (if b.getLsbD 0 then a else 0) ^^^ aesMulAux n (xtime a) (b >>> 1)

/-- Product in the field of AES. -/
def aesMul (a b : Byte) : Byte := aesMulAux 8 a b

/-- The inverse `x ^ 254` in the field of AES, zero for zero. -/
def aesInv (x : Byte) : Byte :=
  let sq := fun y => aesMul y y
  let x2 := sq x
  let x4 := sq x2
  let x8 := sq x4
  let x16 := sq x8
  let x32 := sq x16
  let x64 := sq x32
  aesMul (aesMul (aesMul x2 x4) (aesMul x8 x16)) (aesMul (aesMul x32 x64) (sq x64))

/-- The S-box of AES. -/
def sbox (x : Byte) : Byte :=
  let y := aesInv x
  y ^^^ y.rotateLeft 1 ^^^ y.rotateLeft 2 ^^^ y.rotateLeft 3 ^^^ y.rotateLeft 4 ^^^ 0x63

/-- Byte-wise exclusive or of two byte strings, as long as the shorter. -/
def xorBytes (a b : List Byte) : List Byte := List.zipWith (· ^^^ ·) a b

/-- The key schedule of AES-256: `n` more words of four bytes, newest first, the words so far numbering `i`. -/
def aesExpand : Nat → Nat → Byte → List (List Byte) → List (List Byte)
  | 0, _, _, l => l
  | n + 1, i, rc, l =>
    let t := l.headD []
    let t := if i % 8 = 0 then xorBytes ((t.drop 1 ++ t.take 1).map sbox) [rc, 0, 0, 0]
             else if i % 8 = 4 then t.map sbox else t
    aesExpand n (i + 1) (if i % 8 = 0 then xtime rc else rc) (xorBytes (l.getD 7 []) t :: l)

/-- The fifteen round keys of 16 bytes. -/
def aesKeys (key : List Byte) : List (List Byte) :=
  (chunksOf 4 15 (aesExpand 52 8 1 (chunksOf 4 8 key).reverse).reverse).map List.flatten

/-- The rows of the state, stored by columns, rotated. -/
def shiftRows (b : List Byte) : List Byte := (List.range 16).map (fun i => b.getD ((i + 4 * (i % 4)) % 16) 0)

/-- One column mixed. -/
def mixColumn (c : List Byte) : List Byte :=
  (List.range 4).map (fun i =>
    xtime (c.getD i 0) ^^^ (xtime (c.getD ((i + 1) % 4) 0) ^^^ c.getD ((i + 1) % 4) 0)
      ^^^ c.getD ((i + 2) % 4) 0 ^^^ c.getD ((i + 3) % 4) 0)

/-- The rounds after the first key addition. -/
def aesRounds : List (List Byte) → List Byte → List Byte
  | [], b => b
  | [k], b => xorBytes (shiftRows (b.map sbox)) k
  | k :: ks, b => aesRounds ks (xorBytes ((chunksOf 4 4 (shiftRows (b.map sbox))).flatMap mixColumn) k)

/-- AES-256 on one block of 16 bytes. Log entry 5 (PRESUMED). -/
def aesBlock (keys : List (List Byte)) (b : List Byte) : List Byte :=
  match keys with
  | k :: ks => aesRounds ks (xorBytes b k)
  | [] => b

/-- Product in the field of GCM over the lowest `n` bits of `x`, whose highest bit is the coefficient of 1. -/
def ghMulAux : Nat → Nat → Nat → Nat → Nat
  | 0, _, _, z => z
  | n + 1, x, v, z =>
    ghMulAux n x (if v.testBit 0 then (v >>> 1) ^^^ (0xE1 <<< 120) else v >>> 1) (if x.testBit n then z ^^^ v else z)

/-- GHASH of blocks of 16 bytes. -/
def ghash (h : Nat) (blocks : List (List Byte)) : Nat :=
  blocks.foldl (fun y b => ghMulAux 128 (y ^^^ ofBytesBE b) h 0) 0

/-- A byte string filled with zeros to a multiple of 16. -/
def pad16 (l : List Byte) : List Byte := l ++ List.replicate ((16 - l.length % 16) % 16) 0

/-- The key stream of GCM applied to blocks from counter `i`. -/
def gcmStream (keys : List (List Byte)) (iv : List Byte) : Nat → List (List Byte) → List Byte
  | _, [] => []
  | i, b :: bs => xorBytes b (aesBlock keys (iv ++ toBytesBE 4 i)) ++ gcmStream keys iv (i + 1) bs

/-- The ciphertext of a plaintext, or the plaintext of a ciphertext. Log entry 5 (PRESUMED). -/
def gcmCrypt (key iv data : List Byte) : List Byte := gcmStream (aesKeys key) iv 2 (chunksOf 16 data.length data)

/-- The tag of a ciphertext and its additional data. Log entry 5 (PRESUMED). -/
def gcmTag (key iv aad ct : List Byte) : List Byte :=
  let keys := aesKeys key
  let h := ofBytesBE (aesBlock keys (List.replicate 16 0))
  let p := pad16 aad ++ pad16 ct ++ toBytesBE 8 (8 * aad.length) ++ toBytesBE 8 (8 * ct.length)
  xorBytes (toBytesBE 16 (ghash h (chunksOf 16 p.length p))) (aesBlock keys (iv ++ toBytesBE 4 1))

/-! ### ECDSA over P-384 (R35, R46, R60, R323) -/

/-- The prime of the field. -/
def p384 : Nat := 2 ^ 384 - 2 ^ 128 - 2 ^ 96 + 2 ^ 32 - 1
/-- The coefficient `b` of the curve. -/
def p384b : Nat :=
  0xb3312fa7e23ee7e4988e056be3f82d19181d9c6efe8141120314088f5013875ac656398d8a2ed19d2a85c8edd3ec2aef
/-- The order of the group. -/
def p384n : Nat :=
  0xffffffffffffffffffffffffffffffffffffffffffffffffc7634d81f4372ddf581a0db248b0a77aecec196accc52973
/-- The base point. -/
def p384g : Nat × Nat :=
  (0xaa87ca22be8b05378eb1c71ef320ad746e1d3b628ba79b9859f741e082542a385502f25dbf55296c3a545e3872760ab7,
   0x3617de4a96262c6f5d9e98bf9292dc29f8f41dbd289a147ce9da3113b5f0b8c00a60b1ce1d7e819d7a431d7c90ea0e5f)

/-- `x ^ e` modulo `m` over the lowest `n` bits of `e`. -/
def powMod (m : Nat) : Nat → Nat → Nat → Nat
  | 0, _, _ => 1 % m
  | n + 1, x, e => if e % 2 = 1 then x * powMod m n (x * x % m) (e / 2) % m else powMod m n (x * x % m) (e / 2)

/-- The inverse modulo a prime `m` below 2^384. -/
def invMod (m x : Nat) : Nat := powMod m 384 (x % m) (m - 2)

/-- A sum of points; `none` is the point at infinity. -/
def ecAdd : Option (Nat × Nat) → Option (Nat × Nat) → Option (Nat × Nat)
  | none, q => q
  | p, none => p
  | some (x1, y1), some (x2, y2) =>
    if x1 = x2 ∧ (y1 + y2) % p384 = 0 then none
    else
      let l := if x1 = x2 then (3 * x1 * x1 + (p384 - 3)) * invMod p384 (2 * y1) % p384
               else (y2 + p384 - y1) * invMod p384 (x2 + p384 - x1) % p384
      let x3 := (l * l + 2 * p384 - x1 - x2) % p384
      some (x3, (l * (x1 + p384 - x3) + p384 - y1) % p384)

/-- A multiple of a point over the lowest `n` bits of `k`. -/
def ecMul : Nat → Nat → Option (Nat × Nat) → Option (Nat × Nat)
  | 0, _, _ => none
  | n + 1, k, p =>
    let r := ecMul n (k / 2) (ecAdd p p)
    if k % 2 = 1 then ecAdd p r else r

/-- Whether a pair of numbers is a point of the curve. -/
def onCurve (x y : Nat) : Bool :=
  decide (x < p384) && decide (y < p384) && (y * y) % p384 == (x * x * x + (p384 - 3) * x + p384b) % p384

/-- ECDSA verification of a signature over a message hashed with SHA-384. Log entry 5 (PRESUMED). -/
def ecdsaOk (qx qy r s : Nat) (m : List Byte) : Bool :=
  let w := invMod p384n s
  let e := ofBytesBE (sha384 m)
  onCurve qx qy && decide (0 < r) && decide (r < p384n) && decide (0 < s) && decide (s < p384n) &&
  match ecAdd (ecMul 384 (e * w % p384n) (some p384g)) (ecMul 384 (r * w % p384n) (some (qx, qy))) with
  | some (x, _) => x % p384n == r
  | none => false

/-! ### CRC-32 (R32, R354) -/

/-- `n` steps of the reflected CRC register. -/
def crcStep : Nat → Nat → Nat
  | 0, c => c
  | n + 1, c => crcStep n (if c.testBit 0 then (c >>> 1) ^^^ 0xEDB88320 else c >>> 1)

/-- CRC-32 of a byte string. Log entry 5 (PRESUMED). -/
def crc32 (l : List Byte) : Nat := l.foldl (fun c b => crcStep 8 (c ^^^ b.toNat)) 0xFFFFFFFF ^^^ 0xFFFFFFFF

end Sys2Proof.Machine
end

