-- ==== Sys2Proof/Machine/Tenancy.lean ====
section
/-!
DEFINITION. The states of a cove: quiesce, release, cove reset, the reset of a virtual function and the hang of a command
processor (R303–R312, R394, R395).
-/
namespace Sys2Proof.Machine

/-- The beacon source of a cove's attention (R291). -/
def attnSrc (c : Nat) : Nat := 576 + c

/-- The state with a cove's state set, in both views (R305). -/
def setCoveSt (s : State) (c v : Nat) : State := setFld (setFld s (F.CV_MGR_STATUS_STATE c) v) (F.CV_STATE_STATE c) v

/-- A table without the entries whose key satisfies `p`. -/
def tdrop {α : Type} (t : Tbl α) (p : Nat → Bool) : Tbl α := t.filter (fun e => !p e.1)

/-- A write that R305 does not accept. Log entry 39 (DESIGN CHOICE). -/
def badSeq (s : State) (c : Nat) : State := setFlag s (F.CV_MGR_STATUS_BADSEQ c) true

/-! ### Bounce engines -/

/-- The identifier of a bounce engine (R30). -/
def bxUnit (b : Nat) : Nat := 0x7000 + b

/-- The copies of a cove, oldest first. -/
def copiesOf (s : State) (c : Nat) : List BxCopy := s.sc.copies.filter (fun x => x.cove == c)

/-- The state with the list of copies replaced. -/
def setCopies (s : State) (l : List BxCopy) : State := { s with sc := { s.sc with copies := l } }

/-- Show how many copies of a cove are queued or running (CV_BX_STATUS.QUEUED). -/
def showCopies (s : State) (c : Nat) : State := setFld s (F.CV_BX_STATUS_QUEUED c) (copiesOf s c).length

/-- The lowest-numbered bounce engine without a copy. -/
def freeBounce (l : List BxCopy) : Option Nat := (List.range 4).find? (fun b => !l.any (fun x => x.engine == some b))

/-- Give the oldest copy of each cove, in the order accepted, to the free bounce engines (R317). -/
def assignAll (s : State) (all : List BxCopy) : List BxCopy → List Nat → List BxCopy
  | [], _ => []
  | x :: xs, seen =>
    if seen.contains x.cove || x.engine.isSome || !coveActive s x.cove then x :: assignAll s all xs (x.cove :: seen)
    else match freeBounce all with
      | some b =>
        let y := { x with engine := some b }
        y :: assignAll s (y :: all) xs (x.cove :: seen)
      | none => x :: assignAll s all xs (x.cove :: seen)

/-- Copies that may start go to free bounce engines (R317). Log entry 41 (DESIGN CHOICE). -/
def assignCopies (s : State) : State := setCopies s (assignAll s s.sc.copies s.sc.copies [])

/-! ### Sessions, R315 -/

/-- A session ends: its keys are zeroised, and the copies accepted under it end at their next chunk (R315, R319, R326).
Log entry 40 (DESIGN CHOICE). -/
def endSession (s : State) (c : Nat) : State :=
  setFlag { s with sc := { s.sc with
    sessions := tdel s.sc.sessions c,
    copies := s.sc.copies.map (fun x => if x.cove == c then { x with orphan := true } else x) } } (F.CV_SEC_STATUS_SESSION c) false

/-! ### Quiesce, R306 -/

/-- Cancel the armed start groups of a cove that have not launched; their steps wait to be armed again (R306 step 3). -/
def cancelStarts (s : State) (c : Nat) : State :=
  let ms := masterOf s c
  let launched := ms.slate.any (fun e => e.2.act.starts && e.2.due.isSome && !e.2.applied)
  let s := setMaster s c { ms with slate := ms.slate.filter (fun e => !(e.2.act.starts && e.2.due.isNone)) }
  let s := { s with tide := { s.tide with armReqs := s.tide.armReqs.filter (fun r => !(r.tide == c && r.act.starts)) } }
  if launched then s
  else
    let g := groupOf s.sq.starts c
    { s with sq := { s.sq with starts := tput s.sq.starts c { g with armed := [], waiting := g.armed ++ g.waiting } } }

/-- Units of a cove whose tile is held on a fault. -/
def heldUnits (s : State) (c : Nat) : List Nat :=
  ((s.xl.xfers.filter (fun e => e.2.eng && e.2.tag == c && e.2.src / 4096 < 6 &&
      match e.2.stage with | .held _ _ => true | _ => false)).map (fun e => e.2.src)).dedup

/-- What ABORT does at once: engines end their tiles at a boundary, held transfers complete with error status and their
tiles end, and running moves end at a line boundary (R306 steps 4, 6 and 7). Log entry 39 (DESIGN CHOICE). -/
def abortWork (s : State) (c : Nat) : State :=
  let us := heldUnits s c
  let s := abortTiles s (fun x => x.cove == c)
  let s := failHeld s c (fun _ => true)
  let s := us.foldl (fun s u => endTile (clearWork s u) u .error) s
  let s := { s with xl := { s.xl with xfers := s.xl.xfers.filter (fun e => !(e.2.eng && e.2.tag == c && e.2.src / 4096 == 7)) } }
  { s with en := { s.en with moves := s.en.moves.map (fun m =>
      if m.cove == c && decide (0 < m.done) && m.failed.isNone && !m.whole then { m with failed := some (0, m.at.1) } else m) } }

/-- Start a quiesce of an ACTIVE cove, or turn a draining FINISH into an ABORT (R305, R306). -/
def beginQuiesce (s : State) (c : Nat) (abort : Bool) : State :=
  let s := setFlag (setCoveSt s c 2) (F.CV_MGR_STATUS_ABORT c) abort
  let s := cancelStarts s c
  if abort then abortWork s c else s

/-- Whether nothing of a quiescing cove is left in progress (R306 steps 4–8, R377). Log entry 39 (DESIGN CHOICE). -/
def quiesceDrained (s : State) (c : Nat) : Bool :=
  let abort := quiesceAbort s c
  !s.sq.engines.any (fun e => match stepOf s e.2.step with | some x => x.cove == c | none => false)
    && !s.xl.xfers.any (fun e => e.2.tag == c)
    && !s.en.moves.any (fun m => m.cove == c && decide (0 < m.done))
    && !s.en.clearing.any (fun e => e.2 != 2 && ownerOf s kEP e.1 == some c)
    && (if abort then !s.sc.copies.any (fun x => x.cove == c && x.engine.isSome)
        else !s.sq.steps.any (fun e => e.2.cove == c && match e.2.ph with | .saving _ => true | .resuming => true | _ => false))

/-- A quiesced cove returns to ACTIVE and its work continues (R305, R309). -/
def releaseCove (s : State) (c : Nat) : State :=
  let s := setCoveSt s c 1
  let s := if entryWaits s c SlateAct.starts then s else nextStart s c
  assignCopies s

/-- Whether a chart is in SOUNDING or APPLYING (R58, CH_STATUS). -/
def chartBusy (s : State) : Bool := fld s F.CH_STATUS_STATE == 3 || fld s F.CH_STATUS_STATE == 4

/-- A write of CV_QUIESCE: bits REQ, ABORT and RELEASE (R305). Log entry 39 (DESIGN CHOICE). -/
def quiesceWrite (s : State) (c v : Nat) : State :=
  let req := bit v 0
  let abort := bit v 1
  let rel := bit v 2
  if !req && !rel then s
  else if req && rel then badSeq s c
  else if req then
    if coveSt s c = 1 then beginQuiesce s c abort
    else if coveSt s c = 2 && abort && !quiesceAbort s c then beginQuiesce s c true
    else badSeq s c
  else if coveSt s c = 3 && !quiesceAbort s c && !chartBusy s then releaseCove s c
  else badSeq s c

/-- CV_QUIESCE_REQ: a write of CV_QUIESCE (R305, R306). -/
def execCvQuiesceReq (q : Requester) (c : CoveId) (v : Word) (s : State) : Ans := atFabric s q (quiesceWrite s c v.toNat)

/-- CV_QUIESCE_RELEASE: a write of CV_QUIESCE (R305). -/
def execCvQuiesceRelease (q : Requester) (c : CoveId) (v : Word) (s : State) : Ans := atFabric s q (quiesceWrite s c v.toNat)

/-- QUIESCE_STUCK: a quiesce has not completed in 2 ms (R307). -/
def execQuiesceStuck (c : CoveId) (s : State) : Ans :=
  if !quiescing s c then .next s
  else atDomain s 94 (raiseSrc (setFlag s (F.CV_MGR_STATUS_STUCK c) true) (attnSrc c))

/-! ### Cove reset, R310 -/

/-- The unit of an engine or a port belongs to a cove. -/
def ownedUnit (s : State) (c u : Nat) : Bool := unitOwner s u == some c

/-- The flip of a cove that is reset: cancelled, unless it has launched (R204, R205). Log entry 39 (DESIGN CHOICE). -/
def resetFlip (s : State) (c : Nat) : State :=
  match tfind s.en.flips c with
  | none => s
  | some _ => match takeReport s (fun a => a == .flip c) with
    | some (r, s) => match r.outcome with
      | .cancelled => setFld s (F.TU_FLIP_STATUS_OUTCOME c) 3
      | o =>
        let s := setFld s (F.TU_FLIP_STATUS_OUTCOME c) (match o with | .done => 1 | _ => 2)
        setFld64 (setFlag s (F.TU_FLIP_STATUS_DONE c) true) (F.TU_CV_FLIP_AT_LO c) (F.TU_CV_FLIP_AT_HI c) r.count
    | none => setFld s (F.TU_FLIP_STATUS_OUTCOME c) 3

/-- The cove's tide: armed entries cancelled and its master stopped (R84, R91, R310). -/
def resetTide (s : State) (c : Nat) : State :=
  let s := resetFlip (cancelSlate s c) c
  let m := masterOf s c
  let s := if thas s.tide.masters c then setMaster s c { m with running := false, newPeriod := none, await := [] } else s
  let s := (tapsOf s c).foldl (fun s t => setTap s t { tapOf s t with acts := [], net := none, recv := none, acking := none }) s
  { s with tide := { s.tide with reports := s.tide.reports.filter (fun r => r.tide != c) } }

/-- Queues, steps, engines' work, table slots and moves of the cove (R205, R215, R310). Log entry 39 (DESIGN CHOICE). -/
def resetWork (s : State) (c : Nat) : State :=
  let ids := (stepsWhere s (fun x => x.cove == c)).map (·.1)
  let s := ids.foldl discardStep s
  let q := s.sq
  let q := { q with runs := q.runs.filter (fun r => r.cove != c), starts := tdel q.starts c }
  let s := { s with sq := { q with preempts := tdel q.preempts c } }
  let e := s.en
  let s := { s with en := { e with
    gp := tdrop e.gp (ownedUnit s c), tu := tdrop e.tu (ownedUnit s c), rm := tdrop e.rm (ownedUnit s c),
    tk := tdrop e.tk (ownedUnit s c), ep := tdrop e.ep (ownedUnit s c),
    slots := tdrop e.slots (fun k => k / 64 == c), flips := tdel e.flips c,
    bind := (match e.bind with | some b => if b.cove == c then none else some b | none => none),
    limbo := (e.limbo.map (fun x => (x.1, x.2.filter (fun l => l.cove != c)))).filter (fun x => !x.2.isEmpty),
    drained := tdrop e.drained (fun n => ownerOf s kSH n == some c),
    moves := e.moves.filter (fun m => m.cove != c),
    deliver := e.deliver.filter (fun d => !ownedUnit s c d.src) } }
  (List.range 128).foldl (fun s p => if ownerOf s kEP p == some c then dueClear s p else s) s

/-- Contexts, objects, events and graphs of the cove (R310). Log entry 30 (DESIGN CHOICE). -/
def resetObjects (s : State) (c : Nat) : State :=
  let o := s.ob
  let s := { s with ob := { o with
    heads := tdel o.heads c, lookups := tdel o.lookups c, queues := tdrop o.queues (fun k => k / 64 == c),
    waits := tdel o.waits c, rings := tdel o.rings c, graphs := tdrop o.graphs (fun k => k / 256 == c),
    slots := o.slots.filter (fun x => x.cove != c), waiters := o.waiters.filter (fun x => x.1 != c),
    killed := tdrop o.killed (fun k => k / 4096 == c) } }
  let s := setFlag (setFlag (setFlag s (F.OB_AREA_EN c) false) (F.OB_AREA_STATUS_READY c) false) (F.OB_AREA_STATUS_INIT c) false
  let s := setFlag (setFlag s (F.SQ_SPILL_EN c) false) (F.SQ_SPILL_STATUS_READY c) false
  let s := setFld (setFld s (F.OB_CV_LIVE c) 0) (F.OB_CV_ZOMBIE c) 0
  let s := setFld (setFld s (F.EV_CV_CRING_PROD c) 0) (F.EV_CV_CRING_CONS c) 0
  setFlag (setFlag (setFlag s (F.EV_CV_CRING_STALL c) false) (F.EV_CV_CRING_BADCONS c) false) (F.EV_CV_CRING_WERR c) false

/-- Transfers, cached translations, invalidations, the wrack queue and the dirty log of the cove (R147, R155, R310). -/
def resetXlate (s : State) (c : Nat) : State :=
  let s := dropCoveXlate s c
  let s := { s with xl := { s.xl with xfers := s.xl.xfers.filter (fun e => e.2.tag != c), invs := tdel s.xl.invs c, wqSeq := tdel s.xl.wqSeq c } }
  let s := setFld (setFld s (F.XL_WQ_PROD_PROD c) 0) (F.XL_WQ_CONS_CONS c) 0
  if dlOn s c then dlToggle s c false 0 else s

/-- Copies and session of the cove, with what its counters have raised (R310, R318). -/
def resetSecurity (s : State) (c : Nat) : State :=
  let s := setCopies (endSession s c) (s.sc.copies.filter (fun x => x.cove != c))
  let s := setFlag (setFlag s (F.CV_SEC_STATUS_KU_DUE_H2D c) false) (F.CV_SEC_STATUS_KU_DUE_D2H c) false
  let s := setFlag (setFlag s (F.CV_SEC_STATUS_STOP_H2D c) false) (F.CV_SEC_STATUS_STOP_D2H c) false
  assignCopies (showCopies s c)

/-- Sources and targets of the cove (R302). Log entry 19 (DESIGN CHOICE). -/
def resetBeacon (s : State) (c : Nat) (removal : Bool) : State :=
  beaconStep s (fun s =>
    let s := clearCoveSrcs s c removal
    ((List.range 64).foldl (fun s t => if ownerOf s kTgt t == some c then resetTgt s t else s) s, false))

/-- A regulator with its chart parameters under the cove's present factor, its monitor ARMED and a fresh window (R289). -/
def resetRegul (s : State) (c r : Nat) : State :=
  let g := regulOf s r
  let p := g.next.getD g.par
  startWindow (setRegul s r ({ g with urg := 0 }.install p (p.effective (coveK s c)))) r

/-- Regulators of the cove, and the descriptor and shares that an applied image left pending with them (R65, R289).
Log entry 26 (DESIGN CHOICE). -/
def resetReguls (s : State) (c : Nat) : State :=
  takeDesc ((List.range 224).foldl (fun s r => if regOwner s r == c then resetRegul s c r else s) s) c

/-- Written bits of the cove's tidepool banks clear (R128). -/
def clearBanks (s : State) (c : Nat) : State :=
  { s with mem := { s.mem with tpWritten := tdrop s.mem.tpWritten (fun k => ownerOf s kBank (k / 4096) == some c) } }

/-- Whether a counter stands in the window of cove `c`. -/
def inWindow (c k : Nat) : Bool := decide (winBase c ≤ k % 2 ^ 32 ∧ k % 2 ^ 32 < winBase c + 0x100000)

/-- The counters of the cove's window clear (R310). Log entry 39 (DESIGN CHOICE). -/
def clearCounters (s : State) (c : Nat) : State := { s with ctrs := tdrop s.ctrs (inWindow c) }

/-- Operating-point requests of the cove become invalid (R350). Log entry 39 (DESIGN CHOICE). -/
def clearRequests (s : State) (c : Nat) : State :=
  retargetAll ((List.range 6).foldl (fun s i => setFlag s (F.VS_COVE_REQ_VALID i c) false) s)

/-- Zero-fills of every owned granule: each scrambled range takes a fresh KID first, or waits for one (R310). Log entry 39 (DESIGN CHOICE). -/
def scrubCove (s : State) (c : Nat) : State :=
  let rs := s.mem.kr.filter (fun e => e.2.owner == c && e.2.scramble)
  let covered (g : Nat) : Bool := rs.any (fun e => decide (e.2.first ≤ g ∧ g < e.2.first + e.2.count))
  let s := scrubFills s c 0 (fun g => !covered g)
  rs.foldl (fun s e =>
    let s := { s with mem := { s.mem with rekeyQ := s.mem.rekeyQ.filter (· != e.1) } }
    match takeable s with
    | some kid => takeScrub s e.1 kid
    | none =>
      let s := setKr s e.1 { e.2 with phase := 1 }
      { s with mem := { s.mem with rekeyQ := s.mem.rekeyQ ++ [e.1] }, sc := { s.sc with scrubQ := s.sc.scrubQ ++ [e.1] } }) s

/-- What a cove reset does to every part of the cove (R310). -/
def resetParts (s : State) (c : Nat) (removal : Bool) : State :=
  let s := resetTide s c
  let s := resetXlate (resetObjects (resetWork s c) c) c
  let s := resetSecurity s c
  let s := resetBeacon s c removal
  let s := clearRequests (clearCounters (clearBanks (resetReguls s c) c) c) c
  let s := if removal then s else showScale s c
  let s := { s with sc := { s.sc with auto := tdel s.sc.auto c, cpRst := tput s.sc.cpRst c true } }
  retrySlots (emit s (.cpReset c true))

/-- A migration operation in progress ends with CODE 11 (R305). Log entry 42 (DESIGN CHOICE). -/
def endMigration (s : State) (c code : Nat) : State :=
  let s := { s with sc := { s.sc with mig := tdel s.sc.mig c } }
  let s := setFlag (setFlag s (F.CV_MIG_STATUS_BUSY c) false) (F.CV_MIG_STATUS_ERR c) true
  setFld s (F.CV_MIG_STATUS_CODE c) code

/-- Start a cove reset (R305, R310). -/
def beginReset (s : State) (c : Nat) (scrub : Bool) : State :=
  let s := if thas s.sc.mig c then endMigration s c 11 else s
  let s := resetParts (setCoveSt s c 4) c false
  if scrub then scrubCove s c else s

/-- CV_RESET_GO (R305, R310). Log entry 39 (DESIGN CHOICE). -/
def execCvResetGo (q : Requester) (c : CoveId) (v : Word) (s : State) : Ans :=
  atFabric s q (if !v.getLsbD 0 then s else if coveSt s c = 3 then beginReset s c (v.getLsbD 1) else badSeq s c)

/-- QUIESCE_ACK: the drain of a quiescing cove is complete; a reset that waited for it follows (R306 step 9, R311, R394). -/
def execQuiesceAck (c : CoveId) (s : State) : Ans :=
  if !quiescing s c || !quiesceDrained s c then .next s
  else
    let s1 := raiseSrc (setFlag (setCoveSt s c 3) (F.CV_MGR_STATUS_ACK c) true) (attnSrc c)
    atDomain s 94 (if thas s.sc.auto c then beginReset s1 c false else s1)

/-- Whether a cove's reset waits for a fill, a KID or its command processor. -/
def resetWaits (s : State) (c : Nat) : Bool :=
  s.plan.fills.any (fun f => f.2 == .scrub c)
    || s.sc.scrubQ.any (fun r => match tfind s.mem.kr r with | some k => k.owner == c | none => false)

/-- The level of CP_IDLE of a cove's command processor (R392, R394). Log entry 9 (DESIGN CHOICE). -/
def cpIdle (s : State) (c : Nat) : Bool := thas s.env.cpIdle c

/-- CP_RESET_RELEASE: CP_IDLE is and has been high for 16 CPCLK cycles, and the reset of a cove's command processor is
released, as the last step of the cove reset (R394). Log entry 38 (DESIGN CHOICE). -/
def execCpResetRelease (c : CoveId) (s : State) : Ans :=
  if !thas s.sc.cpRst c || (coveSt s c == 4 && resetWaits s c) then .next s
  else
    let s1 := { s with sc := { s.sc with cpRst := tdel s.sc.cpRst c }, env := { s.env with cpIdle := tput s.env.cpIdle c true } }
    atDomain s 94 (emit s1 (.cpReset c false))

/-- The cove's master restarts at count 0 and its taps resynchronise (R71, R91); a change of its period that was pending is in
force from the restart on. Log entry 26 (DESIGN CHOICE). -/
def restartTide (s : State) (c : Nat) : State :=
  if !thas s.tide.masters c then s
  else
    let m := masterOf s c
    let s := setMaster s c { m with running := true, count := 0, held := flag s F.TD_STATUS_XA_LOST, period := inCycles s m.periodMr, newPeriod := none, await := [] }
    (tapsOf s c).foldl (fun s t => missEdge (setTap s t { tapOf s t with asked := false }) t) s

/-- The FLR of a cove's virtual function is complete (R311). -/
def endFlr (s : State) (c : Nat) : State :=
  if thas s.sc.flr c then emit { s with sc := { s.sc with flr := tdel s.sc.flr c } } (.flrDone c) else s

/-- COVE_RESET_DONE (R305, R310). -/
def execCoveResetDone (c : CoveId) (s : State) : Ans :=
  if coveSt s c != 4 || resetWaits s c || thas s.sc.cpRst c then .next s
  else
    let n := fld s (F.CV_STATE_RESETS c)
    let s1 := setFlag (setCoveSt s c 1) (F.CV_MGR_STATUS_CLEAN c) true
    let s2 := lbAdd (setFld s1 (F.CV_STATE_RESETS c) (min (n + 1) 65535)) 16 1
    atDomain s 94 (endFlr (raiseSrc (restartTide s2 c) (attnSrc c)) c)

/-! ### The reset of a virtual function and hangs, R311, R394, R395 -/

/-- Quiesce with ABORT and then reset, from wherever the cove stands (R311, R394). -/
def forceReset (s : State) (c : Nat) : State :=
  if coveSt s c = 3 then beginReset s c false
  else if coveSt s c = 4 then s
  else
    let s := { s with sc := { s.sc with auto := tput s.sc.auto c true } }
    if coveSt s c = 1 || !quiesceAbort s c then beginQuiesce s c true else s

/-- Act on an FLR: without a cove it is complete at once; otherwise the cove is reset (R305, R311). Log entry 39 (DESIGN CHOICE). -/
def actFlr (s : State) (c : Nat) : State :=
  if !coveExists s c then emit { s with sc := { s.sc with flr := tdel s.sc.flr c } } (.flrDone c)
  else
    let s := { s with sc := { s.sc with flr := tput s.sc.flr c true } }
    forceReset (if coveSt s c = 4 then s else setFlag s (F.CV_MGR_STATUS_FLR c) true) c

/-- The FLRs held by the host link controller, after a release of slack that resumes (R371). Log entry 12 (DEDUCED). -/
def heldFlrs (s : State) : State := ((s.sc.flr.filter (fun e => !e.2)).map (·.1)).foldl actFlr s

/-- VF_FLR: held by the host link controller while the ports are closed (R305, R311, R371, R377).
Log entries 12 (DEDUCED), 39 (DESIGN CHOICE). -/
def execVfFlr (c : CoveId) (s : State) : Ans :=
  .next (if hostClosed s then { s with sc := { s.sc with flr := tput s.sc.flr c false } } else actFlr s c)

/-- FLR_RESET_STUCK: the reset of an FLR has not completed in 100 ms (R311). Log entry 39 (DESIGN CHOICE). -/
def execFlrResetStuck (c : CoveId) (s : State) : Ans :=
  if !thas s.sc.flr c || !coveExists s c || coveSt s c = 1 then .next s else atDomain s 94 (setFlag s (F.CV_MGR_STATUS_STUCK c) true)

/-- Act on a hang, once no apply runs (R394, R395). Log entry 56 (DESIGN CHOICE). -/
def hangReset (s : State) (c : Nat) : State :=
  let s := { s with sc := { s.sc with hangs := tdel s.sc.hangs c } }
  if coveExists s c then forceReset s c else s

/-- The quiesces and resets that waited for an apply to end (R395). Log entry 56 (DESIGN CHOICE). -/
def serveHangs (s : State) : State := ((s.sc.hangs.filter (fun e => e.1 < 16)).map (·.1)).foldl hangReset s

/-- A hang of a cove's own processor is recorded, and acted on unless an apply runs (R394, R395). Log entry 56 (DESIGN CHOICE). -/
def ownHang (s : State) (c : Nat) : State :=
  let s := raiseSrc (setFld s F.FAB_CP_STATUS_HANG (fld s F.FAB_CP_STATUS_HANG ||| 2 ^ c)) (attnSrc c)
  let s := { s with sc := { s.sc with hangs := tput s.sc.hangs c false } }
  if fld s F.CH_STATUS_STATE = 4 then s else hangReset s c

/-- A cause asks for a fabric reset (R375, R376). Log entry 56 (DESIGN CHOICE). -/
def askReset (s : State) (r : RstCause) : State := { s with lc := { s.lc with want := s.lc.want ++ [r] } }

/-- Act on a hang: a cove reset, or a fabric reset when shared state is held (R394). Log entry 56 (DESIGN CHOICE). -/
def actHang (s : State) (c : Nat) (shared : Bool) : State :=
  if !coveExists s c || coveSt s c = 4 then s
  else if shared then askReset s (.cpShared c)
  else ownHang s c

/-- The hangs signalled during slack, after a release that resumes (R395). Log entry 56 (DESIGN CHOICE). -/
def slackHangs (s : State) : State :=
  let l := s.sc.hangs.filter (fun e => 16 ≤ e.1)
  l.foldl (fun s e => actHang s (e.1 - 16) e.2) { s with sc := { s.sc with hangs := s.sc.hangs.filter (fun e => e.1 < 16) } }

/-- CP_HANG: ignored without a cove or while it is RESETTING; during slack it waits for a release (R394, R395). Log entry 56 (DESIGN CHOICE). -/
def execCpHang (c : CoveId) (shared : Bool) (s : State) : Ans :=
  if resetting s then .next s
  else if slackOn s then .next { s with sc := { s.sc with hangs := tput s.sc.hangs (16 + c) shared } }
  else .next (actHang s c shared)

end Sys2Proof.Machine
end

