-- ==== Sys2Proof/Machine/Secure.lean ====
section
/-!
DEFINITION. The SPDM responder, the bounce copies and the firmware commit (R313–R319, R325–R327).
-/
namespace Sys2Proof.Machine

/-! ### SPDM, R313–R315 -/

/-- Whether the responder serves a cove's mailbox: the cove exists, firmware runs, and the state keeps a device identity
key (R303, R326, R361). -/
def spdmServes (s : State) (c : Nat) : Bool :=
  coveExists s c && flag s F.FAB_SEC_STATUS_FW_OK && s.sc.devKey.isSome && decide (fld s F.LC_STATE_STATE ≤ 2)

/-- Answer a request of a cove's mailbox: an error where the responder does not serve it. Log entry 40 (DESIGN CHOICE). -/
def spdm (s : State) (c : Nat) (f : State → SpdmResp × State) : Ans :=
  let (r, s1) := f s
  atLink s (if spdmServes s c then emit s1 (.spdm c r) else emit s (.spdm c .unspecified))

/-- The words 0x008–0xC7C of a cove's manifest as bytes (R314). -/
def manifestBytes (s : State) (c : Nat) : List Byte :=
  (List.range 798).flatMap (fun i =>
    let off := winBase c + 8 + 4 * i
    let row := (s.flds.filter (fun e => e.1 / 32 == off)).map (fun e => e.2 * 2 ^ (e.1 % 32))
    toBytes 4 (row.foldl (· + ·) 0))

/-- The measurement of an index (R314). Log entry 40 (DESIGN CHOICE). -/
def measurement (s : State) (c i : Nat) : List (Nat × List Byte) :=
  let svn := fld s F.FAB_SEC_STATUS_FUSED_SVN
  let m1 : List (Nat × List Byte) := match s.lc.image with
    | some x => [(1, sha384 x.header ++ toBytes 1 x.svn)]
    | none => []
  let all := m1 ++ [(2, sha384 (manifestBytes s c)), (3, toBytes 1 (fld s F.LC_STATE_STATE) ++ toBytes 1 svn)]
  if i = 0xFF then all else all.filter (fun m => m.1 == i)

/-- SPDM_GET_MEASUREMENTS: the measurement of an index, or all of them at 0xFF, with a signature by the device identity key
(R313, R314). -/
def execSpdmGetMeasurements (c : CoveId) (index : Byte) (s : State) : Ans :=
  spdm s c (fun s => let (x, s) := drawFree s 768; (.measurements (measurement s c index.toNat) x, s))

/-- The capabilities of the profile (R313). Log entry 40 (DESIGN CHOICE). -/
def spdmCaps : List SpdmCap := [.cert, .chal, .measSigned, .keyEx, .encrypt, .mac, .keyUpd, .hbeat]
/-- The algorithms of the profile (R313). -/
def spdmAlgs : List SpdmAlg := [.ecdsaP384, .sha384, .ecdheP384, .aes256Gcm, .keySchedule]
/-- The heartbeat period offered, in seconds (R313). -/
def heartbeatPeriod : Nat := 60

/-- The certificate chain of slot 0, under the device identity key that MG holds (R313, R326). Log entry 40 (DESIGN CHOICE). -/
def certChain (s : State) : List Byte := (s.sc.devKey.map Config.certChain).getD []

/-- The answer to a request of the profile, or an error; a signature is a free value (R313).
Log entries 2 (DESIGN CHOICE), 40 (DESIGN CHOICE). -/
def spdmAnswer (s : State) : SpdmReq → SpdmResp × State
  | .getVersion => (.version [0x12], s)
  | .getCapabilities => (.capabilities spdmCaps, s)
  | .negotiateAlgorithms => (.algorithms spdmAlgs, s)
  | .getDigests => (.digests (sha384 (certChain s)), s)
  | .getCertificate slot => (if slot = 0 then .certificate (certChain s) else .unspecified, s)
  | .challenge slot =>
    if slot = 0 then (let (x, s) := drawFree s 768; (.challenge x, s)) else (.unspecified, s)
  | .other => (.unsupported, s)

/-- SPDM_OTHER_REQUEST (R313). -/
def execSpdmOtherRequest (c : CoveId) (req : SpdmReq) (s : State) : Ans := spdm s c (fun s => spdmAnswer s req)

/-- The session of a cove. -/
def sessionOf (s : State) (c : Nat) : Option Session := tfind s.sc.sessions c
/-- The state with a cove's session set. -/
def setSession (s : State) (c : Nat) (x : Session) : State := { s with sc := { s.sc with sessions := tput s.sc.sessions c x } }
/-- Whether a session of the cove is established (CV_SEC_STATUS.SESSION). -/
def sessionUp (s : State) (c : Nat) : Bool := match sessionOf s c with | some x => x.up | none => false

/-- A key exchange begins, with a fresh ephemeral key (R313, R326). Log entries 2 (DESIGN CHOICE), 40 (DESIGN CHOICE). -/
def openExchange (s : State) (c : Nat) : State :=
  let (e, s) := drawFree s 384
  setSession s c ⟨false, some e, 0, 0, 0, 0⟩

/-- SPDM_KEY_EXCHANGE: one session per cove, and no key while a health test of the TRNG fails (R313, R326, R327).
Log entries 40 (DESIGN CHOICE), 43 (DESIGN CHOICE). -/
def execSpdmKeyExchange (c : CoveId) (s : State) : Ans :=
  spdm s c (fun s =>
    if sessionUp s c then (.sessionLimitExceeded, s)
    else if flag s F.FAB_SEC_STATUS_TRNG_FAIL then (.busy, s)
    else (.keyExchange heartbeatPeriod, openExchange s c))

/-- A key of a direction from its data secret (R315). Log entry 40 (DESIGN CHOICE). -/
def bounceKey (secret : BitVec 384) (toHost : Bool) : BitVec 256 :=
  let label := if toHost then "psimen bx d2h" else "psimen bx h2d"
  BitVec.ofNat 256 (ofBytesBE (hkdfExpand (toBytesBE 48 secret.toNat) (label.toList.map (fun ch => BitVec.ofNat 8 ch.toNat)) 32))

/-- A direction's counter starts at 0 under a new key (R315, R318). -/
def freshCounter (s : State) (c : Nat) (toHost : Bool) : State :=
  if toHost then setFlag (setFlag (setCtr s (C.CV_SEC_D2H c) 0) (F.CV_SEC_STATUS_KU_DUE_D2H c) false) (F.CV_SEC_STATUS_STOP_D2H c) false
  else setFlag (setFlag (setCtr s (C.CV_SEC_H2D c) 0) (F.CV_SEC_STATUS_KU_DUE_H2D c) false) (F.CV_SEC_STATUS_STOP_H2D c) false

/-- The session is established with new data secrets and keys (R315). Log entries 2 (DESIGN CHOICE), 40 (DESIGN CHOICE). -/
def establish (s : State) (c : Nat) : State :=
  let (a, s) := drawFree s 384
  let (b, s) := drawFree s 384
  let s := setSession s c ⟨true, none, a, b, bounceKey a false, bounceKey b true⟩
  setFlag (freshCounter (freshCounter s c false) c true) (F.CV_SEC_STATUS_SESSION c) true

/-- SPDM_FINISH: `good` says that the requester's verification data are right; the ephemeral key goes either way (R315, R326). -/
def execSpdmFinish (c : CoveId) (good : Bool) (s : State) : Ans :=
  spdm s c (fun s =>
    match sessionOf s c with
    | some x =>
      if x.up then (.unspecified, s)
      else if good then (.finish, establish s c)
      else (.unspecified, endSession s c)
    | none => (.sessionRequired, s))

/-- The key of a direction after an update of its secret (R315). -/
def updateKey (s : State) (c : Nat) (toHost : Bool) : State :=
  match sessionOf s c with
  | none => s
  | some x =>
    let (a, s) := drawFree s 384
    let y := if toHost then { x with rspSecret := a, kd := bounceKey a true } else { x with reqSecret := a, kh := bounceKey a false }
    freshCounter (setSession s c y) c toHost

/-- SPDM_KEY_UPDATE of the directions it names (R315). -/
def execSpdmKeyUpdate (c : CoveId) (h2d d2h : Bool) (s : State) : Ans :=
  spdm s c (fun s =>
    if !sessionUp s c then (.sessionRequired, s)
    else
      let s := if h2d then updateKey s c false else s
      (.keyUpdated, if d2h then updateKey s c true else s))

/-- SPDM_HEARTBEAT (R313). -/
def execSpdmHeartbeat (c : CoveId) (s : State) : Ans :=
  spdm s c (fun s => if sessionUp s c then (.heartbeat, s) else (.sessionRequired, s))

/-- SPDM_END_SESSION (R315). -/
def execSpdmEndSession (c : CoveId) (s : State) : Ans :=
  spdm s c (fun s => if sessionUp s c then (.ended, endSession s c) else (.sessionRequired, s))

/-- HEARTBEAT_LOSS (R313, R315). -/
def execHeartbeatLoss (c : CoveId) (s : State) : Ans :=
  if sessionUp s c then atDomain s 94 (endSession s c) else .next s

/-! ### Sealing, R316–R318 -/

/-- The 12 bytes of IV of a chunk (R316). -/
def chunkIv (c : Nat) (toHost : Bool) (counter : Nat) : List Byte := toBytes 4 (c + 16 * b2n toHost) ++ toBytes 8 counter

/-- The 16 bytes of additional data of a chunk (R316). -/
def chunkAad (addr len c : Nat) (toHost : Bool) (kind : Nat) : List Byte :=
  toBytes 8 addr ++ toBytes 4 len ++ [BitVec.ofNat 8 c, BitVec.ofNat 8 (b2n toHost), BitVec.ofNat 8 kind, 0]

/-- The bytes of a key. -/
def keyBytes (k : BitVec 256) : List Byte := toBytesBE 32 k.toNat

/-- A chunk sealed under KD: its ciphertext and its tag entry (R316). -/
def sealChunk (x : Session) (c addr kind counter : Nat) (data : List Byte) : List Byte × List Byte :=
  let iv := chunkIv c true counter
  let ct := gcmCrypt (keyBytes x.kd) iv data
  (ct, gcmTag (keyBytes x.kd) iv (chunkAad addr data.length c true kind) ct ++ toBytes 8 counter ++ List.replicate 8 0)

/-- A chunk opened under KH: nothing when its tag does not verify (R316, R317). -/
def openChunk (x : Session) (c addr kind : Nat) (ct : List Byte) (entry : BitVec 256) : Option (Nat × List Byte) :=
  let e := toBytes 32 entry.toNat
  let counter := leAt e 16 8
  let iv := chunkIv c false counter
  if gcmTag (keyBytes x.kh) iv (chunkAad addr ct.length c false kind) ct = e.take 16 then
    some (counter, gcmCrypt (keyBytes x.kh) iv ct)
  else none

/-- The last counter of a direction. -/
def lastCounter (s : State) (c : Nat) (toHost : Bool) : Nat := ctr s (if toHost then C.CV_SEC_D2H c else C.CV_SEC_H2D c)

/-- The value at which a direction refuses every chunk (R318). -/
def counterStop : Nat := 2 ^ 32 - 1

/-- A direction's counter moves to `v`, with KU_DUE and STOP (R317, R318). Log entry 41 (DESIGN CHOICE). -/
def takeCounter (s : State) (c : Nat) (toHost : Bool) (v : Nat) : State :=
  if toHost then
    let s := setCtr s (C.CV_SEC_D2H c) v
    let s := if 2 ^ 31 ≤ v then setFlag s (F.CV_SEC_STATUS_KU_DUE_D2H c) true else s
    if counterStop ≤ v then setFlag s (F.CV_SEC_STATUS_STOP_D2H c) true else s
  else
    let s := setCtr s (C.CV_SEC_H2D c) v
    let s := if 2 ^ 31 ≤ v then setFlag s (F.CV_SEC_STATUS_KU_DUE_H2D c) true else s
    if counterStop ≤ v then setFlag s (F.CV_SEC_STATUS_STOP_H2D c) true else s

/-- Why a chunk is refused (R319). -/
inductive ChunkBad where
  | auth | replay
deriving DecidableEq, Repr

/-- Open a host-to-device chunk and accept its counter, or say why not; a refusal is counted (R317, R319). Log entry 41 (DESIGN CHOICE). -/
def acceptChunk (s : State) (x : Session) (c addr kind : Nat) (ct : List Byte) (entry : BitVec 256) :
    Except ChunkBad (List Byte) × State :=
  match openChunk x c addr kind ct entry with
  | none => (.error .auth, incCtr s (C.CV_SEC_AUTHF c))
  | some (counter, pt) =>
    if counter ≤ lastCounter s c false then (.error .replay, incCtr s (C.CV_SEC_AUTHF c))
    else (.ok pt, takeCounter s c false counter)

/-- The pieces of a write of at most `n` bytes each, in address order; the first number bounds how many are cut off. -/
def pieces (n : Nat) : Nat → Nat → List Byte → List (Nat × List Byte)
  | 0, addr, b => [(addr, b)]
  | k + 1, addr, b => if b.length ≤ n then [(addr, b)] else (addr, b.take n) :: pieces n k (addr + n) (b.drop n)

/-- Write cove data to the host under a function's identity, in writes of Max_Payload_Size; the flag says that it went well
(R304, R396). Log entry 9 (DESIGN CHOICE). -/
def hostData (s : State) (fn addr : Nat) (bytes : List Byte) : Bool × State :=
  if s.env.hostWriteFails then (false, s)
  else (true, (pieces s.env.maxPayload bytes.length addr bytes).foldl (fun s p => emit s (.hostData fn (p.1 % 2 ^ 64) p.2)) s)

/-- Seal a chunk and write its ciphertext and then its tag entry (R317); the flag says that the host took them. Log entry 41 (DESIGN CHOICE). -/
def sendChunk (s : State) (x : Session) (fn c addr kind host tag : Nat) (data : List Byte) : Bool × State :=
  let counter := lastCounter s c true + 1
  let (ct, e) := sealChunk x c addr kind counter data
  let s := takeCounter s c true counter
  match hostData s fn host ct with
  | (true, s) => hostData s fn tag e
  | r => r

/-! ### Bounce copies, R316–R319 -/

/-- The requester's staged copy of CV_BX_ fields, or nothing when a reserved bit or a length is wrong (CV_BX_). -/
def stagedCopy (s : State) (c : Nat) : Option BxCopy :=
  let dva := fld64 s (F.CV_BX_DVA_LO c) (F.CV_BX_DVA_HI c)
  let host := fld64 s (F.CV_BX_HOST_LO c) (F.CV_BX_HOST_HI c)
  let tag := fld64 s (F.CV_BX_TAG_LO c) (F.CV_BX_TAG_HI c)
  let len := fld s (F.CV_BX_LEN c)
  let ev := (fld s (F.CV_BX_EVENT c), fld64 s (F.CV_BX_VAL_LO c) (F.CV_BX_VAL_HI c))
  if dva % 64 = 0 ∧ dva < 2 ^ 48 ∧ host % 64 = 0 ∧ tag % 32 = 0 ∧ len % 64 = 0 ∧ 64 ≤ len ∧ len ≤ 2 ^ 30 then
    some ⟨c, fld s (F.CV_BX_CTX c), dva, host, tag, len, flag s (F.CV_BX_DIR c),
      if flag s (F.CV_BX_NOEV c) then none else some ev, 0, none, false⟩
  else none

/-- Accept a staged copy, or refuse it: no session, 16 queued, or a malformed request (R317, R319). -/
def bxGo (s : State) (c : Nat) : State :=
  if !sessionUp s c then setFlag (setFld s (F.CV_BX_STATUS_CODE c) 3) (F.CV_BX_STATUS_ERR c) true
  else if 16 ≤ (copiesOf s c).length then setFlag s (F.CV_BX_STATUS_FULL c) true
  else match stagedCopy s c with
    | some x => assignCopies (showCopies (setCopies (unclean s c) (s.sc.copies ++ [x])) c)
    | none => s

/-- CV_BX_GO (R317, R319). -/
def execCvBxGo (q : Requester) (c : CoveId) (s : State) : Ans := atWindow s q c (winBase c + 0x104C) (bxGo s c)

/-- The copy a bounce engine runs. -/
def copyOn (s : State) (b : Nat) : Option BxCopy := s.sc.copies.find? (fun x => x.engine == some b)

/-- Bytes of a copy's next chunk (R316). -/
def BxCopy.chunk (x : BxCopy) : Nat := min 4096 (x.len - 4096 * x.next)

/-- DVA of a copy's next chunk. -/
def BxCopy.at (x : BxCopy) : Nat := x.dva + 4096 * x.next

/-- A copy ends with a status code: the status, the record unless DONE, the event, and the next copies start (R317, R319). -/
def endCopy (s : State) (b : Nat) (x : BxCopy) (code : Nat) : State :=
  let s := setFld (setCopies s (s.sc.copies.filter (fun y => y.engine != some b))) (F.CV_BX_STATUS_CODE x.cove) code
  let s := showCopies s x.cove
  let s := { s with xl := { s.xl with xfers := s.xl.xfers.filter (fun e => e.2.src != bxUnit b) } }
  let s := if code = 0 then s
    else report (setFlag s (F.CV_BX_STATUS_ERR x.cove) true) x.cove ⟨0, false, false, 3, 1, 0x38, x.at, 0, bxUnit b, 7, code⟩
  let s := match x.event with | some (e, v) => signalEvent s x.cove e v 3 | none => s
  assignCopies s

/-- A chunk has moved: the next one follows, or the copy is DONE (R317, R319). -/
def nextChunk (s : State) (b : Nat) (x : BxCopy) : State :=
  let y := { x with next := x.next + 1 }
  if y.len ≤ 4096 * y.next then endCopy s b x 0
  else setCopies s (s.sc.copies.map (fun z => if z.engine = some b then y else z))

/-- The reads of a host-to-device chunk and its tag entry on the host bus, under the function of the cove (R304, R317).
Log entry 41 (DESIGN CHOICE). -/
def chunkReads (s : State) (x : BxCopy) : State :=
  if x.toHost then s
  else emit (emit s (.hostRead (x.cove + 1) ((x.host + 4096 * x.next) % 2 ^ 64) x.chunk))
    (.hostRead (x.cove + 1) ((x.tag + 32 * x.next) % 2 ^ 64) 32)

/-- Move one chunk of a copy through the engine's TLB (R317–R319). Log entry 41 (DESIGN CHOICE). -/
def moveChunk (b : Nat) (x : BxCopy) (k : Session) (data : List Byte) (entry : BitVec 256) : Work State := do
  let w : Who := ⟨x.cove, bxUnit b, 192 + b, x.ctx, false, none⟩
  let s ← getSt
  if x.toHost then do
    let r ← readWork w x.at x.chunk
    let s ← getSt
    match r with
    | none => pure (endCopy s b x 6)
    | some bytes =>
      let (ok, s) := sendChunk s k (x.cove + 1) x.cove x.at 0 (x.host + 4096 * x.next) (x.tag + 32 * x.next) bytes
      pure (if ok then nextChunk s b x else endCopy s b x 5)
  else
    match acceptChunk (chunkReads s x) k x.cove x.at 0 (data.take x.chunk) entry with
    | (.error .auth, s) => pure (endCopy s b x 1)
    | (.error .replay, s) => pure (endCopy s b x 2)
    | (.ok pt, s) => do
      putSt s
      let ok ← writeWork w x.at pt
      let s ← getSt
      pure (if ok then nextChunk s b x else endCopy s b x 6)

/-- Whether a transfer of a bounce engine was completed by the kill of its context (R152). Log entry 41 (DESIGN CHOICE). -/
def bxKilled (s : State) (b : Nat) : Bool :=
  s.xl.xfers.any (fun e => e.2.eng && e.2.src == bxUnit b && e.2.stage == .done (.error .killed))

/-- What a bounce engine does at a chunk of its copy (R306 step 6, R317–R319). Log entry 41 (DESIGN CHOICE). -/
def bounceChunk (s : State) (b : Nat) (x : BxCopy) (data : List Byte) (entry : BitVec 256) (hostErr : Bool) : State :=
  if bxKilled s b then endCopy s b x 7
  else if quiescing s x.cove && quiesceAbort s x.cove then endCopy s b x 8
  else if !coveActive s x.cove then s
  else match sessionOf s x.cove with
    | none => endCopy s b x 3
    | some k =>
      if x.orphan || !k.up then endCopy s b x 3
      else if counterStop ≤ lastCounter s x.cove x.toHost then endCopy s b x 4
      else if hostErr then endCopy (chunkReads s x) b x 5
      else runWork s (moveChunk b x k data entry)

/-- BOUNCE_CHUNK: with the ciphertext and the tag entry that the host bus returned for a host-to-device chunk (R317–R319). -/
def execBounceChunk (b : Fin 4) (data : List Byte) (entry : BitVec 256) (hostErr : Bool) (s : State) : Ans :=
  match copyOn s b with
  | none => .next s
  | some x =>
    if !x.toHost && !hostErr && data.length != x.chunk then .next s
    else atDomain s (88 + b) (bounceChunk s b x data entry hostErr)

/-- BOUNCE_HOST_TIMEOUT (R319). -/
def execBounceHostTimeout (b : Fin 4) (s : State) : Ans :=
  match copyOn s b with
  | none => .next s
  | some x => atDomain s (88 + b) (endCopy s b x 5)

/-! ### Firmware commit and the TRNG, R325, R327 -/

/-- A write of an SVN to FAB_FW_COMMIT (R325). Log entry 43 (DESIGN CHOICE). -/
def fwCommit (s : State) (v : Nat) : State :=
  if fld s F.FAB_SEC_STATUS_RUN_SVN < v || 256 ≤ v || isScrapped s then setFlag s F.FAB_SEC_STATUS_COMMIT_ERR true
  else if v ≤ fld s F.FAB_SEC_STATUS_FUSED_SVN then s
  else setFlag { s with sc := { s.sc with commit := some (max v (s.sc.commit.getD 0)) } } F.FAB_SEC_STATUS_COMMIT_BUSY true

/-- FAB_FW_COMMIT (R325). -/
def execFabFwCommit (q : Requester) (v : Word) (s : State) : Ans := atFabric s q (fwCommit s (bits v.toNat 0 9))

/-- FW_COMMIT_DONE (R325). Log entry 43 (DESIGN CHOICE). -/
def execFwCommitDone (s : State) : Ans :=
  match s.sc.commit with
  | none => .next s
  | some v =>
    .next (setFlag (setFld { s with sc := { s.sc with commit := none } } F.FAB_SEC_STATUS_FUSED_SVN v)
      F.FAB_SEC_STATUS_COMMIT_BUSY false)

/-- TRNG_HEALTH_CHANGE: a health test starts or stops failing (R327, R353). -/
def execTrngHealthChange (failing : Bool) (s : State) : Ans :=
  if failing == flag s F.FAB_SEC_STATUS_TRNG_FAIL then .next s
  else
    let s1 := if failing then lbAdd s 20 1 else s
    atDomain s 94 (setFlag s1 F.FAB_SEC_STATUS_TRNG_FAIL failing)

end Sys2Proof.Machine
end

