-- ==== Sys2Proof/Machine/Clocks.lean ====
section
/-!
DEFINITION. The clock monitor, the switching of domains, the transitions of islands, throttling and power telemetry
(R329–R346).
-/
namespace Sys2Proof.Machine

/-! ### The clock monitor, R336 -/

/-- The keys of the muxes: the 100 domains, and `128 + k` for the tidepool clock of D(80+k). -/
def allDoms : List Nat := List.range 100 ++ (List.range 8).map (128 + ·)
/-- The domain of a mux. -/
def muxDom (d : Nat) : Nat := if 128 ≤ d then d - 48 else d

/-- The SRC code of a monitored source: 0 XA, 1 XB, 2 FIO, 3 SIO, 4–9 the loops (R42, R336). -/
def monSrc (k : Nat) : Nat := if k = 0 then 8 else if k = 1 then 9 else if k = 2 then 6 else if k = 3 then 7 else k - 4

/-- Whether a loop slews (R336, R342). -/
def slewing (s : State) (p : Nat) : Bool := thas s.ck.goal p

/-- Units that a forced switch of a domain resets (R338). -/
def domUnits (d : Nat) : List Nat :=
  if 32 ≤ d && d < 64 then [0x1000 + 2 * (d - 32), 0x1000 + 2 * (d - 32) + 1, 0x2000 + (d - 32)]
  else if 64 ≤ d && d < 80 then (List.range 8).map (fun i => 8 * (d - 64) + i)
  else if 88 ≤ d && d < 92 then [bxUnit (d - 88)] else []

/-- A unit is reset without draining: its tile ends ERROR, its transfers complete with error status, a bounce copy ends
HOSTERR, a port is cleared, and its other tiles are placed again (R262, R338). Log entry 44 (DESIGN CHOICE). -/
def forceUnit (s : State) (u : Nat) : State :=
  let s := resetTile s u (fun s => chargeOpen s u)
  let s := match (if u / 4096 = 7 then copyOn s (u % 4096) else none) with
    | some x => endCopy s (u % 4096) x 5
    | none => s
  let s := { s with xl := { s.xl with xfers := s.xl.xfers.map (fun e =>
    (e.1, if e.2.src == u then { e.2 with stage := .done (.error .unitReset) } else e.2)) } }
  match unitOwner s u with
  | some c => remapUnit s c u
  | none => s

/-- The internal halt of a lost clock (R338, R367). -/
def clockHalt (s : State) (d : Nat) : State :=
  let s := setFlag (setFlag s F.BC_NMI_HALT true) F.SL_STATUS_HALT true
  if d < 32 then { s with ck := { s.ck with lost := if s.ck.lost.contains d then s.ck.lost else s.ck.lost ++ [d] } } else s

/-- What scans and dumps of a freeze have held is gone (R364). Log entry 50 (DESIGN CHOICE). -/
def dropScans (s : State) : State := { s with lc := { s.lc with flops := [], ctlFlops := [], bufs := [] } }

/-- The state of the debug unit is lost: the instruction in force and what a scan has held (R338, R363, R364). Log entry 44 (DESIGN CHOICE). -/
def loseDebug (s : State) : State := dropScans { s with lc := { s.lc with ir := 2, bsr := [] } }

/-- The telemetry of the sensor units is lost: the readings are as at reset until the next samples (R338, R345–R347).
Log entry 44 (DESIGN CHOICE). -/
def loseTelemetry (s : State) : State :=
  let s := (List.range 6).foldl (fun s i =>
    let s := setFld (setFld s (F.VS_ISL_TEMP_TJ i) 0) (F.VS_ISL_PWR_WATTS i) 0
    setFld (setFlag s (F.VS_ISL_THROT_NOW i) false) (F.VS_ISL_THROT_INTERVALS i) 0) s
  { s with ck := { s.ck with ratios := [] } }

/-- What a forced switch does to the units of a domain (R338). -/
def forceOutcome (s : State) (d : Nat) : State :=
  if 32 ≤ d && d < 80 || 88 ≤ d && d < 92 then (domUnits d).foldl forceUnit s
  else if d = 95 then loseDebug s
  else if d = 96 then s
  else if 97 ≤ d then loseTelemetry s
  else clockHalt s d

/-- Every tap of a domain misses edges and resynchronises (R89, R338). -/
def missDomain (s : State) (d : Nat) : State :=
  (List.range 292).foldl (fun s t => if tapDomain t = d && (tapOf s t).src ≤ 16 then missEdge s t else s) s

/-- Move a mux to FIO, or to SIO once FIO has failed, through reset; during the waves of a freeze its domain counts as stopped
(R338, R371). Log entry 44 (DESIGN CHOICE). -/
def forceDom (s : State) (m : Nat) : State :=
  let d := muxDom m
  let x := domNow s m
  let src := if flag s F.CK_STATUS_FIO_OK then 6 else 7
  let s := setDom s m { x with src := src, forced := true, next := none }
  let f := F.CK_FORCED_FORCED (d / 32)
  let s := lbAdd (setFld s f (setBit (fld s f) (d % 32) true)) 3 1
  let s := if flag s F.SL_STATUS_STOPPING then { s with lc := { s.lc with stopped := tput s.lc.stopped d true } } else s
  forceOutcome (missDomain s d) d

/-- Every tide master holds its count (R73). -/
def holdTides (s : State) : State :=
  let ms := s.tide.masters.map (fun e => (e.1, { e.2 with held := true }))
  setFlag { s with tide := { s.tide with masters := ms } } F.TD_STATUS_XA_LOST true

/-- A source is no longer running. -/
def srcDown (s : State) (k : Nat) : State :=
  if k = 0 then setFlag (setFlag s F.CK_STATUS_XA_OK false) F.CK_FAIL_XA true
  else if k = 1 then setFlag (setFlag s F.CK_STATUS_XB_OK false) F.CK_FAIL_XB true
  else if k = 2 then setFlag (setFlag s F.CK_STATUS_FIO_OK false) F.CK_FAIL_FIO true
  else if k = 3 then setFlag (setFlag s F.CK_STATUS_SIO_OK false) F.CK_FAIL_SIO true
  else
    let s := setFld s F.CK_STATUS_LOCK (setBit (fld s F.CK_STATUS_LOCK) (k - 4) false)
    let s := { s with ck := { s.ck with goal := tdel s.ck.goal (k - 4), failed := (k - 4) :: s.ck.failed } }
    setFld s F.CK_FAIL_LOOP (setBit (fld s F.CK_FAIL_LOOP) (k - 4) true)

/-- One source is declared failed, with what follows but for the loops it feeds (R73, R336). Log entry 44 (DESIGN CHOICE). -/
def failOne (s : State) (k : Nat) : State :=
  let s := lbAdd (incCtr (srcDown s k) C.CK_FAIL_CNT) 4 1
  let s := { s with ck := { s.ck with badGates := tdel s.ck.badGates k } }
  let s := raiseSrc (setFlag s F.BC_NMI_CLOCK true) 519
  let s := if k = 0 then holdTides s else s
  let hit := allDoms.filter (fun m => (domNow s m).src == monSrc k)
  hit.foldl forceDom s

/-- A source fails, and with it every enabled loop, locked or not, that takes its reference from it (R336). -/
def failSource (s : State) (k : Nat) : State :=
  let loops := (List.range 6).filter (fun p => k < 3 && (fld s F.CK_STATUS_EN).testBit p && !s.ck.failed.contains p && (loopPlan s p).ref == k)
  loops.foldl (fun s p => failOne s (4 + p)) (failOne s k)

/-- Whether the monitor counts a source: it runs, a loop does not slew, and an XB that the chart does not use is not counted
(R336). -/
def counted (s : State) (k : Nat) : Bool :=
  srcRuns s (monSrc k) && !(k == 1 && s.plan.xbKhz == 0) && !(4 ≤ k && slewing s (k - 4))

/-- CLOCK_MONITOR_GATE: a gate of a source ends inside its window or not (R336). -/
def execClockMonitorGate (src : Fin 10) (inside : Bool) (s : State) : Ans :=
  let k := src.val
  if s.lc.inReset || !counted s k then .next s
  else if 4 ≤ k && thas s.ck.grace (k - 4) then .next { s with ck := { s.ck with grace := tdel s.ck.grace (k - 4) } }
  else if inside then .next { s with ck := { s.ck with badGates := tdel s.ck.badGates k } }
  else if 1 ≤ tgetD s.ck.badGates k 0 then .next (failSource s k)
  else .next { s with ck := { s.ck with badGates := tput s.ck.badGates k 1 } }

/-- LOOP_LOCK_LOSS (R336). -/
def execLoopLockLoss (p : Fin 6) (s : State) : Ans :=
  if (fld s F.CK_STATUS_LOCK).testBit p then .next (failSource s (4 + p)) else .next s

/-- LOOP_LOCKED: an enabled loop that has not failed has held lock for 10 µs (R330, R336). -/
def execLoopLocked (p : Fin 6) (s : State) : Ans :=
  let l := loopPlan s p
  if !(fld s F.CK_STATUS_EN).testBit p || (fld s F.CK_STATUS_LOCK).testBit p || s.ck.failed.contains p.val || !srcRuns s (if l.ref = 0 then 8 else if l.ref = 1 then 9 else 6)
  then .next s
  else .next (setFld (setFld s F.CK_STATUS_LOCK (setBit (fld s F.CK_STATUS_LOCK) p true)) (F.CK_LOOP_MULT p) l.mult)

/-! ### Normal switches, R337 -/

/-- The key of the mux a command names. -/
def muxOf (d : DomainId) (tidepool : Bool) : Nat := if tidepool && 80 ≤ d.val && d.val < 88 then d.val + 48 else d.val

/-- MUX_SWITCH_DONE: a normal switch between two running clocks completes (R337). -/
def execMuxSwitchDone (d : DomainId) (tidepool : Bool) (s : State) : Ans :=
  let m := muxOf d tidepool
  let x := domNow s m
  match x.next with
  | some (src, div) => if srcRuns s x.src && srcRuns s src then .next (setDom s m ⟨src, div, false, none⟩) else .next s
  | none => .next s

/-- MUX_SWITCH_TIMEOUT: an incomplete switch is a failure of the old source, whose domains take the forced path (R336, R337).
Log entry 44 (DESIGN CHOICE). -/
def execMuxSwitchTimeout (d : DomainId) (tidepool : Bool) (s : State) : Ans :=
  let m := muxOf d tidepool
  let x := domNow s m
  if x.next.isNone then .next s
  else
    let k := if x.src < 6 then 4 + x.src else if x.src = 6 then 2 else if x.src = 7 then 3 else x.src - 8
    .next (failSource s k)

/-! ### Transitions, R343, R344 -/

/-- Clock taps of an island, those of its tidepool clocks among them (R42, R74, R343). -/
def islandTaps (i : Nat) : List Nat := ((islandDoms i).map (fun m => clockTap (muxDom m))).dedup

/-- Arm the frequency change of an island on the management tide (R343). -/
def armFreq (s : State) (i : Nat) (up : Bool) : State :=
  armEntry (setIsl s i { islOf s i with ph := .frequency up }) ⟨16, .dvfs i, 0, islandTaps i⟩

/-- Write a voltage to an island's rail (R343). -/
def writeMv (s : State) (i mv : Nat) : State := emit (setFld s (F.VS_ISL_STATE_MV i) mv) (.avsWrite (Config.avsRail i) mv)

/-- Whether a transition to point `b` raises: from a point of an old plan, by the voltages (R343, R350). Log entry 24 (DESIGN CHOICE). -/
def raises (s : State) (i b : Nat) : Bool :=
  if (islOf s i).stale then decide (fld s (F.VS_ISL_STATE_MV i) < opMv s i b) else decide (fld s (F.VS_ISL_STATE_OP i) < b)

/-- An island as its transition to point `b` begins: the settings of both points are fixed (R343, R350). -/
def Isl.begun (x : Isl) (s : State) (i b : Nat) : Isl :=
  { x with dest := b, mv := opMv s i b, tries := 0, fmax := fmaxMhz s i b, stale := false,
           held := if x.stale then x.fmax else fmaxMhz s i (fld s (F.VS_ISL_STATE_OP i)) }

/-- Start a transition to the target (R343). Log entry 24 (DESIGN CHOICE). -/
def startTransition (s : State) (i b : Nat) : State :=
  let up := raises s i b
  let s := lbAdd (incCtr (setFlag s (F.VS_ISL_STATE_BUSY i) true) C.VS_TRANS) 5 1
  let x := (islOf s i).begun s i b
  if up then writeMv (setIsl s i { x with ph := .raising }) i x.mv
  else if i = 2 || i = 3 then
    let s := recompute (setIsl s i { x with ph := .budgets })
    if budgetsDue s then s else armFreq s i false
  else armFreq (setIsl s i x) i false

/-- ISLAND_TRANSITION_START: also the point at which a lowering of a stack island finds its budgets installed (R288, R343). -/
def execIslandTransitionStart (isl : IslandId) (s : State) : Ans :=
  let i := isl.val
  let b := fld s (F.VS_ISL_STATE_TARGET i)
  match (islOf s i).ph with
  | .idle =>
    if flag s (F.VS_ISL_STATE_BOOT i) || (b == fld s (F.VS_ISL_STATE_OP i) && !(islOf s i).stale) then .next s else atDomain s 94 (startTransition s i b)
  | .budgets => if budgetsDue s then .next s else atDomain s 94 (armFreq s i false)
  | _ => .next s

/-- A stack enters self-refresh for a frequency change; its requests wait in the controller (R343). -/
def stackRests (s : State) (n : Nat) : State :=
  if flag s (F.SC_STATUS_TRAINED n) && !s.ck.changing.contains n then
    setFlag { s with ck := { s.ck with changing := n :: s.ck.changing } } (F.SC_STATUS_SELF_REFRESH n) true
  else s

/-- A stack's DFI changes to the set point its domain runs at, and the stack leaves self-refresh, unless slack holds it there
(R343, R368, R398). -/
def stackWakes (s : State) (n : Nat) : State :=
  if s.ck.changing.contains n then
    let khz := (domKhz s n).floor.toNat
    let s := { s with ck := { s.ck with changing := s.ck.changing.filter (· != n), dfi := tput s.ck.dfi n khz } }
    emit (setFlag s (F.SC_STATUS_SELF_REFRESH n) (s.lc.sr.contains n)) (.dfiFreq n khz)
  else s

/-- The stack whose clock a tap sets (R74, R330). -/
def tapStack (t : Nat) : Option Nat := if 192 ≤ t && t < 224 then some (t - 192) else none

/-- The island's loop is to run at a MULT (R342). -/
def slewTo (s : State) (i m : Nat) : State :=
  if (fld s F.CK_STATUS_LOCK).testBit i && m != fld s (F.CK_LOOP_MULT i) then { s with ck := { s.ck with goal := tput s.ck.goal i m } } else s

/-- The launch of a frequency change at a clock tap: its dividers change, a forced domain's too, its stack enters self-refresh,
and the island's loop starts its slew (R342, R343, R350). -/
def launchFreq (s : State) (i t : Nat) : State :=
  let f : ℚ := ((islOf s i).fmax * 1000 : Nat)
  let mine := (islandDoms i).filter (fun m => clockTap (muxDom m) == t)
  let s := mine.foldl (fun s m => setDom s m { domNow s m with div := divAt s i f m }) s
  let s := match tapStack t with | some n => stackRests s n | none => s
  slewTo s i (multAt s i f)

/-- LOOP_SLEW_STEP; in slack a loop holds where it is (R342, R350). -/
def execLoopSlewStep (p : Fin 6) (s : State) : Ans :=
  match (if slackOn s then none else tfind s.ck.goal p) with
  | none => .next s
  | some g =>
    let m := fld s (F.CK_LOOP_MULT p)
    let m' := if m < g then m + 1 else m - 1
    let s1 := setFld s (F.CK_LOOP_MULT p) m'
    .next (if m' = g then { s1 with ck := { s1.ck with goal := tdel s1.ck.goal p, grace := tput s1.ck.grace p true } } else s1)

/-- Apply the new ADD_MV at the present point of an island that makes no transition and whose point survives: the voltage is
raised, never lowered (R349). Log entry 46 (DEDUCED). -/
def addMv (s : State) (i : Nat) : State :=
  let k := fld s (F.VS_ISL_STATE_OP i)
  let mv := opMv s i k
  if flag s (F.VS_ISL_STATE_BOOT i) || (islOf s i).ph != .idle || (islOf s i).stale || (fld s (F.FB_ISL_ADJ_REMOVED i)).testBit k
      || mv ≤ fld s (F.VS_ISL_STATE_MV i) then s
  else writeMv s i mv

/-- The end of a transition at its point, with an ADD_MV that has grown meanwhile (R343, R349). Log entry 45 (DESIGN CHOICE). -/
def endTransition (s : State) (i : Nat) : State :=
  let x := islOf s i
  let s := setIsl s i { x with ph := .idle, tries := 0 }
  addMv (setFlag (setFld s (F.VS_ISL_STATE_OP i) x.dest) (F.VS_ISL_STATE_BUSY i) false) i

/-- The outcome of a frequency change: a raise ends, a lowering writes its voltage, a missed tap is armed again (R90, R343). -/
def freqOutcome (s : State) (i : Nat) (up : Bool) (r : SlateEnd) : State :=
  match r with
  | .done =>
    if up then recompute (endTransition s i)
    else writeMv (setIsl s i { islOf s i with ph := .lowering, tries := 0 }) i (islOf s i).mv
  | .partially taps => armEntry s ⟨16, .dvfs i, 0, taps⟩
  | .cancelled => armEntry s ⟨16, .dvfs i, 0, islandTaps i⟩

/-- FREQ_CHANGE_DONE (R90, R343). -/
def execFreqChangeDone (isl : IslandId) (s : State) : Ans :=
  let i := isl.val
  match (islOf s i).ph, takeReport s (fun a => a == .dvfs i) with
  | .frequency up, some (r, s1) => atDomain s 94 (freqOutcome s1 i up r.outcome)
  | _, _ => .next s

/-- The third failed readback of a transition (R344). -/
def avsFail (s : State) (i : Nat) (up : Bool) : State :=
  raiseSrc (setFlag (lbAdd (setIsl s i { islOf s i with ph := .failed up }) 19 1) F.VS_STATUS_AVS_ERR true) 520

/-- Settling has ended and the rail reads `mv` back (R344). Log entry 24 (DESIGN CHOICE). -/
def settled (s : State) (i : Nat) (up : Bool) (mv : Nat) : State :=
  let x := islOf s i
  if x.mv ≤ mv + 10 ∧ mv ≤ x.mv + 10 then (if up then armFreq s i true else endTransition s i)
  else if 2 ≤ x.tries then avsFail s i up
  else writeMv (setIsl s i { x with tries := x.tries + 1 }) i x.mv

/-- VOLTAGE_SETTLED (R344). -/
def execVoltageSettled (isl : IslandId) (readback : Nat) (s : State) : Ans :=
  match (islOf s isl).ph with
  | .raising => atDomain s 94 (settled s isl true readback)
  | .lowering => atDomain s 94 (settled s isl false readback)
  | _ => .next s

/-- An island that stands after a failed rail tries again (R344). -/
def retryIsl (s : State) (i : Nat) : State :=
  let x := islOf s i
  match x.ph with
  | .failed up => writeMv (setIsl s i { x with ph := if up then .raising else .lowering, tries := 0 }) i x.mv
  | _ => s

/-- VS_AVS_RETRY: a write of 1 to AVS_ERR (R344). -/
def execVsAvsRetry (q : Requester) (s : State) : Ans :=
  atFabric s q ((List.range 6).foldl retryIsl (setFlag s F.VS_STATUS_AVS_ERR false))

/-! ### Requests and caps, R341 -/

/-- VS_COVE_REQ (R341). -/
def execVsCoveReq (q : Requester) (isl : IslandId) (c : CoveId) (v : Word) (s : State) : Ans :=
  let s1 := setFld (setFld s (F.VS_COVE_REQ_OP isl c) (bits v.toNat 0 3)) (F.VS_COVE_REQ_VALID isl c) (bits v.toNat 3 1)
  atFabric s q (retarget s1 isl)

/-- VS_ISL_REQ (R341). -/
def execVsIslReq (q : Requester) (isl : IslandId) (v : Word) (s : State) : Ans :=
  let s1 := setFld (setFld s (F.VS_ISL_REQ_OP isl) (bits v.toNat 0 3)) (F.VS_ISL_REQ_EN isl) (bits v.toNat 3 1)
  atFabric s q (retarget s1 isl)

/-- VS_ISL_CAP (R341). -/
def execVsIslCap (q : Requester) (isl : IslandId) (v : Word) (s : State) : Ans :=
  atFabric s q (retarget (setFld s (F.VS_ISL_CAP_CAP isl) (bits v.toNat 0 3)) isl)

/-! ### Throttling and telemetry, R345, R346 -/

/-- The hottest of an island's four sensors. -/
def hottest (temps : List Byte) (i : Nat) : Nat := (((temps.drop (4 * i)).take 4).map BitVec.toNat).foldl max 0

/-- TJ_SAMPLE: the sensors of every island, four each, in °C (R345, R353). Log entry 8 (DESIGN CHOICE). -/
def execTjSample (temps : List Byte) (s : State) : Ans :=
  let s1 := (List.range 6).foldl (fun s i => setFld s (F.VS_ISL_TEMP_TJ i) (hottest temps i)) s
  let top := (temps.map BitVec.toNat).foldl max 0
  atDomain s 97 (setCtr s1 (lbCtr 22) (max (ctr s1 (lbCtr 22)) top))

/-- A point lower, or a point higher, of a thermal ceiling; at the top it is no ceiling (R345). Log entry 45 (DESIGN CHOICE). -/
def stepThermal (s : State) (i : Nat) (down : Bool) : State :=
  let x := islOf s i
  let now := min x.thermal (topOp s i)
  let t := if down then now - 1 else if topOp s i ≤ now + 1 then 7 else now + 1
  retarget (setIsl s i { x with thermal := t }) i

/-- THERMAL_CEILING_STEP: a millisecond at or above the limit, or ten below it by more than 5 °C (R345). -/
def execThermalCeilingStep (isl : IslandId) (s : State) : Ans :=
  let i := isl.val
  let tj := fld s (F.VS_ISL_TEMP_TJ i)
  let lim := fld s F.VS_TJ_LIMIT
  if lim ≤ tj then atDomain s 94 (stepThermal s i true)
  else if tj + 5 < lim && (islOf s i).thermal != 7 then atDomain s 94 (stepThermal s i false)
  else .next s

/-- Whether an island's thermal ceiling lies below its top point (VS_ISL_THROT.NOW). -/
def throttled (s : State) (i : Nat) : Bool := decide ((islOf s i).thermal < topOp s i)

/-- THROTTLE_SAMPLE: the throttle state of every 10 ms interval (R346, R353). -/
def execThrottleSample (s : State) : Ans :=
  let s1 := (List.range 6).foldl (fun s i =>
    let n := fld s (F.VS_ISL_THROT_INTERVALS i)
    let s := setFlag s (F.VS_ISL_THROT_NOW i) (throttled s i)
    if throttled s i then setFld s (F.VS_ISL_THROT_INTERVALS i) (min (n + 1) 65535) else s) s
  atDomain s 94 (if (List.range 6).any (throttled s) then lbAdd s1 21 1 else s1)

/-- Read every island's power; a failed read leaves its figure and sets PMB_ERR (R346, VS_STATUS). Log entry 45 (DESIGN CHOICE). -/
def readPower (s : State) (watts : List (Option Nat)) : State :=
  (List.range 6).foldl (fun s i =>
    let s := emit s (.pmbRead (Config.pmbAddr i))
    match (watts[i]?).getD none with
    | some w => setFld s (F.VS_ISL_PWR_WATTS i) (w / 5 * 5)
    | none => setFlag s F.VS_STATUS_PMB_ERR true) s

/-- POWER_READ (R346). Log entry 8 (DESIGN CHOICE). -/
def execPowerRead (watts : List (Option Nat)) (s : State) : Ans := atDomain s 94 (readPower s watts)
/-- PMB_ALERT (R346, R373). -/
def execPmbAlert (watts : List (Option Nat)) (s : State) : Ans := atDomain s 94 (readPower s watts)

end Sys2Proof.Machine
end

