-- ==== Sys2Proof/Machine/Logbook.lean ====
section
/-!
DEFINITION. Scarp sensors, freeboard and the logbook (R347–R356).
-/
namespace Sys2Proof.Machine

/-! ### The logbook, R351–R354 -/

/-- Sectors of the logbook (R351). -/
def lbSectors : Nat := 6144
/-- Flash offset of a sector (R351). -/
def sectorAt (n : Nat) : Nat := 0x800000 + 4096 * n

/-- A sector; erased and never erased before when not listed. -/
def sectorOf (s : State) (n : Nat) : Sector := tgetD s.lb.sectors n ⟨0, 0xFF, false⟩
/-- The state with a sector set. -/
def setSector (s : State) (n : Nat) (x : Sector) : State := { s with lb := { s.lb with sectors := tput s.lb.sectors n x } }

/-- Present powered seconds. Log entry 46 (DEDUCED). -/
def poweredS (s : State) : Nat := ctr s C.LB_POWERED

/-- The 256 bytes of an entry of a kind, with its MAGIC (R353). -/
def entryBytes (s : State) (kind : Nat) : List Byte :=
  let utc := flag s F.LB_STATUS_UTC_VALID
  let head := toBytes 2 1 ++ toBytes 1 kind ++ toBytes 1 (b2n utc + 2 * b2n s.lb.seen) ++ toBytes 4 (fld s F.LB_SEQ_SEQ + 1)
  let body := toBytes 8 (poweredS s) ++ toBytes 8 (if utc then s.lb.utc else 0) ++ toBytes 8 s.lb.replanS ++ toBytes 8 (tideCount s 16)
    ++ (List.range 26).flatMap (fun i => toBytes 8 (ctr s (lbCtr i)))
  toBytes 4 0x424C5350 ++ head ++ toBytes 4 (crc32 (head ++ body)) ++ body

/-- Whether a sector is retired (R352). -/
def isRetired (s : State) (n : Nat) : Bool := (sectorOf s n).state == 0

/-- The next sector in ascending order, wrapping, that is not retired (R354). -/
def nextSector (s : State) (n : Nat) : Option Nat :=
  ((List.range lbSectors).map (fun i => (n + 1 + i) % lbSectors)).find? (fun m => !isRetired s m)

/-- Start to program an entry in the open sector: bytes 4–255 first and MAGIC last (R354). -/
def programEntry (s : State) (kind : Nat) : State :=
  let a := sectorAt (fld s F.LB_SECT_OPEN) + 256 * (s.lb.used + 1)
  let b := entryBytes s kind
  emit (emit { s with lb := { s.lb with op := .entry kind } } (.flashProgram (a + 4) (b.drop 4))) (.flashProgram a (b.take 4))

/-- Every sector is retired: the logbook is read-only (R352). -/
def lbWorn (s : State) : State :=
  raiseSrc (setFlag (setFlag { s with lb := { s.lb with op := .idle, queue := [] } } F.LB_STATUS_WORN true) F.LB_STATUS_BUSY false) 522

/-- Start to erase the sector that follows the open one, for an entry of a kind (R352, R354). -/
def eraseNext (s : State) (kind : Nat) : State :=
  match nextSector s (fld s F.LB_SECT_OPEN) with
  | some n => emit { s with lb := { s.lb with op := .erase n kind } } (.flashErase n)
  | none => lbWorn s

/-- Begin the oldest waiting entry when the flash is idle and the logbook is in use (R354). Log entry 47 (DESIGN CHOICE). -/
def lbStart (s : State) : State :=
  match s.lb.op, s.lb.queue with
  | .idle, k :: rest =>
    if !flag s F.LB_STATUS_OPEN || flag s F.LB_STATUS_WORN then s
    else
      let n := fld s F.LB_SECT_OPEN
      let s := setFlag { s with lb := { s.lb with queue := rest } } F.LB_STATUS_BUSY true
      if (sectorOf s n).state = 0xFE && s.lb.used < 15 then programEntry s k
      else if (sectorOf s n).state = 0xFE then
        eraseNext (emit (setSector s n { sectorOf s n with state := 0xFC }) (.flashProgram (sectorAt n + 8) [0xFC])) k
      else eraseNext s k
  | _, _ => s

/-- Ask for an entry of a kind (R354). Log entry 47 (DESIGN CHOICE). -/
def lbRequest (s : State) (kind : Nat) : State :=
  if flag s F.LB_STATUS_WORN || flag s F.LB_STATUS_UNSUIT then s
  else lbStart { s with lb := { s.lb with queue := s.lb.queue ++ [kind] } }

/-- Retire a sector; a failed write is the logbook's interrupt source (R291, R352). Log entry 47 (DESIGN CHOICE). -/
def retireSector (s : State) (n : Nat) (failed : Bool) : State :=
  let s := emit (setSector s n { sectorOf s n with state := 0 }) (.flashProgram (sectorAt n + 8) [0])
  let s := lbAdd (setFld s F.LB_SECT_RETIRED (fld s F.LB_SECT_RETIRED + 1)) 23 1
  if failed then raiseSrc (setFlag s F.LB_STATUS_WERR true) 522 else s

/-- ERASES of a sector as an erase takes it: for a header that could not be read, the largest of any sector (R352). -/
def erasesOf (s : State) (n : Nat) : Nat :=
  if (sectorOf s n).unread then (s.lb.sectors.map (·.2.erases)).foldl max 0 else (sectorOf s n).erases

/-- An erase has ended: the count and the open STATE are written, unless the sector is to be retired (R352). -/
def eraseEnd (s : State) (n kind : Nat) (ok : Bool) : State :=
  let e := erasesOf s n + 1
  let s := setSector s n ⟨e, 0xFE, false⟩
  let s := setFld s F.LB_SECT_OPEN n
  if !ok || 100000 ≤ e then eraseNext (retireSector s n (!ok)) kind
  else
    let s := emit s (.flashProgram (sectorAt n) (toBytes 4 0x534C5350 ++ toBytes 4 e ++ [0xFE]))
    programEntry { s with lb := { s.lb with used := 0 } } kind

/-- An entry has been programmed, or its sector has failed (R352–R354). -/
def entryEnd (s : State) (kind : Nat) (ok : Bool) : State :=
  if !ok then eraseNext (retireSector s (fld s F.LB_SECT_OPEN) true) kind
  else
    let s := setFld s F.LB_SEQ_SEQ (fld s F.LB_SEQ_SEQ + 1)
    let s := setFlag (setFlag s F.LB_STATUS_SAFE (kind == 1)) F.LB_STATUS_BUSY false
    lbStart { s with lb := { s.lb with op := .idle, used := s.lb.used + 1, seen := false } }

/-- LOGBOOK_WRITE_DONE: an erase or the program of an entry ends, verified or not (R352–R354). -/
def execLogbookWriteDone (ok : Bool) (s : State) : Ans :=
  match s.lb.op with
  | .idle => .next s
  | .erase n k => atDomain s 94 (eraseEnd s n k ok)
  | .entry k => atDomain s 94 (entryEnd s k ok)

/-- LOGBOOK_PERIODIC: every 900 powered seconds (R354). -/
def execLogbookPeriodic (s : State) : Ans :=
  if !flag s F.LB_STATUS_OPEN || poweredS s < s.lb.entryS + 900 then .next s
  else atDomain s 94 (lbRequest { s with lb := { s.lb with entryS := poweredS s } } 0)

/-- LB_SHUTDOWN (R354). -/
def execLbShutdown (q : Requester) (s : State) : Ans := atFabric s q (lbRequest s 1)
/-- LB_WRITE (R354). -/
def execLbWrite (q : Requester) (s : State) : Ans := atFabric s q (lbRequest s 3)

/-- LB_HOSTTIME: a write of the high word takes effect with the low word written before it (R356). Log entry 47 (DESIGN CHOICE). -/
def execLbHosttime (q : Requester) (v : Word) (s : State) : Ans :=
  let s1 := setFld s F.LB_HOSTTIME_HI_SECONDS v.toNat
  atFabric s q (setFlag { s1 with lb := { s1.lb with utc := fld s F.LB_HOSTTIME_LO_SECONDS + 2 ^ 32 * v.toNat } } F.LB_STATUS_UTC_VALID true)

/-- SECOND_TICK: a second of D96 (R356). -/
def execSecondTick (s : State) : Ans :=
  let s1 := incCtr s C.LB_POWERED
  atDomain s 96 (if flag s F.LB_STATUS_UTC_VALID then { s1 with lb := { s1.lb with utc := (s1.lb.utc + 1) % 2 ^ 64 } } else s1)

/-! ### Opening the logbook, R351, R355 -/

/-- The sector a header describes; one without a good header is full, unless its STATE reads retired (R352). Log entry 47 (DESIGN CHOICE). -/
def readSector (b : List Byte) : Sector :=
  if leAt b 0 4 = 0x534C5350 then ⟨leAt b 4 4, leAt b 8 1, false⟩ else ⟨0, if b.getD 8 0xFF = 0 then 0 else 0xFC, true⟩

/-- Whether an entry has a valid MAGIC and CRC (R355). -/
def entryValid (b : List Byte) : Bool :=
  leAt b 0 4 == 0x424C5350 && leAt b 12 4 == crc32 ((b.drop 4).take 8 ++ (b.drop 16).take 240)

/-- The valid entry with the highest SEQ: its sector, its place in it and its bytes (R355). Log entry 47 (DESIGN CHOICE). -/
def lastEntry (entries : List (Nat × Nat × List Byte)) : Option (Nat × Nat × List Byte) :=
  (entries.filter (fun e => entryValid e.2.2)).foldl (fun a e =>
    match a with
    | none => some e
    | some b => if leAt b.2.2 8 4 < leAt e.2.2 8 4 then some e else some b) none

/-- What a kept counter has gained since the last fabric reset began (R355, R356). -/
def gained (s : State) (c : Nat) : Nat := ctr s c - tgetD s.lb.base c 0

/-- A kept counter goes on from a value that an entry holds, with what it has gained since the fabric reset (R355, R356). -/
def goFrom (s : State) (c v : Nat) : State := setCtr s c (min (v + gained s c) maxCtr)

/-- Continue every counter and POWERED_S from an entry (R355). Log entry 47 (DESIGN CHOICE). -/
def restoreEntry (s : State) (sector place : Nat) (b : List Byte) : State :=
  let s := (List.range 25).foldl (fun s i =>
    let v := leAt b (48 + 8 * i) 8
    if i = 22 then setCtr s (lbCtr i) (max (ctr s (lbCtr i)) v) else goFrom s (lbCtr i) v) s
  let s := goFrom s C.LB_POWERED (leAt b 16 8)
  let s := setFld (setFld s F.LB_SEQ_SEQ (leAt b 8 4)) F.LB_SECT_OPEN sector
  { s with lb := { s.lb with used := place + 1 } }

/-- Open the logbook from what the flash holds (R355). Log entry 47 (DESIGN CHOICE). -/
def openLogbook (s : State) (headers : List (List Byte)) (entries : List (Nat × Nat × List Byte)) : State :=
  let secs := headers.zipIdx.foldl (fun t p => tput t p.2 (readSector p.1)) []
  let s := { s with lb := { s.lb with sectors := secs } }
  let s := match lastEntry entries with
    | some (n, k, b) => restoreEntry s n k b
    | none => setFld { s with lb := { s.lb with used := 15 } } F.LB_SECT_OPEN (lbSectors - 1)
  let retired := ((List.range lbSectors).filter (isRetired s)).length
  setFlag (setFld s F.LB_SECT_RETIRED retired) F.LB_STATUS_OPEN true

/-- The schedules that count powered seconds begin with what they are when start-up step 10 ends (R348, R354). -/
def setSchedules (s : State) : State :=
  let p := poweredS s
  let s := { s with lb := { s.lb with replanS := p, entryS := p }, ck := { s.ck with nextMeas := p + 900 } }
  setFld64 s F.FB_NEXT_LO_SECONDS F.FB_NEXT_HI_SECONDS (p + 604800)

/-! ### Drift and freeboard, R347–R349 -/

/-- DRIFT of a sensor in ppm (R347). Log entry 46 (DEDUCED). -/
def drift (s : State) (k : Nat) : Nat :=
  let base := (Config.sensorBase k).toNat
  let r := tgetD s.ck.ratios k 0
  min 65535 (1000000 * (base - r) / base)

/-- The worst DRIFT of an island's sensors, and the lowest-numbered sensor that gave it (R348). -/
def worstDrift (s : State) (i : Nat) : Nat × Nat :=
  (List.range 8).foldl (fun a k => if a.1 < drift s (8 * i + k) then (drift s (8 * i + k), 8 * i + k) else a) (drift s (8 * i), 8 * i)

/-- Store the ratios of a measurement (R347). -/
def storeRatios (s : State) (ratios : List Nat) : State :=
  { s with ck := { s.ck with ratios := ratios.zipIdx.foldl (fun t p => tput t p.2 (p.1 % 65536)) s.ck.ratios } }

/-- SCARP_MEASURE: every 15 powered minutes; a rise beyond FB_THRESH asks for a replan (R348). Log entries 8 (DESIGN CHOICE), 46 (DEDUCED). -/
def execScarpMeasure (ratios : List Nat) (s : State) : Ans :=
  if poweredS s < s.ck.nextMeas then .next s
  else
    let s1 := storeRatios s ratios
    let rose := (List.range 6).any (fun i => decide (fld s F.FB_THRESH_PPM + fld s (F.FB_ISL_DRIFT_PPM i) < (worstDrift s1 i).1))
    atDomain s 97 { s1 with ck := { s1.ck with nextMeas := poweredS s + 900, replan := s1.ck.replan || rose } }

/-- Ask for a replan (R348). Log entry 46 (DEDUCED). -/
def askReplan (s : State) : State := { s with ck := { s.ck with replan := true } }

/-- REPLAN_PERIODIC: every 168 powered hours (R348). -/
def execReplanPeriodic (s : State) : Ans :=
  if poweredS s < fld64 s F.FB_NEXT_LO_SECONDS F.FB_NEXT_HI_SECONDS then .next s else atDomain s 94 (askReplan s)

/-- FB_REPLAN (R348). -/
def execFbReplan (q : Requester) (s : State) : Ans := atFabric s q (askReplan s)

/-- The margin of an island: drift, ADD_MV, removals and ceiling (R348). -/
def replanIsl (s : State) (i : Nat) : State :=
  let (d, k) := worstDrift s i
  let add := max (fld s (F.FB_ISL_ADJ_ADD_MV i)) (min 255 ((d * fld s (F.FB_ISL_ADJ_KMV i) + 999) / 1000))
  let s := setFld (setFld (setFld s (F.FB_ISL_DRIFT_PPM i) d) (F.FB_ISL_DRIFT_SENSOR i) k) (F.FB_ISL_ADJ_ADD_MV i) add
  let vmax := fld s (F.VS_ISL_LIMIT_VMAX_MV i)
  let beyond (k : Nat) : Bool := match tfind s.plan.ops (i * 8 + k) with | some o => decide (vmax < o.mv + add) | none => false
  let old := fld s (F.FB_ISL_ADJ_REMOVED i)
  let gone := (List.range 8).foldl (fun m k => if k != 0 && beyond k then setBit m k true else m) old
  let s := lbAdd (setFld s (F.FB_ISL_ADJ_REMOVED i) gone) 7 (popcount 8 gone - popcount 8 old)
  let s := showCeil s i
  if beyond 0 then raiseSrc (setFlag s F.FB_STATUS_FLOOR true) 521 else s

/-- A replan of every island (R348, R349). Log entry 46 (DEDUCED). -/
def replan (s : State) : State :=
  let old := (List.range 6).map (fun i => fld s (F.FB_ISL_ADJ_CEIL i))
  let s := (List.range 6).foldl replanIsl s
  let s := if (List.range 6).map (fun i => fld s (F.FB_ISL_ADJ_CEIL i)) = old then s
    else raiseSrc (setFlag (retargetAll (recompute s)) F.FB_STATUS_CEILING true) 521
  let s := (List.range 6).foldl addMv s
  let s := startCal { s with ck := { s.ck with replan := false }, lb := { s.lb with replanS := poweredS s } }
  let s := setFld64 s F.FB_NEXT_LO_SECONDS F.FB_NEXT_HI_SECONDS (poweredS s + 604800)
  let s := setFlag (setFlag (lbAdd s 6 1) F.FB_STATUS_DONE true) F.FB_STATUS_DEFERRED false
  lbRequest s 2

/-- FREEBOARD_REPLAN: a replan that has been asked for, or that start-up makes at step 9, with the ratios it measures;
deferred while a chart is in SOUNDING or APPLYING, but not by one that is held until start-up ends (R334, R335, R348, R349). -/
def execFreeboardReplan (ratios : List Nat) (s : State) : Ans :=
  if !s.ck.replan && s.lc.boot != 9 then .next s
  else if chartBusy s && !s.plan.soundHeld then atDomain s 94 (setFlag s F.FB_STATUS_DEFERRED true)
  else
    let s1 := replan (storeRatios s ratios)
    atDomain s 94 (if s.lc.boot = 9 then { s1 with lc := { s1.lc with boot := 10 } } else s1)

end Sys2Proof.Machine
end

