-- ==== Sys2Proof/Machine/Launch.lean ====
section
/-!
DEFINITION. What an edge of a tide launches: parameters, budgets, window restarts, flips, preemptions, step starts and
frequency changes, with the acknowledgements and the resynchronisation of the taps (R70, R82–R91, R256, R257, R260, R265).
-/
namespace Sys2Proof.Machine

/-! ### What a launch does, R85 -/

/-- Parameters of a cove take effect: its regulators, its descriptor and its shares (R65). A changed guarantee shows with
them (R287). Log entry 26 (DESIGN CHOICE). -/
def applyParams (s : State) (c : Nat) : State :=
  let s := (List.range 224).foldl (fun s r =>
    let g := regulOf s r
    match g.next with
    | some p => if regOwner s r = c then setRegul s r (g.install p (p.effective (inForceK s c))) else s
    | none => s) s
  retargetAll (recompute (showRtbw (takeDesc s c) c))

/-- The vector of a step that starts: PUB of every bound slot of its cove (R195). -/
def pubVector (s : State) (c : Nat) : Tbl Nat :=
  (s.en.slots.filter (fun e => e.1 / 64 == c)).map (fun e => (e.1 % 64, e.2.pub))

/-- A step starts: its vector is fixed and its first stage becomes eligible (R195, R256, R269, R272). -/
def startStep (now : Nat) (s : State) (i : Nat) : State :=
  match stepOf s i with
  | none => s
  | some x =>
    if x.ph != .placed then s
    else
      let y := { x with ph := .running, started := true, vec := pubVector s x.cove, seq := s.sq.nextSeq, startAt := now }
      let s := { s with sq := { s.sq with nextSeq := s.sq.nextSeq + 1 } }
      let s := gaining s x.cove x.queue (fun s => settleStep (setStep s i y) i)
      let s := addCtr (incCtr s (C.SQ_CV_STARTED x.cove)) (xCtr C.SQ_CV_CTX_WAIT_NS x.cove x.ctx) (now - x.accepted)
      let s := modRun s x.entry (fun r => { r with first := some (r.first.getD now) })
      if x.skind != 2 then s
      else { s with sq := { s.sq with steps := s.sq.steps.map (fun e => (e.1,
        if e.2.cove == x.cove && (match e.2.ph with | .preempted true => true | .saving true => true | _ => false)
        then { e.2 with tokens := e.2.tokens + 1 } else e.2)) } }

/-- A start group launches, and the next one is armed (R256). -/
def startGroup (s : State) (c id now : Nat) : State :=
  let g := groupOf s.sq.starts c
  if g.id = id then nextStart (g.armed.foldl (startStep now) s) c else s

/-- A preemption launches: its victims stop at their next stop point (R264, R265). -/
def stopVictims (s : State) (c id now : Nat) : State :=
  let g := groupOf s.sq.preempts c
  if g.id = id then
    let s := g.armed.foldl (fun s i => settleStep (modStep s i (fun x => if x.ph = .running then { x with ph := .stopping } else x)) i) s
    let s := { s with sq := { s.sq with switching := s.sq.switching.map (fun e => (e.1,
      if e.2.victims.any g.armed.contains then { e.2 with launched := some (e.2.launched.getD now) } else e.2)) } }
    nextPreempt s c
  else s

/-- The place of an action in the order of a launch (R85). -/
def SlateAct.order : SlateAct → Nat
  | .param _ => 0
  | .budgets _ => 1
  | .flip _ => 3
  | .preempt _ _ => 4
  | .stepStart _ _ => 5
  | .dvfs _ => 6

/-- The effect of one action on what all its taps share; a frequency change acts tap by tap (R82, R85). -/
def applyAct (now : Nat) (s : State) : SlateAct → State
  | .param c => applyParams s c
  | .budgets c => applyBudgets s c
  | .flip c => publish s c
  | .preempt c id => stopVictims s c id now
  | .stepStart c id => startGroup s c id now
  | .dvfs _ => s

/-- The launched entries of a tide that have not taken effect and satisfy `p`, in the order of R85. -/
def dueActs (s : State) (m : Nat) (p : Nat → Slate → Bool) : List (Nat × Slate) :=
  ((masterOf s m).slate.filter (fun e => e.2.due.isSome && !e.2.applied && p e.1 e.2)).mergeSort
    (fun a b => decide (a.2.act.order ≤ b.2.act.order))

/-- Note that an entry has taken effect. -/
def markApplied (s : State) (m e : Nat) : State :=
  let ms := masterOf s m
  setMaster s m { ms with slate := tmod ms.slate e (fun a => { a with applied := true }) }

/-- Every launched entry of a tide that satisfies `p` takes effect, in the order of R85: at the launch `now` of a tap, or else at the time
of its edge (R257). Log entry 26 (DESIGN CHOICE). -/
def applyDue (s : State) (m : Nat) (now : Option Nat) (p : Nat → Slate → Bool) : State :=
  (dueActs s m p).foldl (fun s e => applyAct (now.getD e.2.dueNow) (markApplied s m e.1) e.2.act) s

/-! ### Outcomes, R84, R257 -/

/-- Free the ended entries of a tide and hand their outcomes out (R84). Log entry 26 (DESIGN CHOICE). -/
def endEntries (s : State) (m : Nat) : State :=
  let (rs, s) := freeEnded s m
  rs.foldl takeOutcome s

/-- Taps that have not acknowledged are marked missed, for every launched entry that waits for them (R89). -/
def missAwaited (s : State) (m : Nat) : State :=
  let ms := masterOf s m
  let late := ms.await ++ ms.slate.flatMap (fun e =>
    if e.2.due.isSome then e.2.taps.filter (fun t => !e.2.acked.contains t && !ms.await.contains t) else [])
  late.dedup.foldl (fun s t => missAck s m t) s

/-! ### Edges, R70, R260 -/

/-- The engines of a cove that are not fenced (R260). -/
def engineCount (s : State) (c : Nat) : Nat :=
  let n (k : Nat) : Nat := ((List.range (kindCount k)).filter (fun i => ownerOf s k i == some c && !fenceOn s (resKey k i))).length
  n kEP + 2 * n kSH + n kRM + n kTU + n kTK

/-- At an edge of a cove's tide its capacity is divided among its real-time queues anew (R260). Log entry 27 (DESIGN CHOICE). -/
def entitle (s : State) (c : Nat) : State :=
  let cap := engineCount s c * periodNs s c
  { s with ob := { s.ob with queues := s.ob.queues.map (fun e => (e.1,
      if e.1 / 64 = c then { e.2 with used := 0, entitled := if e.2.rt then cap * e.2.reserve / 64 else 0 } else e.2)) } }

/-- TIDE_EDGE: the cycle count of a running master has reached its period (R70, R83, R89, R260). Log entry 8 (DESIGN CHOICE). -/
def execTideEdge (m : TideId) (now : Nat) (s : State) : Ans :=
  let ms := masterOf s m
  if !ms.running || ms.held then .next s
  else
    let s1 := missAwaited (applyDue s m none (fun _ _ => true)) m
    let s2 := emitEdge (endEntries s1 m) m now
    let bare := (masterOf s2 m).slate.any (fun e => e.2.due.isSome && e.2.taps.isEmpty)
    let s3 := if bare then endEntries (applyDue s2 m none (fun _ _ => true)) m else s2
    atDomain s 96 (if m.val < 16 then entitle s3 m else s3)

/-! ### Launches and acknowledgements, R76, R84–R88 -/

/-- Regulators whose master a tap serves (R16, R74). -/
def tapReguls (t : Nat) : List Nat := (List.range 224).filter (fun r => unitClient (regulUnit r) == some t)

/-- The entries of the master's slate that a received edge launches at a tap: due on that edge, with the action stored there
(R83, R86, R89). -/
def RecvEdge.launches (e : RecvEdge) (t i : Nat) (a : Slate) : Bool :=
  a.due == some e.count && e.due.testBit i && a.taps.contains t

/-- Frequency changes that an edge launches at a tap (R343). -/
def tapFreqs (s : State) (m t : Nat) (e : RecvEdge) : List Nat :=
  (masterOf s m).slate.filterMap (fun a =>
    match a.2.act with
    | .dvfs i => if e.launches t a.1 a.2 then some i else none
    | _ => none)

/-- The flips and preemptions of an edge, which go before every step that starts on it, whichever tap launches first (R85, R86, R205).
Log entry 26 (DESIGN CHOICE). -/
def RecvEdge.before (e : RecvEdge) (a : Slate) : Bool := a.due == some e.count && (a.act.order == 3 || a.act.order == 4)

/-- What a tap launches on one cycle of its clock: the entries of the edge it has received whose actions it has stored, and
no other (R85, R86, R88, R89). -/
def launchTap (s : State) (t now : Nat) (e : RecvEdge) : State :=
  let x := tapOf s t
  let m := x.src
  let e := { e with due := (x.acts.filter (fun a => e.due.testBit a.1)).foldl (fun d a => d ||| 2 ^ a.1) 0 }
  let s := setTap s t { x with recv := none, acking := some e, acts := x.acts.filter (fun a => !e.due.testBit a.1) }
  let s := applyDue s m (some now) (fun i a => e.launches t i a && decide (a.act.order < 2))
  let s := (tapReguls t).foldl startWindow s
  let s := applyDue s m (some now) (fun i a => e.launches t i a || e.before a)
  (tapFreqs s m t e).foldl (fun s i => launchFreq s i t) s

/-- TAP_LAUNCH: the tap launches the edge it has received on its local cycle (R76, R85). Log entry 8 (DESIGN CHOICE). -/
def execTapLaunch (t : TapId) (now : Nat) (s : State) : Ans :=
  let x := tapOf s t
  match x.recv with
  | none => .next s
  | some e => if x.resync then .next s else atDomain s (tapDomain t) (launchTap s t now e)

/-- Whether a tap's acknowledgement waits for its domain to run at the new frequency (R342, R343). Log entry 26 (DESIGN CHOICE). -/
def slewWaits (s : State) (t : Nat) (e : RecvEdge) : Bool := (tapFreqs s (tapOf s t).src t e).any (fun i => thas s.ck.goal i)

/-- A tap launched late (R87). -/
def countLate (s : State) (m : Nat) : State :=
  let s := incCtr s C.TD_LATE_CNT
  let s := if m < 16 then incCtr s (C.TD_LATE m) else s
  raiseSrc (setFlag s F.TD_STATUS_LATE true) 514

/-- TAP_ACK: the acknowledgement of a launch arrives `ns` after the edge; an entry of it whose action the tap had discarded is
missed (R84, R87, R89). Log entry 8 (DESIGN CHOICE). -/
def execTapAck (t : TapId) (ns : Nat) (s : State) : Ans :=
  let x := tapOf s t
  match x.acking with
  | none => .next s
  | some e =>
    if slewWaits s t e then .next s
    else
      let m := x.src
      let s1 := setTap s t { x with acking := none }
      let s1 := match tapStack t with | some n => stackWakes s1 n | none => s1
      let s2 := if (calOf s t m).ackNs + 4 < ns then countLate s1 m else s1
      let ms := masterOf s2 m
      let ack (i : Nat) (a : Slate) : Slate :=
        if a.due != some e.count || !a.taps.contains t.val || a.missed.contains t.val || a.acked.contains t.val then a
        else if e.due.testBit i then { a with acked := a.acked ++ [t.val] }
        else { a with missed := a.missed ++ [t.val] }
      let s3 := setMaster s2 m { ms with
        await := if ms.count = e.count then ms.await.filter (· != t.val) else ms.await,
        slate := ms.slate.map (fun a => (a.1, ack a.1 a.2)) }
      atDomain s 96 (endEntries s3 m)

/-! ### Resynchronisation, R89 -/

/-- TAP_RESYNC_REQUEST: a tap that has missed an edge discards its actions and asks its master (R89). -/
def execTapResyncRequest (t : TapId) (s : State) : Ans :=
  let x := tapOf s t
  if !x.resync || x.asked then .next s else atDomain s (tapDomain t) (setTap s t { x with asked := true, acts := [] })

/-- TAP_RESYNC_LOAD: the tap loads the count and the state that edges have set, has missed what still waits for it, and launches
from the next edge (R89). Log entry 26 (DESIGN CHOICE). -/
def execTapResyncLoad (t : TapId) (s : State) : Ans :=
  let x := tapOf s t
  let ms := masterOf s x.src
  if !x.resync || !x.asked || !ms.running || !running s 96 then .next s
  else
    let s1 := match tapStack t with | some n => stackWakes s n | none => s
    let s1 := markMissed (applyDue s1 x.src none (fun _ a => decide (a.act.order < 4))) x.src t
    atDomain s (tapDomain t) (setTap s1 t { x with count := ms.count, resync := false, asked := false, net := none, recv := none, acking := none })

/-- CALIBRATION_DONE: the running calibration completes; at start-up it ends step 8 (R78, R79, R334). Log entry 8 (DESIGN CHOICE). -/
def execCalibrationDone (meas : List CalMeas) (s : State) : Ans :=
  if !flag s F.TD_STATUS_CAL_BUSY then .next s
  else
    let s1 := endCal s meas
    atDomain s 94 (if s.lc.boot = 8 then { s1 with lc := { s1.lc with boot := 9 } } else s1)

end Sys2Proof.Machine
end

