-- ==== Sys2Proof/Machine/Sounding.lean ====
section
/-!
DEFINITION. Sounding: the state a chart image would give, and the rules that judge it (R46–R49, R57, R60–R64, R68, R98).
-/
namespace Sys2Proof.Machine

/-! ### The state after the image, R35–R45, R65, R67 -/

/-- A free granule (R37). -/
def Gran.free : Gran := ⟨31, 0, 0, 0⟩

/-- The granule map with an entry put into it. -/
def putGrans (t : Tbl Gran) (e : ImgGran) : Tbl Gran :=
  (List.range e.count).foldl (fun t i => tsetD t (e.first + i) Gran.free e.gran) t

/-- The owner table with an assignment put into it (R36). -/
def putOwner (t : Tbl Nat) (a : ImgAssign) : Tbl Nat :=
  (List.range a.count).foldl (fun t i =>
    let k := resKey a.kind (a.first + i)
    if a.cove = 255 then tdel t k else tput t k a.cove) t

/-- The plan with a clock entry put into it; only a full chart changes more than shares (R64). -/
def putClock (full : Bool) (p : PlanSt) : ImgClock → PlanSt
  | .refs xa xb => if full then { p with xaKhz := xa, xbKhz := xb } else p
  | .loop i l => if full then { p with loops := tput p.loops i l } else p
  | .dom d x y => if full then { p with doms := tput p.doms d x, tpDoms := if 80 ≤ d && d ≤ 87 then tput p.tpDoms d y else p.tpDoms } else p
  | .op i k o => if full then { p with ops := tput p.ops (i * 8 + k) o } else p
  | .share c i x => { p with shares := tput p.shares (c * 8 + i) x }

/-- The plan an image starts from: nothing but loops under a full chart, the accepted chart under an amendment (R36, R37, R65). -/
def basePlan (s : State) (m : Image) : PlanSt :=
  let p := s.plan
  if m.full then { PlanSt.reset with loops := p.loops, life := m.life, devno := m.devno }
  else { p with
    coves := p.newDesc.foldl (fun t e => tput t e.1 e.2) p.coves
    shares := p.newShares.foldl (fun t e => tput t e.1 e.2) p.shares
    newDesc := []
    newShares := [] }

/-- The coves that an image removes (R67). -/
def Image.removed (m : Image) : List Nat := (m.descs.filter (·.remove)).map (·.cove)

/-- The plan after the image (R35–R37, R67). Log entry 22 (DEDUCED). -/
def planAfter (s : State) (m : Image) : PlanSt :=
  let p := basePlan s m
  let gone := m.removed
  let p := { p with
    coves := m.descs.foldl (fun t d => if d.remove then tdel t d.cove else tput t d.cove d.desc) p.coves,
    owner := (m.assigns.foldl putOwner p.owner).filter (fun e => !gone.contains e.2),
    gran := ((m.grans.foldl putGrans p.gran).map (fun e =>
      (e.1, { e.2 with readers := gone.foldl (fun r c => setBit r c false) e.2.readers }))).filter (fun e => !gone.contains e.2.owner) }
  let p := m.clock.foldl (putClock m.full) p
  { p with shares := tdrop p.shares (fun k => gone.contains (k / 8)) }

/-- The owner of the granules of an extent: a cove, 16 for shared ones, 31 when all are free. -/
def extentOwner (gran : Tbl Gran) (first count : Nat) : Nat :=
  ((gran.find? (fun e => first ≤ e.1 && e.1 < first + count && e.2.owner != 31)).map (·.2.owner)).getD 31

/-- The key ranges after the image; a new one holds no KID yet. A removed cove's ranges go, but one that the image lists is an
existing range, which keeps its KID (R38, R61, R67). Log entry 22 (DEDUCED). -/
def rangesAfter (s : State) (m : Image) (gran : Tbl Gran) : Tbl KeyRange :=
  let old := if m.full then [] else s.mem.kr.filter (fun e => !m.removed.contains e.2.owner || m.ranges.any (fun x => x.range == e.1))
  let kr := m.ranges.foldl (fun t e =>
    if e.count = 0 then tdel t e.range
    else
      let k := tgetD t e.range ⟨0, 0, false, 0, 31, 0, none, 0, false, false, false, 0, []⟩
      tput t e.range { k with first := e.first, count := e.count, scramble := e.scramble, thresh := e.thresh }) old
  kr.map (fun e => (e.1, { e.2 with owner := extentOwner gran e.2.first e.2.count }))

/-- The regulators after the image, with the parameters the chart gives them (R39, R65). Under an amendment a record without
entries changes none. Log entry 58 (DESIGN CHOICE). -/
def regulsAfter (s : State) (m : Image) : Tbl Regul :=
  let old := if m.full then [] else s.bw.map (fun e => (e.1, { e.2 with par := e.2.next.getD e.2.par, next := none }))
  m.reguls.foldl (fun t e => tput t e.1 { tgetD t e.1 (Regul.init e.1) with par := e.2 }) old

/-- The state an image would give: the plan, key ranges and regulators of the chart, with no switch forced. -/
def after (s : State) (m : Image) : State :=
  let p := planAfter s m
  let ck := if m.full then { s.ck with doms := [] } else s.ck
  { s with plan := p, ck := ck, bw := regulsAfter s m, mem := { s.mem with kr := rangesAfter s m p.gran } }

/-- PERIOD_MR of every tide after the image (R45). -/
def periodsAfter (s : State) (m : Image) : Tbl Nat :=
  let old := if m.full then [] else (s.tide.masters.map (fun e => (e.1, e.2.periodMr))).filter (fun e => !m.removed.contains e.1)
  m.tides.foldl (fun t e => tput t e.1 e.2) old

/-! ### Naming the failure, R60 -/

/-- The first entry of a record that fails, as CH_DETAIL names it. Log entry 21 (DESIGN CHOICE). -/
def firstBad {α : Type} (code record : Nat) (l : List α) (p : List α → α → Bool) : Option Fail :=
  ((List.range l.length).find? (fun i => match l[i]? with | some e => p (l.take i) e | none => false)).map (fun i => ⟨code, record, i, false⟩)

/-- A failure of the whole image. -/
def whole (code : Nat) (bad : Bool) : Option Fail := if bad then some ⟨code, 0, 0, false⟩ else none

/-- The lowest entry of a record in a list of failing ones. -/
def lowest (code record : Nat) (l : List Nat) : Option Fail := l.min?.map (fun i => ⟨code, record, i, false⟩)

/-- The index of the first entry that satisfies `p`. -/
def entryOf {α : Type} (l : List α) (p : α → Bool) : Option Nat := l.findIdx? p

/-- The failure blamed on the first of some entries, given as record and index, or on the whole image. Log entry 21 (DESIGN CHOICE). -/
def blame (code : Nat) (bad : Bool) (l : List (Nat × Nat)) : Option Fail :=
  if !bad then none
  else match l.foldl (fun a e => match a with | none => some e | some b => if e.1 < b.1 || (e.1 == b.1 && e.2 < b.2) then some e else a) none with
    | some e => some ⟨code, e.1, e.2, false⟩
    | none => some ⟨code, 0, 0, false⟩

/-! ### Signature, lifecycle, generation: 0x03, 0x70, 0x61, 0x12 -/

/-- Whether the signature is accepted (R46, R47). -/
def sigOk (s : State) (m : Image) : Bool :=
  if m.alg = 0 then isMaker s && m.sig.all (· == 0)
  else
    let n (i : Nat) : Nat := leAt m.sig (48 * i) 48
    ofBytes (sha384 (m.sig.take 96)) == (Config.chartKeyDigest m.slot).toNat && !Config.chartKeyRevoked m.slot
      && ecdsaOk (n 0) (n 1) (n 2) (n 3) m.msg

/-- Rule 0x03. -/
def rule03 (s : State) (m : Image) : Option Fail := if sigOk s m then none else some ⟨3, 0x0F, 0, false⟩

/-- Rule 0x70, with the constraints of the running full chart for an amendment (R48). Log entry 22 (DEDUCED). -/
def rule70 (s : State) (m : Image) : Option Fail :=
  match (if m.full then m.life else s.plan.life) with
  | some (states, fwMin) =>
    if states.testBit (fld s F.LC_STATE_STATE) && decide (fwMin ≤ fld s F.FAB_SEC_STATUS_RUN_SVN) then none
    else some ⟨0x70, if m.full then 8 else 0, 0, false⟩
  | none => none

/-- Rule 0x61 (R48, R49). -/
def rule61 (s : State) (m : Image) : Option Fail :=
  let g := fld s F.CH_GEN_GEN
  let ok := if m.full then decide (1 ≤ m.gen) else g != 0 && m.baseGen == g && m.gen == g + 1
  if ok && decide (m.gen ≤ 0xFFFFFFFE) then none else some ⟨0x61, 1, 0, true⟩

/-- Rule 0x12. -/
def rule12 (p : State) : Option Fail := whole 0x12 p.plan.coves.isEmpty

/-! ### Ownership: 0x11, 0x10, 0x13, 0x30, 0x31, 0x32 -/

/-- Whether a non-free granule breaks a condition of placement (R98). -/
def misplaced (p : State) (g : Nat) (e : Gran) : Bool :=
  let d := dataPer p
  let h := g / d
  let row := p.plan.gran.filter (fun x => x.2.owner != 31 && x.1 % d == g % d && x.1 < 32 * d)
  let home (n : Nat) : Bool := flag p (F.SC_STATUS_TRAINED n)
  (if e.mode = 0 then e.target != 0 || !(List.range 32).all home
   else if e.mode = 1 then e.target != h / 8 || !(List.range 8).all (fun i => home (8 * (h / 8) + i))
   else e.target != h || !home h)
  || (row.any (fun x => x.2.mode == 0) && row.any (fun x => x.2.mode != 0))
  || (let grp := row.filter (fun x => x.1 / d / 8 == h / 8); grp.any (fun x => x.2.mode == 1) && grp.any (fun x => x.2.mode == 2))

/-- Rule 0x11. -/
def rule11 (s p : State) (m : Image) : Option Fail :=
  let ex (c : Nat) : Bool := coveExists p c
  let nd := 32 * dataPer s
  let bad := (p.plan.gran.filter (fun e => e.1 < nd && misplaced p e.1 e.2)).map (·.1)
  (firstBad 0x11 1 m.descs (fun _ e => e.remove && !coveExists s e.cove)).orElse fun _ =>
  (firstBad 0x11 2 m.assigns (fun _ e => decide (kindCount e.kind < e.first + e.count) || (e.cove != 255 && !ex e.cove))).orElse fun _ =>
  (firstBad 0x11 3 m.grans (fun _ e => decide (nd < e.first + e.count) || (decide (e.gran.owner < 16) && !ex e.gran.owner)
    || (List.range 16).any (fun c => e.gran.readers.testBit c && !ex c)
    || (e.gran.owner != 31 && bad.any (fun g => decide (e.first ≤ g ∧ g < e.first + e.count))))).orElse fun _ =>
  (firstBad 0x11 4 m.ranges (fun _ e => e.count != 0 && decide (nd < e.first + e.count))).orElse fun _ =>
  (firstBad 0x11 5 m.reguls (fun _ e => regOwner p e.1 == 31)).orElse fun _ =>
  (firstBad 0x11 6 m.clock (fun _ e => match e with | .share c _ _ => !ex c | _ => false)).orElse fun _ =>
  firstBad 0x11 7 m.tides (fun _ e => decide (e.1 < 16) && !ex e.1)

/-- Whether two extents meet. -/
def meet (a n b k : Nat) : Bool := decide (a < b + k ∧ b < a + n)

/-- Whether two clock entries name the same thing. -/
def sameClock : ImgClock → ImgClock → Bool
  | .loop p _, .loop q _ => p == q
  | .dom d _ _, .dom e _ _ => d == e
  | .op i k _, .op j l _ => i == j && k == l
  | .share c i _, .share d j _ => c == d && i == j
  | _, _ => false

/-- Rule 0x10; the later of two entries is named. Log entry 22 (DEDUCED). -/
def rule10 (m : Image) : Option Fail :=
  (firstBad 0x10 1 m.descs (fun l e => l.any (fun x => x.cove == e.cove))).orElse fun _ =>
  (firstBad 0x10 2 m.assigns (fun l e => l.any (fun x => x.kind == e.kind && meet x.first x.count e.first e.count))).orElse fun _ =>
  (firstBad 0x10 4 m.ranges (fun l e => l.any (fun x => x.range == e.range))).orElse fun _ =>
  (firstBad 0x10 5 m.reguls (fun l e => l.any (fun x => x.1 == e.1))).orElse fun _ =>
  (firstBad 0x10 6 m.clock (fun l e => l.any (sameClock e))).orElse fun _ =>
  firstBad 0x10 7 m.tides (fun l e => l.any (fun x => x.1 == e.1))

/-- Rule 0x13. -/
def rule13 (p : State) (m : Image) : Option Fail :=
  (firstBad 0x13 1 m.descs (fun _ e => !e.remove && e.desc.ctxMin == 0)).orElse fun _ =>
  whole 0x13 (decide (48 < (p.plan.coves.map (fun e => e.2.ctxMin)).sum))

/-- Rule 0x30. -/
def rule30 (m : Image) : Option Fail := firstBad 0x30 3 m.grans (fun l e => l.any (fun x => meet x.first x.count e.first e.count))

/-- Owners among the granules of a range; shared ones count as one (R60, 0x31). -/
def rangeOwners (p : State) (k : KeyRange) : List Nat :=
  ((p.plan.gran.filter (fun e => k.first ≤ e.1 && e.1 < k.first + k.count && e.2.owner != 31)).map (·.2.owner)).dedup

/-- Rule 0x31: of two ranges that meet, the later entry is named; of a range with several owners its own entry, or the first
granule map entry inside it. Log entry 21 (DESIGN CHOICE). -/
def rule31 (p : State) (m : Image) : Option Fail :=
  let kr := p.mem.kr
  let ent (r : Nat) : Option Nat := entryOf m.ranges (fun e => e.range == r)
  let pairs := kr.flatMap (fun a => (kr.filter (fun b => a.1 < b.1 && meet a.2.first a.2.count b.2.first b.2.count)).map (fun b => (a.1, b.1)))
  let multi := kr.filter (fun e => 1 < (rangeOwners p e.2).length)
  let c1 := pairs.filterMap (fun ab => match ent ab.1, ent ab.2 with | some i, some j => some (4, max i j) | some i, none => some (4, i) | none, x => x.map (fun j => (4, j)))
  let c2 := multi.filterMap (fun e => match ent e.1 with
    | some i => some (4, i)
    | none => (entryOf m.grans (fun x => meet x.first x.count e.2.first e.2.count)).map (fun i => (3, i)))
  blame 0x31 (!pairs.isEmpty || !multi.isEmpty) (c1 ++ c2)

/-- Whether a range needs a Free KID: a scrambled range that is new, that was unscrambled, or that has lost its KID with its
granules and gains some (R61, R63). -/
def needsKid (s p : State) (m : Image) (r : Nat) (k : KeyRange) : Bool :=
  k.scramble && match (if m.full then none else tfind s.mem.kr r) with
    | some old => !old.scramble || k.cur == 0 && !(rangePlaces p k).isEmpty
    | none => true

/-- The ranges that need a Free KID, ascending (R61). Log entry 22 (DEDUCED). -/
def kidRanges (s p : State) (m : Image) : List Nat := (p.mem.kr.filter (fun e => needsKid s p m e.1 e.2)).map (·.1)

/-- The Free KIDs, ascending (R61). Log entry 22 (DEDUCED). -/
def freeKids (s : State) : List Nat := ((List.range 64).drop 1).filter (fun k => (kidOf s k).st == .free)

/-- Rule 0x32. -/
def rule32 (s p : State) (m : Image) : Option Fail := whole 0x32 (decide ((freeKids s).length < (kidRanges s p m).length))

/-! ### Classes and guarantees: 0x21, 0x20 -/

/-- Whether a regulator breaks rule 0x21. -/
def classBad (p : State) (r : Nat) : Bool :=
  let a := (regulOf p r).par
  let o := regOwner p r
  (a.cls == 0 && (o == 16 || (match tfind p.plan.coves o with | some d => !d.rtOk | none => false))) || (a.urgEn && a.cls != 0)

/-- Rule 0x21: the regulator's entry is named, or the descriptor of its cove. -/
def rule21 (p : State) (m : Image) : Option Fail :=
  let bad := (List.range 256).filter (classBad p)
  blame 0x21 (!bad.isEmpty) (bad.filterMap (fun r => match entryOf m.reguls (fun e => e.1 == r) with
    | some i => some (5, i)
    | none => (entryOf m.descs (fun e => e.cove == regOwner p r)).map (fun i => (1, i))))

/-- The deliverable bandwidth that a full chart would give a stack: at its island's START point, under the ceilings in force (R62). -/
def planDb (p : State) (n : Nat) : ℚ :=
  let i := domIsland n
  if flag p (F.SC_STATUS_TRAINED n) then deliverable (opKhz p i (min (startOp p i) (ceilOp p i)) n) (refreshK p n) else 0

/-- Rule 0x20 (R62). -/
def rule20 (s p : State) (m : Image) : Option Fail :=
  let l := scaledCoves p
  whole 0x20 ((List.range 32).any (fun n => decide ((if m.full then planDb p n else stackDb s n) * 4 / 5 < stackLoad l [] n)))

/-! ### Clocks: 0x41, 0x40, 0x42 -/

/-- The points an island defines, in order (R43). -/
def opsOf (p : State) (i : Nat) : List OpPoint := (List.range 8).filterMap (fun k => tfind p.plan.ops (i * 8 + k))

/-- Whether the points of an island break rule 0x41. -/
def opsBad (p : State) (i : Nat) : Bool :=
  let os := opsOf p i
  os.isEmpty || !((List.range os.length).all (fun k => thas p.plan.ops (i * 8 + k)))
    || (os.zip os.tail).any (fun ab => decide (ab.2.mv ≤ ab.1.mv) || decide (ab.2.fmax ≤ ab.1.fmax))
    || (os.filter (·.start)).length != 1

/-- The indices of the clock entries that satisfy `p`. -/
def clockIdx (m : Image) (p : ImgClock → Bool) : List Nat := (m.clock.zipIdx.filter (fun e => p e.1)).map (·.2)

/-- Rule 0x41. Log entry 21 (DESIGN CHOICE). -/
def rule41 (p : State) (m : Image) : Option Fail :=
  let isls := if m.full then (List.range 6).filter (opsBad p) else []
  let sh := clockIdx m (fun e => match e with
    | .share _ i x => decide (x.opMax < x.opMin) || !thas p.plan.ops (i * 8 + x.opMin) || !thas p.plan.ops (i * 8 + x.opMax)
    | _ => false)
  lowest 0x41 6 (isls.map (fun i => (entryOf m.clock (fun e => match e with | .op j _ _ => j == i | _ => false)).getD 0) ++ sh)

/-- The output of a source under the plan in kHz (R41). -/
def planSrc (p : State) (src : Nat) : ℚ :=
  if src < 6 then (loopPlan p src).outAt (refKhz p (loopPlan p src).ref) (loopPlan p src).mult else srcKhz p src

/-- The entry blamed for a domain: its own, its loop's, or the first. Log entry 21 (DESIGN CHOICE). -/
def domEntry (m : Image) (d src : Nat) : Nat :=
  ((entryOf m.clock (fun e => match e with | .dom x _ _ => x == d | _ => false)).or
    (entryOf m.clock (fun e => match e with | .loop q _ => q == src | _ => false))).getD 0

/-- Rule 0x40 (R340, R348). Log entry 22 (DEDUCED). -/
def rule40 (s p : State) (m : Image) : Option Fail :=
  let opBad (i k : Nat) (o : OpPoint) : Bool :=
    let vmax := fld s (F.VS_ISL_LIMIT_VMAX_MV i)
    let gone := fld s (F.FB_ISL_ADJ_REMOVED i)
    decide (vmax < o.mv) || (k != 0 && (decide (vmax < o.mv + fld s (F.FB_ISL_ADJ_ADD_MV i)) || gone.testBit k))
      || (gone != 0 && match tfind s.plan.ops (i * 8 + fld s (F.FB_ISL_ADJ_CEIL i)) with | some c => decide (c.fmax < o.fmax) | none => false)
  let ops := clockIdx m (fun e => match e with | .op i k o => opBad i k o | _ => false)
  let doms := allDoms.filterMap (fun d =>
    let (src, div) := planDom p d
    let i := domIsland d
    if fmaxKhz p i (topOp p i) < planSrc p src / div then some (domEntry m (muxDom d) src) else none)
  if m.full then lowest 0x40 6 (ops ++ doms) else none

/-- Whether a source runs once the image is applied (R60, 0x42). -/
def runsAfter (s p : State) (m : Image) (src : Nat) : Bool :=
  if src < 6 then match m.clock.findSome? (fun e => match e with | .loop q l => if q = src then some l else none | _ => none) with
    | some l => l.en
    | none => srcRuns s src
  else srcRuns s src && (src != 9 || p.plan.xbKhz != 0)

/-- Rule 0x42: a domain without an entry of its own is blamed on its loop's. -/
def rule42 (s p : State) (m : Image) : Option Fail :=
  let refSrc (l : LoopPlan) : Nat := if l.ref = 0 then 8 else if l.ref = 1 then 9 else 6
  let loops := clockIdx m (fun e => match e with
    | .loop _ l => l.en && !runsAfter s p m (refSrc l)
    | _ => false)
  let stopped := allDoms.filter (fun d => !runsAfter s p m (planDom p d).1)
  let named := stopped.filterMap (fun d => entryOf m.clock (fun e => match e with | .dom x _ _ => x == muxDom d | _ => false))
  let loose := stopped.map (fun d => domEntry m (muxDom d) (planDom p d).1)
  if !m.full then none else (lowest 0x42 6 (loops ++ named)).orElse (fun _ => lowest 0x42 6 loose)

/-! ### Tides: 0x50 -/

/-- The taps that would listen to a tide (R74). -/
def tapsAfter (p : State) (t : Nat) : List Nat :=
  if t = 16 then (List.range 100).map (192 + ·)
  else (List.range 192).filter (fun x => match clientRes x with | some (k, i) => ownerOf p k i == some t | none => false)

/-- Rule 0x50: the settling bound is that of a cove's tide net (R45, R79). Log entry 21 (DESIGN CHOICE). -/
def rule50 (s p : State) (m : Image) : Option Fail :=
  let per := periodsAfter s m
  let bad (t : Nat) : Bool := match tfind per t with
    | none => true
    | some mr =>
      let ns : ℚ := mr * 1000000 / xaKhz p
      decide (ns < 2000) || decide (64000000 < ns) || (t != 16 && decide (ns < (tideFigures s t (tapsAfter p t)).2))
  let tides : List Nat := p.plan.coves.map (·.1)
  lowest 0x50 7 (((tides ++ [16]).filter bad).map (fun t => (entryOf m.tides (fun e => e.1 == t)).getD 0))

/-! ### Quiescence: 0x60 -/

/-- Whether a cove is quiesced by CV_QUIESCE (R57, R309). Log entry 22 (DEDUCED). -/
def quiesced (s : State) (c : Nat) : Bool := coveSt s c == 3

/-- Whether a granule belongs to an enabled object or spill area of a cove (R57, R219, R266). -/
def inArea (s : State) (c g : Nat) : Bool :=
  let inside (a n : Nat) : Bool := decide (a ≤ g ∧ g < a + n)
  (flag s (F.OB_AREA_EN c) && inside (fld s (F.OB_AREA_GRANULE c)) (areaSpan (fld s (F.OB_AREA_LOG2 c))))
    || (flag s (F.SQ_SPILL_EN c) && inside (fld s (F.SQ_SPILL_GRANULE c)) (fld s (F.SQ_SPILL_COUNT c)))

/-- Whether a unit, bank or target counts as fenced (R57). -/
def resStill (s : State) (k i : Nat) : Bool :=
  match ownerOf s k i with
  | none => true
  | some c => isFenced s (resKey k i) || quiesced s c

/-- Whether a granule counts as fenced, in an image that removes some coves (R57, R64). -/
def granStill (s : State) (gone : List Nat) (g : Nat) : Bool :=
  let e := granOf s g
  if e.owner = 31 then true
  else if e.owner = 16 then e.readers == 0 || isFenced s (granKey g)
  else if inArea s e.owner g then gone.contains e.owner
  else isFenced s (granKey g) || quiesced s e.owner

/-- Granules of a range that join or leave it, or all of them when its scrambling changes or it goes (R64). -/
def rangeMoves (s : State) (e : ImgRange) : List Nat :=
  let ext (a n : Nat) : List Nat := (List.range n).map (a + ·)
  let now := ext e.first e.count
  match tfind s.mem.kr e.range with
  | none => now
  | some k =>
    let was := ext k.first k.count
    if e.count = 0 || k.scramble != e.scramble then was ++ now
    else was.filter (fun g => !(e.first ≤ g && g < e.first + e.count)) ++ now.filter (fun g => !(k.first ≤ g && g < k.first + k.count))

/-- Whether a key range entry names a granule of an enabled area of a cove that stays (R57). -/
def namesArea (s : State) (gone : List Nat) (e : ImgRange) : Bool :=
  (List.range e.count).any (fun i => let o := (granOf s (e.first + i)).owner; decide (o < 16) && inArea s o (e.first + i) && !gone.contains o)

/-- Whether a cove holds a real-time queue (R64). -/
def keepsRt (s : State) (c : Nat) : Bool := s.ob.queues.any (fun e => e.1 / 64 == c && e.2.rt && e.2.ph != .free)

/-- Rule 0x60 (R64, R68). Log entry 22 (DEDUCED). -/
def rule60 (s : State) (m : Image) : Option Fail :=
  if m.full then whole 0x60 (s.plan.coves.any (fun e => !quiesced s e.1))
  else
    let still := granStill s m.removed
    (firstBad 0x60 1 m.descs (fun _ e => if e.remove then !quiesced s e.cove
      else !e.desc.rtOk && (match tfind s.plan.coves e.cove with | some d => d.rtOk | none => false) && keepsRt s e.cove)).orElse fun _ =>
    (firstBad 0x60 2 m.assigns (fun _ e => !(List.range e.count).all (fun i => resStill s e.kind (e.first + i)))).orElse fun _ =>
    (firstBad 0x60 3 m.grans (fun _ e => !(List.range e.count).all (fun i => still (e.first + i)))).orElse fun _ =>
    (firstBad 0x60 4 m.ranges (fun _ e => !(rangeMoves s e).all still || namesArea s m.removed e)).orElse fun _ =>
    firstBad 0x60 6 m.clock (fun _ e => match e with | .share _ _ _ => false | _ => true)

/-- The rules in the order of R60: the first that fails. Log entry 21 (DESIGN CHOICE). -/
def judgeImage (s : State) (m : Image) : Option Fail :=
  let p := after s m
  (rule03 s m).orElse fun _ => (rule70 s m).orElse fun _ => (rule61 s m).orElse fun _ => (rule12 p).orElse fun _ =>
  (rule11 s p m).orElse fun _ => (rule10 m).orElse fun _ => (rule13 p m).orElse fun _ => (rule30 m).orElse fun _ =>
  (rule31 p m).orElse fun _ => (rule32 s p m).orElse fun _ => (rule21 p m).orElse fun _ => (rule20 s p m).orElse fun _ =>
  (rule41 p m).orElse fun _ => (rule40 s p m).orElse fun _ => (rule42 s p m).orElse fun _ => (rule50 s p m).orElse fun _ => rule60 s m

end Sys2Proof.Machine
end

