-- ==== Sys2Proof/Machine/Fences.lean ====
section
/-!
DEFINITION. Fences: what a write of CH_FENCE names, the start, the end and the lifting of a fence (R55–R59, R273).
-/
namespace Sys2Proof.Machine

/-- Instances of a unit KIND that a fence may name (R30, CH_FENCE). Log entry 25 (DESIGN CHOICE). -/
def fenceCount (kind : Nat) : Nat :=
  if kind = 0 then 128 else if kind = 1 then 64 else if kind = 3 then 16 else if kind = 4 || kind = 5 then 8 else if kind = 0xA then 512 else 0

/-- The resources a write of CH_FENCE names, as keys of the fence table; none when it is to be ignored whole (R55).
Log entry 25 (DESIGN CHOICE). -/
def fenceKeys (v : Nat) : Option (List Nat) :=
  let n := bits v 16 13
  let space := bits v 29 2
  let idx := bits v 0 12
  if n = 0 || 4608 < n then none
  else if space = 0 then
    if fenceCount (bits v 12 4) < idx + n then none
    else some ((List.range n).map (fun i => unitKey (bits v 12 4 * 4096 + idx + i))).dedup
  else if space = 1 then
    if 4608 < bits v 0 13 + n then none else some ((List.range n).map (fun i => granKey (bits v 0 13 + i)))
  else if space = 2 then
    if 64 < bits v 0 6 + n then none else some ((List.range n).map (fun i => resKey kTgt (bits v 0 6 + i)))
  else none

/-- Whether a key of the fence table stands for a free resource (R55). -/
def keyFree (s : State) (k : Nat) : Bool :=
  if 0x10000 ≤ k then (granOf s (k - 0x10000)).owner == 31 else !thas s.plan.owner k

/-- The units of an assignable engine resource (R30, R55). -/
def keyUnits (k : Nat) : List Nat :=
  let i := k % 4096
  match k / 4096 with
  | 1 => [i]
  | 2 => [0x1000 + 2 * i, 0x1000 + 2 * i + 1, 0x2000 + i]
  | 3 => [0x3000 + i]
  | 4 => [0x4000 + i]
  | 5 => [0x5000 + i]
  | _ => []

/-- Fences requested and not complete (CH_FENCE_STATUS.PENDING). Log entry 25 (DESIGN CHOICE). -/
def fencesPending (s : State) : Nat := (s.plan.fence.filter (fun e => e.2 == .fencing)).length

/-- A step that may have lowered PENDING shows it and raises source 518 when it has reached 0 (R291). Log entry 25 (DESIGN CHOICE). -/
def showPending (s s' : State) : State :=
  let s1 := setFld s' F.CH_FENCE_STATUS_PENDING (fencesPending s')
  if fencesPending s != 0 && fencesPending s' = 0 then raiseSrc s1 518 else s1

/-- The state with the fence on a key set. -/
def setFence (s : State) (k : Nat) (f : Fence) : State := { s with plan := { s.plan with fence := tput s.plan.fence k f } }

/-- The TLB of a unit's client is emptied (R55). -/
def emptyTlb (s : State) (u : Nat) : State := match unitClient u with | some cl => setTlb s cl [] | none => s

/-- A fence starts (R55). -/
def startFence (s : State) (k : Nat) : State :=
  if thas s.plan.fence k then s
  else
    let s1 := setFence s k .fencing
    if k / 4096 = kTgt then beaconStep s (fun _ => withdrawTgt s1 (k % 4096) false)
    else match tfind s.plan.owner k with
      | some c => (keyUnits k).foldl emptyTlb (rehome s1 c)
      | none => s1

/-- A resource returns to service, and tiles that waited for a unit of its kind are placed there (R55, R59, CH_FENCE). -/
def liftFence (s : State) (k : Nat) : State :=
  let s1 := { s with plan := { s.plan with fence := tdel s.plan.fence k } }
  if k / 4096 = kTgt then beaconStep s (fun _ => retryAll s1)
  else match tfind s.plan.owner k with | some c => rehome s1 c | none => s1

/-- The resources a write names that are not free; BAD is set for free ones (R55). -/
def ownedKeys (s : State) (ks : List Nat) : List Nat × State :=
  (ks.filter (fun k => !keyFree s k), if ks.any (keyFree s) then setFlag s F.CH_FENCE_STATUS_BAD true else s)

/-- A write of CH_FENCE (R55, R58). Log entry 25 (DESIGN CHOICE). -/
def fenceWrite (s : State) (v : Nat) : State :=
  match fenceKeys v with
  | none => setFlag s F.CH_FENCE_STATUS_BAD true
  | some ks =>
    if bit v 31 && chartBusy s then setFlag s F.CH_FENCE_STATUS_BAD true
    else
      let (own, s1) := ownedKeys s ks
      showPending s (own.foldl (if bit v 31 then liftFence else startFence) s1)

/-- CH_FENCE (R55). -/
def execChFence (q : Requester) (v : Word) (s : State) : Ans := atFabric s q (fenceWrite s v.toNat)
/-- CH_UNFENCE (R58). -/
def execChUnfence (q : Requester) (v : Word) (s : State) : Ans := atFabric s q (fenceWrite s v.toNat)

/-! ### Completion, R55, R56, R273 -/

/-- Whether a transfer that satisfies `p` is at its controller. Log entry 25 (DESIGN CHOICE). -/
def inFlight (s : State) (p : FpaTarget → Bool) : Bool := s.xl.xfers.any (fun e => e.2.stage == .waiting && p (decodeFpa s e.2.fpa))

/-- Whether a fenced resource has no traffic in flight (R55, R56). Log entry 25 (DESIGN CHOICE). -/
def fenceStill (s : State) (k : Nat) : Bool :=
  if 0x10000 ≤ k then
    let g := k - 0x10000
    !inFlight s (fun t => t == .data g) && !(decide ((granOf s g).owner < 16) && inArea s (granOf s g).owner g)
  else if k / 4096 = kBank then
    !inFlight s (fun t => match t with | .tidepool b _ => b == k % 4096 | _ => false)
  else
    let us := keyUnits k
    !us.any (fun u => thas s.sq.engines u || unitBusy s u) && !s.en.deliver.any (fun d => us.any (fun u => d.port s == some u && occupant s u == some d.step))
      && !s.sq.steps.any (fun e => e.2.moves.any (fun m => us.contains m.unit && k / 4096 == kEP))

/-- The live-map entry of the last completed boundary of a step (R251, R273). -/
def Step.lastLive (x : Step) : Option LiveEnt :=
  if x.stageDone then x.live? else if x.boundary = 0 then none else x.live[x.boundary - 1]?

/-- The occupant of a port leaves it without a save: its later tiles there go elsewhere, or are not run (R273). -/
def releasePort (s : State) (i u : Nat) (elsewhere : Bool) : State :=
  let s1 := freePort s u
  match stepOf s1 i with
  | some x => if elsewhere then remapSteps s1 x.cove (fun j v => j == i && v == u) else loseOccupant s1 i u
  | none => s1

/-- A fenced port loses its occupant; the ranges of the last boundary are read to decide where its tiles go (R273). -/
def vacatePort (s : State) (u : Nat) (finish : State → State) : State :=
  match occupant s u with
  | none => finish s
  | some i =>
    match stepOf s i with
    | none => finish (freePort s u)
    | some x =>
      match x.lastLive with
      | some l =>
        if !l.mark then finish (releasePort s i u false)
        else runWork s (do
          let rs ← readRanges (sqWho x.cove x.ctx) (fld s F.FAB_ARR_INFO_SP_MIB) l
          let s ← getSt
          let logical := (x.map.filter (fun e => e.2 == u && e.1 / 128 == 0)).map (fun e => e.1 % 128)
          let clear := match rs with | .ok l => !l.any (fun r => r.scratch && logical.contains r.leng) | .error _ => false
          pure (finish (releasePort s i u clear)))
      | none => finish (releasePort s i u false)

/-- The fence-table key that FENCE_DONE names. -/
def doneKey (space id : Nat) : Nat := if space = 0 then unitKey id else if space = 1 then granKey (id % 8192) else resKey kTgt (id % 64)

/-- FENCE_DONE: a fenced resource has no traffic in flight; what its last tile left in the TLB goes too (R55).
Log entries 6 (DESIGN CHOICE), 25 (DESIGN CHOICE). -/
def execFenceDone (space : Fin 3) (id : BitVec 16) (s : State) : Ans :=
  let k := doneKey space id.toNat
  if tfind s.plan.fence k ≠ some .fencing ∨ fenceStill s k = false then .next s
  else
    let fin (t : State) : State := showPending t (setFence ((keyUnits k).foldl emptyTlb t) k .fenced)
    atDomain s 94 (if k / 4096 = kEP then vacatePort s (k % 4096) fin else fin s)

end Sys2Proof.Machine
end

