-- ==== Sys2Proof/Machine/Apply.lean ====
section
/-!
DEFINITION. The staging buffer, the verdict, and the application of an accepted image (R24, R28, R50–R54, R59, R61,
R65–R68, R81, R114, R117, R296, R305, R312).
-/
namespace Sys2Proof.Machine

/-! ### The staging buffer, R50–R53 -/

/-- The number of a requester that may hold the buffer (CH_STATUS.HOLDER). -/
def holderNo : Requester → Nat
  | .ibpin => 1
  | .pf => 2
  | .vf _ => 0

/-- A write of a requester to a register of the buffer: ignored, with DENIED, while another holds it (R50). -/
def chGuard (s : State) (q : Requester) (f : State → State) : State :=
  let h := fld s F.CH_STATUS_HOLDER
  if h != 0 && h != holderNo q then setFlag s F.CH_STATUS_DENIED true else f s

/-- Whether the buffer is LOADING (R51). -/
def chLoading (s : State) : Bool := fld s F.CH_STATUS_STATE == 1

/-- The end of an image: VALID, CODE and CH_DETAIL are set, the buffer is free, and source 512 is raised (R52, R60).
Log entry 23 (DESIGN CHOICE). -/
def verdict (s : State) (f : Fail) : State :=
  let s := setFld (setFld (setFlag s F.CH_DETAIL_HDR f.hdr) F.CH_DETAIL_ENTRY f.entry) F.CH_DETAIL_RECORD f.record
  let s := setFld (setFld (setFlag s F.CH_STATUS_VALID true) F.CH_STATUS_CODE f.code) F.CH_STATUS_HOLDER 0
  raiseSrc { setFld s F.CH_STATUS_STATE 0 with plan := { s.plan with soundHeld := false } } 512

/-- An image is refused (R53). -/
def refuseImage (s : State) (f : Fail) : State := verdict (lbAdd s 9 1) f

/-- Sounding begins, or waits for start-up to end (R53, R335). -/
def beginSounding (s : State) : State :=
  let s := setFld s F.CH_STATUS_STATE 3
  { s with plan := { s.plan with soundHeld := !flag s F.CK_STATUS_UP } }

/-- A write of EN while LOADING (R52, R53, R60, R335, R361). -/
def enableImage (s : State) : State :=
  let n := fld s F.CH_LEN_LEN
  let src := flag s F.CH_CTL_SRC
  if isScrapped s then refuseImage s ⟨0x70, 0, 0, false⟩
  else if 1048576 < n || n % 8 != 0 || (!src && fld s F.CH_WPTR_PTR != n) then refuseImage s ⟨4, 0, 0, false⟩
  else if flag s F.FAB_SEC_STATUS_FW_FAIL then refuseImage s ⟨0x7F, 0, 3, false⟩
  else if src then hostRead (setFld s F.CH_STATUS_STATE 2) (fld64 s F.CH_SRC_LO_ADDR_LO F.CH_SRC_HI_ADDR_HI) n
  else beginSounding s

/-- A write of CH_CTL (R50, R51, R53). Log entry 21 (DESIGN CHOICE). -/
def chCtlWrite (s : State) (q : Requester) (v : Nat) : State :=
  chGuard s q (fun s =>
    let st := fld s F.CH_STATUS_STATE
    if st = 0 && bit v 0 then
      let s := setFlag (setFld (setFld (setFld s F.CH_STATUS_STATE 1) F.CH_STATUS_HOLDER (holderNo q)) F.CH_WPTR_PTR 0) F.CH_STATUS_VALID false
      { s with plan := { s.plan with staging := [] } }
    else if st = 1 then
      let s := setFld s F.CH_CTL_SRC (bits v 4 1)
      if bit v 2 then enableImage s
      else if bit v 1 then setFld (setFld s F.CH_STATUS_STATE 0) F.CH_STATUS_HOLDER 0
      else s
    else s)

/-- CH_CLAIM: a write of CH_CTL (R50). -/
def execChClaim (q : Requester) (v : Word) (s : State) : Ans := atFabric s q (chCtlWrite s q v.toNat)
/-- CH_RELEASE: a write of CH_CTL (R53). -/
def execChRelease (q : Requester) (v : Word) (s : State) : Ans := atFabric s q (chCtlWrite s q v.toNat)
/-- CH_EN: a write of CH_CTL (R53). Log entry 21 (DESIGN CHOICE). -/
def execChEn (q : Requester) (v : Word) (s : State) : Ans := atFabric s q (chCtlWrite s q v.toNat)

/-- A write of CH_WDATA: four bytes at CH_WPTR (R51). -/
def wdataWrite (s : State) (q : Requester) (v : Nat) : State :=
  chGuard s q (fun s =>
    let p := fld s F.CH_WPTR_PTR
    if !chLoading s || 1048576 < p + 4 then s
    else
      let s := setFld s F.CH_WPTR_PTR (p + 4)
      { s with plan := { s.plan with staging := s.plan.staging ++ toBytes 4 v } })

/-- CH_WDATA (R51). -/
def execChWdata (q : Requester) (v : Word) (s : State) : Ans := atFabric s q (wdataWrite s q v.toNat)

/-- CHART_FETCH_DONE: all bytes of a fetched image have arrived (R51, R53). -/
def execChartFetchDone (image : List Byte) (s : State) : Ans :=
  if fld s F.CH_STATUS_STATE ≠ 2 ∨ image.length ≠ fld s F.CH_LEN_LEN then .next s
  else atDomain s 94 (beginSounding { s with plan := { s.plan with staging := image } })

/-- CHART_FETCH_FAIL: a completion error, or the timeout of 10 ms (R53). -/
def execChartFetchFail (s : State) : Ans :=
  if fld s F.CH_STATUS_STATE ≠ 2 then .next s else atDomain s 94 (refuseImage s ⟨0x7F, 0, 1, false⟩)

/-- SOUNDING_START: an image held in SOUNDING begins to be sounded when start-up has ended (R335). -/
def execSoundingStart (s : State) : Ans :=
  if !s.plan.soundHeld || !flag s F.CK_STATUS_UP then .next s
  else atDomain s 94 { s with plan := { s.plan with soundHeld := false } }

/-! ### The verdict of sounding, R53, R60, R61 -/

/-- The bytes of the image being sounded or applied. -/
def imageBytes (s : State) : List Byte := s.plan.staging.take (fld s F.CH_LEN_LEN)

/-- An image is accepted: its KIDs leave Free, and the apply begins (R53, R61). Log entry 23 (DESIGN CHOICE). -/
def acceptImage (s : State) (m : Image) : State :=
  let kids := (kidRanges s (after s m) m).zip (freeKids s)
  let s1 := kids.foldl (fun s e => setKid s e.2 { Kid.init with st := .active }) s
  let s2 := lbAdd s1 8 1
  let s3 := if m.full && fld s F.CH_GEN_GEN == 0xFFFFFFFE then lbAdd s2 12 1 else s2
  setFld { s3 with plan := { s3.plan with apply := some ⟨.accepted, m.full, kids, m.gen, [], [], []⟩ } } F.CH_STATUS_STATE 4

/-- Judge the image in the buffer; `bad` says that the buffer returned an uncorrectable word (R60). Log entry 21 (DESIGN CHOICE). -/
def soundImage (s : State) (bad : Bool) : State :=
  match decodeImage s (imageBytes s) with
  | .error f => refuseImage s f
  | .ok m =>
    match judgeImage s m with
    | some f => refuseImage s f
    | none => if bad then refuseImage s ⟨0x7F, 0, 2, false⟩ else acceptImage s m

/-- SOUNDING_DONE (R60). -/
def execSoundingDone (stagingBad : Bool) (s : State) : Ans :=
  if fld s F.CH_STATUS_STATE ≠ 3 ∨ s.plan.soundHeld then .next s else atDomain s 94 (soundImage s stagingBad)

/-- SOUNDING_TIMEOUT (R54, R60). -/
def execSoundingTimeout (s : State) : Ans :=
  if fld s F.CH_STATUS_STATE ≠ 3 ∨ s.plan.soundHeld then .next s else atDomain s 94 (refuseImage s ⟨0x7F, 0, 3, false⟩)

/-! ### Removal of coves, R67, R312 -/

/-- Whether a register offset belongs to a cove: its window, and its blocks and words on the manager's side (R25, R26). -/
def coveOffset (c off : Nat) : Bool :=
  let o := off % 2 ^ 32
  let blk (base len : Nat) : Bool := decide (base + c * len ≤ o ∧ o < base + (c + 1) * len)
  blk 0x1000000 0x100000 || blk 0x31000 0x40 || blk 0x80000 0x40 || blk 0x90000 0x20 || blk 0xA0000 0x20 || blk 0xD0000 0x80
    || blk 0xB0200 4 || blk 0x50040 4 || (List.range 6).any (fun i => o == 0xF0040 + i * 0x100 + c * 4)

/-- The bitmap lines of a cove that is removed: those that have been read are written back, as STOP does, and none stays
(R159, R310, R312). Log entry 17 (DESIGN CHOICE). -/
def endDirtyLog (s : State) (c : Nat) : State :=
  (s.xl.dlc.filter (fun d => d.cove == c && d.filled)).foldl dlWriteBack (dlDrop s (fun d => d.cove == c))

/-- A cove is removed: it is reset without scrub, and keeps no state; a reset of its function is over with it (R67, R311, R312).
Log entry 23 (DESIGN CHOICE). -/
def removeCove (s : State) (c : Nat) : State :=
  let s := if thas s.sc.mig c then endMigration s c 11 else s
  let s := endDirtyLog (resetParts s c true) c
  let s := { s with flds := tdrop s.flds (fun k => coveOffset c (k / 32)), ctrs := tdrop s.ctrs (coveOffset c) }
  let p := s.plan
  let s := { s with plan := { p with coves := tdel p.coves c, newDesc := tdel p.newDesc c, newShares := tdrop p.newShares (fun k => k / 8 == c) } }
  let s := { s with
    tide := { s.tide with masters := tdel s.tide.masters c },
    latches := tdrop s.latches (fun k => coveOffset c (k / 32 % 2 ^ 32)),
    sc := { s.sc with hangs := tdrop s.sc.hangs (fun k => k % 16 == c) } }
  endFlr s c

/-! ### Keys, R61, R66, R113, R114, R117 -/

/-- The KID a granule carries after the image: of its range, or 0 (R24, R66, R113). Log entry 21 (DESIGN CHOICE). -/
def kidAfter (s p : State) (a : Apply) (g : Nat) : Nat :=
  if (granOf p g).owner = 31 then 0
  else match rangeOf p g with
    | some (r, k) =>
      if !k.scramble then 0
      else match tfind a.kids r with
        | some kid => kid
        | none => match tfind s.mem.kr r with | some o => o.cur | none => 0
    | none => 0

/-- The ranges whose KIDs are released: deleted, no longer scrambled, or left without granules; all of them under a full
chart (R68, R114). Log entry 23 (DESIGN CHOICE). -/
def goneRanges (s p : State) (full : Bool) : List Nat :=
  (s.mem.kr.filter (fun e => full || match tfind p.mem.kr e.1 with
    | none => true
    | some k => e.2.scramble && (!k.scramble || (!(rangePlaces s e.2).isEmpty && (rangePlaces p k).isEmpty)))).map (·.1)

/-- Note that a KID has covered some granules (R114). -/
def coverKid (s : State) (kid : Nat) (places : List Place) : State :=
  if kid = 0 then s
  else let k := kidOf s kid; setKid s kid { k with covered := k.covered ++ places.filter (fun x => !k.covered.contains x) }

/-- The granules of a range that leave it, or take another KID or place, stay known to its KIDs; the sweep of a range that goes stops (R114, R117).
Log entry 23 (DESIGN CHOICE). -/
def leaveRange (p : State) (gone : List Nat) (s : State) (e : Nat × KeyRange) : State :=
  let k := e.2
  let old := rangePlaces s k
  let lost := old.filter (fun x => gone.contains e.1 || match tfind p.mem.kr e.1 with | some n => !(rangePlaces p n).contains x | none => true)
  let s := k.pred.toList.foldl (fun s kid => coverKid s kid lost) (coverKid s k.cur lost)
  if gone.contains e.1 then
    let s := { s with mem := { s.mem with rekeyQ := s.mem.rekeyQ.filter (· != e.1), sweepQ := s.mem.sweepQ.filter (· != e.1) }, sc := { s.sc with scrubQ := s.sc.scrubQ.filter (· != e.1) } }
    if k.phase = 2 then setKr (drainKid s k.cur e.1 old) e.1 { k with phase := 0, pred := none, sweepDone := false, queued := false, swept := [] }
    else if k.phase = 1 then setKr s e.1 { k with phase := 0, queued := false } else s
  else s

/-- The lines of a granule's place under MODE `new` that its place under MODE `old` holds too. -/
def keptLines (s : State) (g old new : Nat) : Nat :=
  (List.range granLines).foldl (fun d l =>
    let p := placedAt s ⟨g, new⟩ l
    if (placeLineAt (dataPer s) ⟨g, old⟩ p.1 p.2).isSome then setBit d l true else d) 0

/-- The zero-fills of an image: granules whose owner or KID changes, under the KID they will carry; the lines that a granule whose
MODE alone changes newly covers, under its KID; and places that are left, under KID 0. Under a full chart every granule in use
before or after is filled (R24, R66, R68, R98). Log entry 23 (DESIGN CHOICE). -/
def applyFills (s p : State) (a : Apply) : List (ZFill × FillFor) :=
  let changed (g : Nat) : Bool := a.full || (granOf s g).owner != (granOf p g).owner || writeKid s g != kidAfter s p a g
  let moved (g : Nat) : Bool := (granOf s g).mode != (granOf p g).mode
  let new := p.plan.gran.filter (fun e => e.2.owner != 31 && (changed e.1 || moved e.1))
  let left := s.plan.gran.filter (fun e => e.2.owner != 31 && ((granOf p e.1).owner == 31 || moved e.1))
  new.map (fun e => (⟨⟨e.1, e.2.mode⟩, kidAfter s p a e.1, if changed e.1 then 0 else keptLines s e.1 (granOf s e.1).mode e.2.mode⟩, .apply))
    ++ left.map (fun e => (⟨⟨e.1, e.2.mode⟩, 0, 0⟩, .apply))

/-! ### The switch of masks, R23, R59, R65, R81, R128, R296 -/

/-- Units, banks and targets that change owner; under a full chart, all that have one before or after (R59, R68). -/
def movedUnits (s p : State) (full : Bool) : List Nat :=
  let old := s.plan.owner
  let new := p.plan.owner
  ((old.filter (fun e => full || tfind new e.1 != some e.2)) ++ (new.filter (fun e => !thas old e.1))).map (·.1)

/-- Granules that change owner; under a full chart, all in use before or after (R59, R68). -/
def movedGrans (s p : State) (full : Bool) : List Nat :=
  let old := (s.plan.gran.filter (fun e => e.2.owner != 31 && (full || (granOf p e.1).owner != e.2.owner))).map (·.1)
  let new := (p.plan.gran.filter (fun e => e.2.owner != 31 && (granOf s e.1).owner == 31)).map (·.1)
  old ++ new

/-- A tap leaves the armed entries of the tide it listened to, which launch without it (R81, R84). Log entry 23 (DESIGN CHOICE). -/
def leaveSlate (s : State) (t : Nat) : State :=
  let m := (tapOf s t).src
  if !thas s.tide.masters m then s
  else
    let ms := masterOf s m
    setMaster s m { ms with
      await := ms.await.filter (· != t),
      slate := ms.slate.map (fun e => (e.1, if e.2.due.isNone then { e.2 with taps := e.2.taps.filter (· != t) } else e.2)) }

/-- The regulators that meter the master of an assignable resource (R16). Log entry 23 (DESIGN CHOICE). -/
def keyReguls (k : Nat) : List Nat := (keyUnits k).filterMap unitReg |>.dedup

/-- A regulator whose master moves takes its parameters with the move (R65, R289). Log entry 23 (DESIGN CHOICE). -/
def moveRegul (p : State) (s : State) (r : Nat) : State :=
  let o := regOwner s r
  let par := (regulOf p r).par
  startWindow (setRegul s r ((regulOf s r).install par (par.effective (if o < 16 then coveK s o else 256)))) r

/-- A flip none of whose slots is bound any more is over (R204, R215). Log entry 35 (DESIGN CHOICE). -/
def endEmptyFlips (s : State) : State :=
  s.en.flips.foldl (fun s e =>
    if e.2.armed || (flipEngine s e.1 e.2.mask).isSome then s
    else setFld { s with en := { s.en with flips := tdel s.en.flips e.1 } } (F.TU_FLIP_STATUS_OUTCOME e.1) 3) s

/-- The tables bound to a table update engine that leaves its cove are unbound, with their pending generations (R215).
Log entry 35 (DESIGN CHOICE). -/
def unbindAll (s : State) (n : Nat) : State :=
  let s := match s.en.bind with | some b => if b.eng = n then bindEnd s 2 else s | none => s
  endEmptyFlips ((s.en.slots.filter (fun e => e.2.eng == n)).foldl (fun s e => dropSlot s (e.1 / 64) (e.1 % 64)) s)

/-- A shoal pair comes to another tide, of which it has acknowledged no edge (R206). -/
def undrain (s : State) (pair : Nat) : State := { s with en := { s.en with drained := tdel s.en.drained pair } }

/-- An engine-class unit passes to its new owner (R81, R206, R215, R390). Log entry 23 (DESIGN CHOICE). -/
def moveUnit (p : State) (s : State) (k : Nat) : State :=
  let o := tfind p.plan.owner k
  match keyUnits k with
  | [] => s
  | u :: us =>
    let s := (u :: us).foldl emptyTlb s
    let s := if k / 4096 = kTU then unbindAll s (k % 4096) else if k / 4096 = kSH then undrain s (k % 4096) else s
    let s := match (if u / 4096 = 0 then occupant s u else none) with
      | some i => releasePort s i u (match (stepOf s i).bind Step.lastLive with | some l => l.mark && l.nr == 0 | none => false)
      | none => s
    let s := match unitClient u with
      | some t => tapTake (leaveSlate s t) t (o.getD 31)
      | none => s
    if u / 4096 = 0 && o.isSome then dueClear s u else s

/-- Targets pass to their new owners, all with their reset settings before any source is routed again (R296). -/
def moveTargets (s : State) (ts : List Nat) : State :=
  let withdraw (a : State × Bool) (t : Nat) : State × Bool := let (s, n) := withdrawTgt a.1 t false; (s, a.2 || n)
  beaconStep s (fun s => let (s1, n) := ts.foldl withdraw (ts.foldl resetTgt s, false); let (s2, m) := retryAll s1; (s2, n || m))

/-- A bank passes to its new owner with nothing written (R128). -/
def moveBank (s : State) (b : Nat) : State :=
  { s with mem := { s.mem with tpWritten := tdrop s.mem.tpWritten (fun k => k / 4096 == b) } }

/-- Fixed alternation for every hash unit whose pairs now belong to two coves (R172). -/
def splitArb (s : State) : State :=
  (List.range 16).foldl (fun s k => if splitOwned s k then setFlag s (F.HD_CTL_ARB k) true else s) s

/-- Switch every mask (R23): a moved granule is free until the apply ends (R24), and hash units shared by two coves alternate (R172).
Log entry 23 (DESIGN CHOICE). -/
def switchMasks (s p : State) (units grans : List Nat) : State :=
  let hide (e : Nat × Gran) : Nat × Gran := if grans.contains e.1 then (e.1, { e.2 with owner := 31, readers := 0 }) else e
  let s := splitArb { s with plan := { s.plan with owner := p.plan.owner, gran := p.plan.gran.map hide } }
  let s := moveTargets s ((units.filter (fun k => k / 4096 == kTgt)).map (· % 4096))
  let s := units.foldl (fun s k => if k / 4096 = kBank then moveBank s (k % 4096) else if k / 4096 = kTgt then s else moveUnit p s k) s
  let s := (units.flatMap keyReguls).foldl (moveRegul p) s
  s.tide.masters.foldl (fun s e => retune s e.1) s

/-! ### The apply, R61, R68 -/

/-- Loops of a full chart: each that the chart enables and whose plan changes starts afresh; a transition under way ends at a point
of the old plan (R68, R350). Log entry 24 (DESIGN CHOICE). -/
def startLoops (s p : State) : State :=
  let s1 := (List.range 6).foldl (fun s i =>
    let l := loopPlan p i
    let same := loopPlan s i == l && (fld s F.CK_STATUS_LOCK).testBit i
    let s := setFld s F.CK_STATUS_EN (setBit (fld s F.CK_STATUS_EN) i l.en)
    if same && l.en then s
    else
      let s := setFld s F.CK_STATUS_LOCK (setBit (fld s F.CK_STATUS_LOCK) i false)
      { s with ck := { s.ck with goal := tdel s.ck.goal i, badGates := tdel s.ck.badGates (4 + i), failed := s.ck.failed.filter (· != i) } }) s
  let q := p.plan
  let pl := { s1.plan with xaKhz := q.xaKhz, xbKhz := q.xbKhz, loops := q.loops, doms := q.doms, tpDoms := q.tpDoms }
  let busy (s : State) (i : Nat) : State := if (islOf s i).ph = .idle then s else setIsl s i { islOf s i with stale := true }
  (List.range 6).foldl busy { s1 with plan := { pl with ops := q.ops, shares := q.shares, life := q.life, devno := q.devno } }

/-- Whether every enabled loop of the plan runs (R68, R330). Log entry 23 (DESIGN CHOICE). -/
def loopsRun (s : State) : Bool := (List.range 6).all (fun i => !(loopPlan s i).en || (fld s F.CK_STATUS_LOCK).testBit i)

/-- Steps 1 to 3 of an apply: keys, masks and the start of the zero-fills (R61, R68). Log entry 23 (DESIGN CHOICE). -/
def beginApply (s : State) (a : Apply) (m : Image) : State :=
  let p := after s m
  let removed := if m.full then s.plan.coves.map (fun e => e.1) else m.removed
  let created := (p.plan.coves.map (fun e => e.1)).filter (fun c => m.full || !coveExists s c)
  let units := movedUnits s p m.full
  let grans := movedGrans s p m.full
  let gone := goneRanges s p m.full
  let fills := applyFills s p a
  let a := { a with step := if m.full then .loops else .filling, moved := units ++ grans.map granKey, gone := gone, created := created }
  let s1 := removed.foldl removeCove s
  let s2 := a.kids.foldl (fun s e => loadKey s e.2) s1
  let s3 := s2.mem.kr.foldl (leaveRange p gone) s2
  let s4 := switchMasks s3 p units grans
  let s5 := if m.full then startLoops s4 p else s4
  { s5 with plan := { s5.plan with apply := some a, fills := s5.plan.fills ++ fills } }

/-- APPLY_START: it waits while a health test of the TRNG fails and keys are needed (R61, R327). -/
def execApplyStart (s : State) : Ans :=
  match s.plan.apply, decodeImage s (imageBytes s) with
  | some a, .ok m =>
    if a.step != .accepted || (!a.kids.isEmpty && flag s F.FAB_SEC_STATUS_TRNG_FAIL) then .next s else atDomain s 94 (beginApply s a m)
  | _, _ => .next s

/-- The highest frequency an island's domains may have as a chart's clocks are enabled: that of its present point, or, while a
transition goes on, of the lower of its two points (R342, R350). Log entry 24 (DESIGN CHOICE). -/
def enableKhz (s : State) (i : Nat) : ℚ :=
  let x := islOf s i
  if x.ph = .idle then fmaxKhz s i (fld s (F.VS_ISL_STATE_OP i)) else (min x.held x.fmax * 1000 : Nat)

/-- Domains switch to the plan, each island at its START point, and every forced domain leaves the forced path (R43, R68, R338).
Log entry 24 (DESIGN CHOICE). -/
def enableClocks (s : State) : State :=
  let s := allDoms.foldl (fun s d => setDom s d { domNow s d with forced := false }) s
  let s := (List.range 6).foldl (fun s i =>
    let s := showCeil (setFlag s (F.VS_ISL_STATE_BOOT i) false) i
    let s := if (islOf s i).ph != .idle then s
      else
        let k := min (startOp s i) (ceilOp s i)
        writeMv (setFld (setIsl s i { islOf s i with stale := false }) (F.VS_ISL_STATE_OP i) k) i (opMv s i k)
    slewTo s i (multAt s i (enableKhz s i))) s
  let s := (allDoms.filter (· != 96)).foldl (fun s d =>
    let x := domNow s d
    let goal := ((planDom s d).1, divAt s (domIsland d) (enableKhz s (domIsland d)) d)
    setDom s d { x with next := if (x.src, x.div) = goal then none else some goal }) s
  (List.range 4).foldl (fun s w => setFld s (F.CK_FORCED_FORCED w) 0) s

/-- APPLY_CONTINUE: the enabled loops of a full chart run; domains switch and the tide masters start at count 0 (R68).
Log entry 23 (DESIGN CHOICE). -/
def execApplyContinue (s : State) : Ans :=
  match s.plan.apply, decodeImage s (imageBytes s) with
  | some a, .ok m =>
    if a.step != .loops || !loopsRun s then .next s
    else
      let s1 := enableClocks s
      let s2 := m.tides.foldl (fun s e => startMaster s e.1 e.2) ((List.range 100).foldl (fun s i => tapTake s (192 + i) 16) s1)
      let s3 := (m.tides.map (fun e => e.1)).foldl retune s2
      atDomain s 94 { s3 with plan := { s3.plan with apply := some { a with step := .filling } } }
  | _, _ => .next s

/-! ### The end of an apply, R59, R61, R65, R114, R305 -/

/-- Key ranges of the image: released KIDs go to Draining, and the others keep theirs (R61, R114). Log entry 23 (DESIGN CHOICE). -/
def finishRanges (s p : State) (a : Apply) : State :=
  let s1 := a.gone.foldl (fun s r => match tfind s.mem.kr r with
    | some k => if (kidOf s k.cur).st = .active then drainKid s k.cur r [] else s
    | none => s) s
  let kr := p.mem.kr.map (fun e =>
    let k := e.2
    match tfind a.kids e.1, (if a.full then none else tfind s1.mem.kr e.1) with
    | some kid, _ => (e.1, { k with cur := kid, pred := none, phase := 0, sweepDone := false, queued := false, stopped := false, use := 0, swept := [] })
    | none, some o =>
      if a.gone.contains e.1 then (e.1, { k with cur := 0, pred := none, phase := 0, sweepDone := false, queued := false, stopped := false, use := 0, swept := [] })
      else (e.1, { o with first := k.first, count := k.count, thresh := k.thresh, scramble := k.scramble, owner := k.owner })
    | none, none => (e.1, k))
  { s1 with mem := { s1.mem with kr := kr } }

/-- Bits of a 32-bit word of a map: instance `32 w + b` satisfies `p`. -/
def mapWord (p : Nat → Bool) (w : Nat) : Nat := (List.range 32).foldl (fun a b => if p (32 * w + b) then setBit a b true else a) 0

/-- The words of a map as fields. -/
def mapFields (f : Nat → Fld) (n : Nat) (p : Nat → Bool) : List (Fld × Nat) := (List.range n).map (fun w => (f w, mapWord p w))

/-- The DVFS byte of an island in a manifest (R27). -/
def dvfsByte (p : State) (c i : Nat) : Nat :=
  match tfind p.plan.shares (c * 8 + i) with
  | some x => x.opMin + x.opMax * 16 + 128
  | none => 0

/-- The manifest of a cove after the image, but for SEQ and GEN (R27). -/
def manifest (p : State) (per : Tbl Nat) (c : Nat) : List (Fld × Nat) :=
  let d := tgetD p.plan.coves c ⟨0, 0, false, 0⟩
  let own (k i : Nat) : Bool := ownerOf p k i == some c
  let gown (g : Nat) : Bool := (granOf p g).owner == c
  let gshr (g : Nat) : Bool := (granOf p g).owner == 16 && (granOf p g).readers.testBit c
  let kr (r : Nat) : Bool := match tfind p.mem.kr r with
    | some k => p.plan.gran.any (fun e => k.first ≤ e.1 && e.1 < k.first + k.count && e.2.reads c)
    | none => false
  let mode (w : Nat) : Nat := (List.range 16).foldl (fun a j =>
    let e := granOf p (16 * w + j)
    a + (if e.reads c then e.mode else 3) * 4 ^ j) 0
  let count (f : Nat → Bool) : Nat := (p.plan.gran.filter (fun e => f e.1)).length
  [(F.CV_MANIFEST_COVE c, c), (F.CV_MANIFEST_FORMAT c, 1), (F.CV_MANIFEST_VALID c, 1), (F.CV_MANIFEST_DEVNO c, p.plan.devno),
   (F.CV_MANIFEST_PART c, 0x16), (F.CV_MANIFEST_LABEL c, d.label), (F.CV_MANIFEST_CTX_MIN c, d.ctxMin), (F.CV_MANIFEST_PRIO c, d.prio),
   (F.CV_MANIFEST_RT_OK c, b2n d.rtOk), (F.CV_MANIFEST_VF c, c + 1), (F.CV_MANIFEST_TIDE_PERIOD c, tgetD per c 0),
   (F.CV_MANIFEST_XA_KHZ c, p.plan.xaKhz), (F.CV_MANIFEST_SH c, mapWord (own kSH) 0), (F.CV_MANIFEST_RM c, mapWord (own kRM) 0),
   (F.CV_MANIFEST_TU c, mapWord (own kTU) 0), (F.CV_MANIFEST_TK c, mapWord (own kTK) 0), (F.CV_MANIFEST_GOWN_N c, count gown),
   (F.CV_MANIFEST_GSHR_N c, count gshr), (F.CV_MANIFEST_RTBW c, (coveGuarantee p c).floor.toNat),
   (F.CV_MANIFEST_DVFS c 0, dvfsByte p c 0 + dvfsByte p c 1 * 2 ^ 8 + 2 ^ 16 * dvfsByte p c 2 + 2 ^ 24 * dvfsByte p c 3),
   (F.CV_MANIFEST_DVFS c 1, dvfsByte p c 4 + dvfsByte p c 5 * 2 ^ 8)]
  ++ mapFields (F.CV_MANIFEST_EP c) 4 (own kEP) ++ mapFields (F.CV_MANIFEST_IRQ c) 2 (own kTgt) ++ mapFields (F.CV_MANIFEST_KR c) 2 kr
  ++ mapFields (F.CV_MANIFEST_REG c) 8 (fun r => regOwner p r == c) ++ mapFields (F.CV_MANIFEST_TP c) 16 (own kBank)
  ++ mapFields (F.CV_MANIFEST_GOWN c) 144 gown ++ mapFields (F.CV_MANIFEST_GSHR c) 144 gshr
  ++ (List.range 288).map (fun w => (F.CV_MANIFEST_GMODE c w, mode w))

/-- Rewrite a manifest when something it shows has changed: SEQ advances by two and GEN is new (R28, R29). -/
def putManifest (s p : State) (per : Tbl Nat) (gen c : Nat) : State :=
  let l := manifest p per c
  if l.all (fun e => fld s e.1 == e.2 % 2 ^ e.1.w) then s
  else
    let s := l.foldl (fun s e => setFld s e.1 e.2) s
    setFld (setFld s (F.CV_MANIFEST_SEQ c) (fld s (F.CV_MANIFEST_SEQ c) + 2)) (F.CV_MANIFEST_GEN c) gen

/-- A cove enters service (R71, R305). -/
def createCove (per : Tbl Nat) (full : Bool) (s : State) (c : Nat) : State :=
  let s := setFlag (setCoveSt s c 1) (F.CV_MGR_STATUS_CLEAN c) true
  if full then s else retune (startMaster s c (tgetD per c 0)) c

/-- Parameters of existing coves wait for their next tide edges; new coves and the fabric take theirs at once (R65). -/
def postParams (s p : State) (a : Apply) : State :=
  let new (c : Nat) : Bool := a.created.contains c
  let later (r : Nat) : Bool := decide (regOwner p r < 16) && !new (regOwner p r)
  let s1 := (List.range 256).foldl (fun s r =>
    let g := regulOf s r
    let par := (regulOf p r).par
    if par = g.par then (if g.next.isSome then setRegul s r { g with next := none } else s)
    else if later r then setRegul s r { g with next := some par }
    else setRegul s r (g.install par (par.effective 256))) s
  let descs := p.plan.coves.filter (fun e => !new e.1 && tfind s.plan.coves e.1 != some e.2)
  let keep := (s.plan.coves.filter (fun e => coveExists p e.1)).map (fun e => (e.1, { e.2 with rtOk := (tgetD p.plan.coves e.1 e.2).rtOk }))
  let coves := (p.plan.coves.filter (fun e => new e.1)).foldl (fun t e => tput t e.1 e.2) keep
  let mine (k : Nat) : Bool := new (k / 8)
  let shares := (p.plan.shares.filter (fun e => mine e.1)).foldl (fun t e => tput t e.1 e.2) (tdrop s.plan.shares (fun k => !coveExists p (k / 8)))
  let newShares := p.plan.shares.filter (fun e => !mine e.1 && tfind s.plan.shares e.1 != some e.2)
  let pl := { s1.plan with coves := coves, newDesc := descs, shares := shares, newShares := newShares }
  let due (c : Nat) : Bool := thas descs c || newShares.any (fun e => e.1 / 8 == c) || (List.range 224).any (fun r => regOwner p r == c && (regulOf s1 r).next.isSome)
  let asked (c : Nat) : Bool := (masterOf s1 c).slate.any (fun e => e.2.act == .param c && e.2.due.isNone) || s1.tide.armReqs.any (fun x => x.act == .param c)
  let s2 := { s1 with plan := pl }
  ((s2.plan.coves.map (fun e => e.1)).filter (fun c => !new c && due c && !asked c)).foldl (fun s c => armEntry s ⟨c, .param c, 0, tapsOf s c⟩) s2

/-- Periods of existing tides change on their next edges (R65, R71). -/
def newPeriods (s : State) (m : Image) (a : Apply) : State :=
  m.tides.foldl (fun s e =>
    if a.full || a.created.contains e.1 || !thas s.tide.masters e.1 then s
    else let ms := masterOf s e.1; setMaster s e.1 { ms with periodMr := e.2, newPeriod := some (inCycles s e.2) }) s

/-- Steps whose tiles stand on units that have left their cove, or wait for one, are placed on the units it has now (R55). -/
def replaceSteps (s : State) : State := s.plan.coves.foldl (fun s e => rehome s e.1) s

/-- Steps 4 to 6 of an apply (R59, R61, R65). Log entry 23 (DESIGN CHOICE). -/
def finishApply (s : State) (a : Apply) (m : Image) : State :=
  let p := after s m
  let per := periodsAfter s m
  let s1 := finishRanges { s with plan := { s.plan with gran := p.plan.gran, fills := s.plan.fills.filter (fun f => f.2 != .applied) } } p a
  let s2 := flushDrained s1
  let s3 := newPeriods (postParams s2 p a) m a
  let s4 := a.created.foldl (createCove per a.full) s3
  let s5 := p.plan.coves.foldl (fun s e => putManifest s p per m.gen e.1) s4
  let s6 := setFld { s5 with plan := { s5.plan with apply := none } } F.CH_GEN_GEN m.gen
  let s7 := retargetAll (recompute (replaceSteps s6))
  let s8 := a.created.foldl (fun s c => setFld s (F.BW_CV_RTBW_RTBW c) (rtbw s c)) s7
  let s9 := showPending s8 (a.moved.foldl liftFence s8)
  serveHangs (verdict s9 ⟨0, 0, 0, false⟩)

/-- APPLY_FINISH: every zero-fill of the image is complete (R61). -/
def execApplyFinish (s : State) : Ans :=
  match s.plan.apply, decodeImage s (imageBytes s) with
  | some a, .ok m =>
    if a.step != .filling || s.plan.fills.any (fun f => f.2 == .apply) then .next s else atDomain s 94 (finishApply s a m)
  | _, _ => .next s

end Sys2Proof.Machine
end

