-- ==== Sys2Proof/Machine/Attn.lean ====
section
/-!
DEFINITION. The commands of the beacon and of the attention pins (chapter 11).
-/
namespace Sys2Proof.Machine

/-- The domain of the beacon (chapter 11). -/
abbrev bcDom := 94

/-- SOURCE_RAISE: a source is raised (R292); a reserved source, or one of a cove that does not exist, never is (R291). -/
def execSourceRaise (src : SourceId) (s : State) : Ans := atDomain s bcDom (raiseSrc s src.val)

/-- HOLDOFF_EXPIRE: the timer of a group expires (R293). -/
def execHoldoffExpire (g : Idx64) (s : State) : Ans := atDomain s bcDom (expireHoldoff s g.val)

/-- A target as a requester reaches it: a virtual function only through its own window, and only its cove's (BC_CV_). -/
def mayTgt (s : State) (q : Requester) (t : Nat) : Bool :=
  match q with
  | .vf c => tgtOwner s t == some c.val
  | _ => true

/-- A read that takes effect: its data and the state after it; a target not shown reads zero (R26, R298). Log entry 11 (DESIGN CHOICE). -/
def claimAs (s : State) (q : Requester) (t : Nat) : State :=
  if mayTgt s q t then let (w, s') := claimTgt s t; emit s' (.regData q w) else emit s (.regData q 0)

/-- BC_CLAIM: a claim read of target `t` (R298). -/
def execBcClaim (q : Requester) (t : TargetId) (s : State) : Ans := atHost s q (claimAs s q t.val)

/-- BC_EOI: a write of a source number to the end-of-interrupt register of target `t` (R299). -/
def execBcEoi (q : Requester) (t : TargetId) (v : Word) (s : State) : Ans :=
  atHost s q (if mayTgt s q t.val then eoiTgt s t.val (v.toNat % 1024) else s)

/-- BC_CV_SWI: each bit set raises a software source of the cove (R290). -/
def execBcCvSwi (q : Requester) (c : CoveId) (v : Word) (s : State) : Ans :=
  atWindow s q c (winBase c + 0x9088)
    ((bitList 16 v.toNat).foldl (fun s i => raiseSrc s (32 * c.val + 16 + i)) s)

/-- A write to the settings of a source. The manager sets every field of a fault or management source and PRIO and EN of
a completion source, whose TARGET is not used; a tenant sets PRIO and EN of its completion sources; a TARGET that the source may not name is
refused whole with BADCFG (R291, R294, BC_SRC_CFG, BC_CV_SRC). -/
def writeSrcCfg (s : State) (q : Requester) (i v : Nat) : State :=
  let x := srcOf s i
  let cls := srcClass i
  let prio := bits v 0 4
  let en := bit v 4
  let tgt := bits v 8 6
  match q with
  | .vf c => if cls = 0 && srcCove i = c.val && i < 512 then cfgSrc s i prio en x.target else s
  | _ =>
    if cls = 3 then s
    else if cls = 0 then cfgSrc s i prio en tgt
    else if mayName s i tgt then cfgSrc s i prio en tgt
    else setFlag s F.BC_STATUS_BADCFG true

/-- BC_SRC_CFG_WRITE (R291, R292, R294). -/
def execBcSrcCfgWrite (q : Requester) (src : SourceId) (v : Word) (s : State) : Ans :=
  atHost s q (writeSrcCfg s q src.val v.toNat)

/-- A write to the settings of a target; MODE is the manager's alone, and MODE 2 for a cove target is refused with BADCFG (R296, R297). -/
def writeTgtCfg (s : State) (q : Requester) (t v : Nat) : State :=
  let g := tgtOf s t
  if !mayTgt s q t then s
  else match q with
    | .vf _ => cfgTgt s t g.mode (bit v 2) (bits v 8 11)
    | _ =>
      if bits v 0 2 = 2 && (tgtOwner s t).isSome then setFlag s F.BC_STATUS_BADCFG true
      else cfgTgt s t (bits v 0 2) (bit v 2) (bits v 8 11)

/-- BC_TGT_CFG_WRITE (R296, R297). -/
def execBcTgtCfgWrite (q : Requester) (t : TargetId) (v : Word) (s : State) : Ans :=
  atHost s q (writeTgtCfg s q t.val v.toNat)

/-- BC_NMI_TEST: the test cause of NMI_OUT; ignored outside Maker and Integrator (R301). -/
def execBcNmiTest (q : Requester) (on : Bool) (s : State) : Ans :=
  atFabric s q (if isMakerOrIntegrator s then setFlag s F.BC_NMI_TEST on else s)

/-- IB_ATTENTION_PULSE: while attention stays asserted, a further pulse each 1 ms, none once slack has begun (R300). -/
def execIbAttentionPulse (s : State) : Ans :=
  atDomain s bcDom (if attention s && ibPulses s then emit s .ibPulse else s)

end Sys2Proof.Machine
end

