-- ==== Sys2Proof/Machine/Record.lean ====
section
/-!
DEFINITION. The sections of a migration record as bytes: a form of the model's own, which reads back as what was written
(R321, R322).
-/
namespace Sys2Proof.Machine

/-! ### Forms -/

/-- A form of a type as bytes: what is written reads back, and leaves the bytes that follow. -/
structure Form (α : Type) where
  put : α → List Byte
  get : List Byte → Option (α × List Byte)
  back : ∀ x l, get (put x ++ l) = some (x, l)

/-- A number in digits of seven bits, the lowest first, with bit 7 set on all but the last; `fuel` bounds the digits. -/
def putNat : Nat → Nat → List Byte
  | 0, n => [BitVec.ofNat 8 n]
  | fuel + 1, n => if n < 128 then [BitVec.ofNat 8 n] else BitVec.ofNat 8 (128 + n % 128) :: putNat fuel (n / 128)

/-- A number read from the front of a list. -/
def getNat : List Byte → Option (Nat × List Byte)
  | [] => none
  | b :: l => if b.toNat < 128 then some (b.toNat, l) else (getNat l).map (fun r => (b.toNat - 128 + 128 * r.1, r.2))

theorem getNat_putNat (l : List Byte) : ∀ (fuel n : Nat), n < 2 ^ (fuel + 1) → getNat (putNat fuel n ++ l) = some (n, l)
  | 0, n, h => by
    have h2 : n < 2 := h
    have h3 : (BitVec.ofNat 8 n).toNat = n := by simp; omega
    simp only [putNat, List.singleton_append, getNat, h3]
    rw [if_pos (by omega)]
  | fuel + 1, n, h => by
    unfold putNat
    by_cases c : n < 128
    · have h3 : (BitVec.ofNat 8 n).toNat = n := by simp; omega
      simp only [if_pos c, List.singleton_append, getNat, h3]
    · have h3 : (BitVec.ofNat 8 (128 + n % 128)).toNat = 128 + n % 128 := by simp; omega
      have h4 : n / 128 < 2 ^ (fuel + 1) := by
        have : 2 ^ (fuel + 1 + 1) = 2 * 2 ^ (fuel + 1) := by ring
        omega
      simp only [if_neg c, List.cons_append, getNat, h3, getNat_putNat l fuel (n / 128) h4]
      rw [if_neg (by omega)]
      simp only [Option.map_some, Option.some.injEq, Prod.mk.injEq, and_true]
      omega

/-- The form of a number. -/
def Form.nat : Form Nat where
  put n := putNat n.log2 n
  get := getNat
  back n l := getNat_putNat l n.log2 n Nat.lt_log2_self

/-- The form of a type that another one's values name. -/
def Form.via {α β : Type} (c : Form α) (out : β → α) (into : α → β) (h : ∀ b, into (out b) = b) : Form β where
  put b := c.put (out b)
  get l := (c.get l).map (fun r => (into r.1, r.2))
  back b l := by simp [c.back, h]

/-- The form of a pair. -/
def Form.pair {α β : Type} (a : Form α) (b : Form β) : Form (α × β) where
  put x := a.put x.1 ++ b.put x.2
  get l := (a.get l).bind (fun r => (b.get r.2).map (fun q => ((r.1, q.1), q.2)))
  back x l := by simp [List.append_assoc, a.back, b.back]

/-- As many values as a number says, from the front of a list. -/
def getMany {α : Type} (c : Form α) : Nat → List Byte → Option (List α × List Byte)
  | 0, l => some ([], l)
  | n + 1, l => (c.get l).bind (fun r => (getMany c n r.2).map (fun q => (r.1 :: q.1, q.2)))

theorem getMany_put {α : Type} (c : Form α) (l : List Byte) :
    ∀ xs : List α, getMany c xs.length (xs.flatMap c.put ++ l) = some (xs, l)
  | [] => rfl
  | x :: xs => by simp [getMany, List.flatMap_cons, List.append_assoc, c.back, getMany_put c l xs]

/-- The form of a list. -/
def Form.list {α : Type} (c : Form α) : Form (List α) where
  put xs := Form.nat.put xs.length ++ xs.flatMap c.put
  get l := (Form.nat.get l).bind (fun r => getMany c r.1 r.2)
  back xs l := by simp [List.append_assoc, Form.nat.back, getMany_put]

/-- The form of a truth value. -/
def Form.bool : Form Bool := Form.nat.via (fun b => if b then 1 else 0) (fun n => n == 1) (by decide)

/-- The form of a value that may be absent. -/
def Form.opt {α : Type} (c : Form α) : Form (Option α) := c.list.via Option.toList List.head? (by intro b; cases b <;> rfl)

/-- The form of a bit vector. -/
def Form.bits (w : Nat) : Form (BitVec w) := Form.nat.via BitVec.toNat (BitVec.ofNat w) (by simp)

/-- The form of a table. -/
def Form.tbl {α : Type} (c : Form α) : Form (Tbl α) := (Form.nat.pair c).list

/-! ### The structures of a record -/

/-- A pair of numbers. -/
def Form.nat2 : Form (Nat × Nat) := Form.nat.pair .nat
/-- Three numbers. -/
def Form.nat3 : Form (Nat × Nat × Nat) := Form.nat.pair .nat2
/-- Four numbers. -/
def Form.nat4 : Form (Nat × Nat × Nat × Nat) := Form.nat.pair .nat3
/-- Three truth values. -/
def Form.bool3 : Form (Bool × Bool × Bool) := Form.bool.pair (Form.bool.pair .bool)

/-- A pinned image. -/
def formPin : Form GraphPin :=
  (Form.nat4.pair (Form.nat.pair .bool)).via
    (fun x => ((x.handle, x.base, x.size, x.ctx), x.gen, x.anyctx)) (fun y => ⟨y.1.1, y.1.2.1, y.1.2.2.1, y.1.2.2.2, y.2.2, y.2.1⟩)
    (fun _ => rfl)

/-- A queue entry. -/
def formEntry : Form QEntry :=
  (Form.nat4.pair ((Form.bool.pair formPin.opt).pair ((Form.nat2.opt.pair Form.nat2.opt).pair Form.nat.list))).via
    (fun x => ((x.id, x.ctx, x.target, x.accepted), (x.graph, x.image), (x.cev, x.wev), x.refs))
    (fun y => ⟨y.1.1, y.1.2.1, y.2.1.1, y.1.2.2.1, y.2.1.2, y.2.2.1.1, y.2.2.1.2, y.2.2.2, y.1.2.2.2⟩) (fun _ => rfl)

/-- The phase of a queue. -/
def formQPhase : Form QPhase :=
  Form.nat.via (fun x => match x with | .free => 0 | .active => 1 | .draining => 2)
    (fun n => if n = 0 then .free else if n = 1 then .active else .draining) (by intro b; cases b <;> rfl)

/-- A queue. -/
def formQueue : Form Queue :=
  ((formQPhase.pair Form.bool3).pair ((Form.nat3.pair Form.nat3).pair ((Form.nat2.pair Form.nat2.opt).pair (formEntry.list.pair Form.nat.list)))).via
    (fun x => ((x.ph, x.rt, x.abort, x.seeded), ((x.share, x.reserve, x.tail), x.used, x.entitled, x.vt),
      ((x.avg, x.dev), x.onFree), x.fifo, x.await))
    (fun y => ⟨y.1.1, y.1.2.1, y.2.1.1.1, y.2.1.1.2.1, y.2.2.2.1, y.2.1.1.2.2, y.1.2.2.1, y.2.2.1.2, y.2.2.2.2, y.2.1.2.2.2,
      y.2.1.2.1, y.2.1.2.2.1, y.2.2.1.1.1, y.2.2.1.1.2, y.1.2.2.2⟩) (fun _ => rfl)

/-- A released entry. -/
def formRun : Form Run :=
  ((Form.nat3.pair formEntry).pair ((Form.bool.pair Form.bool3).pair (Form.nat.list.pair (Form.nat.opt.pair Form.nat.opt)))).via
    (fun x => (((x.cove, x.queue, x.estSum), x.ent), (x.opened, x.finished, x.fallback, x.judged), x.todo, x.deadline, x.first))
    (fun y => ⟨y.1.1.1, y.1.1.2.1, y.1.2, y.2.1.1, y.2.2.1, y.2.1.2.1, y.2.1.2.2.1, y.2.2.2.1, y.2.2.2.2, y.2.1.2.2.2, y.1.1.2.2⟩)
    (fun _ => rfl)

/-- An entry of a live map. -/
def formLive : Form LiveEnt :=
  (Form.nat3.pair (Form.bool.pair .bool)).via (fun x => ((x.ranges, x.nr, x.bytes), x.mark, x.cheap))
    (fun y => ⟨y.1.1, y.1.2.1, y.2.1, y.2.2, y.1.2.2⟩) (fun _ => rfl)

/-- A live range. -/
def formRange : Form LiveRange :=
  (Form.nat3.pair Form.bool).via (fun x => ((x.addr, x.leng, x.len), x.scratch)) (fun y => ⟨y.1.1, y.2, y.1.2.1, y.1.2.2⟩) (fun _ => rfl)

/-- A range being moved. -/
def formMove : Form SpillMove :=
  (Form.nat3.pair formRange).via (fun x => ((x.unit, x.at', x.moved), x.range)) (fun y => ⟨y.1.1, y.2, y.1.2.1, y.1.2.2⟩) (fun _ => rfl)

/-- A tile's state. -/
def formTileSt : Form TileSt :=
  Form.nat.via (fun x => match x with | .waiting => 0 | .running => 1 | .complete => 2)
    (fun n => if n = 0 then .waiting else if n = 1 then .running else .complete) (by intro b; cases b <;> rfl)

/-- A tile's entry. -/
def formTile : Form TileEnt :=
  (Form.nat4.pair Form.nat4).via (fun x => ((x.cmd, x.kind, x.leng, x.chunk), x.stage, x.affKind, x.affIdx, x.est))
    (fun y => ⟨y.1.1, y.1.2.1, y.1.2.2.1, y.1.2.2.2, y.2.1, y.2.2.1, y.2.2.2.1, y.2.2.2.2⟩) (fun _ => rfl)

/-- The phase of a step. -/
def formPhase : Form StepPh :=
  Form.nat.via
    (fun x => match x with
      | .placed => 0 | .running => 1 | .stopping => 2 | .saving b => if b then 4 else 3 | .preempted b => if b then 6 else 5
      | .resuming => 7 | .retiring => 8)
    (fun n => if n = 0 then .placed else if n = 1 then .running else if n = 2 then .stopping else if n = 3 then .saving false
      else if n = 4 then .saving true else if n = 5 then .preempted false else if n = 6 then .preempted true
      else if n = 7 then .resuming else .retiring)
    (by intro b; cases b with | saving y => cases y <;> rfl | preempted y => cases y <;> rfl | _ => rfl)

/-- A step. -/
def formStep : Form Step :=
  ((Form.nat4.pair Form.nat4).pair ((Form.nat4.pair Form.nat4).pair ((Form.nat4.pair Form.nat2).pair (((Form.bool.pair Form.bool3).pair
    formPhase).pair ((formLive.list.pair (formTile.pair formTileSt).list).pair ((Form.nat.tbl.pair (Form.nat.tbl.pair Form.nat.tbl)).pair
    ((Form.nat.list.pair (Form.nat.list.pair Form.nat.list)).pair (formMove.list.pair formRange.list)))))))).via
    (fun x => (((x.cove, x.queue, x.entry, x.ctx), x.desc, x.nstage, x.nchunk, x.skind),
      ((x.liveDva, x.chunk, x.stage, x.seq), x.accepted, x.startAt, x.since, x.tokens),
      ((x.fallback, x.deadlineNs, x.est, 0), 0, 0), ((x.placed, x.cheapOnly, x.err, x.started), x.ph), (x.live, x.tiles),
      (x.map, x.tslots, x.vec), (x.ctxs, x.units, x.noted), x.moves, x.saved))
    (fun y => ⟨y.1.1.1, y.1.1.2.1, y.1.1.2.2.1, y.1.1.2.2.2, y.1.2.1, y.1.2.2.1, y.1.2.2.2.1, y.1.2.2.2.2,
      y.2.1.1.1, y.2.2.2.2.1.1, y.2.2.2.2.1.2, y.2.2.2.1.2, y.2.2.2.2.2.1.1, y.2.2.2.1.1.1, y.2.2.2.2.2.1.2.1,
      y.2.2.2.2.2.2.1.1, y.2.2.2.2.2.1.2.2, y.2.1.1.2.1, y.2.1.1.2.2.1, y.2.2.2.1.1.2.1, y.2.2.2.1.1.2.2.1, y.2.1.1.2.2.2,
      y.2.2.2.1.1.2.2.2, y.2.1.2.1, y.2.1.2.2.1, y.2.1.2.2.2.1, y.2.2.2.2.2.2.1.2.1, y.2.2.2.2.2.2.2.1, y.2.2.2.2.2.2.2.2,
      y.2.2.2.2.2.2.1.2.2, y.2.1.2.2.2.2, y.2.2.1.1.1, y.2.2.1.1.2.1, y.2.2.1.1.2.2.1⟩) (fun _ => rfl)

/-- A table descriptor. -/
def formTable : Form TableDesc :=
  ((Form.nat4.pair Form.nat4).pair ((Form.nat4.pair Form.nat2).pair (Form.bool3.pair Form.nat.list))).via
    (fun x => (((x.base, x.rows, x.fmt, x.dimb), x.stride, x.guard, x.hotCount, x.hotBase),
      ((x.escBase, x.escRows, x.ecells, x.ecellBase), x.seed, x.ovlDesc), (x.hash, x.idx64, x.ovl), x.codebook))
    (fun y => ⟨y.1.1.1, y.1.1.2.1, y.1.1.2.2.1, y.1.1.2.2.2, y.1.2.1, y.1.2.2.1, y.2.2.1.1, y.2.2.1.2.1, y.2.2.1.2.2, y.1.2.2.2.1,
      y.1.2.2.2.2, y.2.1.1.1, y.2.1.1.2.1, y.2.1.1.2.2.1, y.2.1.1.2.2.2, y.2.1.2.1, y.2.1.2.2, y.2.2.2⟩) (fun _ => rfl)

/-- An overlay descriptor. -/
def formOvl : Form OvlDesc :=
  (Form.nat4.pair Form.nat4).via (fun x => ((x.index, x.arena, x.arenaRows, x.log2nb), x.tslot, x.compact, x.iseed, x.freemap))
    (fun y => ⟨y.1.1, y.1.2.1, y.1.2.2.1, y.1.2.2.2, y.2.1, y.2.2.1, y.2.2.2.1, y.2.2.2.2⟩) (fun _ => rfl)

/-- An entry being folded. -/
def formFold : Form Fold :=
  (Form.nat3.pair Form.bool).via (fun x => ((x.row, x.born, x.arena), x.done)) (fun y => ⟨y.1.1, y.1.2.1, y.1.2.2, y.2⟩) (fun _ => rfl)

/-- A bound slot. -/
def formSlot : Form TSlot :=
  ((Form.nat4.pair Form.nat2).pair ((formTable.pair formOvl).pair (Form.bool3.pair (formFold.opt.pair Form.nat.list)))).via
    (fun x => (((x.eng, x.ctx, x.desc, x.pub), x.entries, x.pending), (x.tbl, x.ovl), (x.incomplete, x.compacting, x.auto), x.folding, x.skip))
    (fun y => ⟨y.1.1.1, y.1.1.2.1, y.1.1.2.2.1, y.2.1.1, y.2.1.2, y.1.1.2.2.2, y.2.2.1.1, y.2.2.1.2.1, y.2.2.1.2.2, y.2.2.2.1,
      y.2.2.2.2, y.1.2.1, y.1.2.2⟩) (fun _ => rfl)

/-- A wait. -/
def formWait : Form EvWait :=
  (Form.nat3.pair Form.bool).via (fun x => ((x.event, x.target, x.tag), x.cp)) (fun y => ⟨y.1.1, y.1.2.1, y.1.2.2, y.2⟩) (fun _ => rfl)

/-- A record that awaits ring space. -/
def formRing : Form RingRec :=
  (Form.nat4.pair Form.bool).via (fun x => ((x.tag, x.event, x.kind, x.value), x.slot)) (fun y => ⟨y.1.1, y.1.2.1, y.1.2.2.1, y.1.2.2.2, y.2⟩)
    (fun _ => rfl)

/-- The heads of an object table. -/
def formHeads : Form ObHeads := Form.nat3.via (fun x => (x.free, x.head, x.tail)) (fun y => ⟨y.1, y.2.1, y.2.2⟩) (fun _ => rfl)

/-! ### The record -/

/-- What the sections of a migration record hold (R321), with the heads of the object table. Entries, steps and slots name
no physical engine: a table slot's `eng`, and the units of a step's mapping, count the cove's own engines of the kind. -/
structure Snapshot where
  queues : Tbl Queue
  runs : List Run
  steps : Tbl Step
  killed : Tbl Bool
  acct : Tbl Nat
  slots : Tbl TSlot
  waits : List EvWait
  rings : List RingRec
  heads : Option ObHeads
  live : Nat
  zombie : Nat
  ringProd : Nat
  ringCons : Nat
  wrackProd : Nat
  wrackCons : Nat
  wrackSeq : Nat
  tidepool : List Line
deriving DecidableEq, Repr

/-- The form of a record's sections. Log entry 42 (DESIGN CHOICE). -/
def formSnapshot : Form Snapshot :=
  ((formQueue.tbl.pair (formRun.list.pair formStep.tbl)).pair ((Form.bool.tbl.pair (Form.nat.tbl.pair formSlot.tbl)).pair
    ((formWait.list.pair (formRing.list.pair formHeads.opt)).pair ((Form.nat4.pair Form.nat3).pair (Form.bits 512).list)))).via
    (fun x => ((x.queues, x.runs, x.steps), (x.killed, x.acct, x.slots), (x.waits, x.rings, x.heads),
      ((x.live, x.zombie, x.ringProd, x.ringCons), x.wrackProd, x.wrackCons, x.wrackSeq), x.tidepool))
    (fun y => ⟨y.1.1, y.1.2.1, y.1.2.2, y.2.1.1, y.2.1.2.1, y.2.1.2.2, y.2.2.1.1, y.2.2.1.2.1, y.2.2.1.2.2, y.2.2.2.1.1.1,
      y.2.2.2.1.1.2.1, y.2.2.2.1.1.2.2.1, y.2.2.2.1.1.2.2.2, y.2.2.2.1.2.1, y.2.2.2.1.2.2.1, y.2.2.2.1.2.2.2, y.2.2.2.2⟩)
    (fun _ => rfl)

/-- The sections of a record as bytes (R321). Log entry 42 (DESIGN CHOICE). -/
def packRecord (x : Snapshot) : List Byte := formSnapshot.put x

/-- What the sections of a record say, where they are well formed (R322). Log entry 42 (DESIGN CHOICE). -/
def unpackRecord (b : List Byte) : Option Snapshot := (formSnapshot.get b).map (·.1)

/-- A record reads back as what was written (R321, R322). -/
theorem unpack_pack (x : Snapshot) (l : List Byte) : unpackRecord (packRecord x ++ l) = some x := by
  simp [unpackRecord, packRecord, formSnapshot.back]

end Sys2Proof.Machine
end

