-- ==== Sys2Proof/Machine/Migrate.lean ====
section
/-!
DEFINITION. Migration: the sealed copies of a cove's pages, the export and the import of its record (R320–R322).
-/
namespace Sys2Proof.Machine

/-! ### The record, R321 -/

/-- Units of a kind that a cove owns, ascending (R15). -/
def ownedOf (s : State) (c kind : Nat) : List Nat := (List.range (kindCount kind)).filter (fun i => ownerOf s kind i == some c)

/-- Granules that a cove owns, ascending (R320). -/
def ownedGrans (s : State) (c : Nat) : List Nat := (s.plan.gran.filter (fun e => e.2.owner == c)).map (·.1)

/-- The relative index of a granule among the cove's; 0x1FFF for none (R321). -/
def relGranule (s : State) (c g : Nat) : Nat :=
  let l := ownedGrans s c
  if l.contains g then l.idxOf g else 0x1FFF

/-- The units of a tile kind that a cove owns, ascending (R15, R248). -/
def unitsOf (s : State) (c kind : Nat) : List Nat :=
  (List.range (kindMax kind)).filterMap (fun i => if unitOwner s (kindUnit kind i) == some c then some (kindUnit kind i) else none)

/-- A step as a record holds it: waiting to be placed, or to be mapped again at its resumption, with each logical engine's unit by
its place among the cove's own (R253, R321, R322). Log entry 42 (DESIGN CHOICE). -/
def Step.exported (s : State) (x : Step) : Step :=
  { x with map := x.map.map (fun e => (e.1, (unitsOf s x.cove (e.1 / 128)).idxOf e.2)), placed := false, moves := [],
           ph := match x.ph with | .running => .preempted false | .stopping => .preempted false | p => p }

/-- A step of a record, with its mapping on the units of the cove it comes to (R321, R322). Log entry 42 (DESIGN CHOICE). -/
def Step.imported (s : State) (c : Nat) (x : Step) : Step :=
  { x with cove := c, map := x.map.filterMap (fun e => ((unitsOf s c (e.1 / 128))[e.2]?).map (fun u => (e.1, u))) }

/-- The lines of a cove's tidepool banks, in ascending bank order (R128, R321). -/
def bankLines (s : State) (c : Nat) : List Line :=
  (ownedOf s c kBank).flatMap (fun b => (List.range 4096).map (fun l =>
    if tpWrittenBit s b l then lineOfWords ((List.range 8).map (fun k => (tpWord s b (8 * l + k)).data)) else 0))

/-- What a cove's record holds. Log entry 42 (DESIGN CHOICE). -/
def snapshot (s : State) (c : Nat) : Snapshot :=
  let tu := ownedOf s c kTU
  { queues := (s.ob.queues.filter (fun e => e.1 / 64 == c)).map (fun e => (e.1 % 64, e.2)),
    runs := s.sq.runs.filter (fun r => r.cove == c),
    steps := (stepsWhere s (fun x => x.cove == c)).map (fun e => (e.1, e.2.exported s)),
    killed := (s.ob.killed.filter (fun e => e.1 / 4096 == c)).map (fun e => (e.1 % 4096, e.2)),
    acct := (s.ctrs.filter (fun e => inWindow c e.1 && decide (2 ^ 32 ≤ e.1))).map (fun e => (e.1 - winBase c, e.2)),
    slots := (s.en.slots.filter (fun e => e.1 / 64 == c)).map (fun e => (e.1 % 64, { e.2 with eng := tu.idxOf e.2.eng })),
    waits := waitsOf s c, rings := ringWait s c, heads := tfind s.ob.heads c,
    live := fld s (F.OB_CV_LIVE c), zombie := fld s (F.OB_CV_ZOMBIE c),
    ringProd := fld s (F.EV_CV_CRING_PROD c), ringCons := fld s (F.EV_CV_CRING_CONS c),
    wrackProd := fld s (F.XL_WQ_PROD_PROD c), wrackCons := fld s (F.XL_WQ_CONS_CONS c),
    wrackSeq := tgetD s.xl.wqSeq c 0, tidepool := bankLines s c }

/-- Whether a cove holds a real-time queue, one that drains among them. -/
def holdsRt (s : State) (c : Nat) : Bool := s.ob.queues.any (fun e => e.1 / 64 == c && e.2.rt && e.2.ph != .free)

/-- The 64-byte header of a record of `len` bytes (R321). -/
def recordHeader (s : State) (c len : Nat) : List Byte :=
  let n (k : Nat) : List Byte := toBytes 1 (ownedOf s c k).length
  let spill := flag s (F.SQ_SPILL_STATUS_READY c)
  let h := toBytes 4 0x47494D50 ++ toBytes 2 1 ++ toBytes 2 (fld s F.FAB_SEC_STATUS_RUN_SVN) ++ toBytes 2 (fld s (F.CV_MANIFEST_DEVNO c))
    ++ toBytes 1 c ++ toBytes 1 (b2n (holdsRt s c)) ++ toBytes 4 len ++ n kEP ++ n kSH ++ n kRM ++ n kTU ++ n kTK ++ [0]
    ++ toBytes 2 (ownedOf s c kBank).length ++ toBytes 2 (ownedGrans s c).length
    ++ toBytes 2 (relGranule s c (fld s (F.OB_AREA_GRANULE c))) ++ toBytes 1 (fld s (F.OB_AREA_LOG2 c)) ++ [0]
    ++ toBytes 2 (if spill then relGranule s c (fld s (F.SQ_SPILL_GRANULE c)) else 0x1FFF)
    ++ toBytes 1 (if spill then fld s (F.SQ_SPILL_COUNT c) else 0)
  h ++ List.replicate (64 - h.length) 0

/-- The record of a cove: header and sections (R321). Log entry 42 (DESIGN CHOICE). -/
def recordOf (s : State) (c : Nat) : List Byte :=
  let p := packRecord (snapshot s c)
  recordHeader s c (64 + p.length) ++ p

/-! ### Chunks of a migration operation -/

/-- Parts of an operation, one after the other, until one answers a code other than 0. -/
def seqParts : List (State → Nat × State) → State → Nat × State
  | [], s => (0, s)
  | f :: fs, s =>
    match f s with
    | (0, s) => seqParts fs s
    | r => r

/-- One access of a migration copy: management tag, untranslated, after what waits on the line, and counted as unregulated where it
is stack traffic (R101, R276, R320). -/
def migAccess (s : State) (fpa : Nat) (acc : Access) : Option Resp × State :=
  accessNow (mgmtCharge s fpa) ⟨16, bxUnit 0, fpa, acc, none, .demand⟩

/-- The 4,096 bytes at an FPA; a line that cannot be read gives its all-zero data (R144). -/
def migRead (s : State) (fpa : Nat) : List Byte × State :=
  (List.range 64).foldl (fun (a : List Byte × State) k =>
    let (r, s) := migAccess a.2 (fpa + 64 * k) .read
    (a.1 ++ (match r with | some (.data l) => lineBytes l | _ => List.replicate 64 0), s)) ([], s)

/-- Write 4,096 bytes at an FPA. -/
def migWrite (s : State) (fpa : Nat) (data : List Byte) : State :=
  (List.range 64).foldl (fun s k =>
    (migAccess s (fpa + 64 * k) (.write (BitVec.allOnes 64) (lineOfBytes (data.drop (64 * k))))).2) s

/-- FPA of a cove-relative page; nothing outside the cove's granules (R320). -/
def pageFpa (s : State) (c j : Nat) : Option Nat := (ownedGrans s c)[j / 4096]?.map (fun g => 2 ^ 28 * g + j % 4096 * 65536)

/-- Seal one chunk and write it to the host; `fail` names the chunk the host bus refuses (R317, R320). Log entry 42 (DESIGN CHOICE). -/
def migSend (o : MigOp) (c : Nat) (fail : Option Nat) (i addr kind : Nat) (data : List Byte) (s : State) : Nat × State :=
  match sessionOf s c with
  | none => (8, s)
  | some x =>
    if !x.up then (8, s)
    else if counterStop ≤ lastCounter s c true then (10, s)
    else
      let (ok, s) := sendChunk s x 0 c addr kind (o.host + 4096 * i) (o.tag + 32 * i) data
      (if ok && fail != some i then 0 else 9, s)

/-- One chunk of OP 1 (R320). -/
def outPart (o : MigOp) (c : Nat) (fail : Option Nat) (i : Nat) (s : State) : Nat × State :=
  if !sessionUp s c then (8, s)
  else match pageFpa s c (o.page + i / 16) with
    | none => (7, s)
    | some f =>
      let (d, s) := migRead s (f + 4096 * (i % 16))
      migSend o c fail i (65536 * (o.page + i / 16) + 4096 * (i % 16)) 1 d s

/-- The code of an operation whose status the spec does not name: it is drawn as a free value.
Log entries 2 (DESIGN CHOICE), 42 (DESIGN CHOICE). -/
def openCode : Nat := 16

/-- The reads of a chunk and its tag entry on the host bus, under the physical function's identity (R304, R317). -/
def chunkRead (o : MigOp) (len i : Nat) (s : State) : State := hostRead (hostRead s (o.host + 4096 * i) len) (o.tag + 32 * i) 32

/-- One chunk of OP 2 (R317, R320). Log entry 42 (DESIGN CHOICE). -/
def inPart (o : MigOp) (c : Nat) (fail : Option Nat) (chunks : List (List Byte × BitVec 256)) (i : Nat) (s : State) : Nat × State :=
  match sessionOf s c, pageFpa s c (o.page + i / 16) with
  | none, _ => (8, s)
  | some _, none => (7, s)
  | some x, some f =>
    if !x.up then (8, s)
    else if counterStop ≤ lastCounter s c false then (10, s)
    else if fail = some i then (9, s)
    else match chunks[i]? with
      | none => (9, s)
      | some (data, entry) =>
        match acceptChunk (chunkRead o 4096 i s) x c (65536 * (o.page + i / 16) + 4096 * (i % 16)) 1 (data.take 4096) entry with
        | (.ok pt, s) => (0, migWrite s (f + 4096 * (i % 16)) pt)
        | (.error _, s) => (openCode, s)

/-- Whether a cove is QUIESCED after FINISH. -/
def quiescedFinish (s : State) (c : Nat) : Bool := coveSt s c == 3 && !quiesceAbort s c

/-- OP 3: the record in chunks of KIND 2 (R321). -/
def exportRecord (o : MigOp) (c : Nat) (fail : Option Nat) (s : State) : Nat × State :=
  if !quiescedFinish s c then (11, s)
  else
    let r := recordOf s c
    let cs := chunksOf 4096 r.length r
    let (code, s) := seqParts (cs.zipIdx.map (fun p => migSend o c fail p.2 (4096 * p.2) 2 p.1)) s
    (code, if code = 0 then setFld s (F.CV_MIG_LEN_LEN c) r.length else s)

/-! ### Import, R322 -/

/-- Open the chunks of a record in order; nothing when one fails (R317, R322). Log entry 42 (DESIGN CHOICE). -/
def openRecord (x : Session) (c len : Nat) : List (List Byte × BitVec 256) → Nat → Nat → Option (Nat × List Byte)
  | [], last, i => if len ≤ 4096 * i then some (last, []) else none
  | (data, entry) :: rest, last, i =>
    if len ≤ 4096 * i then some (last, [])
    else match openChunk x c (4096 * i) 2 (data.take (min 4096 (len - 4096 * i))) entry with
      | none => none
      | some (counter, pt) =>
        if counter ≤ last || counterStop ≤ last then none
        else (openRecord x c len rest counter (i + 1)).map (fun r => (r.1, pt ++ r.2))

/-- Whether the areas of a cove stand where a record needs them (R322). -/
def areasFit (s : State) (c : Nat) (h : List Byte) : Bool :=
  let sp := leAt h 30 2 % 2 ^ 13
  areaReady s c && relGranule s c (fld s (F.OB_AREA_GRANULE c)) == leAt h 26 2 % 2 ^ 13
    && decide (leAt h 28 1 % 32 ≤ fld s (F.OB_AREA_LOG2 c))
    && (sp == 0x1FFF || (flag s (F.SQ_SPILL_STATUS_READY c) && relGranule s c (fld s (F.SQ_SPILL_GRANULE c)) == sp
          && decide (leAt h 32 1 % 128 ≤ fld s (F.SQ_SPILL_COUNT c))))

/-- Whether a cove owns what a record's header names (R322). -/
def resourcesFit (s : State) (c : Nat) (h : List Byte) : Bool :=
  let n (k off : Nat) : Bool := decide (leAt h off 1 ≤ (ownedOf s c k).length)
  n kEP 16 && n kSH 17 && n kRM 18 && n kTU 19 && n kTK 20
    && decide (leAt h 22 2 % 1024 ≤ (ownedOf s c kBank).length) && decide (leAt h 24 2 % 2 ^ 13 ≤ (ownedGrans s c).length)

/-- Whether a header's MAGIC, FORMAT and FW_SVN are accepted (R322). Log entry 42 (DESIGN CHOICE). -/
def headerFits (s : State) (h : List Byte) : Bool :=
  leAt h 0 4 == 0x47494D50 && leAt h 4 2 == 1 && decide (leAt h 6 2 ≤ fld s F.FAB_SEC_STATUS_RUN_SVN)

/-- The tidepool lines of a record go to the cove's banks, with their written bits set (R322). -/
def restoreBanks (s : State) (c : Nat) (ls : List Line) : State :=
  let banks := ownedOf s c kBank
  ls.zipIdx.foldl (fun s p =>
    match banks[p.2 / 4096]? with
    | some b => setTpWritten (tpStore s b (p.2 % 4096) p.1 (fun _ => true)) b (p.2 % 4096) true
    | none => s) s

/-- Install a record's sections in a cove (R322). Log entry 42 (DESIGN CHOICE). -/
def restore (s : State) (c : Nat) (x : Snapshot) : State :=
  let e0 := s.ob.nextEntry
  let t0 := s.sq.nextStep
  let q0 := s.sq.nextSeq
  let ent (e : QEntry) : QEntry := { e with id := e.id + e0 }
  let tus := ownedOf s c kTU
  let o := s.ob
  let queues := x.queues.foldl (fun t e => tput t (c * 64 + e.1 % 64) { e.2 with fifo := e.2.fifo.map ent }) o.queues
  let killed := x.killed.foldl (fun t e => tsetD t (c * 4096 + e.1 % 4096) false e.2) o.killed
  let ids := x.queues.flatMap (fun e => e.2.fifo.map (·.id)) ++ x.runs.map (fun r => r.ent.id)
  let o := { o with queues := queues, killed := killed, nextEntry := e0 + ids.foldl max 0 + 1 }
  let o := { o with waits := tsetD o.waits c [] x.waits, rings := tsetD o.rings c [] x.rings }
  let o := match x.heads with | some h => { o with heads := tput o.heads c h } | none => o
  let runs := x.runs.map (fun r => { r with cove := c, ent := ent r.ent })
  let steps := x.steps.foldl (fun t e => tput t (t0 + e.1) { e.2.imported s c with entry := e.2.entry + e0, seq := e.2.seq + q0 }) s.sq.steps
  let q := { s.sq with runs := s.sq.runs ++ runs, steps := steps }
  let q := { q with nextStep := t0 + (x.steps.map (·.1)).foldl max 0 + 1, nextSeq := q0 + (x.steps.map (fun e => e.2.seq)).foldl max 0 + 1 }
  let slots := x.slots.foldl (fun t e => tput t (c * 64 + e.1 % 64) { e.2 with eng := (tus[e.2.eng]?).getD 0 }) s.en.slots
  let s := { s with ob := o, sq := q, en := { s.en with slots := slots } }
  let s := x.acct.foldl (fun s e => if inWindow c (e.1 + winBase c) then setCtr s (e.1 + winBase c) e.2 else s) s
  let s := { s with xl := { s.xl with wqSeq := tsetD s.xl.wqSeq c 0 x.wrackSeq } }
  let s := setFld (setFld s (F.OB_CV_LIVE c) x.live) (F.OB_CV_ZOMBIE c) x.zombie
  let s := setFld (setFld s (F.EV_CV_CRING_PROD c) x.ringProd) (F.EV_CV_CRING_CONS c) x.ringCons
  let s := setFld (setFld s (F.XL_WQ_PROD_PROD c) x.wrackProd) (F.XL_WQ_CONS_CONS c) x.wrackCons
  unclean (restoreBanks s c x.tidepool) c

/-- The reads of a record's chunks on the host bus (R304, R322). -/
def recordReads (o : MigOp) (s : State) : State :=
  (List.range ((o.len + 4095) / 4096)).foldl (fun s i => chunkRead o (min 4096 (o.len - 4096 * i)) i s) s

/-- OP 4: import a record, or refuse it with a code and change nothing (R322). Log entry 42 (DESIGN CHOICE). -/
def importRecord (o : MigOp) (c : Nat) (fail : Option Nat) (chunks : List (List Byte × BitVec 256)) (s : State) : Nat × State :=
  if !quiescedFinish s c || !flag s (F.CV_MGR_STATUS_CLEAN c) then (1, s)
  else match sessionOf s c with
    | none => (3, s)
    | some x =>
      let first := openRecord x c (min 4096 o.len) (chunks.take 1) (lastCounter s c false) 0
      match first with
      | none => (3, s)
      | some (_, h) =>
        if !x.up || fail.isSome then (3, s)
        else if !headerFits s h then (2, s)
        else match openRecord x c o.len chunks (lastCounter s c false) 0 with
          | none => (3, s)
          | some (last, r) =>
            if !resourcesFit s c h then (4, s)
            else if !areasFit s c h then (5, s)
            else if leAt h 11 1 % 2 = 1 && !flag s (F.CV_MANIFEST_RT_OK c) then (6, s)
            else match unpackRecord (r.drop 64) with
              | none => (2, s)
              | some x => (0, restore (takeCounter s c false last) c x)

/-! ### The commands -/

/-- A write of CV_MIG_CTL: latched, unless an operation runs (CV_MIG_CTL, CV_MIG_STATUS). -/
def migWriteCtl (s : State) (c op : Nat) : State :=
  if flag s (F.CV_MIG_STATUS_BUSY c) then s
  else
    let o : MigOp := ⟨op, fld64 s (F.CV_MIG_HOST_LO_ADDR_LO c) (F.CV_MIG_HOST_HI_ADDR_HI c),
      fld64 s (F.CV_MIG_TAG_LO_ADDR_LO c) (F.CV_MIG_TAG_HI_ADDR_HI c),
      fld s (F.CV_MIG_PAGE_PAGE c), fld s (F.CV_MIG_COUNT_COUNT c), fld s (F.CV_MIG_LEN_LEN c)⟩
    setFlag { s with sc := { s.sc with mig := tput s.sc.mig c o } } (F.CV_MIG_STATUS_BUSY c) true

/-- MIG_COPY_OUT (R320). -/
def execMigCopyOut (q : Requester) (c : CoveId) (s : State) : Ans := atFabric s q (migWriteCtl s c 1)
/-- MIG_COPY_IN (R320). -/
def execMigCopyIn (q : Requester) (c : CoveId) (s : State) : Ans := atFabric s q (migWriteCtl s c 2)
/-- MIG_EXPORT (R321). -/
def execMigExport (q : Requester) (c : CoveId) (s : State) : Ans := atFabric s q (migWriteCtl s c 3)
/-- MIG_IMPORT (R322). -/
def execMigImport (q : Requester) (c : CoveId) (s : State) : Ans := atFabric s q (migWriteCtl s c 4)

/-- The work of an operation: 0, or the code it fails with (R320–R322). -/
def migWork (s : State) (c : Nat) (o : MigOp) (chunks : List (List Byte × BitVec 256)) (fail : Option Nat) : Nat × State :=
  match o.op with
  | 1 => if o.count = 0 then (7, s) else seqParts ((List.range (16 * o.count)).map (outPart o c fail)) s
  | 2 => if o.count = 0 then (7, s) else seqParts ((List.range (16 * o.count)).map (inPart o c fail chunks)) s
  | 3 => exportRecord o c fail s
  | _ => importRecord o c fail chunks (if quiescedFinish s c then recordReads o s else s)

/-- The result of an operation (CV_MIG_STATUS); a code the spec leaves open is free. -/
def endMig (s : State) (c code : Nat) : State :=
  if code = 0 then
    let s := { s with sc := { s.sc with mig := tdel s.sc.mig c } }
    setFld (setFlag (setFlag s (F.CV_MIG_STATUS_BUSY c) false) (F.CV_MIG_STATUS_DONE c) true) (F.CV_MIG_STATUS_CODE c) 0
  else if code = openCode then
    let (v, s) := drawFree s 4
    endMigration s c v.toNat
  else endMigration s c code

/-- MIG_OPERATION_DONE: the operation of a cove, with the chunks the host bus returned and the chunk it refused (R320–R322).
Log entry 42 (DESIGN CHOICE). -/
def execMigOperationDone (c : CoveId) (chunks : List (List Byte × BitVec 256)) (fail : Option Nat) (s : State) : Ans :=
  match tfind s.sc.mig c with
  | none => .next s
  | some o =>
    let (code, s1) := migWork s c o chunks fail
    atDomain s 94 (endMig s1 c code)

end Sys2Proof.Machine
end

