-- ==== Sys2Proof/Machine/Lifecycle.lean ====
section
/-!
DEFINITION. The lifecycle transitions, the fuse programmer and the debug consent (R357–R361, R365).
-/
namespace Sys2Proof.Machine

/-- The codes a state accepts (R358). -/
def nextCodes : Nat → List Nat
  | 0 => [1, 4] | 1 => [2, 4] | 2 => [3, 4] | 3 => [4] | _ => []

/-- Why a write of a code to LC_NEXT is refused: the CODE of R360, or none. -/
def nextRefusal (s : State) (code : Nat) : Option Nat :=
  let st := fld s F.LC_STATE_STATE
  if code = 4 then (if st = 4 || flag s F.LC_STATE_BADFUSE then some 3 else none)
  else if flag s F.LC_STATUS_PENDING then some 2
  else if (nextCodes st).contains code then none else some 1

/-- A refused write of LC_NEXT (R360). -/
def refuseNext (s : State) (cause : Nat) : State :=
  raiseSrc (setFld (setFlag s F.LC_STATUS_REFUSED true) F.LC_STATUS_CODE cause) 523

/-- An accepted write of LC_NEXT: its fuses are programmed after any that are being programmed (R359, R360). Log entry 48 (DESIGN CHOICE). -/
def acceptNext (s : State) (code : Nat) : State :=
  let s := setFld (setFlag (setFlag s F.LC_STATUS_PENDING true) F.LC_STATUS_PROG_BUSY true) F.LC_NEXT_CODE code
  { s with lc := { s.lc with prog := s.lc.prog ++ [code] } }

/-- A write of LC_NEXT. Log entry 48 (DESIGN CHOICE). -/
def writeNext (s : State) (code : Nat) : State :=
  match nextRefusal s code with
  | some c => refuseNext s c
  | none => acceptNext s code

/-- LC_NEXT (R358–R360). -/
def execLcNext (q : Requester) (v : Word) (s : State) : Ans := atFabric s q (writeNext s (bits v.toNat 0 3))

/-- The masks that a transition blows before its state fuse, where they read back blown (R358, R359). -/
def blowMasks (f : Fuses) (code : Nat) (uid fwk : Bool) : Fuses :=
  { f with uidMask := f.uidMask || (decide (3 ≤ code) && uid), fwkMask := f.fwkMask || (code == 4 && fwk) }

/-- Whether every mask fuse of a transition reads blown (R359). -/
def masksBlown (f : Fuses) (code : Nat) : Bool := (decide (code < 3) || f.uidMask) && (code != 4 || f.fwkMask)

/-- The state fuse of a transition blown: T[0], T[1], T[2] or T[3] (R358). -/
def blowState (f : Fuses) (code : Nat) : Fuses := { f with t := f.t ||| 2 ^ (code - 1) }

/-- The programming of a transition ends: with every fuse blown, or with PROG_ERR (R359). Log entry 48 (DESIGN CHOICE). -/
def programEnd (s : State) (code : Nat) (rest : List Nat) (uid fwk state : Bool) : State :=
  let f := blowMasks s.lc.fuses code uid fwk
  let ok := masksBlown f code && state
  let s := { s with lc := { s.lc with fuses := if ok then blowState f code else f, prog := rest } }
  let s := if ok then s else setFlag (if rest = [] then setFlag s F.LC_STATUS_PENDING false else s) F.LC_STATUS_PROG_ERR true
  if rest = [] then setFlag s F.LC_STATUS_PROG_BUSY false else s

/-- FUSE_PROGRAM_DONE: whether UIDMASK, FWKMASK and the state fuse read blown after at most two retries (R359). Log entry 48 (DESIGN CHOICE). -/
def execFuseProgramDone (uid fwk state : Bool) (s : State) : Ans :=
  match s.lc.prog with
  | [] => .next s
  | code :: rest => .next (programEnd s code rest uid fwk state)

/-- LC_DBG_OPEN: writes are ignored outside Fielded (R365). -/
def execLcDbgOpen (q : Requester) (v : Word) (s : State) : Ans :=
  atFabric s q (if fld s F.LC_STATE_STATE = 2 then setFlag s F.LC_DBG_OPEN (bit v.toNat 0) else s)

end Sys2Proof.Machine
end

