-- ==== Sys2Proof/Machine/Slack.lean ====
section
/-!
DEFINITION. Slack: its causes, the waves, self-refresh and the release (R367–R372).
-/
namespace Sys2Proof.Machine

/-- The causes held: PIN, HOLD and HALT (R367). -/
def slackCauses (s : State) : Nat :=
  b2n (flag s F.SL_STATUS_PIN) + 2 * b2n (flag s F.SL_STATUS_HOLD) + 4 * b2n (flag s F.SL_STATUS_HALT)

/-- The domains of a wave, 1 for A to 5 for E (R368). -/
def waveDoms : Nat → List Nat
  | 1 => (List.range 48).map (32 + ·) ++ [88, 89, 90, 91]
  | 2 => (List.range 8).map (80 + ·) ++ [92, 93]
  | 3 => List.range 32
  | 4 => [94, 95, 97, 98, 99]
  | 5 => [96]
  | _ => []

/-- HOLD is set or cleared; the controller stands in reset with the fabric (R367). Log entry 49 (DEDUCED). -/
def setHold (s : State) (b : Bool) : State := if s.lc.inReset then s else setFlag s F.SL_STATUS_HOLD b

/-- SL_FREEZE (R367). -/
def execSlFreeze (q : Requester) (v : Word) (s : State) : Ans := atFabric s q (if bit v.toNat 0 then setHold s true else s)

/-- SLACK_N_ASSERT: low for 16 FIO cycles (R367). Log entry 49 (DEDUCED). -/
def execSlackNAssert (s : State) : Ans := .next (if s.lc.inReset then s else setFlag s F.SL_STATUS_PIN true)
/-- SLACK_N_DEASSERT: high for 16 FIO cycles (R367). -/
def execSlackNDeassert (s : State) : Ans := .next (if s.lc.inReset then s else setFlag s F.SL_STATUS_PIN false)

/-- Whether XA runs: it feeds D96 from power-on, before start-up step 3 has checked it, unless that check found it stopped
(R329, R334, R336). Log entry 49 (DEDUCED). -/
def xaLive (s : State) : Bool :=
  flag s F.CK_STATUS_XA_OK || ((decide (s.lc.boot ≤ 3) || (s.lc.boot == 12 && !flag s F.CK_STATUS_UP)) && !s.ck.failed.contains 8)

/-- Whether a domain has a clock. -/
def domLive (s : State) (d : Nat) : Bool := let src := (domNow s d).src; if src = 8 then xaLive s else srcRuns s src

/-- Record the domains of a wave that have no clock as it begins (SL_LAST_STOP0–3). Log entry 49 (DEDUCED). -/
def noteDead (s : State) (w : Nat) : State :=
  (waveDoms w).foldl (fun s d =>
    let f := F.SL_LAST_STOP_DEAD (d / 32)
    if domLive s d then s else setFld s f (setBit (fld s f) (d % 32) true)) s

/-- Whether every trained stack is in self-refresh (R368). Log entry 49 (DEDUCED). -/
def allRefreshed (s : State) : Bool :=
  (List.range 32).all (fun n => !flag s (F.SC_STATUS_TRAINED n) || s.lc.sr.contains n)

/-- Whether wave C has begun once wave B has stopped (R368). -/
def waveCReady (s : State) : Bool := s.lc.srDue || allRefreshed s

/-- T0: ingress closes, self-refresh entry and wave A begin (R368). Log entry 49 (DEDUCED). -/
def beginFreeze (s : State) : State :=
  let s := setFld (setFlag s F.SL_STATUS_STOPPING true) F.SL_STATUS_WAVE 1
  let s := { s with lc := { s.lc with sr := [], srDue := false } }
  let s := (List.range 4).foldl (fun s w => setFld s (F.SL_LAST_STOP_DEAD w) 0) (setFlag s F.SL_LAST_SR_MISS false)
  noteDead s 1

/-- SLACK_T0: the first cause is held (R368). -/
def execSlackT0 (s : State) : Ans :=
  .next (if slackCauses s = 0 || slackOn s || s.lc.inReset then s else beginFreeze s)

/-- Wave E has stopped: the fabric is frozen, and the freeze is recorded (R368, R372). -/
def frozen (s : State) (fio : Nat) : State :=
  let s := setFlag (setFlag s F.SL_STATUS_STOPPING false) F.SL_STATUS_FROZEN true
  let s := setFld (setFld s F.SL_LAST_CAUSES (slackCauses s)) F.SL_LAST_STATE (fld s F.LC_STATE_STATE)
  incCtr (setFld (setFld s F.SL_LAST_OUTCOME 0) F.SL_LAST_TIME_FIO fio) C.SL_CNT

/-- The wave that follows one that has stopped; C begins only with every controller in self-refresh or 2 µs after T0 (R368). -/
def nextWave (s : State) (w fio : Nat) : State :=
  if w = 5 then frozen s fio
  else
    let s := setFld s F.SL_STATUS_WAVE (w + 1)
    if w = 2 && !waveCReady s then s else noteDead s (w + 1)

/-- SLACK_WAVE_STOPPED: the domains of the wave are gated; `fio` is the FIO cycles since T0, with a partial cycle counted
whole (R368). -/
def execSlackWaveStopped (fio : Nat) (s : State) : Ans :=
  let w := fld s F.SL_STATUS_WAVE
  if !flag s F.SL_STATUS_STOPPING || (w = 3 && !waveCReady s) then .next s
  else
    let stop := (waveDoms w).foldl (fun t d => tput t d true) s.lc.stopped
    .next (nextWave { s with lc := { s.lc with stopped := stop } } w fio)

/-- Wave C begins with the change that made it ready (R368). -/
def maybeWaveC (s0 s1 : State) : State :=
  if fld s1 F.SL_STATUS_WAVE = 3 && !waveCReady s0 && waveCReady s1 then noteDead s1 3 else s1

/-- SELF_REFRESH_ENTERED: a stack whose clock runs enters self-refresh before wave C gates it (R103, R368). -/
def execSelfRefreshEntered (n : StackId) (s : State) : Ans :=
  let n := n.val
  if !flag s F.SL_STATUS_STOPPING || !flag s (F.SC_STATUS_TRAINED n) || s.lc.sr.contains n || s.ck.lost.contains n
      || !running s n || !srcRuns s (domNow s n).src then .next s
  else
    let s1 := setFlag { s with lc := { s.lc with sr := s.lc.sr ++ [n] } } (F.SC_STATUS_SELF_REFRESH n) true
    .next (maybeWaveC s s1)

/-- A stack out of self-refresh at T0 + 2 µs: SR_MISS, and its contents are lost (R338, R368). Log entry 49 (DEDUCED). -/
def srMiss (s : State) (n : Nat) : State :=
  if !flag s (F.SC_STATUS_TRAINED n) || s.lc.sr.contains n then s
  else setFlag { s with ck := { s.ck with lost := if s.ck.lost.contains n then s.ck.lost else s.ck.lost ++ [n] } } F.SL_LAST_SR_MISS true

/-- SLACK_SR_DEADLINE: 2 µs after T0 (R368). -/
def execSlackSrDeadline (s : State) : Ans :=
  if !flag s F.SL_STATUS_STOPPING || s.lc.srDue then .next s
  else
    let s1 := (List.range 32).foldl srMiss { s with lc := { s.lc with srDue := true } }
    .next (maybeWaveC s s1)

/-- Every tide's next edge comes a full period later and every tap resynchronises (R91). -/
def restartTides (s : State) : State :=
  let s := { s with tide := { s.tide with masters := s.tide.masters.map (fun e => (e.1, { e.2 with await := [] })) } }
  (List.range 292).foldl (fun s t => if (tapOf s t).src ≤ 16 then missEdge s t else s) s

/-- A release that resumes: clocks, stacks, ingress, tides, windows, the beacon and what waited for the ports (R289, R300,
R302, R370, R371, R395). Log entry 49 (DEDUCED). -/
def resumeFreeze (s : State) : State :=
  let s := dropScans { s with lc := { s.lc with stopped := [], sr := [], srDue := false } }
  let s := (List.range 32).foldl (fun s n => setFlag s (F.SC_STATUS_SELF_REFRESH n) (s.ck.changing.contains n)) s
  let s := setFld (setFld (setFlag s F.SL_STATUS_FROZEN false) F.SL_STATUS_WAVE 0) F.SL_LAST_OUTCOME 1
  let s := if attention s then emit s .ibPulse else s
  let s := (List.range 256).foldl startWindow (restartTides (sendUnsent s))
  heldFlrs (slackHangs s)

/-- Whether a release resumes rather than resets (R370). -/
def releaseResumes (s : State) : Bool := isMakerOrIntegrator s && !flag s F.SL_LAST_SR_MISS

/-- SLACK_RELEASE: no cause is held after FROZEN (R370). Log entry 49 (DEDUCED). -/
def execSlackRelease (s : State) : Ans :=
  if !flag s F.SL_STATUS_FROZEN || slackCauses s != 0 || s.lc.want.contains .slack || s.lc.noted.contains .slack then .next s
  else if releaseResumes s then .next (resumeFreeze s)
  else .next (askReset (setFld (setFld s F.SL_STATUS_WAVE 0) F.SL_LAST_OUTCOME 2) .slack)

end Sys2Proof.Machine
end

