-- ==== Sys2Proof/Machine/Reset.lean ====
section
/-!
DEFINITION. The fabric reset: its causes, what survives it, and its end (R335, R357, R372, R374–R377).
-/
namespace Sys2Proof.Machine

/-- The bit of FAB_RST_CAUSE of a cause. -/
def causeFld : RstCause → Fld
  | .por => F.FAB_RST_CAUSE_POR
  | .pin => F.FAB_RST_CAUSE_PIN
  | .soft _ => F.FAB_RST_CAUSE_SOFT
  | .pfFlr => F.FAB_RST_CAUSE_PF_FLR
  | .link => F.FAB_RST_CAUSE_LINK
  | .cpShared _ => F.FAB_RST_CAUSE_CP_SHARED
  | .slack => F.FAB_RST_CAUSE_SLACK

/-- Record one cause (FAB_RST_CAUSE). -/
def recordCause (s : State) (r : RstCause) : State :=
  let s := setFlag s (causeFld r) true
  match r with
  | .cpShared c => setFld s F.FAB_RST_CAUSE_CP_COVE c
  | _ => s

/-! ### The pins, R374 -/

/-- Whether a reset pin is low, or the internal reset is asserted: the pins then take their levels of R374. Log entry 48 (DESIGN CHOICE). -/
def pinsIdle (s : State) : Bool :=
  s.lc.inReset || (s.lc.want ++ s.lc.noted).any (fun r => match r with | .por => true | .pin => true | _ => false)

/-- The levels on the pins of R374. NMI_OUT is low in a power-on reset, and in another keeps its level until HALT clears (R302). -/
def pinLevels (s : State) : Pins :=
  let idle := pinsIdle s
  { nmiOut := nmiOut s && !(s.lc.want ++ s.lc.noted).contains .por
    ibRdy := true
    flCsN := true
    irq := BitVec.ofNat 64 ((List.range 64).foldl (fun a t => setBit a t (beaconIrq s t && !idle)) 0)
    arrRstN := BitVec.ofNat 128 ((List.range 128).foldl (fun a p => setBit a p (!idle && tgetD s.en.clearing p 0 != 3)) 0)
    cpRstN := BitVec.ofNat 16 ((List.range 16).foldl (fun a c => setBit a c (!idle && !cpInReset s c)) 0) }

/-- The pins take their present levels (R374). -/
def drivePins (s : State) : State := emit s (.pins (pinLevels s))

/-- Power-on reset sets POR and clears every other bit. -/
def recordPor (s : State) : State :=
  let s := [F.FAB_RST_CAUSE_PIN, F.FAB_RST_CAUSE_SOFT, F.FAB_RST_CAUSE_PF_FLR, F.FAB_RST_CAUSE_LINK, F.FAB_RST_CAUSE_CP_SHARED,
    F.FAB_RST_CAUSE_SLACK].foldl (fun s f => setFlag s f false) s
  setFlag (setFld s F.FAB_RST_CAUSE_CP_COVE 0) F.FAB_RST_CAUSE_POR true

/-- Record the causes that have asked for a reset; a power-on reset overrides everything (R376). Log entry 48 (DESIGN CHOICE). -/
def noteCauses (s : State) : State :=
  let l := s.lc.want
  let s := { s with lc := { s.lc with want := [], noted := s.lc.noted ++ l, reload := s.lc.reload || l.contains (.soft true) } }
  if l.contains .por then recordPor s else l.foldl recordCause s

/-- POR_ASSERT (R374, R375). -/
def execPorAssert (s : State) : Ans := .next (drivePins (askReset s .por))
/-- FAB_RST_N_ASSERT (R374, R375). -/
def execFabRstNAssert (s : State) : Ans := .next (drivePins (askReset s .pin))
/-- PF_FLR (R375, R396). -/
def execPfFlr (s : State) : Ans := .next (askReset s .pfFlr)
/-- HOST_LINK_RESET (R375, R396). -/
def execHostLinkReset (s : State) : Ans := .next (askReset s .link)
/-- FAB_RST_CTL_GO: with KEY 0xA5 in the same write (R375, FAB_RST_CTL). -/
def execFabRstCtlGo (q : Requester) (v : Word) (s : State) : Ans :=
  let v := v.toNat
  atFabric s q (if bit v 0 && bits v 8 8 == 0xA5 then askReset s (.soft (bit v 1)) else s)

/-- The fuses after a power-on reset has cut their programming short: each cell is left blown or unblown (R376).
Log entries 2 (DESIGN CHOICE), 48 (DESIGN CHOICE). -/
def cutProgram (s : State) : Fuses × State :=
  match s.lc.prog with
  | [] => (s.lc.fuses, s)
  | code :: _ =>
    let (a, s) := drawFree s 1
    let (b, s) := drawFree s 1
    let (c, s) := drawFree s 1
    let f := blowMasks s.lc.fuses code (a == 1) (b == 1)
    (if masksBlown f code && c == 1 then blowState f code else f, s)

/-- The fused SVN; of a commit that the reset cuts, either value (R325, R376). Log entry 2 (DESIGN CHOICE). -/
def cutCommit (s : State) : Nat × State :=
  let old := fld s F.FAB_SEC_STATUS_FUSED_SVN
  match s.sc.commit with
  | none => (old, s)
  | some v => let (a, s) := drawFree s 1; (if a = 1 then v else old, s)

/-- Registers that a fabric reset leaves: FAB_RST_CAUSE and LC_STATE, which the release senses again; and, but for a
power-on reset, FAB_HALT_CAUSE0–4, the margins of R348 and the registers of R372 (R375). Log entry 46 (DEDUCED). -/
def survives (por : Bool) (off : Nat) : Bool :=
  off == 0x404 || off == 0x620000
    || (!por && (decide (0x200 ≤ off ∧ off ≤ 0x210) || decide (0x630008 ≤ off ∧ off ≤ 0x63001C)
      || decide (0x600020 ≤ off ∧ off < 0x600050 ∧ off % 8 = 0)))

/-- The counters that a reset leaves: SL_CNT and the lifetime counters; a power-on reset leaves none (R351, R356, R372, R375).
Log entry 47 (DESIGN CHOICE). -/
def keptCtrs (s : State) (por : Bool) : Tbl Nat :=
  if por then [] else s.ctrs.filter (fun e => e.1 == C.SL_CNT || isLifetime e.1)

/-- The state under the internal reset: everything at its reset value but what R375 keeps. -/
def underReset (s : State) (por : Bool) (fuses : Fuses) (svn : Nat) : State :=
  let r := State.reset
  let s1 := { r with
    pending := s.pending, freeCtr := s.freeCtr, out := s.out, env := s.env,
    flds := s.flds.filter (fun e => survives por (e.1 / 32)),
    ctrs := keptCtrs s por,
    lb := { r.lb with base := keptCtrs s por },
    mem := { r.mem with tpw := if por then [] else s.mem.tpw },
    sc := { r.sc with flr := s.sc.flr },
    lc := { r.lc with inReset := true, noted := s.lc.noted, reload := s.lc.reload, fuses := fuses, image := if por then none else s.lc.image } }
  setFld s1 F.FAB_SEC_STATUS_FUSED_SVN svn

/-- Whether fuses are being programmed: of a lifecycle transition, or of the SVN (R325, R359, R376). -/
def programming (s : State) : Bool := s.lc.prog != [] || s.sc.commit.isSome

/-- The internal reset is asserted; only a power-on reset finds fuses being programmed, and cuts them (R376). Log entry 48 (DESIGN CHOICE). -/
def assertReset (s : State) (por : Bool) : State :=
  let s := if flag s F.SL_STATUS_FROZEN then setFld s F.SL_LAST_OUTCOME 2 else s
  let (f, s) := cutProgram s
  let (svn, s) := cutCommit s
  drivePins (emit (underReset s por f svn) (.internalReset true))

/-- FABRIC_RESET_START: the causes are recorded; unless power-on, the reset waits for the fuse programmer; causes during the
reset join it, and a power-on reset overrides it (R376). -/
def execFabricResetStart (s : State) : Ans :=
  let s1 := noteCauses s
  let por := s1.lc.noted.contains .por
  if s1.lc.noted = [] || (s.lc.inReset && !s.lc.want.contains .por) || (programming s1 && !por) then .next s1
  else .next (assertReset s1 por)

/-- The lifecycle state that the state fuses read as, and BADFUSE (R357). -/
def senseState (t : Nat) : Nat × Bool :=
  if t = 0 then (0, false) else if t = 1 then (1, false) else if t = 3 then (2, false) else if t = 7 then (3, false)
  else (4, !t.testBit 3)

/-- The fuses sensed into LC_STATE (R357). Log entry 48 (DESIGN CHOICE). -/
def senseFuses (s : State) : State :=
  let f := s.lc.fuses
  let (st, bad) := senseState f.t
  let s := setFlag (setFld s F.LC_STATE_STATE st) F.LC_STATE_BADFUSE bad
  setFlag (setFlag s F.LC_STATE_UIDMASK f.uidMask) F.LC_STATE_FWKMASK f.fwkMask

/-- Whether MG's loaded image is kept and start-up step 2 skipped (R324, R335). -/
def keepsImage (s : State) (x : FwImage) : Bool :=
  x.life == fld s F.LC_STATE_STATE && !s.lc.reload && decide (fld s F.FAB_SEC_STATUS_FUSED_SVN ≤ x.svn)

/-- MG derives the device identity key, unless UIDMASK hides the unique secret (R324, R326, R357). -/
def deriveKey (s : State) : State :=
  { s with sc := { s.sc with devKey := if s.lc.fuses.uidMask then none else some Config.deviceKey } }

/-- FAB_SEC_STATUS reports a booted image, the device identity key is derived, and start-up goes on with step 3 (R324). -/
def bootImage (s : State) (x : FwImage) : State :=
  let s := setFld (setFlag (deriveKey s) F.FAB_SEC_STATUS_FW_OK true) F.FAB_SEC_STATUS_FW_SLOT x.slot
  let s := setFld s F.FAB_SEC_STATUS_RUN_SVN x.svn
  { s with lc := { s.lc with image := some x, boot := 3 } }

/-- The FLRs of virtual functions complete when the reset ends (R371, R377). Log entry 12 (DEDUCED). -/
def finishFlrs (s : State) : State :=
  s.sc.flr.foldl (fun s e => emit s (.flrDone e.1)) { s with sc := { s.sc with flr := [] } }

/-- The lifetime counters of resets advance (R353). Log entry 47 (DESIGN CHOICE). -/
def countReset (s : State) : State :=
  let s := lbAdd (lbAdd s 0 (b2n (s.lc.noted.contains .por))) 1 1
  lbAdd s 2 (b2n (flag s F.FAB_HALT_CAUSE0_VALID))

/-- The internal reset ends and start-up begins with step 1 (R334, R335, R353, R376). -/
def releaseReset (s : State) : State :=
  let s := countReset (senseFuses { s with lc := { s.lc with inReset := false, boot := 2 } })
  let s := match s.lc.image with
    | some x => if keepsImage s x then bootImage s x else s
    | none => s
  let s := { s with lc := { s.lc with reload := false, noted := [] } }
  finishFlrs (drivePins (emit s (.internalReset false)))

/-- FABRIC_RESET_RELEASE: 1 µs has passed and the reset pins are high (R376). -/
def execFabricResetRelease (s : State) : Ans :=
  if !s.lc.inReset || s.lc.want.contains .por then .next s else .next (releaseReset (noteCauses s))

end Sys2Proof.Machine
end

