-- ==== Sys2Proof/Machine/Startup.lean ====
section
/-!
DEFINITION. Start-up: the boot ROM and steps 3 to 11 (R104, R323, R324, R333–R335, R351, R355, R362).
-/
namespace Sys2Proof.Machine

/-! ### Firmware images, R323, R324 -/

/-- Whether a range of bytes is zero. -/
def allZero (img : List Byte) (off n : Nat) : Bool := ((img.drop off).take n).all (· == 0)

/-- Step 1: MAGIC, FMT, LENGTH, the reserved bytes, and a key slot that is not revoked (R324). -/
def fwHeaderOk (img : List Byte) : Bool :=
  let len := leAt img 8 4
  decide (512 + len ≤ img.length) && leAt img 0 4 == 0x57465350 && leAt img 4 2 == 1 && len % 16 == 0 && decide (len ≤ 4193792)
    && allZero img 13 3 && allZero img 92 36 && allZero img 320 192
    && decide (leAt img 12 1 ≤ 3) && !Config.fwKeyRevoked (leAt img 12 1)

/-- Step 2: the key's digest, and an SVN of at least the fused one (R324). -/
def fwKeyOk (img : List Byte) (fused : Nat) : Bool :=
  ofBytes (sha384 ((img.drop 128).take 96)) == (Config.fwKeyDigest (leAt img 12 1)).toNat
    && decide (fused ≤ leAt img 6 2) && decide (leAt img 6 2 ≤ 255)

/-- Step 3: the signature over bytes 0–127 (R324). -/
def fwSigOk (img : List Byte) : Bool :=
  ecdsaOk (leAt img 128 48) (leAt img 176 48) (leAt img 224 48) (leAt img 272 48) (img.take 128)

/-- FWK as the ROM's AES unit holds it: nothing once FWKMASK hides it (R324, R326, R357). -/
def fwkOf (s : State) : Option (BitVec 256) := if s.lc.fuses.fwkMask then none else some Config.fwk

/-- Steps 4 and 5: DIGEST of the encrypted payload, and its TAG under FWK (R324). -/
def fwPayloadOk (fwk : Option (BitVec 256)) (img : List Byte) : Bool :=
  let ct := (img.drop 512).take (leAt img 8 4)
  sha384 ct == (img.drop 44).take 48
    && (fwk.map (fun k => gcmTag (keyBytes k) ((img.drop 16).take 12) (img.take 128) ct == (img.drop 28).take 16)).getD false

/-- Whether a slot's image boots (R324). -/
def fwOk (fwk : Option (BitVec 256)) (img : List Byte) (fused : Nat) : Bool :=
  fwHeaderOk img && fwKeyOk img fused && fwSigOk img && fwPayloadOk fwk img

/-- Start-up ends after step 2: no firmware runs (R335). -/
def endStartup (s : State) : State := { s with lc := { s.lc with image := none, boot := 12 } }

/-- The boot ROM tries slot A and then slot B (R324, R353). -/
def bootRom (s : State) (slotA slotB : List Byte) : State :=
  let fused := fld s F.FAB_SEC_STATUS_FUSED_SVN
  let life := fld s F.LC_STATE_STATE
  if isScrapped s then endStartup s
  else if fwOk (fwkOf s) slotA fused then bootImage s ⟨0, leAt slotA 6 2, life, slotA.take 128⟩
  else if fwOk (fwkOf s) slotB fused then lbAdd (bootImage s ⟨1, leAt slotB 6 2, life, slotB.take 128⟩) 24 1
  else endStartup (setFlag s F.FAB_SEC_STATUS_FW_FAIL true)

/-- Step `n` of start-up is in progress. -/
def atStep (s : State) (n : Nat) : Bool := s.lc.boot == n && !s.lc.inReset

/-- Go on to step `n` of start-up (R334). -/
def toStep (s : State) (n : Nat) : State := { s with lc := { s.lc with boot := n } }

/-- BOOT_ROM_DONE: the bytes of slots A and B as read from the flash (R324). -/
def execBootRomDone (slotA slotB : List Byte) (s : State) : Ans :=
  if !atStep s 2 then .next s else atDomain s 94 (bootRom s slotA slotB)

/-! ### Steps 3 to 7 -/

/-- Whether a measured XA is within 10 % of the strap frequency; 0 stands for an XA that has stopped (R334). Log entry 44 (DESIGN CHOICE). -/
def strapOk (s : State) (khz : Nat) : Bool :=
  let want := 25000 * (fld s F.CK_STATUS_XA_SEL + 1)
  khz != 0 && decide (9 * want ≤ 10 * khz ∧ 10 * khz ≤ 11 * want)

/-- XA_STRAP_CHECK: XA as measured in kHz, and whether an XB runs (R333, R334). Log entry 44 (DESIGN CHOICE). -/
def execXaStrapCheck (khz : Nat) (xb : Bool) (s : State) : Ans :=
  if !atStep s 3 || flag s F.CK_STATUS_STRAP_ERR then .next s
  else if strapOk s khz then atDomain s 94 (toStep (setFlag (setFlag s F.CK_STATUS_XA_OK true) F.CK_STATUS_XB_OK xb) 4)
  else
    let s1 := setFlag s F.CK_STATUS_STRAP_ERR true
    atDomain s 94 (if khz = 0 then { s1 with ck := { s1.ck with failed := 8 :: s1.ck.failed } } else s1)

/-- An island at VBOOT (R333). -/
def toVboot (s : State) (i : Nat) : State :=
  let mv := fld s (F.VS_ISL_LIMIT_VBOOT_MV i)
  emit (setFlag (setFld s (F.VS_ISL_STATE_MV i) mv) (F.VS_ISL_STATE_BOOT i) true) (.avsWrite (Config.avsRail i) mv)

/-- PL0–PL5 are started from XA, all at once (R333, R334). -/
def startAllLoops (s : State) : State :=
  let s := setFld s F.CK_STATUS_EN 0x3F
  let loops := (List.range 6).foldl (fun t p => tput t p (startLoop (fld s F.CK_STATUS_XA_SEL) p)) s.plan.loops
  { s with plan := { s.plan with loops := loops } }

/-- VBOOT_SET_DONE: step 4 has ended and step 5 starts the loops (R334). -/
def execVbootSetDone (s : State) : Ans :=
  if !atStep s 4 then .next s else atDomain s 94 (toStep (startAllLoops ((List.range 6).foldl toVboot s)) 5)

/-- STARTUP_DOMAINS_SWITCHED: with every loop locked, step 6 has moved every domain to its start-up source (R334). -/
def execStartupDomainsSwitched (s : State) : Ans :=
  if !atStep s 5 || fld s F.CK_STATUS_LOCK != 0x3F then .next s
  else atDomain s 94 (toStep (allDoms.foldl (fun s d => setDom s d ⟨(startDom d).1, (startDom d).2, false, none⟩) s) 7)

/-- Every line of the stacks is zero under KID 0, and no cache holds another (R104). Log entry 4 (DESIGN CHOICE). -/
def zeroStacks (s : State) : State := { s with mem := { s.mem with lines := [], mdc := [] } }

/-- A stack that has trained is initialised (R104). -/
def initStack (trained : Nat) (s : State) (n : Nat) : State :=
  setFlag (setFlag s (F.SC_STATUS_TRAINED n) (trained.testBit n)) (F.SC_STATUS_INIT_DONE n) (trained.testBit n)

/-- The stacks have trained and are zero: FAB_CONFIG is set (R96, R104). -/
def stacksReady (s : State) (trained : Nat) (size36 : Bool) : State :=
  let s := (List.range 32).foldl (initStack trained) (zeroStacks s)
  let n := popcount 32 trained
  let s := setFlag (setFld s F.FAB_CONFIG_STACKS n) F.FAB_CONFIG_STACK36 size36
  setFlag (setFld s F.FAB_CONFIG_GRANULES (dataPer s * n)) F.FAB_CONFIG_READY true

/-- STACK_TRAINING_DONE: the stacks that trained, and whether they hold 36 GiB; step 8 begins to calibrate (R78, R104, R334). -/
def execStackTrainingDone (trained : BitVec 32) (size36 : Bool) (s : State) : Ans :=
  if !atStep s 7 then .next s else atDomain s 94 (toStep (startCal (stacksReady s trained.toNat size36)) 8)

/-- RETURNED_SCRUB_VERIFY: whether every line read back as zero without an error (R362). -/
def execReturnedScrubVerify (clean : Bool) (s : State) : Ans :=
  if fld s F.LC_STATE_STATE != 3 || !flag s F.FAB_CONFIG_READY || flag s F.LC_STATUS_SCRUBBED || flag s F.LC_STATUS_VERIFY_ERR
  then .next s
  else if clean && s.mem.lines.isEmpty && s.mem.mdc.all (fun e => e.2.all (fun m => m.raw == RawLine.zero))
  then atDomain s 94 (setFlag s F.LC_STATUS_SCRUBBED true)
  else atDomain s 94 (setFlag s F.LC_STATUS_VERIFY_ERR true)

/-! ### Steps 10 and 11 -/

/-- LOGBOOK_OPEN: what the flash holds; a flash without a suitable SFDP leaves the logbook closed (R351, R355). -/
def execLogbookOpen (sfdpOk : Bool) (headers : List (List Byte)) (entries : List (Nat × Nat × List Byte)) (s : State) : Ans :=
  if !atStep s 10 then .next s
  else if !sfdpOk then atDomain s 94 (toStep (setSchedules (setFlag s F.LB_STATUS_UNSUIT true)) 11)
  else atDomain s 94 (toStep (lbRequest (setSchedules (openLogbook s headers entries)) 4) 11)

/-- STARTUP_COMPLETE (R334). -/
def execStartupComplete (s : State) : Ans :=
  if !atStep s 11 then .next s else atDomain s 94 (toStep (setFlag s F.CK_STATUS_UP true) 12)

end Sys2Proof.Machine
end

