-- ==== Sys2Proof/Machine/RegView.lean ====
section
/-!
DEFINITION. What the registers show: the fields whose value stands elsewhere in the state, by register (the Meaning columns
of the register tables). An absent field of a register shown here is the stored one.
-/
namespace Sys2Proof.Machine

/-- The instance of a register of a block: base, number of instances and their distance. -/
def instAt (off base n stride : Nat) : Option Nat :=
  if base ≤ off && (off - base) % stride == 0 && decide ((off - base) / stride < n) then some ((off - base) / stride) else none

/-- Fields of a register that are shown: low bit and value. -/
abbrev Shown := List (Nat × Nat)

/-- What register of a block of instances shows, if the offset is one of them. -/
def showAt (off base n stride : Nat) (f : Nat → Shown) : Option Shown := (instAt off base n stride).map f

/-- What one register shows, if the offset is its. -/
def showOne (off base : Nat) (f : Shown) : Option Shown := if off = base then some f else none

/-- The first of several blocks that knows the offset. -/
def firstShown : List (Option Shown) → Option Shown
  | [] => none
  | some x :: _ => some x
  | none :: l => firstShown l

/-! ### Chapters 00–05 -/

/-- FAB_, CH_, TD_ of the fabric-global space. -/
def viewFabric (s : State) (off : Nat) : Option Shown :=
  let t := fld s F.TD_TAP_SEL_TAP
  let src := fld s F.TD_TAP_SEL_SRC
  let x := tapOf s t
  firstShown [
    showOne off 0x0 [(16, fld s F.FAB_ID_REV)],
    showOne off 0x408 [(16, (List.range 16).foldl (fun a c => setBit a c (cpIdle s c)) 0)],
    showOne off 0x40C [(0, fld s F.FAB_ARR_INFO_SP_MIB)],
    showOne off 0x10000 [(2, b2n (decide (2 ≤ fld s F.CH_STATUS_STATE)))],
    showOne off 0x20024 [(0, (calOf s t src).delay), (16, if x.src = src then x.lag else 0)],
    showOne off 0x20028 [(0, x.src), (5, b2n (decide (domKhz s (tapDomain t) < 400000))), (6, b2n x.range), (7, b2n x.resync),
      (8, (calOf s t src).ackNs)]]

/-- Cove `c`'s tide (TD_ of its window). -/
def viewTide (s : State) (c rel : Nat) : Option Shown :=
  let m := masterOf s c
  firstShown [
    showOne rel 0x2008 [(0, m.period)],
    showOne rel 0x200C [(0, m.launchOfs), (16, m.settle)],
    showOne rel 0x2010 [(0, m.slate.length)]]

/-- KIDs 1 to 63 in a state; a KID that is not listed is Free. -/
def kidsIn (s : State) (st : KidState) : Nat := (s.mem.kids.filter (fun e => e.2.st == st)).length

/-- The KIDs that are not Free. -/
def kidsUsed (s : State) : Nat := (s.mem.kids.filter (fun e => e.2.st != .free)).length

/-- SC_: outstanding transactions, the selected key range and the sums of the KIDs. -/
def viewStacks (s : State) (off : Nat) : Option Shown :=
  let kr := tfind s.mem.kr (fld s F.SC_KR_SEL_RANGE)
  let on (f : KeyRange → Shown) : Shown := match kr with | some k => f k | none => []
  firstShown [
    showAt off 0x100008 32 0x10000 (fun n => [(0, slotsUsed s n)]),
    showOne off 0x108004 (on (fun k => [(0, k.first), (16, k.count), (29, b2n k.scramble), (30, 1)])),
    showOne off 0x108008 (on (fun k => [(0, k.cur), (8, k.pred.getD 0), (14, b2n k.pred.isSome), (16, k.phase), (19, b2n k.stopped),
      (20, b2n k.queued), (24, k.owner)])),
    showOne off 0x108010 (on (fun k => [(0, k.use % 2 ^ 32)])),
    showOne off 0x108014 (on (fun k => [(0, k.use / 2 ^ 32)])),
    showOne off 0x108018 (on (fun k => [(0, k.thresh % 2 ^ 32)])),
    showOne off 0x10801C (on (fun k => [(0, k.thresh / 2 ^ 32)])),
    showOne off 0x108024 [(0, 63 - kidsUsed s), (6, kidsIn s .active), (12, kidsIn s .draining), (18, kidsIn s .flushing),
      (24, kidsIn s .retired)]]

/-- SC_CV_KR_: a key range of the cove's manifest (R29). -/
def viewCvRange (s : State) (c rel : Nat) : Option Shown :=
  let r := fld s (F.SC_CV_KR_SEL_RANGE c)
  let on (f : KeyRange → Shown) : Shown :=
    match tfind s.mem.kr r with
    | some k => if (fld s (F.CV_MANIFEST_KR c (r / 32))).testBit (r % 32) then f k else []
    | none => []
  firstShown [
    showOne rel 0xA024 (on (fun k => [(0, 1), (1, b2n k.scramble), (2, b2n (k.phase == 2 || k.phase == 3)), (3, b2n (k.phase == 1)),
      (4, b2n k.stopped)])),
    showOne rel 0xA028 (on (fun k => [(0, k.use % 2 ^ 32)])),
    showOne rel 0xA02C (on (fun k => [(0, k.use / 2 ^ 32)]))]

/-- The transfers held in a cove's clients (XL_WQ_HELD). -/
def cvHeld (s : State) (c : Nat) : List Xfer :=
  (s.xl.xfers.map (·.2)).filter (fun x => x.tag == c && match x.stage with | .held _ _ => true | _ => false)

/-- XL_ of a cove's window. -/
def viewXlate (s : State) (c rel : Nat) : Option Shown :=
  firstShown [
    showOne rel 0x3008 [(0, wrackCount s c), (9, b2n (wrackFull s c))],
    showOne rel 0x3018 [(0, (cvHeld s c).length), (16, ((cvHeld s c).map (·.ctx)).dedup.length)],
    showOne rel 0x3040 [(0, (invsOf s c).length)]]

/-! ### Chapters 06, 07 -/

/-- Whether a tile of a unit waits on a held fault (R152). -/
def unitPaused (s : State) (u : Nat) : Bool :=
  s.xl.xfers.any (fun e => e.2.src == u && match e.2.stage with | .held _ _ => true | _ => false)

/-- BUSY, PAUSED, FENCED and OWNER of a unit with one tile. -/
def unitShown (s : State) (u k i : Nat) (fenceBit : Nat) : Shown :=
  [(0, b2n (thas s.sq.engines u)), (1, b2n (unitPaused s u)), (fenceBit, b2n (fenceOn s (resKey k i))), (8, (ownerOf s k i).getD 31)]

/-- The kind of work a sweep engine runs, numbered as R213. Log entries 37 (DESIGN CHOICE), 53 (DESIGN CHOICE). -/
def sweepWork (s : State) (n : Nat) : Nat :=
  let mine := s.en.moves.filter (fun m => m.sweep == n)
  if !s.plan.fills.isEmpty then 1
  else if s.mem.kr.any (fun e => e.2.phase == 2) then 2
  else if s.mem.kids.any (fun e => e.2.st == .flushing) then 3
  else if mine.any (fun m => m.kind == .prefetch) then 5
  else if mine.any (fun m => match m.kind with | .compaction _ _ => true | _ => false) then 6
  else if mine.any (fun m => m.kind == .advice) then 7
  else 0

/-- GP_, HD_, TU_, RM_, TK_ and SW_ of the fabric-global space, and XL_WALK_BUSY. Log entry 53 (DESIGN CHOICE). -/
def viewEngines (s : State) (off : Nat) : Option Shown :=
  firstShown [
    showOne off 0x30018 [(0, s.xl.walks.length), (16, s.xl.missq.length)],
    showAt off 0x300000 64 0x4000 (fun n =>
      let g := tfind s.en.gp (0x1000 + n)
      unitShown s (0x1000 + n) kSH (n / 2) 3
        ++ [(2, b2n (match g with | some g => g.bags.any (fun b => b.2.ph == .replay) | none => false)), (16, (g.map (·.ctx)).getD 0)]),
    showAt off 0x40000 16 0x100 (fun k => [(8, (ownerOf s kSH (2 * k)).getD 31), (16, (ownerOf s kSH (2 * k + 1)).getD 31)]),
    showAt off 0x50040 16 4 (fun c => [(0, flipState s c)]),
    showAt off 0x50100 8 4 (fun n => unitShown s (0x4000 + n) kTU n 2 ++ [(16, (s.en.slots.filter (fun e => e.2.eng == n)).length)]),
    showAt off 0x60000 16 4 (fun n => unitShown s (0x3000 + n) kRM n 2),
    showAt off 0x70000 8 4 (fun n => unitShown s (0x5000 + n) kTK n 2),
    showAt off 0x400000 32 0x10000 (fun n => [(0, sweepWork s n), (16, (s.en.moves.filter (fun m => m.sweep == n)).length)])]

/-- TU_CV_ and SW_CV_ of a cove's window. -/
def viewTables (s : State) (c rel : Nat) : Option Shown :=
  let i := fld s (F.TU_CV_TBL_SEL_SLOT c)
  let on (f : TSlot → Shown) : Shown := match tabOf s c i with | some x => f x | none => []
  firstShown [
    showOne rel 0x5004 (on (fun x => [(0, 1), (1, b2n x.incomplete), (2, b2n x.compacting), (4, x.eng), (16, min 65535 (pinOld s c i x.pub))])),
    showOne rel 0x5008 (on (fun x => [(0, x.pub)])),
    showOne rel 0x500C (on (fun x => [(0, x.entries)])),
    showOne rel 0x5010 [(0, flipState s c), (2, fld s (F.TU_FLIP_STATUS_OUTCOME c))],
    showOne rel 0x50A8 [(0, tenantMoves s c)]]

/-! ### Chapters 08–11 -/

/-- Whether the head of a queue waits on its event (R234). -/
def headWaits (s : State) (c : Nat) (x : Queue) : Bool :=
  match x.fifo with
  | e :: _ => match e.wev with
    | some (ev, tgt) => match (evValue s c ev).1 with | some v => decide (v < tgt) | none => true
    | none => false
  | [] => false

/-- The STATE of a queue (OB_Q_STATUS). -/
def QPhase.code : QPhase → Nat
  | .free => 0 | .active => 1 | .draining => 2

/-- The STATE of a context (OB_CTX_STATE). -/
def ctxStateOf (s : State) (c x : Nat) : Nat :=
  if isKilled s c x then 3 else if isRunning s c x then 2 else if isResident s c x then 1 else 0

/-- OB_ of the fabric-global space. -/
def viewObjects (s : State) (off : Nat) : Option Shown :=
  firstShown [
    showAt off 0x8000C 16 0x40 (fun c => [(0, (s.ob.slots.filter (fun x => x.cove == c)).length),
      (8, min 63 (s.ob.waiters.filter (fun w => w.1 == c)).length)]),
    showOne off 0x80400 [(0, 48 - s.ob.slots.length)]]

/-- OB_, EV_ and SQ_ of a cove's window. Log entry 53 (DESIGN CHOICE). -/
def viewCvWork (s : State) (c rel : Nat) : Option Shown :=
  let g := graphOf s c (fld s (F.OB_G_SEL_SLOT c))
  let x := fld s (F.OB_CTX_SEL_CTX c)
  let k := queueOf s c (fld s (F.SQ_CV_Q_SEL_QUEUE c))
  let steps := stepsWhere s (fun x => x.cove == c)
  firstShown [
    showAt rel 0x6100 64 8 (fun q =>
      let x := queueOf s c q
      [(0, x.ph.code), (2, b2n x.rt), (4, b2n (x.ph == .draining && x.abort)), (8, depth s c q), (17, b2n (headWaits s c x))]),
    showAt rel 0x6104 64 8 (fun q => [(0, (queueOf s c q).share), (16, (queueOf s c q).reserve)]),
    showOne rel 0x6304 [(0, g.href.getD 0)],
    showOne rel 0x6308 [(0, g.gen)],
    showOne rel 0x6314 [(0, ctxStateOf s c x), (2, b2n (s.ob.waiters.contains (c, x)))],
    showOne rel 0x681C [(8, slotsInUse s c)],
    showOne rel 0x7004 [(0, fld s (F.SQ_CFG_WDOG c)), (7, b2n (flag s (F.SQ_SPILL_STATUS_READY c))), (8, spillTotal s c)],
    showOne rel 0x7008 [(0, (spillUsed s c).length)],
    showOne rel 0x700C [(0, steps.length), (9, (steps.filter (fun e => match e.2.ph with | .preempted _ => true | _ => false)).length),
      (18, (steps.filter (fun e => !e.2.placed)).length)],
    showOne rel 0x707C [(0, min k.avg (2 ^ 32 - 1))],
    showOne rel 0x7080 [(0, min k.dev (2 ^ 32 - 1))]]

/-- BW_ of the fabric-global space. Log entry 53 (DESIGN CHOICE). -/
def viewReguls (s : State) (off : Nat) : Option Shown :=
  let r := fld s F.BW_REG_SEL_REG
  let g := regulOf s r
  firstShown [
    showOne off 0xB0004 [(0, g.par.cls), (2, b2n g.par.urgEn), (3, b2n g.par.missIen), (4, g.par.hyst), (8, g.par.window), (24, regOwner s r)],
    showOne off 0xB0008 [(0, g.par.budget)],
    showOne off 0xB000C [(0, g.eff)],
    showOne off 0xB0010 [(0, g.urg), (2, b2n g.held), (3, b2n g.missing), (4, min 15 g.run)]]

/-- BW_CV_REG_EFF: a regulator of the cove's manifest. -/
def viewCvRegul (s : State) (c rel : Nat) : Option Shown :=
  let r := fld s (F.BW_CV_REG_SEL_REG c)
  let g := regulOf s r
  showOne rel 0x8034 (if (fld s (F.CV_MANIFEST_REG c (r / 32))).testBit (r % 32) then [(0, g.eff), (24, g.par.cls)] else [])

/-- The target of a routed source, or the service target of an ACTIVE one. -/
def Src.at (x : Src) : Nat := if x.active then x.svc else x.route.getD 0
/-- Whether ROUTE is valid. -/
def Src.routed (x : Src) : Bool := x.active || x.route.isSome

/-- BC_ of the fabric-global space. -/
def viewBeacon (s : State) (off : Nat) : Option Shown :=
  let i := fld s F.BC_SRC_SEL_SOURCE
  let x := srcOf s i
  firstShown [
    showOne off 0xC0008 [(3, b2n (nmiOut s))],
    showOne off 0xC0014 [(0, x.prio), (4, b2n x.en), (8, x.target), (16, srcClass i), (20, if i < 512 then srcCove i else 16)],
    showOne off 0xC0018 [(0, b2n x.pending), (1, b2n x.held), (2, b2n x.active), (3, b2n x.routed), (4, x.at)],
    showAt off 0xC0100 32 4 (fun w => [(0, ((List.range 32).filter (fun b => (srcOf s (32 * w + b)).pending)).foldl (fun a b => a + 2 ^ b) 0)]),
    showAt off 0xC1000 64 0x10 (fun t =>
      let g := tgtOf s t
      [(0, g.mode), (2, b2n g.en), (8, g.vector), (24, (tgtOwner s t).getD 16)]),
    showAt off 0xC100C 64 0x10 (fun t => [(0, b2n (lineReq s t)), (1, b2n (tgtFenced s t)), (2, b2n (tgtOf s t).badvec),
      (8, (srcsWhere s (fun _ x => x.active && x.svc == t)).length)])]

/-- BC_CV_ of a cove's window; a target that the manifest does not show reads zero. -/
def viewCvBeacon (s : State) (c rel : Nat) : Option Shown :=
  let mine (t : Nat) (f : Tgt → Shown) : Shown := if tgtOwner s t = some c then f (tgtOf s t) else []
  firstShown [
    showAt rel 0x9000 32 4 (fun k =>
      let x := srcOf s (32 * c + k)
      [(0, x.prio), (4, b2n x.en), (8, x.at), (14, b2n x.routed), (15, b2n x.pending), (16, b2n x.held), (17, b2n x.active)]),
    showAt rel 0x9080 2 4 (fun k => [(0, fld s (F.BC_HOLDOFF_US (2 * c + k)))]),
    showAt rel 0x9100 64 0x10 (fun t => mine t (fun g => [(2, b2n g.en), (8, g.vector)])),
    showAt rel 0x910C 64 0x10 (fun t => mine t (fun g => [(0, b2n (lineReq s t)), (1, b2n (tgtFenced s t)), (2, b2n g.badvec)]))]

/-! ### Chapters 13, 14 -/

/-- A frequency in MHz, whole. -/
def mhz (khz : ℚ) : Nat := (khz / 1000).floor.toNat

/-- CK_, VS_, FB_, LB_ and LC_. -/
def viewClocks (s : State) (off : Nat) : Option Shown :=
  let d := fld s F.CK_DOM_SEL_DOM
  let x := domNow s d
  let n := fld s F.FB_SENS_SEL_SENSOR
  firstShown [
    showOne off 0xE0000 [(16, fld s F.CK_STATUS_XA_SEL)],
    showOne off 0xE0024 (if d < 100 then [(0, x.src), (4, x.div), (12, b2n x.forced), (13, b2n x.next.isSome), (16, mhz (domKhz s d))] else []),
    showAt off 0xE0040 6 4 (fun p =>
      let lock := (fld s F.CK_STATUS_LOCK).testBit p
      match tfind s.plan.loops p with
      | some l => [(8, l.postdiv), (12, b2n lock), (13, b2n (slewing s p)), (14, b2n (lock && l.ssDepth != 0)), (16, mhz (srcKhz s p))]
      | none => []),
    showAt off 0xF0000 6 0x100 (fun i => [(16, fld s (F.VS_ISL_STATE_MV i))]),
    showAt off 0xF0004 6 0x100 (fun i =>
      [(0, fld s (F.VS_ISL_LIMIT_VMAX_MV i)), (12, fld s (F.VS_ISL_LIMIT_SLEW i)), (16, fld s (F.VS_ISL_LIMIT_VBOOT_MV i))]),
    showAt off 0x600020 6 8 (fun i => [(24, fld s (F.FB_ISL_ADJ_KMV i))]),
    showOne off 0x600084 (if n < 48 then [(0, (Config.sensorBase n).toNat), (16, tgetD s.ck.ratios n 0)] else []),
    showOne off 0x610008 [(0, s.lb.utc % 2 ^ 32)],
    showOne off 0x61000C [(0, s.lb.utc / 2 ^ 32)],
    showOne off 0x620004 [(0, if flag s F.LC_STATUS_PENDING then fld s F.LC_NEXT_CODE else fld s F.LC_STATE_STATE)],
    showOne off 0x62000C [(1, b2n (s.lc.ir == 0x10))]]

/-! ### All of them -/

/-- What a register of a cove's window shows. -/
def viewWindow (s : State) (c rel : Nat) : Option Shown :=
  firstShown [viewTide s c rel, viewXlate s c rel, viewTables s c rel, viewCvWork s c rel, viewCvRegul s c rel, viewCvBeacon s c rel,
    viewCvRange s c rel]

/-- What a register shows beside the fields that are stored for it. -/
def viewOf (s : State) (off : Nat) : Shown :=
  (if 0x1000000 ≤ off then viewWindow s ((off - 0x1000000) / 0x100000) (off % 0x100000)
   else firstShown [viewFabric s off, viewStacks s off, viewEngines s off, viewObjects s off, viewReguls s off, viewBeacon s off,
     viewClocks s off]).getD []

end Sys2Proof.Machine
end

