-- ==== Sys2Proof/Machine/RegIo.lean ====
section
/-!
DEFINITION. Reads and writes of registers by a requester: the register map, the access codes, the latches of 64-bit counters,
and the operations that writes start (R6–R13, R20, R25, R26, R246).
-/
namespace Sys2Proof.Machine

/-! ### The register map -/

/-- Whether a row stands at an offset. -/
def RegRow.holds (r : RegRow) (off : Nat) : Bool :=
  let d := off - r.base
  let i := if r.s1 = 0 then 0 else d / r.s1
  let e := if r.s1 = 0 then d else d % r.s1
  let j := if r.s2 = 0 then 0 else e / r.s2
  let z := if r.s2 = 0 then e else e % r.s2
  decide (r.base ≤ off ∧ i < r.n1 ∧ j < r.n2 ∧ z = 0)

/-- The row of an offset; none where the offset is reserved (R8). -/
def rowAt (off : Nat) : Option RegRow := regRows.find? (fun r => r.holds off)

/-- The cove whose window an offset lies in. -/
def offCove (off : Nat) : CoveId := Fin.ofNat 16 ((off - 0x1000000) / 0x100000)
/-- Whether an offset lies in a cove window. -/
def inWin (off : Nat) : Bool := decide (0x1000000 ≤ off)

/-- Where a requester's own copy of a register is kept; other registers have one copy (R246). -/
def ownOff (q : Requester) (off : Nat) : Nat :=
  let rel := off % 0x100000
  if inWin off && (decide (0x6000 ≤ rel ∧ rel ≤ 0x601C) || decide (0x6800 ≤ rel ∧ rel ≤ 0x6818)) then off + 2 ^ 32 * qIdx q else off

/-- A stored field of a row. -/
def rowFld (q : Requester) (off : Nat) (f : Nat × Nat × Nat × AccCode) : Fld := ⟨ownOff q off, f.1, f.2.1, f.2.2.1, f.2.2.2⟩

/-! ### Reads -/

/-- The value of a field as read: shown from elsewhere, zero when WO, else as stored (R9). Log entry 53 (DESIGN CHOICE). -/
def fieldRead (s : State) (q : Requester) (off : Nat) (view : Shown) (f : Nat × Nat × Nat × AccCode) : Nat :=
  match view.find? (fun v => v.1 == f.1) with
  | some v => v.2 % 2 ^ f.2.1
  | none => match f.2.2.2 with
    | .wo => 0
    | _ => fld s (rowFld q off f)

/-- The word of a register of fields. -/
def plainRead (s : State) (q : Requester) (off : Nat) (r : RegRow) : Nat :=
  (r.flds.map (fun f => fieldRead s q off (viewOf s off) f * 2 ^ f.1)).foldl (· + ·) 0

/-- The value of the 64-bit counter whose low word stands at an offset: tides show their count, and selected counters follow
their select register (R12, R92). -/
def ctrValue (s : State) (off : Nat) : Nat :=
  let c := (offCove off).val
  let rel := off % 0x100000
  if off = C.TD_MGMT_COUNT then tideCount s 16
  else if off = C.LB_CNT then (if fld s F.LB_CNT_SEL_INDEX < 26 then ctr s (lbCtr (fld s F.LB_CNT_SEL_INDEX)) else 0)
  else if inWin off && rel == 0x2000 then tideCount s c
  else if inWin off && decide (0x7064 ≤ rel ∧ rel < 0x707C) then ctr s (qCtr (fun _ => off) c (fld s (F.SQ_CV_Q_SEL_QUEUE c)))
  else if inWin off && decide (0x7094 ≤ rel ∧ rel < 0x70AC) then ctr s (xCtr (fun _ => off) c (fld s (F.SQ_CV_CTX_SEL_CTX c)))
  else if inWin off && rel == 0x5018 then fld64 s (F.TU_CV_FLIP_AT_LO c) (F.TU_CV_FLIP_AT_HI c)
  else ctr s off

/-- Whether an offset is the low word of a 64-bit counter, or of the launch count of a flip, which is read as one. -/
def isCtrLo (off : Nat) : Bool :=
  (inWin off && off % 0x100000 == 0x5018) || match rowAt off with | some r => r.kind == .ctrLo | none => false
/-- Whether an offset is the high word of one. -/
def isCtrHi (off : Nat) : Bool :=
  (inWin off && off % 0x100000 == 0x501C) || match rowAt off with | some r => r.kind == .ctrHi | none => false

/-- Key of a requester's latch of the counter at an offset (R12). -/
def latchKey (q : Requester) (off : Nat) : Nat := off * 32 + qIdx q

/-- A read of the low word of a counter: its low half, with the high half latched for the requester (R12). Log entry 53 (DESIGN CHOICE). -/
def ctrLoRead (s : State) (q : Requester) (off : Nat) : Nat × State :=
  let v := ctrValue s off
  (v % 2 ^ 32, { s with latches := tsetD s.latches (latchKey q off) 0 (v / 2 ^ 32) })

/-- The target whose claim register stands at an offset, and the cove whose window it stands in (BC_CLAIM, BC_CV_CLAIM). -/
def claimAt (off : Nat) : Option (Nat × Option Nat) :=
  if inWin off then (instAt (off % 0x100000) 0x9104 64 0x10).map (fun t => (t, some (offCove off).val))
  else (instAt off 0xC1004 64 0x10).map (fun t => (t, none))

/-- A read of a register with its effect: a claim, a latch, or none. The window of an absent cove and a reserved offset read
zero (R8, R26). Log entry 54 (DESIGN CHOICE). -/
def readReg (s : State) (q : Requester) (off : Nat) : Nat × State :=
  if inWin off && !coveExists s (offCove off) then (0, s)
  else match claimAt off with
    | some (t, none) => let (w, s') := claimTgt s t; (w.toNat, s')
    | some (t, some c) => if tgtOwner s t = some c then (let (w, s') := claimTgt s t; (w.toNat, s')) else (0, s)
    | none =>
      if isCtrLo off then ctrLoRead s q off
      else if isCtrHi off then (tgetD s.latches (latchKey q (off - 4)) 0, s)
      else match rowAt off with
        | some r => (plainRead s q off r, s)
        | none => (0, s)

/-- The answer of a register read to its requester (R378). Log entry 54 (DESIGN CHOICE). -/
def answerRead (q : Requester) (r : Nat × State) : State :=
  match q with
  | .ibpin => emit r.2 (.ibResult 0 (some (BitVec.ofNat 32 r.1)))
  | _ => emit r.2 (.regData q (BitVec.ofNat 32 r.1))

/-- A read of a requester: an error where the ports are closed, where a virtual function leaves its window, and the data
otherwise (R6, R20, R21, R376). Log entry 54 (DESIGN CHOICE). -/
def regRead (s : State) (q : Requester) (off : Nat) (r : Nat × State) : State :=
  if hostClosed s then closedAccess s q
  else match q with
    | .vf v =>
      if !inWin off then emit s (.unsupported q)
      else if v != offCove off then emit (winDrop s v.val (offCove off).val false off) (.unsupported q)
      else answerRead q r
    | _ => answerRead q r

/-- A misaligned access, or one of another size than 32 bits, changes no register: Unsupported Request on the host link,
STATUS 0x01 and FAB_IB_STATUS.ERROR on Ibpin (R7, R380). -/
def misshapen (s : State) (q : Requester) : State :=
  if hostClosed s then closedAccess s q
  else match q with
    | .ibpin => emit (setFlag s F.FAB_IB_STATUS_ERROR true) (.ibResult 1 none)
    | _ => emit s (.unsupported q)

/-- COUNTER_LO_READ: the low word of a counter, with the high word latched; at another offset no counter is read (R7, R12).
Log entry 54 (DESIGN CHOICE). -/
def execCounterLoRead (q : Requester) (off : BitVec 25) (s : State) : Ans :=
  let o := off.toNat
  .next (if o % 4 != 0 then misshapen s q else if isCtrLo o then regRead s q o (if inWin o && !coveExists s (offCove o) then (0, s) else ctrLoRead s q o) else s)

/-! ### Writes by access code -/

/-- Whether a write of a value to a field is ignored by what its Meaning says. -/
def fieldIgnores (s : State) (off lo v : Nat) : Bool :=
  let rel := off % 0x100000
  if inWin off then false
  else if (instAt off 0x300004 64 0x4000).isSome then lo == 0 && v == 0
  else if (instAt off 0x400004 32 0x10000).isSome then v == 0 || decide (168 < v)
  else if (instAt off 0xA0000 16 0x20).isSome then v == 0
  else if off = 0xF0804 then decide (v < 85 ∨ 115 < v)
  else if off = 0x600008 then v == 0
  else if (instAt off 0x100080 32 0x10000).isSome then rel % 0x10000 == 0x80 && lo == 20 && v == 1 && !isMakerOrIntegrator s
  else false

/-- A field written by its access code (R9). -/
def fieldWrite (off : Nat) (q : Requester) (v : Nat) (s : State) (f : Nat × Nat × Nat × AccCode) : State :=
  let x := bits v f.1 f.2.1
  let g := rowFld q off f
  match f.2.2.2 with
  | .rw => if fieldIgnores s off f.1 x then s else setFld s g x
  | .rw1c => setFld s g (fld s g - (fld s g &&& x))
  | .rw1s => setFld s g (fld s g ||| x)
  | _ => s

/-- A register of fields written by the access codes; reserved offsets and counters ignore it (R8, R9). -/
def plainWrite (s : State) (q : Requester) (off v : Nat) : State :=
  match rowAt off with
  | some r => r.flds.foldl (fieldWrite off q v) s
  | none => s

/-- A plain write in its place: the fabric-global space, or a cove window, where the registers of R161 are the driver's. -/
def plainAt (s : State) (q : Requester) (off v : Nat) : Ans :=
  if !inWin off then atFabric s q (plainWrite s q off v)
  else if decide (0x3004 ≤ off % 0x100000 ∧ off % 0x100000 ≤ 0x3040) then atDriver s q (offCove off) off (plainWrite s q off v)
  else atWindow s q (offCove off) off (plainWrite s q off v)

/-! ### Writes that start something -/

/-- Both effects of one write of the fabric-global space, in order, and one answer to a requester that does not reach it (R6). -/
def bothOf (s : State) (q : Requester) (a : Ans) (f : State → Ans) : Ans :=
  if hostClosed s || !qMgmt q then atFabric s q s else match a with
    | .next s => f s
    | x => x

/-- What a write does, if the register is one that starts something. -/
abbrev Starts := Option Ans

/-- A write to one register. -/
def wOne (off base : Nat) (a : Ans) : Starts := if off = base then some a else none
/-- A write to a register of a block of instances. -/
def wAt (off base n stride : Nat) (f : Nat → Ans) : Starts := (instAt off base n stride).map f

/-- Both effects of one write, in order, where the ports are open to the requester. -/
def thenAns (a : Ans) (f : State → Ans) : Ans :=
  match a with
  | .next s => f s
  | x => x

/-- FAB_, CH_, TD_: the fabric-global space below XL_. -/
def startFabric (q : Requester) (off : Nat) (w : Word) (s : State) : List Starts :=
  let v := w.toNat
  [ wOne off 0x304 (execFabFwCommit q w s),
    wOne off 0x400 (execFabRstCtlGo q w s),
    wOne off 0x10000 (execChEn q w s),
    wOne off 0x1000C (atFabric s q (chGuard s q (fun s => if chLoading s then plainWrite s q off v else s))),
    wOne off 0x10010 (atFabric s q (chGuard s q (fun s => if chLoading s then plainWrite s q off v else s))),
    wOne off 0x10014 (atFabric s q (chGuard s q (fun s => if chLoading s then plainWrite s q off v else s))),
    wOne off 0x10018 (execChWdata q w s),
    wOne off 0x10030 (if bit v 31 then execChUnfence q w s else execChFence q w s),
    wOne off 0x20000 (if bit v 0 && bit v 1 then bothOf s q (execTdCal q s) (execTdResume q)
      else if bit v 0 then execTdCal q s else if bit v 1 then execTdResume q s else atFabric s q s) ]

/-- The slot operation of TU_BIND_CTL. -/
def bindWrite (q : Requester) (v : Nat) (s : State) : Ans :=
  let c : CoveId := Fin.ofNat 16 (bits v 0 4)
  let i : Idx64 := Fin.ofNat 64 (bits v 4 6)
  match bits v 28 3 with
  | 1 => execTuBind q c i (BitVec.ofNat 12 (bits v 10 12)) (Fin.ofNat 8 (bits v 22 3)) s
  | 2 => execTuUnbind q c i s
  | 3 => execTuDiscardPending q c i s
  | 4 => execTuCompactNow q c i s
  | _ => atFabric s q s

/-- XL_, HD_, TU_, SC_ and the sweep engines. -/
def startPlane (q : Requester) (off : Nat) (w : Word) (s : State) : List Starts :=
  let v := w.toNat
  [ wAt off 0x31020 16 0x40 (fun c => if bit v 0 then execXlDlSwap q (Fin.ofNat 16 c) s
      else if bit v 1 then execXlDlStop q (Fin.ofNat 16 c) s else atFabric s q s),
    wAt off 0x40004 16 0x100 (fun k => execHdCtlArb q (Fin.ofNat 16 k) (bit v 0) s),
    wOne off 0x50008 (bindWrite q v s),
    wOne off 0x5002C (if bit v 31 then execTuFlipGo q (Fin.ofNat 16 (bits v 0 4)) s else atFabric s q s),
    wOne off 0x108020 (if bit v 8 then execScKrCmdRekey q (Fin.ofNat 64 (bits v 0 6)) s else atFabric s q s),
    wAt off 0x100004 32 0x10000 (fun n =>
      let s1 := plainWrite s q off v
      if bit v 0 then execScMdcFlush q (Fin.ofNat 32 n) (if hostClosed s || !qMgmt q then s else s1) else atFabric s q s1),
    wAt off 0x100008 32 0x10000 (fun n => if bit v 31 then execScPeakClr q (Fin.ofNat 32 n) s else atFabric s q s) ]

/-- OB_AREA or SQ_SPILL: EN 1 enables; otherwise the fields are set while EN is 0 (R218, R266). -/
def areaWrite (q : Requester) (off v : Nat) (on : Bool) (enable : Ans) (s : State) : Ans :=
  if bit v 31 then enable else atFabric s q (if on then s else plainWrite s q off v)

/-- OB_, EV_, SQ_, BC_: work and interrupts in the fabric-global space. -/
def startWork (q : Requester) (off : Nat) (w : Word) (s : State) : List Starts :=
  let v := w.toNat
  [ wAt off 0x80000 16 0x40 (fun c => areaWrite q off v (flag s (F.OB_AREA_EN c)) (execObAreaEnable q (Fin.ofNat 16 c) w s) s),
    wAt off 0x80008 16 0x40 (fun c =>
      let x := BitVec.ofNat 12 (bits v 0 12)
      match bits v 12 2 with
      | 1 => execObCtxKill q (Fin.ofNat 16 c) x s
      | 2 => execObCtxRevive q (Fin.ofNat 16 c) x s
      | _ => atFabric s q s),
    wAt off 0x90000 16 0x20 (fun c => execEvCringBase q (Fin.ofNat 16 c) w s),
    wAt off 0xA0004 16 0x20 (fun c => areaWrite q off v (flag s (F.SQ_SPILL_EN c)) (execSqSpillEnable q (Fin.ofNat 16 c) w s) s),
    wOne off 0xC0000 (atFabric s q (beaconStep s (fun s => retryAll (plainWrite s q off v)))),
    wOne off 0xC0008 (
      let s1 := if bit v 1 then setFlag s F.BC_NMI_CLOCK false else s
      if hostClosed s || !qMgmt q then atFabric s q s else execBcNmiTest q (bit v 2) s1),
    wOne off 0xC0014 (if qMgmt q then execBcSrcCfgWrite q (Fin.ofNat 1024 (fld s F.BC_SRC_SEL_SOURCE)) w s else atFabric s q s),
    wAt off 0xC1000 64 0x10 (fun t => if qMgmt q then execBcTgtCfgWrite q (Fin.ofNat 64 t) w s else atFabric s q s),
    wAt off 0xC1008 64 0x10 (fun t => if qMgmt q then execBcEoi q (Fin.ofNat 64 t) w s else atFabric s q s),
    wAt off 0xC100C 64 0x10 (fun t => atFabric s q (if bit v 2 then setTgt s t { tgtOf s t with badvec := false } else s)) ]

/-- The migration operation of CV_MIG_CTL. -/
def migCtlWrite (q : Requester) (c : CoveId) (v : Nat) (s : State) : Ans :=
  match bits v 0 3 with
  | 1 => execMigCopyOut q c s
  | 2 => execMigCopyIn q c s
  | 3 => execMigExport q c s
  | 4 => execMigImport q c s
  | _ => atFabric s q s

/-- CV_ of the manager, VS_, FB_, LB_, LC_ and SL_. -/
def startManager (q : Requester) (off : Nat) (w : Word) (s : State) : List Starts :=
  let v := w.toNat
  [ wAt off 0xD0000 16 0x80 (fun c => execCvQuiesceReq q (Fin.ofNat 16 c) w s),
    wAt off 0xD0004 16 0x80 (fun c => execCvResetGo q (Fin.ofNat 16 c) w s),
    wAt off 0xD0028 16 0x80 (fun c => migCtlWrite q (Fin.ofNat 16 c) v s),
    wAt off 0xF0008 6 0x100 (fun i => execVsIslReq q (Fin.ofNat 6 i) w s),
    wAt off 0xF000C 6 0x100 (fun i => execVsIslCap q (Fin.ofNat 6 i) w s),
    (if off % 0x100 < 0x40 then none else wAt off (0xF0040 + off % 0x100 - 0x40) 6 0x100 (fun i =>
      if off % 0x100 < 0x80 then execVsCoveReq q (Fin.ofNat 6 i) (Fin.ofNat 16 ((off % 0x100 - 0x40) / 4)) w s else atFabric s q s)),
    wOne off 0xF0800 (
      let s1 := if bit v 1 then setFlag s F.VS_STATUS_PMB_ERR false else s
      if bit v 0 then execVsAvsRetry q (if hostClosed s || !qMgmt q then s else s1) else atFabric s q s1),
    wOne off 0x600000 (if bit v 0 then execFbReplan q s else atFabric s q s),
    wOne off 0x610004 (if bit v 0 && bit v 1 then bothOf s q (execLbShutdown q s) (execLbWrite q)
      else if bit v 0 then execLbShutdown q s else if bit v 1 then execLbWrite q s else atFabric s q s),
    wOne off 0x61000C (execLbHosttime q w s),
    wOne off 0x620004 (execLcNext q w s),
    wOne off 0x62000C (execLcDbgOpen q w s),
    wOne off 0x630000 (execSlFreeze q w s) ]

/-- The operation of OB_CMD. -/
def obWrite (q : Requester) (c : CoveId) (off v : Nat) (s : State) : Ans :=
  match bits v 0 4 with
  | 1 => execObCreate q c s
  | 2 => execObHold q c s
  | 3 => execObDrop q c s
  | 4 => execObFree q c s
  | 5 => execObQuery q c s
  | 6 => execQCreate q c s
  | 7 => execQDestroy q c s
  | 8 => execGSet q c s
  | 9 => execGClear q c s
  | _ => atWindow s q c off s

/-- The operation of EV_OP. -/
def evWrite (q : Requester) (c : CoveId) (off v : Nat) (s : State) : Ans :=
  match bits v 0 3 with
  | 1 => execEvOpSignal q c s
  | 2 => execEvOpWait q c s
  | 3 => execEvOpReset q c s
  | 4 => execEvOpRead q c s
  | _ => atWindow s q c off s

/-- XL_WQ_RESOLVE (R152, R161). -/
def resolveWrite (q : Requester) (c : CoveId) (off v : Nat) (s : State) : Ans :=
  let x := BitVec.ofNat 12 (bits v 0 12)
  match bits v 12 2 with
  | 1 => execXlWqReplay q c x s
  | 2 => execXlWqKill q c x s
  | _ => atDriver s q c off s

/-- The registers of a cove's window. -/
def startWindowRegs (q : Requester) (off : Nat) (w : Word) (s : State) : List Starts :=
  let v := w.toNat
  let c := offCove off
  let rel := off % 0x100000
  let tgt (t : Nat) (f : State → State) : Ans := atWindow s q c off (if tgtOwner s t = some c.val then f s else s)
  [ wOne rel 0x104C (if bit v 0 then execCvBxGo q c s else atWindow s q c off s),
    wOne rel 0x3004 (execXlWqCons q c w s),
    wOne rel 0x300C (resolveWrite q c off v s),
    wOne rel 0x303C (if bit v 0 then execXlInvGo q c s else atDriver s q c off s),
    wOne rel 0x50A4 (if bit v 0 then execSwCvMvGo q c s else atWindow s q c off s),
    wOne rel 0x6010 (obWrite q c off v s),
    wOne rel 0x6810 (evWrite q c off v s),
    wOne rel 0x683C (execEvCringCons q c w s),
    wAt rel 0x9000 32 4 (fun k => atWindow s q c off (writeSrcCfg s (.vf c) (32 * c.val + k) v)),
    wAt rel 0x9080 2 4 (fun k => atWindow s q c off (setFld s (F.BC_HOLDOFF_US (2 * c.val + k)) (bits v 0 16))),
    wOne rel 0x9088 (execBcCvSwi q c w s),
    wAt rel 0x9100 64 0x10 (fun t => tgt t (fun s => writeTgtCfg s (.vf c) t v)),
    wAt rel 0x9108 64 0x10 (fun t => tgt t (fun s => eoiTgt s t (v % 1024))),
    wAt rel 0x910C 64 0x10 (fun t => tgt t (fun s => if bit v 2 then setTgt s t { tgtOf s t with badvec := false } else s)),
    wAt rel 0x10000 64 0x1000 (fun k => execDoorbellWrite q c (Fin.ofNat 64 k) w s) ]

/-- What a write of a register starts, if anything. -/
def starts (q : Requester) (off : Nat) (w : Word) (s : State) : Starts :=
  ((if inWin off then startWindowRegs q off w s
    else startFabric q off w s ++ startPlane q off w s ++ startWork q off w s ++ startManager q off w s).find? Option.isSome).join

/-- A write of a register by a requester: what it starts, or its fields by their access codes (R7–R11). -/
def writeReg (q : Requester) (off : Nat) (w : Word) (s : State) : Ans :=
  match starts q off w s with
  | some a => a
  | none => plainAt s q off w.toNat

/-- The RW1C bits of the register at an offset. -/
def clearMask (off : Nat) : Nat :=
  match rowAt off with
  | some r => (r.flds.filter (fun f => f.2.2.2 == .rw1c)).foldl (fun a f => a + (2 ^ f.2.1 - 1) * 2 ^ f.1) 0
  | none => 0

/-- A written word without the RW1C bits that the fabric sets in the same cycle, which stay set (R10). Log entry 57 (DESIGN CHOICE). -/
def keepLate (off : Nat) (v late : Word) : Word := v &&& ~~~(late &&& BitVec.ofNat 32 (clearMask off))

/-- REG_WRITE: a register write; one whose register has a row of its own acts as that row does (R7–R11). Log entry 57 (DESIGN CHOICE). -/
def execRegWrite (q : Requester) (off : BitVec 25) (v : WriteData) (s : State) : Ans :=
  if off.toNat % 4 != 0 then .next (misshapen s q) else writeReg q off.toNat (keepLate off.toNat v.word v.late) s

/-- REG_ACCESS_BAD_SIZE: an access that is misaligned or of another size (R7, R380). Log entry 11 (DESIGN CHOICE). -/
def execRegAccessBadSize (q : Requester) (off : BitVec 25) (size : Nat) (_write : Bool) (s : State) : Ans :=
  .next (if off.toNat % 4 = 0 && size = 4 then s else misshapen s q)

end Sys2Proof.Machine
end

