-- ==== Sys2Proof/Machine/Ibpin.lean ====
section
/-!
DEFINITION. The management port Ibpin: its frames and their STATUS (R378–R381).
-/
namespace Sys2Proof.Machine

/-- An Ibpin frame that ends with a STATUS and no data. -/
def ibEnd (s : State) (status : Nat) : State := emit s (.ibResult status none)

/-- The registers the slack controller serves: LC_STATE, SL_STATUS, SL_LAST, SL_LAST_TIME, SL_LAST_STOP0–3 and SL_CNT (R381).
Log entry 11 (DESIGN CHOICE). -/
def slackServes (a : Nat) : Bool := a == 0x620000 || (a % 4 == 0 && decide (0x630004 ≤ a ∧ a < 0x630028))

/-- Why a frame reaches no register, if it does not: the fabric reset, slack, an address error (R376, R380, R381). -/
def ibRefused (s : State) (addr : Nat) (read : Bool) : Option State :=
  if resetting s then some (ibEnd s 6)
  else if slackOn s && !(read && slackServes addr) then some (ibEnd s 4)
  else if addr % 4 != 0 || decide (0x2000000 ≤ addr) then some (ibEnd (setFlag s F.FAB_IB_STATUS_ERROR true) 1)
  else none

/-- IBPIN_READ: a read of a register with management rights (R6, R378, R380, R381). Log entries 12 (DEDUCED), 54 (DESIGN CHOICE). -/
def execIbpinRead (addr : Word) (s : State) : Ans :=
  match ibRefused s addr.toNat true with
  | some t => .next t
  | none => .next (answerRead .ibpin (readReg s .ibpin addr.toNat))

/-- A write over Ibpin, without its STATUS. Log entry 51 (DESIGN CHOICE). -/
def ibWrite (s : State) (addr v : Word) : Ans := writeReg .ibpin addr.toNat v s

/-- IBPIN_WRITE: a write of a register with management rights (R6, R378, R380, R381). Log entry 12 (DEDUCED). -/
def execIbpinWrite (addr v : Word) (s : State) : Ans :=
  match ibRefused s addr.toNat false with
  | some t => .next t
  | none => thenAns (ibWrite s addr v) (fun t => .next (ibEnd t 0))

/-- IBPIN_BAD_OPCODE: nothing done (R380, FAB_IB_STATUS.BADOP). Log entry 12 (DEDUCED). -/
def execIbpinBadOpcode (opcode : Byte) (s : State) : Ans :=
  if opcode = 1 ∨ opcode = 2 then .next s
  else if resetting s then .next (ibEnd s 6)
  else if slackOn s then .next (ibEnd s 4)
  else .next (ibEnd (setFlag s F.FAB_IB_STATUS_BADOP true) 2)

/-- A write that has begun completes without its result, where it reaches a register (R379, R380). Log entry 51 (DESIGN CHOICE). -/
def begunWrite (s : State) (wr : Option (Word × Word)) : Ans :=
  match wr with
  | some (a, v) => if (ibRefused s a.toNat false).isSome then .next s else ibWrite s a v
  | none => .next s

/-- IBPIN_FRAME_ABORT: a frame that ends before its command phase is complete does nothing and sets SHORT; one that ends before
its result abandons it, and a write already begun completes (R380). Log entry 51 (DESIGN CHOICE). -/
def execIbpinFrameAbort (phaseDone : Bool) (wr : Option (Word × Word)) (s : State) : Ans :=
  if resetting s then .next s
  else if phaseDone then begunWrite s wr
  else .next (setFlag s F.FAB_IB_STATUS_SHORT true)

/-- IBPIN_TIMEOUT: STATUS 0x03; a write may have taken effect (R379, R380). In a freeze the frame ends with STATUS 0x04 (R381).
Log entry 51 (DESIGN CHOICE). -/
def execIbpinTimeout (wr : Option (Word × Word)) (s : State) : Ans :=
  if resetting s then .next (ibEnd s 6)
  else if slackOn s then .next (ibEnd s 4)
  else thenAns (begunWrite s wr) (fun t => .next (ibEnd (setFlag t F.FAB_IB_STATUS_TIMEOUT true) 3))

end Sys2Proof.Machine
end

