-- ==== Sys2Proof/Machine/Jtag.lean ====
section
/-!
DEFINITION. The JTAG port and what stands behind it: the instructions, the scan segments, the array dumps and the memory
instrument (R363–R366).
-/
namespace Sys2Proof.Machine

/-! ### The port, R363 -/

/-- Returned after SCRUBBED: data become visible (R362, R364). -/
def scrubbed (s : State) : Bool := fld s F.LC_STATE_STATE = 3 && flag s F.LC_STATUS_SCRUBBED

/-- Whether IJTAG reaches the network: not in Scrapped, and in Fielded only with consent (R363, R365). Log entry 50 (DESIGN CHOICE). -/
def networkOpen (s : State) : Bool :=
  if isScrapped s then false else if fld s F.LC_STATE_STATE = 2 then flag s F.LC_DBG_OPEN else true

/-- The states in which data are shown and taken (R364). Log entry 50 (DESIGN CHOICE). -/
def dataOpen (s : State) : Bool := isMakerOrIntegrator s || scrubbed s

/-- The state with a JTAG instruction in force. Log entry 50 (DESIGN CHOICE). -/
def setIr (s : State) (op : Nat) : State := { s with lc := { s.lc with ir := op } }

/-- The 1-bit bypass selected: its bit is a free value (R363). Log entries 2 (DESIGN CHOICE), 50 (DESIGN CHOICE). -/
def bypass (s : State) : State := let (b, s) := drawFree s 1; emit s (.tdo 1 b.toNat)

/-- The bits of a number, least significant first. Log entry 2 (DESIGN CHOICE). -/
def bitsOf (w v : Nat) : List Bool := (List.range w).map v.testBit

/-- The number of a list of bits, least significant first. -/
def ofBits (l : List Bool) : Nat := l.foldr (fun b a => b2n b + 2 * a) 0

/-- Cells whose level the state or the surroundings hold, and cells of clocked outputs, whose level is open. -/
def knownCells (w v : Nat) : List (Option Bool) := (bitsOf w v).map some
/-- The next `n` input cells, from input `k` on. -/
def inCells (s : State) (k n : Nat) : List (Option Bool) := (List.range n).map (fun i => some (tgetD s.env.pinIn (k + i) false))
/-- Cells of outputs whose level is open. -/
def openCells (n : Nat) : List (Option Bool) := List.replicate n none

/-- Where the cells of outputs and of pins of both directions stand in the register, and how many follow each place. -/
def outPlaces : List (Nat × Nat) := [(23, 65), (90, 4), (94, 7), (101, 2), (104, 2)]

/-- The cells of the boundary-scan register: the single pins of R373 but those of the TAP, in the order of its table.
Log entry 50 (DESIGN CHOICE). -/
def pinCells (s : State) : List (Option Bool) :=
  let p := pinLevels s
  inCells s 0 2 ++ knownCells 2 (fld s F.CK_STATUS_XA_SEL) ++ knownCells 5 (fld s F.FAB_ARR_INFO_SP_MIB)
    ++ knownCells 11 Config.idcodeMfr.toNat ++ inCells s 2 3 ++ knownCells 1 (b2n p.nmiOut) ++ knownCells 64 p.irq.toNat
    ++ inCells s 5 6 ++ knownCells 1 (b2n p.ibRdy) ++ openCells 1 ++ knownCells 1 (b2n p.flCsN) ++ inCells s 11 4 ++ openCells 2
    ++ inCells s 15 1 ++ openCells 2 ++ inCells s 16 1

/-- Cells as captured: an open level is a free value. Log entries 2 (DESIGN CHOICE), 50 (DESIGN CHOICE). -/
def capture (s : State) : List (Option Bool) → List Bool × State
  | [] => ([], s)
  | some b :: l => let (bs, s) := capture s l; (b :: bs, s)
  | none :: l =>
    let (v, s) := drawFree s 1
    let (bs, s) := capture s l
    ((v == 1) :: bs, s)

/-- One scan of the boundary-scan register: the pins are captured and shifted out, and what is shifted in, which no operand
holds, is a free value (R363). Log entries 2 (DESIGN CHOICE), 50 (DESIGN CHOICE). -/
def boundaryScan (s : State) : State :=
  let (cells, s) := capture s (pinCells s)
  let (v, s) := drawFree (emit s (.tdo cells.length (ofBits cells))) cells.length
  { s with lc := { s.lc with bsr := bitsOf cells.length v.toNat } }

/-- The output cells driven from the register's update stage (R363). Log entry 50 (DESIGN CHOICE). -/
def driveCells (s : State) : State := emit s (.boundary (outPlaces.flatMap (fun p => (s.lc.bsr.drop p.1).take p.2)))

/-- JTAG_TAP_RESET: IDCODE is selected (R363). -/
def execJtagTapReset (s : State) : Ans := .next (setIr s 2)

/-- JTAG_EXTEST: boundary scan in Maker and Integrator, with the outputs driven from the register before and after a scan of
it; otherwise a bypass (R363). Log entry 50 (DESIGN CHOICE). -/
def execJtagExtest (s : State) : Ans :=
  .next (if isMakerOrIntegrator s then driveCells (boundaryScan (driveCells (setIr s 0))) else bypass (setIr s 0xFF))

/-- JTAG_SAMPLE_PRELOAD: the pins are sampled and the register is preloaded, with no pin driven (R363). -/
def execJtagSamplePreload (s : State) : Ans := .next (boundaryScan (setIr s 1))

/-- The identification register (R363). -/
def idcode (s : State) : Nat :=
  fld s F.FAB_ID_REV / 16 * 2 ^ 28 + 0x0016 * 2 ^ 12 + Config.idcodeMfr.toNat * 2 + 1

/-- JTAG_IDCODE (R363). -/
def execJtagIdcode (s : State) : Ans := .next (emit (setIr s 2) (.tdo 32 (idcode s)))

/-- JTAG_IJTAG: the 1687 network, or a bypass in Scrapped and in Fielded without consent (R363–R365). Log entry 50 (DESIGN CHOICE). -/
def execJtagIjtag (s : State) : Ans :=
  .next (if isScrapped s then bypass (setIr s 0xFF)
    else if networkOpen s then setIr s 0x10 else bypass (setIr s 0x10))

/-- JTAG_SLACK: HOLD is held (R363, R367). -/
def execJtagSlack (s : State) : Ans := .next (setHold (setIr s 0x11) true)

/-- JTAG_RELEASE: HOLD is let go (R363, R370). -/
def execJtagRelease (s : State) : Ans := .next (setHold (setIr s 0x12) false)

/-- The STATUS register: LC_STATE, SL_STATUS and the low half of FAB_HALT_CAUSE0 (R363). -/
def jtagStatus (s : State) : Nat :=
  let r (off : Nat) : Nat := (readReg s .ibpin off).1
  r 0x620000 % 2 ^ 8 + r 0x630004 % 2 ^ 8 * 2 ^ 8 + 2 ^ 16 * (r 0x200 % 2 ^ 16)

/-- JTAG_STATUS (R363). -/
def execJtagStatus (s : State) : Ans := .next (emit (setIr s 0x13) (.tdo 32 (jtagStatus s)))

/-- JTAG_BYPASS: BYPASS or an opcode of no instruction (R363). -/
def execJtagBypass (s : State) : Ans := .next (bypass (setIr s 0xFF))

/-! ### Scan segments and array dumps, R364 -/

/-- Whether the network is selected and reached. -/
def networkSelected (s : State) : Bool := s.lc.ir == 0x10 && networkOpen s

/-- The domain of the unit that holds a register's flops: a stack's controller, a shoal engine, a sweep engine, the tide
masters in D96, else MG. Log entry 50 (DESIGN CHOICE). -/
def flopDomain (off : Nat) : Nat :=
  let off := off % 2 ^ 32
  if 0x100000 ≤ off ∧ off < 0x300000 ∧ off % 0x10000 < 0x8000 then (off - 0x100000) / 0x10000
  else if 0x300000 ≤ off ∧ off < 0x400000 then unitDomain (0x1000 + (off - 0x300000) / 0x4000)
  else if 0x400000 ≤ off ∧ off < 0x600000 then (off - 0x400000) / 0x10000
  else if 0x20000 ≤ off ∧ off < 0x30000 then 96 else 94

/-- The stored field that an offset, a low bit and a width name, if the register map has it. -/
def ctlFld (off low width : Nat) : Option (Nat × Nat × Nat × AccCode) :=
  match rowAt off with
  | some r => r.flds.find? (fun f => f.1 == low && f.2.1 == width)
  | none => none

/-- How many flops a group has. -/
def ctlWidth : CtlFlop → Nat
  | .field _ _ w => w
  | .count _ => 64
  | .edges _ => 64
  | .other _ w => w

/-- What the state holds of a group in the segment of domain `d`; none where the segment has no such group, or nothing has
shown it yet. -/
def ctlHeld (s : State) (d : Nat) : CtlFlop → Option Nat
  | .field off low w => if flopDomain off = d then (ctlFld off low w).map (fieldRead s .ibpin off (viewOf s off)) else none
  | .count off => if flopDomain off = d then some (ctr s off) else none
  | .edges m => if d = 96 then some (tideCount s m) else none
  | .other p _ => tfind s.lc.ctlFlops (d * 2 ^ 32 + p.toNat)

/-- The state with a group of control flops of domain `d` at a value; a group that the segment does not have is ignored (R364).
Log entry 50 (DESIGN CHOICE). -/
def ctlWrite (d : Nat) (s : State) (x : CtlFlop × Nat) : State :=
  match x.1 with
  | .field off low w =>
    match ctlFld off low w with
    | some f => if flopDomain off = d then setFld s (rowFld .ibpin off f) x.2 else s
    | none => s
  | .count off => if flopDomain off = d then setCtr s off x.2 else s
  | .edges m => if d = 96 then setMaster s m { masterOf s m with count := x.2 % 2 ^ 64 } else s
  | .other p w => { s with lc := { s.lc with ctlFlops := tput s.lc.ctlFlops (d * 2 ^ 32 + p.toNat) (x.2 % 2 ^ w) } }

/-- The bits of a group as shifted out; what nothing holds is a free value, which a group of no other field then keeps (R364).
Log entries 2 (DESIGN CHOICE), 50 (DESIGN CHOICE). -/
def ctlBits (s : State) (d : Nat) (x : CtlFlop) : List Bool × State :=
  match ctlHeld s d x with
  | some v => (bitsOf (ctlWidth x) v, s)
  | none =>
    let (b, s) := drawFree s (ctlWidth x)
    (bitsOf (ctlWidth x) b.toNat, match x with | .other .. => ctlWrite d s (x, b.toNat) | _ => s)

/-- The bits of several groups. -/
def ctlsBits (s : State) (d : Nat) : List CtlFlop → List Bool × State
  | [] => ([], s)
  | x :: l =>
    let (b, s) := ctlBits s d x
    let (bs, s) := ctlsBits s d l
    (b ++ bs, s)

/-- The first `n` data flops of a domain's segment: as the freeze has shown or written them, the rest free values, which the
state then keeps (R364). Log entries 2 (DESIGN CHOICE), 50 (DESIGN CHOICE). -/
def dataBits (s : State) (d n : Nat) : List Bool × State :=
  let old := tgetD s.lc.flops d []
  let (v, s) := drawFree s (n - old.length)
  let all := old ++ bitsOf (n - old.length) v.toNat
  (all.take n, { s with lc := { s.lc with flops := tput s.lc.flops d all } })

/-- The data flops of a domain written, the first of them first (R364). -/
def dataWrite (s : State) (d : Nat) (vs : List Nat) : State :=
  let old := tgetD s.lc.flops d []
  { s with lc := { s.lc with flops := tput s.lc.flops d ((vs.map (· % 2 == 1)).take old.length ++ old.drop vs.length) } }

/-- What is shifted in: a value for each group of control flops and then a bit for each data flop; control flops are not
written in Fielded, and data flops only where data are open (R364). -/
def scanWrite (s : State) (d : Nat) (ctl : List CtlFlop) (data : Nat) (vs : List Nat) : State :=
  let s := if fld s F.LC_STATE_STATE = 2 then s else (ctl.zip vs).foldl (ctlWrite d) s
  if dataOpen s then dataWrite s d ((vs.drop ctl.length).take data) else s

/-- SCAN_SEGMENT_ACCESS: the segment of a frozen domain is shifted; `ctl` names its groups of control flops and `data` is the
number of its data flops (R364). Log entry 50 (DESIGN CHOICE). -/
def execScanSegmentAccess (d : DomainId) (ctl : List CtlFlop) (data : Nat) (write : Option (List Nat)) (s : State) : Ans :=
  if !flag s F.SL_STATUS_FROZEN || !networkSelected s then .next s
  else
    let (cb, s1) := ctlsBits s d ctl
    let (db, s2) := if dataOpen s then dataBits s1 d data else (List.replicate data false, s1)
    let s3 := match write with | some vs => scanWrite s2 d ctl data vs | none => s2
    .next (emit s3 (.scanOut (cb ++ db)))

/-- The cache entry at a recency position of a metadata cache's set. Log entry 16 (DESIGN CHOICE). -/
def mdcAt (s : State) (n set way : Nat) : Option MdcEnt := (tgetD s.mem.mdc (n * 512 + set) [])[way]?

/-- The state with a line of a row, read or bounce buffer as the dump instrument sees it (R364). Log entry 50 (DESIGN CHOICE). -/
def setBuf (s : State) (k : Nat) (v : Line) : State := { s with lc := { s.lc with bufs := tput s.lc.bufs k v } }

/-- The bits of an array entry: a tidepool word of 80, a cached metadata line of 576, a buffer line of 512. What the state does
not hold reads a free value (R364). Log entries 2 (DESIGN CHOICE), 50 (DESIGN CHOICE). -/
def arrayBits (s : State) (a : DumpArr) : List Bool × State :=
  match a with
  | .tidepool b w =>
    let x := tpWord s b w.toNat
    (bitsOf 64 x.data.toNat ++ bitsOf 15 x.code ++ [x.poison], s)
  | .metadata n k w =>
    match mdcAt s n k.toNat w with
    | some e => (bitsOf 512 e.raw.data.toNat ++ bitsOf 64 e.raw.pin.toNat, s)
    | none => let (v, s) := drawFree s 576; (bitsOf 576 v.toNat, s)
  | .buffer u l =>
    let k := 16384 * u.toNat + l.toNat
    if u.toNat < 128 then (bitsOf 512 (tgetD s.en.inbuf k 0).toNat, s)
    else match tfind s.lc.bufs k with
      | some v => (bitsOf 512 v.toNat, s)
      | none => let (v, s) := drawFree s 512; (bitsOf 512 v.toNat, setBuf s k v)

/-- How many bits an array entry has. -/
def arrayWidth : DumpArr → Nat
  | .tidepool _ _ => 80
  | .metadata _ _ _ => 576
  | .buffer _ _ => 512

/-- An array entry written; where the state holds no such entry nothing changes (R364). Log entry 50 (DESIGN CHOICE). -/
def arrayWrite (s : State) (a : DumpArr) (v : Line × BitVec 80) : State :=
  match a with
  | .tidepool b w => setTp s b w.toNat ⟨v.2.setWidth 64, bits v.2.toNat 64 15, v.2.getLsbD 79⟩
  | .metadata n k w =>
    match mdcAt s n k.toNat w with
    | some e =>
      let set := tgetD s.mem.mdc (n * 512 + k.toNat) []
      let e' : MdcEnt := { e with raw := ⟨v.1, v.2.setWidth 64⟩ }
      { s with mem := { s.mem with mdc := tsetD s.mem.mdc (n * 512 + k.toNat) [] (set.set w e') } }
    | none => s
  | .buffer u l =>
    let k := 16384 * u.toNat + l.toNat
    if u.toNat < 128 then { s with en := { s.en with inbuf := tsetD s.en.inbuf k 0 v.1 } } else setBuf s k v.1

/-- ARRAY_DUMP_ACCESS: an array entry shifted out, and written, while frozen; zeros where the state hides data (R364).
Log entry 50 (DESIGN CHOICE). -/
def execArrayDumpAccess (arr : DumpArr) (write : Option (Line × BitVec 80)) (s : State) : Ans :=
  if !flag s F.SL_STATUS_FROZEN || !networkSelected s then .next s
  else if !dataOpen s then .next (emit s (.scanOut (List.replicate (arrayWidth arr) false)))
  else
    let (b, s1) := arrayBits s arr
    .next (emit (match write with | some v => arrayWrite s1 arr v | none => s1) (.scanOut b))

/-! ### The memory instrument, R366 -/

/-- Whether the instrument works: data are open and the fabric runs (R364). Log entry 50 (DESIGN CHOICE). -/
def instrWorks (s : State) : Bool := dataOpen s && !slackOn s && !s.lc.inReset

/-- The stack and the stack data address of a line that the instrument reaches: of a data granule in use, on a trained stack
(R364). -/
def instrPlace (s : State) (fpa : Nat) : Option (Nat × Nat) :=
  match decodeFpa s fpa with
  | .data g =>
    let p := placeLine s g (fpa % 2 ^ 28 / 64)
    if (granOf s g).owner != 31 && flag s (F.SC_STATUS_TRAINED p.1) then some p else none
  | _ => none

/-- The answer of the instrument to an access it does not perform: 80 zero bytes for a read, and ERR (R364). Log entry 50 (DESIGN CHOICE). -/
def instrErr (s : State) (read : Bool) : State := emit s (.memInstr true (if read then List.replicate 80 0 else []))

/-- An access of the memory instrument, counted as traffic of no regulator (R276, R364, R366). -/
def instrAccess (s : State) (fpa : Nat) (read : Bool) (f : State → Nat → Nat → State) : Ans :=
  if !networkSelected s then .next s
  else if !instrWorks s then .next (instrErr s read)
  else match instrPlace s fpa with
    | none => .next (instrErr s read)
    | some p => .next (f (takeTurn (addCtr s C.BW_FAB_UNREG 64) ⟨16, 0x9000, fpa, if read then .read else .write 0 0, none, .demand⟩) p.1 p.2)

/-- A line as held: 64 data bytes, PIN and INL, with no check (R366). -/
def rawRead (s : State) (n sda : Nat) : State :=
  let d := rawLine s n (sda / 64)
  let (m, s1) := mdcFetch s n (metaLine s sda)
  emit s1 (.memInstr false (lineBytes d.data ++ toBytes 8 d.pin.toNat ++ toBytes 8 (lineWord m.raw.data (sda / 64 % 8)).toNat))

/-- A line stored: data and PIN unchanged, and INL as its metadata word with a fresh check byte (R366). -/
def rawWrite (data : Line) (pin inl : Dword) (s : State) (n sda : Nat) : State :=
  emit (mdcWrite (setRaw s n (sda / 64) ⟨data, pin⟩) n (metaLine s sda) (sda / 64 % 8) inl) (.memInstr false [])

/-- MEM_INSTR_READ (R364, R366). -/
def execMemInstrRead (fpa : BitVec 41) (s : State) : Ans := instrAccess s fpa.toNat true rawRead

/-- MEM_INSTR_WRITE (R364, R366). -/
def execMemInstrWrite (fpa : BitVec 41) (data : Line) (pin inl : Dword) (s : State) : Ans :=
  instrAccess s fpa.toNat false (rawWrite data pin inl)

end Sys2Proof.Machine
end

