-- ==== Sys2Proof/Machine/Dispatch.lean ====
section
/-!
DEFINITION. The one dispatch: one arm for each command, a call of its meaning.
-/
namespace Sys2Proof.Machine

def exec (i : Instr) (s : State) : Host.Outcome State Fault Refusal :=
  match i with
  | .regWrite q off v => Sys2Proof.Machine.execRegWrite q off v s
  | .regAccessBadSize q off size write => Sys2Proof.Machine.execRegAccessBadSize q off size write s
  | .counterLoRead q off => Sys2Proof.Machine.execCounterLoRead q off s
  | .chClaim q v => Sys2Proof.Machine.execChClaim q v s
  | .chRelease q v => Sys2Proof.Machine.execChRelease q v s
  | .chEn q v => Sys2Proof.Machine.execChEn q v s
  | .chWdata q v => Sys2Proof.Machine.execChWdata q v s
  | .chartFetchDone image => Sys2Proof.Machine.execChartFetchDone image s
  | .chartFetchFail => Sys2Proof.Machine.execChartFetchFail s
  | .soundingStart => Sys2Proof.Machine.execSoundingStart s
  | .soundingDone stagingBad => Sys2Proof.Machine.execSoundingDone stagingBad s
  | .soundingTimeout => Sys2Proof.Machine.execSoundingTimeout s
  | .applyStart => Sys2Proof.Machine.execApplyStart s
  | .applyContinue => Sys2Proof.Machine.execApplyContinue s
  | .applyFinish => Sys2Proof.Machine.execApplyFinish s
  | .chFence q v => Sys2Proof.Machine.execChFence q v s
  | .chUnfence q v => Sys2Proof.Machine.execChUnfence q v s
  | .fenceDone space id => Sys2Proof.Machine.execFenceDone space id s
  | .tideEdge m now => Sys2Proof.Machine.execTideEdge m now s
  | .tapEdgeReceive t flips => Sys2Proof.Machine.execTapEdgeReceive t flips s
  | .tapLaunch t now => Sys2Proof.Machine.execTapLaunch t now s
  | .tapAck t ns => Sys2Proof.Machine.execTapAck t ns s
  | .slateArm m => Sys2Proof.Machine.execSlateArm m s
  | .tapArmAction t e => Sys2Proof.Machine.execTapArmAction t e s
  | .tapResyncRequest t => Sys2Proof.Machine.execTapResyncRequest t s
  | .tapResyncLoad t => Sys2Proof.Machine.execTapResyncLoad t s
  | .tdResume q => Sys2Proof.Machine.execTdResume q s
  | .tdCal q => Sys2Proof.Machine.execTdCal q s
  | .calibrationDone meas => Sys2Proof.Machine.execCalibrationDone meas s
  | .scRead id linkBad => Sys2Proof.Machine.execScRead id linkBad s
  | .scFullWrite id => Sys2Proof.Machine.execScFullWrite id s
  | .scPartialWrite id linkBad => Sys2Proof.Machine.execScPartialWrite id linkBad s
  | .atomicAdd id => Sys2Proof.Machine.execAtomicAdd id s
  | .atomicSwap id => Sys2Proof.Machine.execAtomicSwap id s
  | .atomicCas id => Sys2Proof.Machine.execAtomicCas id s
  | .atomicUmin id => Sys2Proof.Machine.execAtomicUmin id s
  | .atomicUmax id => Sys2Proof.Machine.execAtomicUmax id s
  | .atomicAnd id => Sys2Proof.Machine.execAtomicAnd id s
  | .atomicOr id => Sys2Proof.Machine.execAtomicOr id s
  | .atomicXor id => Sys2Proof.Machine.execAtomicXor id s
  | .refresh n => Sys2Proof.Machine.execRefresh n s
  | .scTempRead n temp rate => Sys2Proof.Machine.execScTempRead n temp rate s
  | .scMdcFlush q n => Sys2Proof.Machine.execScMdcFlush q n s
  | .scPeakClr q n => Sys2Proof.Machine.execScPeakClr q n s
  | .scKrCmdRekey q r => Sys2Proof.Machine.execScKrCmdRekey q r s
  | .rekeyKidTake => Sys2Proof.Machine.execRekeyKidTake s
  | .rekeySweepLine n g line => Sys2Proof.Machine.execRekeySweepLine n g line s
  | .rekeySweepDone r => Sys2Proof.Machine.execRekeySweepDone r s
  | .kidRetire k => Sys2Proof.Machine.execKidRetire k s
  | .verifyLine n k j line => Sys2Proof.Machine.execVerifyLine n k j line s
  | .kidVerifyDone k => Sys2Proof.Machine.execKidVerifyDone k s
  | .zeroFillLine n g line => Sys2Proof.Machine.execZeroFillLine n g line s
  | .zeroFillDone g => Sys2Proof.Machine.execZeroFillDone g s
  | .patrolVisit n => Sys2Proof.Machine.execPatrolVisit n s
  | .patrolPassEnd n late => Sys2Proof.Machine.execPatrolPassEnd n late s
  | .tidepoolRead id => Sys2Proof.Machine.execTidepoolRead id s
  | .tidepoolWrite id => Sys2Proof.Machine.execTidepoolWrite id s
  | .tidepoolScrubVisit bank word => Sys2Proof.Machine.execTidepoolScrubVisit bank word s
  | .transferIssue iss => Sys2Proof.Machine.execTransferIssue iss s
  | .translateRequest src cove ctx dva len acc => Sys2Proof.Machine.execTranslateRequest src cove ctx dva len acc s
  | .walkStart => Sys2Proof.Machine.execWalkStart s
  | .walkReadDone w data => Sys2Proof.Machine.execWalkReadDone w data s
  | .walkTimeout w => Sys2Proof.Machine.execWalkTimeout w s
  | .transferComplete id => Sys2Proof.Machine.execTransferComplete id s
  | .xlInvGo q c => Sys2Proof.Machine.execXlInvGo q c s
  | .invAck c client => Sys2Proof.Machine.execInvAck c client s
  | .invSlow c => Sys2Proof.Machine.execInvSlow c s
  | .xlWqCons q c v => Sys2Proof.Machine.execXlWqCons q c v s
  | .xlWqReplay q c ctx => Sys2Proof.Machine.execXlWqReplay q c ctx s
  | .xlWqKill q c ctx => Sys2Proof.Machine.execXlWqKill q c ctx s
  | .xlDlSwap q c => Sys2Proof.Machine.execXlDlSwap q c s
  | .xlDlStop q c => Sys2Proof.Machine.execXlDlStop q c s
  | .dirtyLogSwapDone c => Sys2Proof.Machine.execDirtyLogSwapDone c s
  | .dirtyLogLineFill c addr data => Sys2Proof.Machine.execDirtyLogLineFill c addr data s
  | .dirtyLogHostError c => Sys2Proof.Machine.execDirtyLogHostError c s
  | .gatherTileStart gp => Sys2Proof.Machine.execGatherTileStart gp s
  | .dedupPass gp => Sys2Proof.Machine.execDedupPass gp s
  | .rowFetchDone gp row => Sys2Proof.Machine.execRowFetchDone gp row s
  | .rowPool gp pos => Sys2Proof.Machine.execRowPool gp pos s
  | .bagEnd gp bag => Sys2Proof.Machine.execBagEnd gp bag s
  | .bagReplayDone gp bag => Sys2Proof.Machine.execBagReplayDone gp bag s
  | .bagOutput gp => Sys2Proof.Machine.execBagOutput gp s
  | .hdCtlArb q k on => Sys2Proof.Machine.execHdCtlArb q k on s
  | .tuBind q c slot ctx eng => Sys2Proof.Machine.execTuBind q c slot ctx eng s
  | .tuBindDone => Sys2Proof.Machine.execTuBindDone s
  | .tuUnbind q c slot => Sys2Proof.Machine.execTuUnbind q c slot s
  | .tuDiscardPending q c slot => Sys2Proof.Machine.execTuDiscardPending q c slot s
  | .tuCompactNow q c slot => Sys2Proof.Machine.execTuCompactNow q c slot s
  | .deltaTileStart tu => Sys2Proof.Machine.execDeltaTileStart tu s
  | .deltaRecord tu => Sys2Proof.Machine.execDeltaRecord tu s
  | .tuFlipGo q c => Sys2Proof.Machine.execTuFlipGo q c s
  | .flipArm c => Sys2Proof.Machine.execFlipArm c s
  | .flipOutcome c => Sys2Proof.Machine.execFlipOutcome c s
  | .pairDrainAck pair => Sys2Proof.Machine.execPairDrainAck pair s
  | .limboRelease tu => Sys2Proof.Machine.execLimboRelease tu s
  | .compactionMoveDone c slot => Sys2Proof.Machine.execCompactionMoveDone c slot s
  | .moverTileStart rm => Sys2Proof.Machine.execMoverTileStart rm s
  | .moverBlock rm => Sys2Proof.Machine.execMoverBlock rm s
  | .rankerTileStart tk => Sys2Proof.Machine.execRankerTileStart tk s
  | .rankerSegment tk => Sys2Proof.Machine.execRankerSegment tk s
  | .swCvMvGo q c => Sys2Proof.Machine.execSwCvMvGo q c s
  | .moveLine n => Sys2Proof.Machine.execMoveLine n s
  | .moveEnd id => Sys2Proof.Machine.execMoveEnd id s
  | .obAreaEnable q c v => Sys2Proof.Machine.execObAreaEnable q c v s
  | .obAreaInitDone c => Sys2Proof.Machine.execObAreaInitDone c s
  | .obCreate q c => Sys2Proof.Machine.execObCreate q c s
  | .obHold q c => Sys2Proof.Machine.execObHold q c s
  | .obDrop q c => Sys2Proof.Machine.execObDrop q c s
  | .obFree q c => Sys2Proof.Machine.execObFree q c s
  | .obQuery q c => Sys2Proof.Machine.execObQuery q c s
  | .qCreate q c => Sys2Proof.Machine.execQCreate q c s
  | .qDestroy q c => Sys2Proof.Machine.execQDestroy q c s
  | .gSet q c => Sys2Proof.Machine.execGSet q c s
  | .gClear q c => Sys2Proof.Machine.execGClear q c s
  | .obCtxKill q c ctx => Sys2Proof.Machine.execObCtxKill q c ctx s
  | .obCtxRevive q c ctx => Sys2Proof.Machine.execObCtxRevive q c ctx s
  | .slotRequest c ctx => Sys2Proof.Machine.execSlotRequest c ctx s
  | .ctxEvictDone c ctx => Sys2Proof.Machine.execCtxEvictDone c ctx s
  | .ctxLoadDone c ctx => Sys2Proof.Machine.execCtxLoadDone c ctx s
  | .cpLookup c ctx href ofs => Sys2Proof.Machine.execCpLookup c ctx href ofs s
  | .cpSubmit c entry now => Sys2Proof.Machine.execCpSubmit c entry now s
  | .cpEventSignal c e v tag => Sys2Proof.Machine.execCpEventSignal c e v tag s
  | .cpEventWait c e v tag => Sys2Proof.Machine.execCpEventWait c e v tag s
  | .doorbellWrite q c queue v => Sys2Proof.Machine.execDoorbellWrite q c queue v s
  | .queueHeadRelease c queue => Sys2Proof.Machine.execQueueHeadRelease c queue s
  | .entryRetire c queue now => Sys2Proof.Machine.execEntryRetire c queue now s
  | .eventSignal c e v => Sys2Proof.Machine.execEventSignal c e v s
  | .evOpSignal q c => Sys2Proof.Machine.execEvOpSignal q c s
  | .evOpWait q c => Sys2Proof.Machine.execEvOpWait q c s
  | .evOpReset q c => Sys2Proof.Machine.execEvOpReset q c s
  | .evOpRead q c => Sys2Proof.Machine.execEvOpRead q c s
  | .evCringCons q c v => Sys2Proof.Machine.execEvCringCons q c v s
  | .evCringBase q c v => Sys2Proof.Machine.execEvCringBase q c v s
  | .qdestroyEngineAck c queue unit => Sys2Proof.Machine.execQdestroyEngineAck c queue unit s
  | .qdestroyStuck c queue => Sys2Proof.Machine.execQdestroyStuck c queue s
  | .stepRelease c queue now far => Sys2Proof.Machine.execStepRelease c queue now far s
  | .engineTileBoundary unit now => Sys2Proof.Machine.execEngineTileBoundary unit now s
  | .tileComplete unit ns => Sys2Proof.Machine.execTileComplete unit ns s
  | .tileWatchdog unit => Sys2Proof.Machine.execTileWatchdog unit s
  | .tileWatchdogLimit2 unit => Sys2Proof.Machine.execTileWatchdogLimit2 unit s
  | .sliceExpiry port now far => Sys2Proof.Machine.execSliceExpiry port now far s
  | .preemptStopPoint step => Sys2Proof.Machine.execPreemptStopPoint step s
  | .saveDone step port now => Sys2Proof.Machine.execSaveDone step port now s
  | .chunkEnd step => Sys2Proof.Machine.execChunkEnd step s
  | .stepResume step now => Sys2Proof.Machine.execStepResume step now s
  | .restoreDone step port => Sys2Proof.Machine.execRestoreDone step port s
  | .sqSpillEnable q c v => Sys2Proof.Machine.execSqSpillEnable q c v s
  | .regWindowEnd r => Sys2Proof.Machine.execRegWindowEnd r s
  | .urgUpgrade r urg => Sys2Proof.Machine.execUrgUpgrade r urg s
  | .dbRecompute => Sys2Proof.Machine.execDbRecompute s
  | .sourceRaise src => Sys2Proof.Machine.execSourceRaise src s
  | .holdoffExpire g => Sys2Proof.Machine.execHoldoffExpire g s
  | .bcClaim q t => Sys2Proof.Machine.execBcClaim q t s
  | .bcEoi q t v => Sys2Proof.Machine.execBcEoi q t v s
  | .bcCvSwi q c v => Sys2Proof.Machine.execBcCvSwi q c v s
  | .bcSrcCfgWrite q src v => Sys2Proof.Machine.execBcSrcCfgWrite q src v s
  | .bcTgtCfgWrite q t v => Sys2Proof.Machine.execBcTgtCfgWrite q t v s
  | .bcNmiTest q on => Sys2Proof.Machine.execBcNmiTest q on s
  | .ibAttentionPulse => Sys2Proof.Machine.execIbAttentionPulse s
  | .cvQuiesceReq q c v => Sys2Proof.Machine.execCvQuiesceReq q c v s
  | .cvQuiesceRelease q c v => Sys2Proof.Machine.execCvQuiesceRelease q c v s
  | .quiesceAck c => Sys2Proof.Machine.execQuiesceAck c s
  | .quiesceStuck c => Sys2Proof.Machine.execQuiesceStuck c s
  | .cvResetGo q c v => Sys2Proof.Machine.execCvResetGo q c v s
  | .coveResetDone c => Sys2Proof.Machine.execCoveResetDone c s
  | .vfFlr c => Sys2Proof.Machine.execVfFlr c s
  | .spdmGetMeasurements c index => Sys2Proof.Machine.execSpdmGetMeasurements c index s
  | .spdmOtherRequest c req => Sys2Proof.Machine.execSpdmOtherRequest c req s
  | .spdmKeyExchange c => Sys2Proof.Machine.execSpdmKeyExchange c s
  | .spdmFinish c good => Sys2Proof.Machine.execSpdmFinish c good s
  | .spdmKeyUpdate c h2d d2h => Sys2Proof.Machine.execSpdmKeyUpdate c h2d d2h s
  | .spdmHeartbeat c => Sys2Proof.Machine.execSpdmHeartbeat c s
  | .spdmEndSession c => Sys2Proof.Machine.execSpdmEndSession c s
  | .heartbeatLoss c => Sys2Proof.Machine.execHeartbeatLoss c s
  | .cvBxGo q c => Sys2Proof.Machine.execCvBxGo q c s
  | .bounceChunk b data entry hostErr => Sys2Proof.Machine.execBounceChunk b data entry hostErr s
  | .migCopyOut q c => Sys2Proof.Machine.execMigCopyOut q c s
  | .migCopyIn q c => Sys2Proof.Machine.execMigCopyIn q c s
  | .migExport q c => Sys2Proof.Machine.execMigExport q c s
  | .migImport q c => Sys2Proof.Machine.execMigImport q c s
  | .migOperationDone c chunks fail => Sys2Proof.Machine.execMigOperationDone c chunks fail s
  | .fabFwCommit q v => Sys2Proof.Machine.execFabFwCommit q v s
  | .fwCommitDone => Sys2Proof.Machine.execFwCommitDone s
  | .trngHealthChange failing => Sys2Proof.Machine.execTrngHealthChange failing s
  | .clockMonitorGate src inside => Sys2Proof.Machine.execClockMonitorGate src inside s
  | .loopLockLoss p => Sys2Proof.Machine.execLoopLockLoss p s
  | .loopLocked p => Sys2Proof.Machine.execLoopLocked p s
  | .muxSwitchDone d tidepool => Sys2Proof.Machine.execMuxSwitchDone d tidepool s
  | .muxSwitchTimeout d tidepool => Sys2Proof.Machine.execMuxSwitchTimeout d tidepool s
  | .islandTransitionStart isl => Sys2Proof.Machine.execIslandTransitionStart isl s
  | .loopSlewStep p => Sys2Proof.Machine.execLoopSlewStep p s
  | .freqChangeDone isl => Sys2Proof.Machine.execFreqChangeDone isl s
  | .voltageSettled isl readback => Sys2Proof.Machine.execVoltageSettled isl readback s
  | .vsAvsRetry q => Sys2Proof.Machine.execVsAvsRetry q s
  | .vsCoveReq q isl c v => Sys2Proof.Machine.execVsCoveReq q isl c v s
  | .vsIslReq q isl v => Sys2Proof.Machine.execVsIslReq q isl v s
  | .vsIslCap q isl v => Sys2Proof.Machine.execVsIslCap q isl v s
  | .tjSample temps => Sys2Proof.Machine.execTjSample temps s
  | .thermalCeilingStep isl => Sys2Proof.Machine.execThermalCeilingStep isl s
  | .throttleSample => Sys2Proof.Machine.execThrottleSample s
  | .powerRead watts => Sys2Proof.Machine.execPowerRead watts s
  | .pmbAlert watts => Sys2Proof.Machine.execPmbAlert watts s
  | .scarpMeasure ratios => Sys2Proof.Machine.execScarpMeasure ratios s
  | .replanPeriodic => Sys2Proof.Machine.execReplanPeriodic s
  | .fbReplan q => Sys2Proof.Machine.execFbReplan q s
  | .freeboardReplan ratios => Sys2Proof.Machine.execFreeboardReplan ratios s
  | .logbookPeriodic => Sys2Proof.Machine.execLogbookPeriodic s
  | .lbShutdown q => Sys2Proof.Machine.execLbShutdown q s
  | .lbWrite q => Sys2Proof.Machine.execLbWrite q s
  | .logbookWriteDone ok => Sys2Proof.Machine.execLogbookWriteDone ok s
  | .lbHosttime q v => Sys2Proof.Machine.execLbHosttime q v s
  | .secondTick => Sys2Proof.Machine.execSecondTick s
  | .lcNext q v => Sys2Proof.Machine.execLcNext q v s
  | .fuseProgramDone uid fwk state => Sys2Proof.Machine.execFuseProgramDone uid fwk state s
  | .lcDbgOpen q v => Sys2Proof.Machine.execLcDbgOpen q v s
  | .slFreeze q v => Sys2Proof.Machine.execSlFreeze q v s
  | .slackNAssert => Sys2Proof.Machine.execSlackNAssert s
  | .slackNDeassert => Sys2Proof.Machine.execSlackNDeassert s
  | .slackT0 => Sys2Proof.Machine.execSlackT0 s
  | .slackWaveStopped fio => Sys2Proof.Machine.execSlackWaveStopped fio s
  | .slackSrDeadline => Sys2Proof.Machine.execSlackSrDeadline s
  | .slackRelease => Sys2Proof.Machine.execSlackRelease s
  | .jtagTapReset => Sys2Proof.Machine.execJtagTapReset s
  | .jtagExtest => Sys2Proof.Machine.execJtagExtest s
  | .jtagSamplePreload => Sys2Proof.Machine.execJtagSamplePreload s
  | .jtagIdcode => Sys2Proof.Machine.execJtagIdcode s
  | .jtagIjtag => Sys2Proof.Machine.execJtagIjtag s
  | .jtagSlack => Sys2Proof.Machine.execJtagSlack s
  | .jtagRelease => Sys2Proof.Machine.execJtagRelease s
  | .jtagStatus => Sys2Proof.Machine.execJtagStatus s
  | .jtagBypass => Sys2Proof.Machine.execJtagBypass s
  | .scanSegmentAccess d ctl data write => Sys2Proof.Machine.execScanSegmentAccess d ctl data write s
  | .arrayDumpAccess arr write => Sys2Proof.Machine.execArrayDumpAccess arr write s
  | .memInstrRead fpa => Sys2Proof.Machine.execMemInstrRead fpa s
  | .memInstrWrite fpa data pin inl => Sys2Proof.Machine.execMemInstrWrite fpa data pin inl s
  | .porAssert => Sys2Proof.Machine.execPorAssert s
  | .fabRstNAssert => Sys2Proof.Machine.execFabRstNAssert s
  | .fabRstCtlGo q v => Sys2Proof.Machine.execFabRstCtlGo q v s
  | .pfFlr => Sys2Proof.Machine.execPfFlr s
  | .hostLinkReset => Sys2Proof.Machine.execHostLinkReset s
  | .fabricResetStart => Sys2Proof.Machine.execFabricResetStart s
  | .fabricResetRelease => Sys2Proof.Machine.execFabricResetRelease s
  | .bootRomDone slotA slotB => Sys2Proof.Machine.execBootRomDone slotA slotB s
  | .xaStrapCheck khz xb => Sys2Proof.Machine.execXaStrapCheck khz xb s
  | .vbootSetDone => Sys2Proof.Machine.execVbootSetDone s
  | .startupDomainsSwitched => Sys2Proof.Machine.execStartupDomainsSwitched s
  | .stackTrainingDone trained size36 => Sys2Proof.Machine.execStackTrainingDone trained size36 s
  | .returnedScrubVerify clean => Sys2Proof.Machine.execReturnedScrubVerify clean s
  | .logbookOpen sfdpOk headers entries => Sys2Proof.Machine.execLogbookOpen sfdpOk headers entries s
  | .startupComplete => Sys2Proof.Machine.execStartupComplete s
  | .ibpinRead addr => Sys2Proof.Machine.execIbpinRead addr s
  | .ibpinWrite addr v => Sys2Proof.Machine.execIbpinWrite addr v s
  | .ibpinBadOpcode opcode => Sys2Proof.Machine.execIbpinBadOpcode opcode s
  | .ibpinFrameAbort phaseDone wr => Sys2Proof.Machine.execIbpinFrameAbort phaseDone wr s
  | .ibpinTimeout wr => Sys2Proof.Machine.execIbpinTimeout wr s
  | .epTileStart port => Sys2Proof.Machine.execEpTileStart port s
  | .epFeedRow port => Sys2Proof.Machine.execEpFeedRow port s
  | .arrOutputRow port lane row data => Sys2Proof.Machine.execArrOutputRow port lane row data s
  | .arrTbAck port => Sys2Proof.Machine.execArrTbAck port s
  | .arrErr port => Sys2Proof.Machine.execArrErr port s
  | .epDelivery port now => Sys2Proof.Machine.execEpDelivery port now s
  | .epScratchpadAccess port data => Sys2Proof.Machine.execEpScratchpadAccess port data s
  | .arrayClear port => Sys2Proof.Machine.execArrayClear port s
  | .arrClrDone port => Sys2Proof.Machine.execArrClrDone port s
  | .arrayClearTimeout port => Sys2Proof.Machine.execArrayClearTimeout port s
  | .cpHang c shared => Sys2Proof.Machine.execCpHang c shared s
  | .cpResetRelease c => Sys2Proof.Machine.execCpResetRelease c s
  | .phyUpdateRequest n => Sys2Proof.Machine.execPhyUpdateRequest n s
  | .selfRefreshEntered n => Sys2Proof.Machine.execSelfRefreshEntered n s
  | .flrResetStuck c => Sys2Proof.Machine.execFlrResetStuck c s
  | .bounceHostTimeout b => Sys2Proof.Machine.execBounceHostTimeout b s

end Sys2Proof.Machine
end

