-- ==== Sys2Proof/Safety.lean ====
section
/-!
DEFINITION. What a safe run means: memory and register tables in canonical form, blown fuses that stay blown, and the
parts of the state a command may change.
-/
namespace Sys2Proof.Machine

/-- Memory in canonical form: in each of its tables the keys rise strictly and no entry equals what an unlisted place
reads as. -/
def Memory.wf (m : MemSt) : Bool :=
  m.lines.wf (fun _ => RawLine.zero) && m.mdc.wf (fun _ => []) && m.tpw.wf (fun _ => TpWord.zero)
    && m.tpWritten.wf (fun _ => false)

/-- The register and counter tables in canonical form: keys rise strictly, no counter is listed at zero, and none exceeds
all ones (R13). -/
def Regs.wf (s : State) : Bool :=
  s.flds.sorted && s.ctrs.wf (fun _ => 0) && s.ctrs.all (fun e => decide (e.2 ≤ maxCtr))

/-- Every fuse blown in `a` is blown in `b` (R357). -/
def Fuses.kept (a b : Fuses) : Prop :=
  (∀ i, a.t.testBit i = true → b.t.testBit i = true) ∧ (a.uidMask = true → b.uidMask = true)
    ∧ (a.fwkMask = true → b.fwkMask = true)

/-- The parts of the state a frame names. -/
inductive Part where
  | regs | counters | latches | plan | tide | mem | xl | bw | beacon | clocks | logbook | life | objects | sched | engines
  | sessions | env
deriving DecidableEq, Repr

/-- A part reads in `t` as it reads in `s`. -/
def Part.same (s t : State) : Part → Prop
  | .regs => t.flds = s.flds
  | .counters => t.ctrs = s.ctrs
  | .latches => t.latches = s.latches
  | .plan => t.plan = s.plan
  | .tide => t.tide = s.tide
  | .mem => t.mem = s.mem
  | .xl => t.xl = s.xl
  | .bw => t.bw = s.bw
  | .beacon => t.bc = s.bc
  | .clocks => t.ck = s.ck
  | .logbook => t.lb = s.lb
  | .life => t.lc = s.lc
  | .objects => t.ob = s.ob
  | .sched => t.sq = s.sq
  | .engines => t.en = s.en
  | .sessions => t.sc = s.sc
  | .env => t.env = s.env

/-- Nothing but the parts named has changed; what the block sends out, and the counter of the free values, stand outside the
parts. -/
def OnlyChanges (ps : List Part) (s t : State) : Prop := ∀ p, p ∉ ps → p.same s t

/-- The parts of the state a command may change, over every form of it, its refusals and records included. -/
def frameOf : Instr → List Part
    | .refresh .. | .ibAttentionPulse .. | .spdmGetMeasurements .. | .spdmOtherRequest .. | .spdmHeartbeat .. |
    .phyUpdateRequest .. => []
    | .regAccessBadSize .. | .tdCal .. | .scTempRead .. | .scPeakClr .. | .hdCtlArb .. | .obAreaEnable .. | .sqSpillEnable ..
    | .bcNmiTest .. | .loopLocked .. | .powerRead .. | .pmbAlert .. | .lcDbgOpen .. | .slFreeze .. | .slackNAssert .. |
    .slackNDeassert .. | .returnedScrubVerify .. | .ibpinBadOpcode .. | .flrResetStuck .. => [.regs]
    | .soundingStart .. => [.plan]
    | .tapArmAction .. | .tapResyncRequest .. => [.tide]
    | .kidRetire .. | .kidVerifyDone .. => [.mem]
    | .bcClaim .. => [.beacon]
    | .muxSwitchDone .. | .scarpMeasure .. | .replanPeriodic .. | .fbReplan .. => [.clocks]
    | .jtagTapReset .. | .jtagExtest .. | .jtagSamplePreload .. | .jtagIdcode .. | .jtagIjtag .. | .jtagStatus .. |
    .jtagBypass .. | .porAssert .. | .fabRstNAssert .. | .fabRstCtlGo .. | .pfFlr .. | .hostLinkReset .. => [.life]
    | .slotRequest .. => [.objects]
    | .arrTbAck .. => [.sched]
    | .pairDrainAck .. | .arrayClear .. => [.engines]
    | .spdmKeyExchange .. => [.sessions]
    | .tjSample .. => [.regs, .counters]
    | .chWdata .. | .chartFetchDone .. => [.regs, .plan]
    | .slateArm .. | .tdResume .. | .dbRecompute .. => [.regs, .tide]
    | .qdestroyStuck .. | .sourceRaise .. | .holdoffExpire .. | .bcEoi .. | .bcSrcCfgWrite .. | .bcTgtCfgWrite .. |
    .quiesceStuck .. => [.regs, .beacon]
    | .loopSlewStep .. | .vsAvsRetry .. | .vsCoveReq .. | .vsIslReq .. | .vsIslCap .. | .thermalCeilingStep .. => [.regs,
    .clocks]
    | .lbHosttime .. => [.regs, .logbook]
    | .fuseProgramDone .. | .slackT0 .. | .jtagSlack .. | .jtagRelease .. | .startupComplete .. | .selfRefreshEntered .. =>
    [.regs, .life]
    | .tuBind .. | .tuUnbind .. | .tuFlipGo .. => [.regs, .engines]
    | .spdmEndSession .. | .heartbeatLoss .. | .migCopyOut .. | .migCopyIn .. | .migExport .. | .migImport .. |
    .fabFwCommit .. | .fwCommitDone .. => [.regs, .sessions]
    | .walkStart .. => [.counters, .xl]
    | .secondTick .. => [.counters, .logbook]
    | .obCtxRevive .. => [.counters, .objects]
    | .scKrCmdRekey .. => [.plan, .mem]
    | .urgUpgrade .. => [.xl, .bw]
    | .startupDomainsSwitched .. => [.clocks, .life]
    | .bagEnd .. | .arrClrDone .. => [.sched, .engines]
    | .cpResetRelease .. => [.sessions, .env]
    | .patrolPassEnd .. | .trngHealthChange .. | .throttleSample .. => [.regs, .counters, .logbook]
    | .slackWaveStopped .. => [.regs, .counters, .life]
    | .spdmFinish .. | .spdmKeyUpdate .. => [.regs, .counters, .sessions]
    | .ibpinRead .. => [.regs, .latches, .beacon]
    | .vbootSetDone .. => [.regs, .plan, .life]
    | .freqChangeDone .. => [.regs, .tide, .clocks]
    | .calibrationDone .. => [.regs, .tide, .life]
    | .sliceExpiry .. => [.regs, .tide, .sched]
    | .flipArm .. => [.regs, .tide, .engines]
    | .stackTrainingDone .. => [.regs, .mem, .life]
    | .transferComplete .. | .invSlow .. | .xlDlSwap .. | .xlDlStop .. | .dirtyLogSwapDone .. | .dirtyLogLineFill .. |
    .dirtyLogHostError .. => [.regs, .xl, .beacon]
    | .logbookPeriodic .. | .lbShutdown .. | .lbWrite .. => [.regs, .beacon, .logbook]
    | .lcNext .. => [.regs, .beacon, .life]
    | .evCringBase .. => [.regs, .beacon, .objects]
    | .arrayClearTimeout .. => [.regs, .beacon, .engines]
    | .slackSrDeadline .. | .xaStrapCheck .. => [.regs, .clocks, .life]
    | .engineTileBoundary .. => [.regs, .objects, .sched]
    | .epDelivery .. => [.regs, .sched, .engines]
    | .tidepoolScrubVisit .. => [.counters, .mem, .logbook]
    | .stepResume .. => [.counters, .objects, .sched]
    | .arrayDumpAccess .. => [.mem, .life, .engines]
    | .tapEdgeReceive .. => [.regs, .counters, .tide, .beacon]
    | .scanSegmentAccess .. => [.regs, .counters, .tide, .life]
    | .transferIssue .. => [.regs, .counters, .xl, .bw]
    | .logbookWriteDone .. => [.regs, .counters, .beacon, .logbook]
    | .rekeySweepDone .. | .zeroFillDone .. => [.counters, .plan, .mem, .logbook]
    | .chClaim .. | .chRelease .. | .chEn .. | .chartFetchFail .. | .soundingTimeout .. => [.regs, .counters, .plan, .beacon,
    .logbook]
    | .tapAck .. => [.regs, .counters, .tide, .beacon, .clocks]
    | .islandTransitionStart .. => [.regs, .counters, .tide, .clocks, .logbook]
    | .scMdcFlush .. => [.regs, .counters, .mem, .beacon, .logbook]
    | .regWindowEnd .. => [.regs, .counters, .xl, .bw, .beacon]
    | .xlInvGo .. | .xlWqCons .. | .doorbellWrite .. | .bcCvSwi .. => [.regs, .counters, .xl, .beacon, .logbook]
    | .fabricResetRelease .. | .bootRomDone .. => [.regs, .counters, .logbook, .life, .sessions]
    | .chFence .. | .chUnfence .. => [.regs, .plan, .xl, .beacon, .sched]
    | .rekeyKidTake .. => [.counters, .plan, .mem, .logbook, .sessions]
    | .counterLoRead .. => [.regs, .counters, .latches, .xl, .beacon, .logbook]
    | .applyContinue .. => [.regs, .counters, .plan, .tide, .beacon, .clocks]
    | .voltageSettled .. => [.regs, .counters, .tide, .beacon, .clocks, .logbook]
    | .coveResetDone .. => [.regs, .counters, .tide, .beacon, .logbook, .sessions]
    | .qCreate .. | .evCringCons .. => [.regs, .counters, .xl, .beacon, .logbook, .objects]
    | .tileWatchdog .. => [.regs, .counters, .xl, .beacon, .logbook, .sched]
    | .cvBxGo .. => [.regs, .counters, .xl, .beacon, .logbook, .sessions]
    | .logbookOpen .. => [.regs, .counters, .beacon, .clocks, .logbook, .life]
    | .cvQuiesceReq .. | .cvQuiesceRelease .. => [.regs, .tide, .xl, .sched, .engines, .sessions]
    | .tileComplete .. => [.counters, .xl, .bw, .objects, .sched, .engines]
    | .scRead .. | .scFullWrite .. | .scPartialWrite .. | .atomicAdd .. | .atomicSwap .. | .atomicCas .. | .atomicUmin .. |
    .atomicUmax .. | .atomicAnd .. | .atomicOr .. | .atomicXor .. | .tidepoolRead .. | .tidepoolWrite .. | .obHold .. |
    .obQuery .. | .evOpRead .. | .memInstrRead .. | .memInstrWrite .. => [.regs, .counters, .plan, .mem, .xl, .beacon,
    .logbook]
    | .freeboardReplan .. => [.regs, .counters, .tide, .beacon, .clocks, .logbook, .life]
    | .arrErr .. => [.regs, .counters, .xl, .bw, .beacon, .logbook, .engines]
    | .invAck .. | .obAreaInitDone .. | .obCreate .. | .obDrop .. | .obFree .. | .gSet .. | .gClear .. | .ctxEvictDone .. |
    .ctxLoadDone .. | .cpLookup .. | .cpSubmit .. | .cpEventSignal .. | .cpEventWait .. | .eventSignal .. | .evOpSignal .. |
    .evOpWait .. | .evOpReset .. => [.regs, .counters, .plan, .mem, .xl, .beacon, .logbook, .objects]
    | .soundingDone .. => [.regs, .counters, .plan, .mem, .bw, .beacon, .clocks, .logbook]
    | .rekeySweepLine .. | .verifyLine .. | .zeroFillLine .. | .patrolVisit .. => [.regs, .counters, .plan, .mem, .xl, .bw,
    .beacon, .logbook, .engines]
    | .queueHeadRelease .. | .entryRetire .. => [.regs, .counters, .plan, .mem, .xl, .beacon, .logbook, .objects, .sched]
    | .swCvMvGo .. | .moveEnd .. => [.regs, .counters, .plan, .mem, .xl, .beacon, .logbook, .objects, .engines]
    | .bounceHostTimeout .. => [.regs, .counters, .plan, .mem, .xl, .beacon, .logbook, .objects, .sessions]
    | .tileWatchdogLimit2 .. => [.regs, .counters, .xl, .bw, .beacon, .logbook, .objects, .sched, .engines]
    | .tideEdge .. | .tapResyncLoad .. => [.regs, .counters, .plan, .tide, .bw, .beacon, .clocks, .objects, .sched, .engines]
    | .epScratchpadAccess .. => [.regs, .counters, .plan, .mem, .xl, .bw, .beacon, .logbook, .sched, .engines]
    | .tapLaunch .. => [.regs, .counters, .plan, .tide, .xl, .bw, .beacon, .clocks, .objects, .sched, .engines]
    | .fenceDone .. | .translateRequest .. | .walkReadDone .. | .walkTimeout .. | .xlWqReplay .. | .xlWqKill .. |
    .gatherTileStart .. | .dedupPass .. | .rowFetchDone .. | .rowPool .. | .bagReplayDone .. | .bagOutput .. | .tuBindDone ..
    | .tuDiscardPending .. | .tuCompactNow .. | .deltaTileStart .. | .deltaRecord .. | .limboRelease .. |
    .compactionMoveDone .. | .moverTileStart .. | .moverBlock .. | .rankerTileStart .. | .rankerSegment .. | .moveLine .. |
    .qDestroy .. | .obCtxKill .. | .qdestroyEngineAck .. | .preemptStopPoint .. | .saveDone .. | .chunkEnd .. |
    .restoreDone .. | .epTileStart .. | .epFeedRow .. | .arrOutputRow .. => [.regs, .counters, .plan, .mem, .xl, .bw, .beacon,
    .logbook, .objects, .sched, .engines]
    | .migOperationDone .. => [.regs, .counters, .plan, .mem, .xl, .beacon, .logbook, .objects, .sched, .engines, .sessions]
    | .flipOutcome .. | .stepRelease .. => [.regs, .counters, .plan, .tide, .mem, .xl, .bw, .beacon, .logbook, .objects,
    .sched, .engines]
    | .bounceChunk .. => [.regs, .counters, .plan, .mem, .xl, .bw, .beacon, .logbook, .objects, .sched, .engines, .sessions]
    | .applyFinish .. | .quiesceAck .. | .cvResetGo .. | .vfFlr .. => [.regs, .counters, .plan, .tide, .mem, .xl, .bw,
    .beacon, .clocks, .logbook, .objects, .sched, .engines, .sessions]
    | .applyStart .. => [.regs, .counters, .latches, .plan, .tide, .mem, .xl, .bw, .beacon, .clocks, .logbook, .objects,
    .sched, .engines, .sessions]
    | .regWrite .. | .clockMonitorGate .. | .loopLockLoss .. | .muxSwitchTimeout .. | .slackRelease .. | .ibpinWrite .. |
    .ibpinFrameAbort .. | .ibpinTimeout .. | .cpHang .. => [.regs, .counters, .plan, .tide, .mem, .xl, .bw, .beacon, .clocks,
    .logbook, .life, .objects, .sched, .engines, .sessions]
    | .fabricResetStart .. => [.regs, .counters, .latches, .plan, .tide, .mem, .xl, .bw, .beacon, .clocks, .logbook, .life,
    .objects, .sched, .engines, .sessions]

/-! ### The fabric-global space, R6 -/

/-- The requester of a command that writes a register of the fabric-global space; none for the commands that others give, or that
write a register of a cove's window or of a target (R6). -/
def fabricCmd : Instr → Option Requester
  | .chClaim q .. | .chRelease q .. | .chEn q .. | .chWdata q .. | .chFence q .. | .chUnfence q .. | .tdResume q .. |
  .tdCal q .. | .scMdcFlush q .. | .scPeakClr q .. | .scKrCmdRekey q .. | .xlDlSwap q .. | .xlDlStop q .. | .hdCtlArb q .. |
  .tuBind q .. | .tuUnbind q .. | .tuDiscardPending q .. | .tuCompactNow q .. | .tuFlipGo q .. | .obAreaEnable q .. |
  .obCtxKill q .. | .obCtxRevive q .. | .evCringBase q .. | .sqSpillEnable q .. | .bcNmiTest q .. | .cvQuiesceReq q .. |
  .cvQuiesceRelease q .. | .cvResetGo q .. | .migCopyOut q .. | .migCopyIn q .. | .migExport q .. | .migImport q .. |
  .fabFwCommit q .. | .vsAvsRetry q .. | .vsCoveReq q .. | .vsIslReq q .. | .vsIslCap q .. | .fbReplan q .. |
  .lbShutdown q .. | .lbWrite q .. | .lbHosttime q .. | .lcNext q .. | .lcDbgOpen q .. | .slFreeze q .. | .fabRstCtlGo q ..
  => some q
  | _ => none

/-! ### Commands that complete -/

/-- The command answers a next state that satisfies `P`. -/
def Answers (c : Instr) (s : State) (P : State → Prop) : Prop := ∃ t, exec c s = .next t ∧ P t

/-- The requester reaches the fabric-global registers: the ports are open, and it is no virtual function (R6). -/
abbrev Manages (s : State) (q : Requester) : Prop := hostClosed s = false ∧ qMgmt q = true

/-- The requester reaches the window of cove `c`: the ports are open, the cove exists, and a virtual function is its own (R6, R20). -/
abbrev Reaches (s : State) (q : Requester) (c : Nat) : Prop :=
  hostClosed s = false ∧ coveExists s c = true ∧ ∀ v : CoveId, q = .vf v → v.val = c

/-- Unit `u` may work: its domain runs (R371). -/
abbrev Works (s : State) (u : Nat) : Prop := running s (unitDomain u) = true

/-- Gather `g` runs on shoal engine `n` of cove `c`, which may work (R169). -/
abbrev GatherRuns (s : State) (n c : Nat) (t : OnTile) (g : Gather) : Prop :=
  liveTile s (gpUnit n) = some t ∧ gatherOf s n = some g ∧ unitOwner s (gpUnit n) = some c ∧ Works s (gpUnit n)

/-- Tile `t` with command state `k` runs on engine port `p` of cove `c`, which may work (R386). -/
abbrev PortRuns (s : State) (p c : Nat) (o : OnTile) (t : EpTile) : Prop :=
  liveTile s p = some o ∧ epOf s p = some t ∧ unitOwner s p = some c ∧ Works s p

/-- The pins as a reset drives them: `IB_RDY` and `FL_CS_N` high, `IRQ`, `ARR_RST_N` and `CP_RST_N` low (R374). -/
def PinsInReset (p : Pins) : Prop := p.ibRdy = true ∧ p.flCsN = true ∧ p.irq = 0 ∧ p.arrRstN = 0 ∧ p.cpRstN = 0

/-- Whether an address lies in the tidepool (R93). -/
def inTidepool (s : State) (fpa : Nat) : Bool := match decodeFpa s fpa with | .tidepool _ _ => true | _ => false

/-- Transfer `id` is `x`, and its controller, or with `tp` its bank, may perform it next (R101, R279). -/
abbrev Picks (s : State) (id : Nat) (x : Xfer) (tp : Bool) : Prop :=
  tfind s.xl.xfers id = some x ∧ x.stage = .waiting ∧ mayPick s x = true ∧ inTidepool s x.fpa = tp
    ∧ running s (fpaDomain s x.fpa) = true

end Sys2Proof.Machine
end

