-- ==== Sys2Proof/Certificates/Slice0/Obligations.lean ====
section
/-!
DEFINITION. The statements for the provers. A `…CommandsComplete` statement says, for each command it names, under what conditions on the state and the
operands alone the command answers a next state with its own effect, and what that state is.
-/
open Sys2Proof Sys2Proof.Machine

/-- Every command of the beacon completes with its own effect (R290–R301): a raise sets PENDING; a hold-off's end releases a
held source; a claim moves the best source from PENDING to ACTIVE and returns it; an end of interrupt ends the service; the
software register raises the sources of its bits; the settings of sources and targets take the fields written; the NMI test
cause follows TEST; and asserted attention gives a pulse.
Where the rules leave the outcome open it is the model’s choice: log entries 7, 19. -/
def Obligations.BeaconCommandsComplete : Prop :=
  (∀ (s : State) (src : SourceId), running s 94 = true → raisable s src.val = true →
    Answers (.sourceRaise src) s fun t => (srcOf t src.val).pending = true)
  ∧ (∀ (s : State) (g : Idx64) (i : Nat), running s 94 = true → tgetD s.bc.running g.val false = true → i / 16 = g.val → i ≠ 524 →
    (srcOf s i).pending = true → (srcOf s i).held = true →
    Answers (.holdoffExpire g) s fun t => (srcOf t i).pending = true ∧ (srcOf t i).held = false)
  ∧ (∀ (s : State) (q : Requester) (t : TargetId) (i : Nat), hostClosed s = false → mayTgt s q t.val = true →
    bestSrc s t.val = some i →
    Answers (.bcClaim q t) s fun u => u.out = .regData q (BitVec.ofNat 32 (2 ^ 31 + i)) :: s.out
      ∧ (srcOf u i).pending = false ∧ (srcOf u i).active = true ∧ (srcOf u i).svc = t.val)
  ∧ (∀ (s : State) (q : Requester) (t : TargetId) (v : Word), hostClosed s = false → mayTgt s q t.val = true →
    (srcOf s (v.toNat % 1024)).active = true → (srcOf s (v.toNat % 1024)).svc = t.val →
    (srcOf s (v.toNat % 1024)).en = true →
    Answers (.bcEoi q t v) s fun u => (srcOf u (v.toNat % 1024)).active = false)
  ∧ (∀ (s : State) (q : Requester) (c : CoveId) (v : Word) (k : Nat), Reaches s q c.val → k < 16 → v.toNat.testBit k = true →
    Answers (.bcCvSwi q c v) s fun t => (srcOf t (32 * c.val + 16 + k)).pending = true)
  ∧ (∀ (s : State) (q : Requester) (src : SourceId) (v : Word), hostClosed s = false → qMgmt q = true →
    (srcClass src.val = 1 ∨ srcClass src.val = 2) → mayName s src.val (bits v.toNat 8 6) = true → bit v.toNat 4 = true →
    Answers (.bcSrcCfgWrite q src v) s fun t => (srcOf t src.val).en = true
      ∧ (srcOf t src.val).prio = bits v.toNat 0 4 ∧ (srcOf t src.val).target = bits v.toNat 8 6)
  ∧ (∀ (s : State) (q : Requester) (t : TargetId) (v : Word), hostClosed s = false → qMgmt q = true →
    ¬ (bits v.toNat 0 2 = 2 ∧ (tgtOwner s t.val).isSome = true) → bit v.toNat 2 = true →
    Answers (.bcTgtCfgWrite q t v) s fun u => (tgtOf u t.val).en = true
      ∧ (tgtOf u t.val).mode = bits v.toNat 0 2 ∧ (tgtOf u t.val).vector = bits v.toNat 8 11)
  ∧ (∀ (s : State) (q : Requester) (on : Bool), Manages s q → isMakerOrIntegrator s = true →
    exec (.bcNmiTest q on) s = .next (setFlag s F.BC_NMI_TEST on))
  ∧ (∀ s : State, running s 94 = true → attention s = true → ibPulses s = true →
    exec .ibAttentionPulse s = .next (emit s .ibPulse))

/-- Register accesses and Ibpin frames complete with their own effect (R7–R12, R378–R380): a write that starts nothing sets
the fields of its register by their access codes, and a bit that is set in the same cycle as it is cleared stays set (R10); an access of another size or alignment is answered with Unsupported
Request; a read of a counter's low word returns it and latches the high word; an Ibpin read returns STATUS 0 and the register; an
Ibpin write acts and returns STATUS 0; an unknown opcode returns STATUS 0x02 with BADOP; a short frame sets SHORT; a frame
not answered in time returns STATUS 0x03, and in slack STATUS 0x04 (R381).
Where the rules leave the outcome open it is the model’s choice: log entries 11, 12, 51, 57. -/
def Obligations.RegisterCommandsComplete : Prop :=
  (∀ (s : State) (q : Requester) (off : BitVec 25) (v late : Word) (r : RegRow), Manages s q → off.toNat % 4 = 0 →
    inWin off.toNat = false → starts q off.toNat (keepLate off.toNat v late) s = none → rowAt off.toNat = some r →
    exec (.regWrite q off ⟨v, late⟩) s = .next (r.flds.foldl (fieldWrite off.toNat q (keepLate off.toNat v late).toNat) s))
  ∧ (∀ (s : State) (q : Requester) (off : BitVec 25) (size : Nat) (w : Bool), hostClosed s = false → q ≠ .ibpin →
    ¬ (off.toNat % 4 = 0 ∧ size = 4) → exec (.regAccessBadSize q off size w) s = .next (emit s (.unsupported q)))
  ∧ (∀ (s : State) (off : BitVec 25), hostClosed s = false → off.toNat % 4 = 0 → inWin off.toNat = false → isCtrLo off.toNat = true →
    Answers (.counterLoRead .pf off) s fun t =>
      t.out = .regData .pf (BitVec.ofNat 32 (ctrValue s off.toNat)) :: s.out
      ∧ (ctrValue s off.toNat / 2 ^ 32 ≠ 0 → tgetD t.latches (latchKey .pf off.toNat) 0 = ctrValue s off.toNat / 2 ^ 32)
      ∧ OnlyChanges [.latches] s t)
  ∧ (∀ (s : State) (a : Word), hostClosed s = false → a.toNat % 4 = 0 → a.toNat < 0x2000000 →
    Answers (.ibpinRead a) s fun t =>
      t.out = .ibResult 0 (some (BitVec.ofNat 32 (readReg s .ibpin a.toNat).1)) :: (readReg s .ibpin a.toNat).2.out)
  ∧ (∀ (s : State) (a v : Word) (t : State), hostClosed s = false → a.toNat % 4 = 0 → a.toNat < 0x2000000 →
    writeReg .ibpin a.toNat v s = .next t → exec (.ibpinWrite a v) s = .next (emit t (.ibResult 0 none)))
  ∧ (∀ (s : State) (op : Byte), hostClosed s = false → op ≠ 1 → op ≠ 2 →
    exec (.ibpinBadOpcode op) s = .next (emit (setFlag s F.FAB_IB_STATUS_BADOP true) (.ibResult 2 none)))
  ∧ (∀ (s : State) (wr : Option (Word × Word)), resetting s = false →
    exec (.ibpinFrameAbort false wr) s = .next (setFlag s F.FAB_IB_STATUS_SHORT true))
  ∧ (∀ s : State, resetting s = false → slackOn s = false →
    exec (.ibpinTimeout none) s = .next (emit (setFlag s F.FAB_IB_STATUS_TIMEOUT true) (.ibResult 3 none)))
  ∧ (∀ (s : State) (wr : Option (Word × Word)), resetting s = false → slackOn s = true →
    exec (.ibpinTimeout wr) s = .next (emit s (.ibResult 4 none)))

/-- The traffic regulators' commands complete with their own effect (R278, R281, R282, R285): a window's end gives full credit and
zero counts; the urgency that the fill of a master's buffer calls for is presented, and a rise to 3 raises the waiting requests of the master to level 1; and a
recomputation takes effect.
Where the rules leave the outcome open it is the model’s choice: log entries 7, 27, 55. -/
def Obligations.RegulatorCommandsComplete : Prop :=
  (∀ (s : State) (r : Fin 256), running s 96 = true → s.bw.sorted = true →
    Answers (.regWindowEnd r) s fun t => (regulOf t r.val).credit = (regulOf s r.val).eff
      ∧ (regulOf t r.val).want = 0 ∧ (regulOf t r.val).got = 0 ∧ (regulOf t r.val).held = false)
  ∧ (∀ (s : State) (r : Fin 256) (b : ReadBuffer), mayUrge s r.val = true → running s (unitDomain (regulUnit r.val)) = true →
    Answers (.urgUpgrade r b) s fun t => (regulOf t r.val).urg = bufferUrg s r.val b
      ∧ (bufferUrg s r.val b = 3 → (regulOf s r.val).urg ≠ 3 → ∀ id x, tfind s.xl.xfers id = some x → x.stage = .waiting →
          regOf s x.src = some r.val → tfind t.xl.xfers id = some { x with urg := 3 }))
  ∧ (∀ s : State, running s 94 = true → exec .dbRecompute s = .next (recompute s))

/-- The lifecycle's commands complete with their own effect (R325, R358–R360, R365): an accepted code is queued for
programming and shows PENDING and PROG_BUSY; its state fuse is blown when its masks and the fuse read blown; and OPEN follows a write in Fielded.
Where the rules leave the outcome open it is the model’s choice: log entries 7, 48. -/
def Obligations.LifecycleCommandsComplete : Prop :=
  (∀ (s : State) (q : Requester) (v : Word), Manages s q → nextRefusal s (bits v.toNat 0 3) = none →
    Answers (.lcNext q v) s fun t => flag t F.LC_STATUS_PENDING = true ∧ flag t F.LC_STATUS_PROG_BUSY = true
      ∧ t.lc.prog = s.lc.prog ++ [bits v.toNat 0 3] ∧ OnlyChanges [.regs, .life] s t)
  ∧ (∀ (s : State) (uid fwk : Bool) (code : Nat) (rest : List Nat), s.lc.prog = code :: rest →
    masksBlown (blowMasks s.lc.fuses code uid fwk) code = true →
    Answers (.fuseProgramDone uid fwk true) s fun t => t.lc.prog = rest ∧ t.lc.fuses.t = s.lc.fuses.t ||| 2 ^ (code - 1))
  ∧ (∀ (s : State) (q : Requester) (v : Word), Manages s q → fld s F.LC_STATE_STATE = 2 →
    exec (.lcDbgOpen q v) s = .next (setFlag s F.LC_DBG_OPEN (bit v.toNat 0)))

/-- The slack commands complete with their own effect (R103, R367, R368, R370): the causes are held and let go; the first cause begins
the stop at wave A; a wave that has stopped gates its domains; a stack enters self-refresh; the deadline passes; and a release resumes
in Maker and Integrator.
Where the rules leave the outcome open it is the model’s choice: log entries 7, 49. -/
def Obligations.SlackCommandsComplete : Prop :=
  (∀ (s : State) (q : Requester) (v : Word), Manages s q → s.lc.inReset = false → bit v.toNat 0 = true →
    exec (.slFreeze q v) s = .next (setFlag s F.SL_STATUS_HOLD true))
  ∧ (∀ s : State, s.lc.inReset = false → exec .slackNAssert s = .next (setFlag s F.SL_STATUS_PIN true))
  ∧ (∀ s : State, s.lc.inReset = false → exec .slackNDeassert s = .next (setFlag s F.SL_STATUS_PIN false))
  ∧ (∀ s : State, slackCauses s ≠ 0 → slackOn s = false → s.lc.inReset = false →
    Answers .slackT0 s fun t => flag t F.SL_STATUS_STOPPING = true ∧ fld t F.SL_STATUS_WAVE = 1 ∧ t.lc.sr = [] ∧ t.lc.srDue = false)
  ∧ (∀ (s : State) (fio : Nat), flag s F.SL_STATUS_STOPPING = true → (fld s F.SL_STATUS_WAVE = 3 → waveCReady s = true) →
    Answers (.slackWaveStopped fio) s fun t => (∀ d ∈ waveDoms (fld s F.SL_STATUS_WAVE), thas t.lc.stopped d = true)
      ∧ (fld s F.SL_STATUS_WAVE = 5 → flag t F.SL_STATUS_FROZEN = true)
      ∧ (fld s F.SL_STATUS_WAVE < 5 → fld t F.SL_STATUS_WAVE = fld s F.SL_STATUS_WAVE + 1))
  ∧ (∀ (s : State) (n : StackId), flag s F.SL_STATUS_STOPPING = true → flag s (F.SC_STATUS_TRAINED n.val) = true →
    s.lc.sr.contains n.val = false → s.ck.lost.contains n.val = false → running s n.val = true →
    srcRuns s (domNow s n.val).src = true →
    Answers (.selfRefreshEntered n) s fun t => t.lc.sr = s.lc.sr ++ [n.val] ∧ flag t (F.SC_STATUS_SELF_REFRESH n.val) = true)
  ∧ (∀ s : State, flag s F.SL_STATUS_STOPPING = true → s.lc.srDue = false →
    Answers .slackSrDeadline s fun t => t.lc.srDue = true ∧ ∀ n, n < 32 → flag s (F.SC_STATUS_TRAINED n) = true →
      s.lc.sr.contains n = false → t.ck.lost.contains n = true ∧ flag t F.SL_LAST_SR_MISS = true)
  ∧ (∀ s : State, flag s F.SL_STATUS_FROZEN = true → slackCauses s = 0 → s.lc.want.contains .slack = false →
    s.lc.noted.contains .slack = false → releaseResumes s = true → exec .slackRelease s = .next (resumeFreeze s))

/-- The JTAG port's commands complete with their own effect (R363–R366): each instruction is selected; EXTEST drives the output cells from the
boundary-scan register before and after a scan of it, and SAMPLE scans it alone, each shifting the captured pins out; IDCODE and STATUS shift
out their registers; a bypass shifts out one bit that nothing constrains; and, where the network is reached, the scan of a frozen domain and
the dump of an array shift out the flops' values, and the memory instrument answers with a raw line and stores one. What the boundary-scan
register holds, which flops a segment has and what the dumps of buffers show are the model's choice (log entries 2 and 50).
Where the rules leave the outcome open it is the model’s choice: log entries 2, 50. -/
def Obligations.JtagCommandsComplete : Prop :=
  (∀ s : State, exec .jtagTapReset s = .next (setIr s 2))
  ∧ (∀ s : State, isMakerOrIntegrator s = true → Answers .jtagExtest s fun t => t.lc.ir = 0 ∧ t.lc.bsr.length = 107
      ∧ (∃ v : Nat, t.out = .boundary (outPlaces.flatMap (fun p => (t.lc.bsr.drop p.1).take p.2)) :: .tdo 107 v
          :: .boundary (outPlaces.flatMap (fun p => (s.lc.bsr.drop p.1).take p.2)) :: s.out
        ∧ ∀ (i : Nat) (b : Bool), (pinCells s)[i]? = some (some b) → v.testBit i = b) ∧ OnlyChanges [.life] s t)
  ∧ (∀ s : State, Answers .jtagSamplePreload s fun t => t.lc.ir = 1 ∧ t.lc.bsr.length = 107
      ∧ (∃ v : Nat, t.out = .tdo 107 v :: s.out ∧ ∀ (i : Nat) (b : Bool), (pinCells s)[i]? = some (some b) → v.testBit i = b)
      ∧ OnlyChanges [.life] s t)
  ∧ (∀ s : State, exec .jtagIdcode s = .next (emit (setIr s 2) (.tdo 32 (idcode s))))
  ∧ (∀ s : State, networkOpen s = true → exec .jtagIjtag s = .next (setIr s 0x10))
  ∧ (∀ s : State, s.lc.inReset = false → exec .jtagSlack s = .next (setFlag (setIr s 0x11) F.SL_STATUS_HOLD true))
  ∧ (∀ s : State, s.lc.inReset = false → exec .jtagRelease s = .next (setFlag (setIr s 0x12) F.SL_STATUS_HOLD false))
  ∧ (∀ s : State, exec .jtagStatus s = .next (emit (setIr s 0x13) (.tdo 32 (jtagStatus s))))
  ∧ (∀ s : State, Answers .jtagBypass s fun t => t.lc.ir = 0xFF
      ∧ t.out = .tdo 1 (Config.freeValue s.freeCtr 1).toNat :: s.out)
  ∧ (∀ (s : State) (d : DomainId) (n : Nat), flag s F.SL_STATUS_FROZEN = true → networkSelected s = true → dataOpen s = true →
    n ≤ (tgetD s.lc.flops d.val []).length →
    Answers (.scanSegmentAccess d [] n none) s fun t => t.out = .scanOut ((tgetD s.lc.flops d.val []).take n) :: s.out
      ∧ OnlyChanges [.life] s t)
  ∧ (∀ (s : State) (d : DomainId) (vs : List Nat), flag s F.SL_STATUS_FROZEN = true → networkSelected s = true → dataOpen s = true →
    vs.length = (tgetD s.lc.flops d.val []).length →
    Answers (.scanSegmentAccess d [] vs.length (some vs)) s fun t => t.out = .scanOut (tgetD s.lc.flops d.val []) :: s.out
      ∧ tfind t.lc.flops d.val = some (vs.map (· % 2 == 1)) ∧ OnlyChanges [.life] s t)
  ∧ (∀ (s : State) (d : DomainId) (p : BitVec 32) (w v x : Nat), flag s F.SL_STATUS_FROZEN = true → networkSelected s = true → dataOpen s = true →
    fld s F.LC_STATE_STATE ≠ 2 → tfind s.lc.ctlFlops (d.val * 2 ^ 32 + p.toNat) = some x →
    Answers (.scanSegmentAccess d [.other p w] 0 (some [v])) s fun t => t.out = .scanOut (bitsOf w x) :: s.out
      ∧ tfind t.lc.ctlFlops (d.val * 2 ^ 32 + p.toNat) = some (v % 2 ^ w) ∧ OnlyChanges [.life] s t)
  ∧ (∀ (s : State) (d : DomainId) (off low w v : Nat) (f : Nat × Nat × Nat × AccCode), flag s F.SL_STATUS_FROZEN = true →
    networkSelected s = true → dataOpen s = true → fld s F.LC_STATE_STATE ≠ 2 → flopDomain off = d.val → ctlFld off low w = some f → Regs.wf s = true →
    Answers (.scanSegmentAccess d [.field off low w] 0 (some [v])) s fun t => fld t (rowFld .ibpin off f) = v % 2 ^ w
      ∧ t.out = .scanOut (bitsOf w (fieldRead s .ibpin off (viewOf s off) f)) :: s.out ∧ OnlyChanges [.regs, .life] s t)
  ∧ (∀ (s : State) (b : Fin 512) (w : BitVec 15), flag s F.SL_STATUS_FROZEN = true → networkSelected s = true → dataOpen s = true →
    exec (.arrayDumpAccess (.tidepool b w) none) s = .next (emit s (.scanOut
      (bitsOf 64 (tpWord s b.val w.toNat).data.toNat ++ bitsOf 15 (tpWord s b.val w.toNat).code ++ [(tpWord s b.val w.toNat).poison]))))
  ∧ (∀ (s u : State) (fpa : BitVec 41) (p : Nat × Nat), networkSelected s = true → instrWorks s = true →
    instrPlace s fpa.toNat = some p → takeTurn (addCtr s C.BW_FAB_UNREG 64) ⟨16, 0x9000, fpa.toNat, .read, none, .demand⟩ = u →
    Answers (.memInstrRead fpa) s fun t => ∃ md : RawLine,
      md = (mdcFetch u p.1 (metaLine u p.2)).1.raw
      ∧ t.out = .memInstr false (lineBytes (rawLine u p.1 (p.2 / 64)).data ++ toBytes 8 (rawLine u p.1 (p.2 / 64)).pin.toNat
          ++ toBytes 8 (lineWord md.data (p.2 / 64 % 8)).toNat) :: (mdcFetch u p.1 (metaLine u p.2)).2.out)
  ∧ (∀ (s u : State) (fpa : BitVec 41) (d : Line) (pin inl : Dword) (p : Nat × Nat), networkSelected s = true → instrWorks s = true →
    instrPlace s fpa.toNat = some p → takeTurn (addCtr s C.BW_FAB_UNREG 64) ⟨16, 0x9000, fpa.toNat, .write 0 0, none, .demand⟩ = u →
    exec (.memInstrWrite fpa d pin inl) s =
      .next (emit (mdcWrite (setRaw u p.1 (p.2 / 64) ⟨d, pin⟩) p.1 (metaLine u p.2) (p.2 / 64 % 8) inl) (.memInstr false [])))

/-- The reset commands complete with their own effect (R353, R374–R376, R396): every cause asks for the reset, and an asserted reset pin drives the pins at once; the reset asserts the
internal reset when the fuse programmer is idle, with its cause recorded and the pins driven; and its release counts the reset and begins start-up at the boot ROM or,
with an image kept, after it. That the stacks' lines are unlisted under the reset is log entry 4's choice, and that they read zero until the
initialisation of R104.
Where the rules leave the outcome open it is the model’s choice: log entries 1, 2, 4, 12, 47, 48. -/
def Obligations.ResetCommandsComplete : Prop :=
  (∀ s : State, Answers .porAssert s fun t => t.lc.want = s.lc.want ++ [.por] ∧ OnlyChanges [.life] s t
      ∧ ∃ p : Pins, t.out = .pins p :: s.out ∧ PinsInReset p ∧ p.nmiOut = false)
  ∧ (∀ s : State, Answers .fabRstNAssert s fun t => t.lc.want = s.lc.want ++ [.pin] ∧ OnlyChanges [.life] s t
      ∧ ∃ p : Pins, t.out = .pins p :: s.out ∧ PinsInReset p ∧ (.por ∉ s.lc.want → .por ∉ s.lc.noted → p.nmiOut = nmiOut s))
  ∧ (∀ s : State, Answers .pfFlr s fun t => t.lc.want = s.lc.want ++ [.pfFlr] ∧ OnlyChanges [.life] s t)
  ∧ (∀ s : State, Answers .hostLinkReset s fun t => t.lc.want = s.lc.want ++ [.link] ∧ OnlyChanges [.life] s t)
  ∧ (∀ (s : State) (q : Requester) (v : Word), Manages s q → bit v.toNat 0 = true → bits v.toNat 8 8 = 0xA5 →
    Answers (.fabRstCtlGo q v) s fun t => t.lc.want = s.lc.want ++ [.soft (bit v.toNat 1)] ∧ OnlyChanges [.life] s t)
  ∧ (∀ (s : State) (r : RstCause), s.lc.inReset = false → s.lc.prog = [] → s.sc.commit = none → r ∈ s.lc.want → r ≠ .por → .por ∉ s.lc.want →
    s.lc.noted = [] →
    Answers .fabricResetStart s fun t => t.lc.inReset = true ∧ t.lc.want = [] ∧ flag t (causeFld r) = true
      ∧ t.lc.fuses = s.lc.fuses ∧ t.mem.tpw = s.mem.tpw ∧ t.mem.lines = [] ∧ t.plan = PlanSt.reset ∧ t.bc = BcSt.reset
      ∧ (∀ i : Nat, i < 26 → ctr t (lbCtr i) = ctr s (lbCtr i))
      ∧ ∃ p : Pins, t.out = .pins p :: .internalReset true :: s.out ∧ PinsInReset p)
  ∧ (∀ s : State, s.lc.inReset = true → .por ∉ s.lc.want → Regs.wf s = true →
    Answers .fabricResetRelease s fun t => t.lc.inReset = false ∧ (t.lc.boot = 2 ∨ t.lc.boot = 3)
      ∧ (t.lc.boot = 3 → s.lc.image.isSome = true) ∧ t.lc.noted = [] ∧ ctr t (lbCtr 1) = min (ctr s (lbCtr 1) + 1) maxCtr)

/-- The start-up commands complete with their own effect, each at its step (R104, R324, R334, R335, R351, R362): the boot ROM
starts an image that passes, slot A before slot B, and none when both fail; the strap check records XA and XB; VBOOT starts the loops; every domain goes to its start-up source and divider;
trained stacks are ready and read zero; a clean verify sets SCRUBBED; a flash without a suitable SFDP leaves the logbook unfit, and with one the logbook is
open, SEQ goes on from the latest entry and so does every counter, with what it has gained since the reset (R355, R356); and
UP sets at the end.
Where the rules leave the outcome open it is the model’s choice: log entries 1, 4, 7, 44, 47. -/
def Obligations.StartupCommandsComplete : Prop :=
  (∀ (s : State) (a b : List Byte), atStep s 2 = true → running s 94 = true → isScrapped s = false →
    Answers (.bootRomDone a b) s fun t =>
      (fwOk (fwkOf s) a (fld s F.FAB_SEC_STATUS_FUSED_SVN) = true → t.lc.boot = 3 ∧ flag t F.FAB_SEC_STATUS_FW_OK = true
        ∧ t.lc.image = some ⟨0, leAt a 6 2, fld s F.LC_STATE_STATE, a.take 128⟩)
      ∧ (fwOk (fwkOf s) a (fld s F.FAB_SEC_STATUS_FUSED_SVN) = false → fwOk (fwkOf s) b (fld s F.FAB_SEC_STATUS_FUSED_SVN) = true → t.lc.boot = 3
        ∧ flag t F.FAB_SEC_STATUS_FW_OK = true ∧ t.lc.image = some ⟨1, leAt b 6 2, fld s F.LC_STATE_STATE, b.take 128⟩)
      ∧ (fwOk (fwkOf s) a (fld s F.FAB_SEC_STATUS_FUSED_SVN) = false → fwOk (fwkOf s) b (fld s F.FAB_SEC_STATUS_FUSED_SVN) = false →
        t.lc.image = none ∧ flag t F.FAB_SEC_STATUS_FW_FAIL = true))
  ∧ (∀ (s : State) (khz : Nat) (xb : Bool), atStep s 3 = true → running s 94 = true → flag s F.CK_STATUS_STRAP_ERR = false →
    strapOk s khz = true →
    exec (.xaStrapCheck khz xb) s = .next (toStep (setFlag (setFlag s F.CK_STATUS_XA_OK true) F.CK_STATUS_XB_OK xb) 4))
  ∧ (∀ s : State, atStep s 4 = true → running s 94 = true →
    Answers .vbootSetDone s fun t => t.lc.boot = 5 ∧ fld t F.CK_STATUS_EN = 0x3F)
  ∧ (∀ s : State, atStep s 5 = true → running s 94 = true → fld s F.CK_STATUS_LOCK = 0x3F →
    Answers .startupDomainsSwitched s fun t => t.lc.boot = 7
      ∧ ∀ d ∈ allDoms, domNow t d = ⟨(startDom d).1, (startDom d).2, false, none⟩)
  ∧ (∀ (s : State) (tr : BitVec 32) (big : Bool), atStep s 7 = true → running s 94 = true →
    Answers (.stackTrainingDone tr big) s fun t => t.lc.boot = 8 ∧ t.mem.lines = [] ∧ t.mem.mdc = []
      ∧ flag t F.FAB_CONFIG_READY = true)
  ∧ (∀ s : State, running s 94 = true → fld s F.LC_STATE_STATE = 3 → flag s F.FAB_CONFIG_READY = true →
    flag s F.LC_STATUS_SCRUBBED = false → flag s F.LC_STATUS_VERIFY_ERR = false → s.mem.lines = [] → s.mem.mdc = [] →
    exec (.returnedScrubVerify true) s = .next (setFlag s F.LC_STATUS_SCRUBBED true))
  ∧ (∀ (s : State) (h : List (List Byte)) (e : List (Nat × Nat × List Byte)), atStep s 10 = true → running s 94 = true →
    exec (.logbookOpen false h e) s = .next (toStep (setSchedules (setFlag s F.LB_STATUS_UNSUIT true)) 11))
  ∧ (∀ (s : State) (h : List (List Byte)) (e : List (Nat × Nat × List Byte)), atStep s 10 = true → running s 94 = true →
    Answers (.logbookOpen true h e) s fun t => t.lc.boot = 11 ∧ flag t F.LB_STATUS_OPEN = true
      ∧ ∀ (n k : Nat) (b : List Byte), lastEntry e = some (n, k, b) → Regs.wf s = true →
        fld t F.LB_SEQ_SEQ = leAt b 8 4 ∧ ctr t C.LB_POWERED = min (leAt b 16 8 + gained s C.LB_POWERED) maxCtr
        ∧ ∀ i : Nat, i < 25 → i ≠ 22 → ctr t (lbCtr i) = min (leAt b (48 + 8 * i) 8 + gained s (lbCtr i)) maxCtr)
  ∧ (∀ s : State, atStep s 11 = true → running s 94 = true →
    exec .startupComplete s = .next (toStep (setFlag s F.CK_STATUS_UP true) 12))

/-- The commands of the clocks complete with their own effect (R330, R336, R337, R342): the first gate outside the window is
noted and the second in a row fails the source; a lost lock fails its loop; a loop that has not failed and holds lock runs at its planned MULT; a normal
switch takes the new source and divider; a switch not complete in time fails its old source; and a slewing
loop moves MULT by one, but holds in slack (R350).
Where the rules leave the outcome open it is the model’s choice: log entries 7, 44. -/
def Obligations.ClockCommandsComplete : Prop :=
  (∀ (s : State) (src : Fin 10), s.lc.inReset = false → counted s src.val = true → (4 ≤ src.val → thas s.ck.grace (src.val - 4) = false) → tgetD s.ck.badGates src.val 0 = 0 →
    exec (.clockMonitorGate src false) s = .next { s with ck := { s.ck with badGates := tput s.ck.badGates src.val 1 } })
  ∧ (∀ (s : State) (src : Fin 10), s.lc.inReset = false → counted s src.val = true → (4 ≤ src.val → thas s.ck.grace (src.val - 4) = false) → 1 ≤ tgetD s.ck.badGates src.val 0 →
    exec (.clockMonitorGate src false) s = .next (failSource s src.val))
  ∧ (∀ (s : State) (p : Fin 6), (fld s F.CK_STATUS_LOCK).testBit p.val = true →
    exec (.loopLockLoss p) s = .next (failSource s (4 + p.val)))
  ∧ (∀ (s : State) (p : Fin 6), (fld s F.CK_STATUS_EN).testBit p.val = true → (fld s F.CK_STATUS_LOCK).testBit p.val = false →
    s.ck.failed.contains p.val = false → (loopPlan s p.val).ref = 0 → flag s F.CK_STATUS_XA_OK = true →
    exec (.loopLocked p) s = .next (setFld (setFld s F.CK_STATUS_LOCK (setBit (fld s F.CK_STATUS_LOCK) p.val true))
      (F.CK_LOOP_MULT p.val) (loopPlan s p.val).mult))
  ∧ (∀ (s : State) (d : DomainId) (tp : Bool) (src div : Nat), (domNow s (muxOf d tp)).next = some (src, div) →
    srcRuns s (domNow s (muxOf d tp)).src = true → srcRuns s src = true →
    Answers (.muxSwitchDone d tp) s fun t => domNow t (muxOf d tp) = ⟨src, div, false, none⟩
      ∧ (∀ m, m ≠ muxOf d tp → domNow t m = domNow s m) ∧ OnlyChanges [.clocks] s t)
  ∧ (∀ (s : State) (d : DomainId) (tp : Bool), (domNow s (muxOf d tp)).next.isSome = true →
    ((domNow s (muxOf d tp)).src = 6 → exec (.muxSwitchTimeout d tp) s = .next (failSource s 2))
    ∧ ((domNow s (muxOf d tp)).src < 6 → exec (.muxSwitchTimeout d tp) s = .next (failSource s (4 + (domNow s (muxOf d tp)).src))))
  ∧ (∀ (s : State) (p : Fin 6) (g : Nat), slackOn s = false → tfind s.ck.goal p.val = some g → 1 ≤ fld s (F.CK_LOOP_MULT p.val) →
    fld s (F.CK_LOOP_MULT p.val) ≠ g → Regs.wf s = true →
    Answers (.loopSlewStep p) s fun t => fld t (F.CK_LOOP_MULT p.val) =
      (if fld s (F.CK_LOOP_MULT p.val) < g then fld s (F.CK_LOOP_MULT p.val) + 1 else fld s (F.CK_LOOP_MULT p.val) - 1)
        % 2 ^ (F.CK_LOOP_MULT p.val).w)
  ∧ (∀ (s : State) (p : Fin 6), slackOn s = true → exec (.loopSlewStep p) s = .next s)

/-- The commands of the islands complete with their own effect (R341, R343–R346): a transition to another point starts with the
voltage when it rises; a frequency change that has launched ends a raise; a lowered rail that reads back within 10 mV ends its
transition; a write of AVS_ERR clears it and tries again; the requests and the cap set their fields and recompute the target;
the hottest sensor shows; the thermal ceiling moves by one point; throttled intervals are sampled; and powers are read at the regulators' PMBus addresses (R340).
Where the rules leave the outcome open it is the model’s choice: log entries 7, 24, 45. -/
def Obligations.IslandCommandsComplete : Prop :=
  (∀ (s : State) (i : IslandId), running s 94 = true → (islOf s i.val).ph = .idle → (islOf s i.val).stale = false →
    flag s (F.VS_ISL_STATE_BOOT i.val) = false → fld s (F.VS_ISL_STATE_OP i.val) < fld s (F.VS_ISL_STATE_TARGET i.val) →
    Answers (.islandTransitionStart i) s fun t => (islOf t i.val).ph = .raising
      ∧ (islOf t i.val).dest = fld s (F.VS_ISL_STATE_TARGET i.val)
      ∧ t.out = .avsWrite (Config.avsRail i.val) (opMv s i.val (fld s (F.VS_ISL_STATE_TARGET i.val))) :: s.out)
  ∧ (∀ (s : State) (i : IslandId) (r : SlateReport) (s1 : State), running s 94 = true → (islOf s i.val).ph = .frequency true →
    takeReport s (fun a => a == .dvfs i.val) = some (r, s1) → r.outcome = .done →
    exec (.freqChangeDone i) s = .next (recompute (endTransition s1 i.val)))
  ∧ (∀ (s : State) (i : IslandId) (mv : Nat), running s 94 = true → (islOf s i.val).ph = .lowering → (islOf s i.val).mv ≤ mv + 10 →
    mv ≤ (islOf s i.val).mv + 10 →
    Answers (.voltageSettled i mv) s fun t => (islOf t i.val).ph = .idle ∧ OnlyChanges [.regs, .clocks] s t)
  ∧ (∀ (s : State) (q : Requester), Manages s q →
    exec (.vsAvsRetry q) s = .next ((List.range 6).foldl retryIsl (setFlag s F.VS_STATUS_AVS_ERR false)))
  ∧ (∀ (s : State) (q : Requester) (i : IslandId) (c : CoveId) (v : Word), Manages s q →
    exec (.vsCoveReq q i c v) s = .next (retarget (setFld (setFld s (F.VS_COVE_REQ_OP i.val c.val) (bits v.toNat 0 3))
      (F.VS_COVE_REQ_VALID i.val c.val) (bits v.toNat 3 1)) i.val))
  ∧ (∀ (s : State) (q : Requester) (i : IslandId) (v : Word), Manages s q →
    exec (.vsIslReq q i v) s = .next (retarget (setFld (setFld s (F.VS_ISL_REQ_OP i.val) (bits v.toNat 0 3))
      (F.VS_ISL_REQ_EN i.val) (bits v.toNat 3 1)) i.val))
  ∧ (∀ (s : State) (q : Requester) (i : IslandId) (v : Word), Manages s q →
    exec (.vsIslCap q i v) s = .next (retarget (setFld s (F.VS_ISL_CAP_CAP i.val) (bits v.toNat 0 3)) i.val))
  ∧ (∀ (s : State) (temps : List Byte) (i : Nat), running s 97 = true → Regs.wf s = true → i < 6 →
    Answers (.tjSample temps) s fun t => fld t (F.VS_ISL_TEMP_TJ i) = hottest temps i % 2 ^ (F.VS_ISL_TEMP_TJ i).w
      ∧ OnlyChanges [.regs, .counters] s t)
  ∧ (∀ (s : State) (i : IslandId), running s 94 = true → fld s F.VS_TJ_LIMIT ≤ fld s (F.VS_ISL_TEMP_TJ i.val) →
    Answers (.thermalCeilingStep i) s fun t => (islOf t i.val).thermal = min (islOf s i.val).thermal (topOp s i.val) - 1)
  ∧ (∀ (s : State) (i : Nat), running s 94 = true → Regs.wf s = true → i < 6 →
    Answers .throttleSample s fun t => flag t (F.VS_ISL_THROT_NOW i) = throttled s i
      ∧ (throttled s i = true → fld t (F.VS_ISL_THROT_INTERVALS i) = min (fld s (F.VS_ISL_THROT_INTERVALS i) + 1) 65535))
  ∧ (∀ (s : State) (ws : List (Option Nat)) (i w : Nat), running s 94 = true → Regs.wf s = true → i < 6 → ws[i]? = some (some w) →
    Answers (.powerRead ws) s fun t => fld t (F.VS_ISL_PWR_WATTS i) = w / 5 * 5 % 2 ^ (F.VS_ISL_PWR_WATTS i).w
      ∧ .pmbRead (Config.pmbAddr i) ∈ t.out)
  ∧ (∀ (s : State) (ws : List (Option Nat)) (i w : Nat), running s 94 = true → Regs.wf s = true → i < 6 → ws[i]? = some (some w) →
    Answers (.pmbAlert ws) s fun t => fld t (F.VS_ISL_PWR_WATTS i) = w / 5 * 5 % 2 ^ (F.VS_ISL_PWR_WATTS i).w
      ∧ .pmbRead (Config.pmbAddr i) ∈ t.out)

/-- The commands of the sensors and of the logbook complete with their own effect (R347–R349, R352–R356): a measurement stores the
ratios and sets the next one 15 powered minutes on; a replan is asked for; a replan made moves the next one 168 powered hours on and shows DONE, or is
deferred while a chart sounds that is not held until start-up ends; start-up's own replan goes on to step 10 (R334, R335); an entry is asked for by its kind; an entry programmed advances SEQ and SAFE; host time is set; and a
second advances POWERED_S.
Where the rules leave the outcome open it is the model’s choice: log entries 7, 46, 47. -/
def Obligations.LogbookCommandsComplete : Prop :=
  (∀ (s : State) (rs : List Nat), running s 97 = true → s.ck.nextMeas ≤ poweredS s →
    Answers (.scarpMeasure rs) s fun t => t.ck.ratios = (storeRatios s rs).ck.ratios ∧ t.ck.nextMeas = poweredS s + 900
      ∧ OnlyChanges [.clocks] s t)
  ∧ (∀ s : State, running s 94 = true → fld64 s F.FB_NEXT_LO_SECONDS F.FB_NEXT_HI_SECONDS ≤ poweredS s →
    exec .replanPeriodic s = .next { s with ck := { s.ck with replan := true } })
  ∧ (∀ (s : State) (q : Requester), Manages s q → exec (.fbReplan q) s = .next { s with ck := { s.ck with replan := true } })
  ∧ (∀ (s : State) (rs : List Nat), running s 94 = true → s.ck.replan = true → s.lc.boot ≠ 9 → (chartBusy s = false ∨ s.plan.soundHeld = true) →
    exec (.freeboardReplan rs) s = .next (replan (storeRatios s rs)))
  ∧ (∀ (s : State) (rs : List Nat), running s 94 = true → s.lc.boot = 9 → Regs.wf s = true → (chartBusy s = false ∨ s.plan.soundHeld = true) →
    Answers (.freeboardReplan rs) s fun t => t.lc.boot = 10 ∧ flag t F.FB_STATUS_DONE = true ∧ flag t F.FB_STATUS_DEFERRED = false)
  ∧ (∀ (s : State) (rs : List Nat), running s 94 = true → s.ck.replan = true → chartBusy s = true → s.plan.soundHeld = false →
    exec (.freeboardReplan rs) s = .next (setFlag s F.FB_STATUS_DEFERRED true))
  ∧ (∀ s : State, running s 94 = true → flag s F.LB_STATUS_OPEN = true → s.lb.entryS + 900 ≤ poweredS s →
    exec .logbookPeriodic s = .next (lbRequest { s with lb := { s.lb with entryS := poweredS s } } 0))
  ∧ (∀ (s : State) (q : Requester), Manages s q → exec (.lbShutdown q) s = .next (lbRequest s 1))
  ∧ (∀ (s : State) (q : Requester), Manages s q → exec (.lbWrite q) s = .next (lbRequest s 3))
  ∧ (∀ (s : State) (k : Nat), running s 94 = true → s.lb.op = .entry k → s.lb.queue = [] → Regs.wf s = true →
    Answers (.logbookWriteDone true) s fun t => fld t F.LB_SEQ_SEQ = (fld s F.LB_SEQ_SEQ + 1) % 2 ^ 32
      ∧ flag t F.LB_STATUS_SAFE = (k == 1) ∧ t.lb.op = .idle ∧ t.lb.used = s.lb.used + 1)
  ∧ (∀ (s : State) (q : Requester) (v : Word), Manages s q →
    Answers (.lbHosttime q v) s fun t => t.lb.utc = fld s F.LB_HOSTTIME_LO_SECONDS + 2 ^ 32 * v.toNat
      ∧ flag t F.LB_STATUS_UTC_VALID = true ∧ OnlyChanges [.regs, .logbook] s t)
  ∧ (∀ s : State, running s 96 = true → Regs.wf s = true →
    Answers .secondTick s fun t => ctr t C.LB_POWERED = min (ctr s C.LB_POWERED + 1) maxCtr)

/-- Every access that its controller or bank may perform next is performed and answered (R101, R102, R118, R122, R123, R127): each
of the commands of accesses answers the state of that access; a scrub visit checks its word; and an issued transfer that finds a slot and credit
waits at its controller with the class and urgency of its unit.
Where the rules leave the outcome open it is the model’s choice: log entries 7, 13, 14, 15, 55, 58. -/
def Obligations.AccessCommandsComplete : Prop :=
  (∀ (s : State) (id : Nat) (x : Xfer), Picks s id x false →
    (∀ link : Bool, x.acc = .read → exec (.scRead id link) s = .next (serveXfer s link id x))
    ∧ (isFullWrite x.acc = true → exec (.scFullWrite id) s = .next (serveXfer s false id x))
    ∧ (∀ link : Bool, isPartialWrite x.acc = true → exec (.scPartialWrite id link) s = .next (serveXfer s link id x))
    ∧ (∀ (wide : Bool) (i : Fin 16) (a b : Dword),
      (x.acc = .atomic .add wide i a b → exec (.atomicAdd id) s = .next (serveXfer s false id x))
      ∧ (x.acc = .atomic .swap wide i a b → exec (.atomicSwap id) s = .next (serveXfer s false id x))
      ∧ (x.acc = .atomic .cas wide i a b → exec (.atomicCas id) s = .next (serveXfer s false id x))
      ∧ (x.acc = .atomic .umin wide i a b → exec (.atomicUmin id) s = .next (serveXfer s false id x))
      ∧ (x.acc = .atomic .umax wide i a b → exec (.atomicUmax id) s = .next (serveXfer s false id x))
      ∧ (x.acc = .atomic .and wide i a b → exec (.atomicAnd id) s = .next (serveXfer s false id x))
      ∧ (x.acc = .atomic .or wide i a b → exec (.atomicOr id) s = .next (serveXfer s false id x))
      ∧ (x.acc = .atomic .xor wide i a b → exec (.atomicXor id) s = .next (serveXfer s false id x))))
  ∧ (∀ (s : State) (id : Nat) (x : Xfer), Picks s id x true →
    (x.acc = .read → exec (.tidepoolRead id) s = .next (serveXfer s false id x))
    ∧ (x.acc ≠ .read → exec (.tidepoolWrite id) s = .next (serveXfer s false id x)))
  ∧ (∀ (s : State) (b : Fin 512) (w : BitVec 15) (d : Dword) (c n : Nat), running s (80 + b.val / 64) = true → s.mem.tpw.sorted = true →
    (tpWord s b.val w.toNat).poison = false →
    decodeWord (tpWord s b.val w.toNat).data (tpWord s b.val w.toNat).code = .corrected d c n →
    Answers (.tidepoolScrubVisit b w) s fun t => tpWord t b.val w.toNat = ⟨d, c, false⟩)
  ∧ (∀ (s : State) (id : Nat) (x : Xfer) (s1 : State), running s (unitDomain x.src) = true → tfind s.xl.xfers id = some x → x.stage = .ready →
    x.client = none → inTidepool s x.fpa = false → (((queueAt s x.fpa).map (·.1)).map (slotsUsed s)).getD 0 < 2048 →
    chargeUnit s x.src = some s1 →
    Answers (.transferIssue (.xfer id true)) s fun t => tfind t.xl.xfers id =
      some { x with cls := (classOf s x.src).1, urg := (classOf s x.src).2, order := s.xl.nextOrder, stage := .waiting })

/-- The stacks' own commands and the sweep engines' complete with their own effect (R66, R101, R103, R105, R114, R115, R125, R213, R398):
refreshes and PHY updates are granted; the temperature sets the rate; a flush writes back; PEAK takes CUR; a re-key takes the lowest free
KID with the old one as predecessor; its sweep ends with the predecessor Flushing, phase 3 and a cleared use counter; a KID is retired and freed; and lines are filled,
swept, verified and patrolled, or, without the credit for the whole visit, wait with the credit there is (R278, log entry 27's choice).
Where the rules leave the outcome open it is the model’s choice: log entries 7, 8, 14, 20, 27, 58. -/
def Obligations.StackCommandsComplete : Prop :=
  (∀ (s : State) (n : StackId), running s n.val = true →
    exec (.refresh n) s = .next (emit s (.refresh n (fld s (F.SC_STATUS_REF_RATE n.val)))))
  ∧ (∀ (s : State) (n : StackId) (temp : Byte) (rate : Fin 3), running s n.val = true → flag s (F.SC_STATUS_TRAINED n.val) = true →
    flag s (F.SC_STATUS_SELF_REFRESH n.val) = false →
    exec (.scTempRead n temp rate) s = .next (setFld (setFld s (F.SC_STATUS_TEMP_C n.val) temp.toNat) (F.SC_STATUS_REF_RATE n.val) rate.val))
  ∧ (∀ (s : State) (q : Requester) (n : StackId), Manages s q → exec (.scMdcFlush q n) s = .next (mdcFlush s n.val))
  ∧ (∀ (s : State) (q : Requester) (n : StackId), Manages s q →
    exec (.scPeakClr q n) s = .next (setFld s (F.SC_OUTST_PEAK n.val) (slotsUsed s n.val)))
  ∧ (∀ (s : State) (n : StackId), running s n.val = true → exec (.phyUpdateRequest n) s = .next (emit s (.phyGrant n)))
  ∧ (∀ (s : State) (q : Requester) (r : Idx64) (k : KeyRange) (kid : Nat), Manages s q → tfind s.mem.kr r.val = some k →
    k.scramble = true → k.cur ≠ 0 → k.phase = 0 → s.mem.rekeyQ = [] → takeable s = some kid →
    Answers (.scKrCmdRekey q r) s fun t =>
      tfind t.mem.kr r.val = some { k with cur := kid, pred := some k.cur, phase := 2, sweepDone := false, swept := [] })
  ∧ (∀ (s : State) (r kid : Nat) (rest : List Nat) (k : KeyRange), running s 94 = true → s.mem.rekeyQ = r :: rest →
    takeable s = some kid → s.sc.scrubQ.contains r = false → tfind s.mem.kr r = some k →
    Answers .rekeyKidTake s fun t => t.mem.rekeyQ = rest
      ∧ tfind t.mem.kr r = some { k with cur := kid, pred := some k.cur, phase := 2, sweepDone := false, swept := [] })
  ∧ (∀ (s : State) (n : StackId) (g : BitVec 13) (line : BitVec 22) (r : Nat) (k : KeyRange), Works s (swUnit n.val) →
    rangeOf s g.toNat = some (r, k) → headRekey s n.val = some r → (granOf s g.toNat).owner ≠ 31 → (placeLine s g.toNat line.toNat).1 = n.val →
    (tgetD k.swept g.toNat 0).testBit line.toNat = false → fillWaits s n.val = false → fillOf s g.toNat = none →
    (∀ t : State, rekeyLine s n.val r g.toNat line.toNat k = some t → exec (.rekeySweepLine n g line) s = .next t)
    ∧ (rekeyLine s n.val r g.toNat line.toNat k = none → exec (.rekeySweepLine n g line) s = .next (issueRest s (swUnit n.val))))
  ∧ (∀ (s : State) (r : Idx64) (k : KeyRange) (p : Nat), running s 94 = true → s.mem.kr.sorted = true → tfind s.mem.kr r.val = some k → k.phase = 2 →
    k.queued = false → k.sweepDone = false → k.pred = some p → p < 64 → (kidOf s p).st = .draining → (kidOf s p).range = some r.val →
    (∀ j, j ≠ p → (kidOf s j).st ≠ .draining) → (∀ e ∈ s.mem.kr, e.2.pred = some p → e.1 = r.val) →
    s.plan.fills = [] → (rangePlaces s k).all (fun p => allLines (tgetD k.swept p.gran 0)) = true →
    Answers (.rekeySweepDone r) s fun t => (kidOf t p).st = .flushing
      ∧ tfind t.mem.kr r.val = some { k with phase := 3, use := 0, stopped := false, swept := [] })
  ∧ (∀ (s : State) (k : Fin 64), running s 94 = true → (kidOf s k.val).st = .flushing →
    Answers (.kidRetire k) s fun t => (kidOf t k.val).st = .retired ∧ (kidOf t k.val).loaded = false ∧ t.mem.keys = tdel s.mem.keys k.val)
  ∧ (∀ (s : State) (n : StackId) (k : Fin 64) (j : Nat) (line : BitVec 22) (p : Place), Works s (swUnit n.val) →
    (kidOf s k.val).covered[j]? = some p → headVerify s n.val = some k.val → (placedAt s p line.toNat).1 = n.val →
    (tgetD (kidOf s k.val).verified j 0).testBit line.toNat = false → fillWaits s n.val = false → rekeyWaits s n.val = false →
    (∀ t : State, verifyLine s n.val k.val j (placedAt s p line.toNat).2 line.toNat = some t → exec (.verifyLine n k j line) s = .next t)
    ∧ (verifyLine s n.val k.val j (placedAt s p line.toNat).2 line.toNat = none →
      exec (.verifyLine n k j line) s = .next (issueRest s (swUnit n.val))))
  ∧ (∀ (s : State) (k : Fin 64), running s 94 = true → s.mem.kids.sorted = true → (kidOf s k.val).st = .retired → (kidOf s k.val).covered = [] →
    Answers (.kidVerifyDone k) s fun t => (kidOf t k.val).st = .free)
  ∧ (∀ (s : State) (n : StackId) (g : BitVec 13) (line : BitVec 22) (f : ZFill),
    Works s (swUnit n.val) → headFill s n.val = some f → f.place.gran = g.toNat → f.done.testBit line.toNat = false →
    (placedAt s f.place line.toNat).1 = n.val →
    (∀ t : State, fillLine s n.val line.toNat f = some t → exec (.zeroFillLine n g line) s = .next t)
    ∧ (fillLine s n.val line.toNat f = none → exec (.zeroFillLine n g line) s = .next (issueRest s (swUnit n.val))))
  ∧ (∀ (s : State) (g : BitVec 13) (f : ZFill) (c : Nat), running s 94 = true → s.plan.fills = [(f, .scrub c)] →
    f.place.gran = g.toNat → allLines f.done = true →
    Answers (.zeroFillDone g) s fun t => t.plan.fills = [])
  ∧ (∀ (s : State) (n : StackId) (behind : Bool), Works s (swUnit n.val) → fld s (F.SW_PATROL_POS_LINE n.val) < stackLines s →
    flag s (F.SC_STATUS_TRAINED n.val) = true → patrolPauses s n.val (fld s (F.SW_PATROL_POS_LINE n.val)) = false →
    fillWaits s n.val = false → rekeyWaits s n.val = false → verifyWaits s n.val = false →
    (behind = false → headMove s n.val = none) →
    (∀ t : State, patrolLine s n.val (fld s (F.SW_PATROL_POS_LINE n.val)) = some t → exec (.patrolVisit ⟨n, behind⟩) s =
      .next (setFld t (F.SW_PATROL_POS_LINE n.val) (fld s (F.SW_PATROL_POS_LINE n.val) + 1)))
    ∧ (patrolLine s n.val (fld s (F.SW_PATROL_POS_LINE n.val)) = none →
      exec (.patrolVisit ⟨n, behind⟩) s = .next (issueRest s (swUnit n.val))))
  ∧ (∀ (s : State) (n : StackId) (late : Bool), running s n.val = true → Regs.wf s = true → stackLines s ≤ fld s (F.SW_PATROL_POS_LINE n.val) →
    Answers (.patrolPassEnd n late) s fun t => fld t (F.SW_PATROL_POS_LINE n.val) = 0
      ∧ ctr t (C.SW_PASSES n.val) = min (ctr s (C.SW_PASSES n.val) + 1) maxCtr
      ∧ (late = true → flag t (F.SW_STATUS_LATE n.val) = true))

/-- The commands of the coves' states complete with their own effect (R305–R307, R310, R311, R394, R395): a request of an ACTIVE cove starts a quiesce of
the kind it names, and a FINISH leaves it QUIESCING; a release after FINISH leaves it ACTIVE; a drained cove is QUIESCED with ACK, and its attention source is raised; a
quiesce that takes too long sets STUCK and raises the attention source, whether or not STUCK was set; a reset of a QUIESCED cove makes it RESETTING; a complete one leaves it ACTIVE with CLEAN set and is counted; an FLR without a cove is
complete at once, and one of a cove that is RESETTING waits for that reset; a reset of an FLR that takes too long sets STUCK; a hang of the processor's own shows its bit and, during an apply, waits; a
hang of shared state asks for a fabric reset; and the processor's reset is released.
Where the rules leave the outcome open it is the model’s choice: log entries 7, 9, 39, 56. -/
def Obligations.CoveStateCommandsComplete : Prop :=
  (∀ (s : State) (q : Requester) (c : CoveId) (v : Word), Manages s q → bit v.toNat 0 = true → bit v.toNat 2 = false → coveSt s c.val = 1 →
    exec (.cvQuiesceReq q c v) s = .next (beginQuiesce s c.val (bit v.toNat 1))
    ∧ (bit v.toNat 1 = false → Regs.wf s = true → Answers (.cvQuiesceReq q c v) s fun t => coveSt t c.val = 2 ∧ quiesceAbort t c.val = false))
  ∧ (∀ (s : State) (q : Requester) (c : CoveId) (v : Word), Manages s q → bit v.toNat 0 = false → bit v.toNat 2 = true → coveSt s c.val = 3 →
    quiesceAbort s c.val = false → chartBusy s = false → Regs.wf s = true →
    Answers (.cvQuiesceRelease q c v) s fun t => t = releaseCove s c.val ∧ coveSt t c.val = 1)
  ∧ (∀ (s : State) (c : CoveId), running s 94 = true → quiescing s c.val = true → quiesceDrained s c.val = true → thas s.sc.auto c.val = false → Regs.wf s = true →
    Answers (.quiesceAck c) s fun t => t = raiseSrc (setFlag (setCoveSt s c.val 3) (F.CV_MGR_STATUS_ACK c.val) true) (attnSrc c.val)
      ∧ coveSt t c.val = 3 ∧ flag t (F.CV_MGR_STATUS_ACK c.val) = true)
  ∧ (∀ (s : State) (c : CoveId), running s 94 = true → quiescing s c.val = true →
    Answers (.quiesceStuck c) s fun t => t = raiseSrc (setFlag s (F.CV_MGR_STATUS_STUCK c.val) true) (attnSrc c.val)
      ∧ flag t (F.CV_MGR_STATUS_STUCK c.val) = true
      ∧ (raisable s (attnSrc c.val) = true → (srcOf t (attnSrc c.val)).pending = true))
  ∧ (∀ (s : State) (q : Requester) (c : CoveId) (v : Word), Manages s q → v.getLsbD 0 = true → coveSt s c.val = 3 → Regs.wf s = true →
    Answers (.cvResetGo q c v) s fun t => t = beginReset s c.val (v.getLsbD 1) ∧ coveSt t c.val = 4 ∧ thas t.sc.cpRst c.val = true)
  ∧ (∀ (s : State) (c : CoveId), running s 94 = true → coveSt s c.val = 4 → resetWaits s c.val = false → thas s.sc.cpRst c.val = false →
    thas s.tide.masters c.val = false → thas s.sc.flr c.val = false → Regs.wf s = true →
    Answers (.coveResetDone c) s fun t => coveSt t c.val = 1 ∧ flag t (F.CV_MGR_STATUS_CLEAN c.val) = true
      ∧ (raisable s (attnSrc c.val) = true → (srcOf t (attnSrc c.val)).pending = true)
      ∧ ctr t (lbCtr 16) = min (ctr s (lbCtr 16) + 1) maxCtr)
  ∧ (∀ (s : State) (c : CoveId), hostClosed s = false → coveExists s c.val = false →
    exec (.vfFlr c) s = .next (emit { s with sc := { s.sc with flr := tdel s.sc.flr c.val } } (.flrDone c.val)))
  ∧ (∀ (s : State) (c : CoveId), hostClosed s = false → coveExists s c.val = true → coveSt s c.val = 4 →
    exec (.vfFlr c) s = .next { s with sc := { s.sc with flr := tput s.sc.flr c.val true } })
  ∧ (∀ (s : State) (c : CoveId), hostClosed s = false → coveExists s c.val = true → exec (.vfFlr c) s = .next (actFlr s c.val))
  ∧ (∀ (s : State) (c : CoveId), running s 94 = true → thas s.sc.flr c.val = true → coveExists s c.val = true → coveSt s c.val ≠ 1 →
    exec (.flrResetStuck c) s = .next (setFlag s (F.CV_MGR_STATUS_STUCK c.val) true))
  ∧ (∀ (s : State) (c : CoveId), hostClosed s = false → coveExists s c.val = true → coveSt s c.val ≠ 4 →
    Answers (.cpHang c true) s fun t => t.lc.want = s.lc.want ++ [.cpShared c.val] ∧ OnlyChanges [.life] s t)
  ∧ (∀ (s : State) (c : CoveId), hostClosed s = false → coveExists s c.val = true → coveSt s c.val ≠ 4 →
    exec (.cpHang c false) s = .next (ownHang s c.val)
    ∧ (fld s F.CH_STATUS_STATE = 4 → Regs.wf s = true → Answers (.cpHang c false) s fun t => (fld t F.FAB_CP_STATUS_HANG).testBit c.val = true
      ∧ thas t.sc.hangs c.val = true))
  ∧ (∀ (s : State) (c : CoveId), running s 94 = true → thas s.sc.cpRst c.val = true → (coveSt s c.val ≠ 4 ∨ resetWaits s c.val = false) →
    Answers (.cpResetRelease c) s fun t => t.sc.cpRst = tdel s.sc.cpRst c.val ∧ t.out = .cpReset c.val false :: s.out
      ∧ cpIdle t c.val = true ∧ OnlyChanges [.sessions, .env] s t)

/-- The commands of sessions, of the firmware's commit and of the TRNG complete with their own effect (R313–R315, R325, R327): the responder answers
what it serves, measurements with a signature that nothing constrains; a key exchange begins a session with an ephemeral key; a good FINISH establishes it and drops that key (R326); an update replaces a key; a heartbeat is answered; an end, or a lost
heartbeat, removes the session and its keys; an SVN is fused; and the failure of a health test shows.
Where the rules leave the outcome open it is the model’s choice: log entries 2, 7, 40, 43. -/
def Obligations.SessionCommandsComplete : Prop :=
  (∀ (s : State) (c : CoveId), hostClosed s = false → spdmServes s c.val = true →
    (∀ i : Byte, Answers (.spdmGetMeasurements c i) s fun t => OnlyChanges [] s t
      ∧ ∃ x : BitVec 768, t.out = .spdm c.val (.measurements (measurement s c.val i.toNat) x) :: s.out)
    ∧ (∀ r : SpdmReq, exec (.spdmOtherRequest c r) s = .next (emit (spdmAnswer s r).2 (.spdm c.val (spdmAnswer s r).1)))
    ∧ (sessionUp s c.val = false → flag s F.FAB_SEC_STATUS_TRNG_FAIL = false →
      Answers (.spdmKeyExchange c) s fun t => (∃ e : BitVec 384, sessionOf t c.val = some ⟨false, some e, 0, 0, 0, 0⟩)
        ∧ t.out = .spdm c.val (.keyExchange 60) :: s.out)
    ∧ (∀ x : Session, sessionOf s c.val = some x → x.up = false →
      Answers (.spdmFinish c true) s fun t => sessionUp t c.val = true ∧ (∀ y : Session, sessionOf t c.val = some y → y.ecdhe = none)
        ∧ flag t (F.CV_SEC_STATUS_SESSION c.val) = true
        ∧ t.out = .spdm c.val .finish :: s.out)
    ∧ (∀ x : Session, sessionOf s c.val = some x → x.up = true →
      Answers (.spdmKeyUpdate c true false) s fun t =>
        (∃ a : BitVec 384, sessionOf t c.val = some { x with reqSecret := a, kh := bounceKey a false })
        ∧ t.out = .spdm c.val .keyUpdated :: s.out)
    ∧ (sessionUp s c.val = true → exec (.spdmHeartbeat c) s = .next (emit s (.spdm c.val .heartbeat)))
    ∧ (sessionUp s c.val = true → exec (.spdmEndSession c) s = .next (emit (endSession s c.val) (.spdm c.val .ended))))
  ∧ (∀ (s : State) (c : CoveId), running s 94 = true → sessionUp s c.val = true →
    exec (.heartbeatLoss c) s = .next (endSession s c.val))
  ∧ (∀ (s : State) (q : Requester) (v : Word), Manages s q → bits v.toNat 0 9 ≤ fld s F.FAB_SEC_STATUS_RUN_SVN → bits v.toNat 0 9 < 256 →
    isScrapped s = false → fld s F.FAB_SEC_STATUS_FUSED_SVN < bits v.toNat 0 9 →
    Answers (.fabFwCommit q v) s fun t => t.sc.commit = some (max (bits v.toNat 0 9) (s.sc.commit.getD 0))
      ∧ flag t F.FAB_SEC_STATUS_COMMIT_BUSY = true)
  ∧ (∀ (s : State) (v : Nat), s.sc.commit = some v → Regs.wf s = true →
    Answers .fwCommitDone s fun t => t.sc.commit = none ∧ fld t F.FAB_SEC_STATUS_FUSED_SVN = v % 2 ^ F.FAB_SEC_STATUS_FUSED_SVN.w
      ∧ flag t F.FAB_SEC_STATUS_COMMIT_BUSY = false)
  ∧ (∀ s : State, running s 94 = true → flag s F.FAB_SEC_STATUS_TRNG_FAIL = true → Regs.wf s = true →
    Answers (.trngHealthChange false) s fun t => flag t F.FAB_SEC_STATUS_TRNG_FAIL = false)
  ∧ (∀ s : State, running s 94 = true → flag s F.FAB_SEC_STATUS_TRNG_FAIL = false →
    Answers (.trngHealthChange true) s fun t => flag t F.FAB_SEC_STATUS_TRNG_FAIL = true)

/-- The commands of bounce copies and of migration complete with their own effect (R317, R319–R322): a well-formed copy is queued; a running one
moves its next chunk, or ends HOSTERR when the host does not answer; a migration operation is latched as its number; and one that finishes reports
its outcome.
Where the rules leave the outcome open it is the model’s choice: log entries 7, 41, 42. -/
def Obligations.CopyCommandsComplete : Prop :=
  (∀ (s : State) (q : Requester) (c : CoveId) (x : BxCopy), Reaches s q c.val → sessionUp s c.val = true → (copiesOf s c.val).length < 16 →
    stagedCopy s c.val = some x →
    exec (.cvBxGo q c) s = .next (assignCopies (showCopies (setCopies (unclean s c.val) (s.sc.copies ++ [x])) c.val)))
  ∧ (∀ (s : State) (b : Fin 4) (x : BxCopy) (k : Session) (data : List Byte) (e : BitVec 256), running s (88 + b.val) = true →
    copyOn s b.val = some x → x.orphan = false → (x.toHost = true ∨ data.length = x.chunk) → bxKilled s b.val = false → coveActive s x.cove = true →
    sessionOf s x.cove = some k → k.up = true → lastCounter s x.cove x.toHost < counterStop →
    exec (.bounceChunk b data e false) s = .next (runWork s (moveChunk b.val x k data e)))
  ∧ (∀ (s : State) (b : Fin 4) (x : BxCopy), running s (88 + b.val) = true → copyOn s b.val = some x →
    exec (.bounceHostTimeout b) s = .next (endCopy s b.val x 5))
  ∧ (∀ (s : State) (q : Requester) (c : CoveId), Manages s q → flag s (F.CV_MIG_STATUS_BUSY c.val) = false →
    Answers (.migCopyOut q c) s (fun t => (∃ o : MigOp, tfind t.sc.mig c.val = some o ∧ o.op = 1) ∧ flag t (F.CV_MIG_STATUS_BUSY c.val) = true)
    ∧ Answers (.migCopyIn q c) s (fun t => (∃ o : MigOp, tfind t.sc.mig c.val = some o ∧ o.op = 2) ∧ flag t (F.CV_MIG_STATUS_BUSY c.val) = true)
    ∧ Answers (.migExport q c) s (fun t => (∃ o : MigOp, tfind t.sc.mig c.val = some o ∧ o.op = 3) ∧ flag t (F.CV_MIG_STATUS_BUSY c.val) = true)
    ∧ Answers (.migImport q c) s (fun t => (∃ o : MigOp, tfind t.sc.mig c.val = some o ∧ o.op = 4) ∧ flag t (F.CV_MIG_STATUS_BUSY c.val) = true))
  ∧ (∀ (s : State) (c : CoveId) (o : MigOp) (chunks : List (List Byte × BitVec 256)) (fail : Option Nat), running s 94 = true →
    tfind s.sc.mig c.val = some o →
    exec (.migOperationDone c chunks fail) s =
      .next (endMig (migWork s c.val o chunks fail).2 c.val (migWork s c.val o chunks fail).1))

/-- The commands of the staging buffer, of sounding and of the apply complete with their own effect (R50–R61, R68, R335): a claim takes the buffer
empty; a release returns it; EN sounds a written image; a write stores four bytes; a fetched image sounds and a failed fetch refuses; an image
held begins; sounding accepts, or refuses with the first failing rule; and each part of the apply runs when its turn has come.
Where the rules leave the outcome open it is the model’s choice: log entries 7, 21, 23. -/
def Obligations.ChartCommandsComplete : Prop :=
  (∀ (s : State) (q : Requester) (v : Word), Manages s q → Regs.wf s = true → bit v.toNat 0 = true → fld s F.CH_STATUS_STATE = 0 →
    fld s F.CH_STATUS_HOLDER = 0 →
    Answers (.chClaim q v) s fun t => fld t F.CH_STATUS_STATE = 1 ∧ fld t F.CH_STATUS_HOLDER = holderNo q ∧ fld t F.CH_WPTR_PTR = 0
      ∧ t.plan.staging = [] ∧ OnlyChanges [.regs, .plan] s t)
  ∧ (∀ (s : State) (q : Requester) (v : Word), Manages s q → Regs.wf s = true → bit v.toNat 1 = true → bit v.toNat 2 = false →
    fld s F.CH_STATUS_STATE = 1 → fld s F.CH_STATUS_HOLDER = holderNo q →
    Answers (.chRelease q v) s fun t => fld t F.CH_STATUS_STATE = 0 ∧ fld t F.CH_STATUS_HOLDER = 0 ∧ OnlyChanges [.regs] s t)
  ∧ (∀ (s : State) (q : Requester) (v : Word), Manages s q → Regs.wf s = true → bit v.toNat 2 = true → bit v.toNat 4 = false →
    fld s F.CH_STATUS_STATE = 1 → fld s F.CH_STATUS_HOLDER = holderNo q → isScrapped s = false → flag s F.FAB_SEC_STATUS_FW_FAIL = false →
    fld s F.CH_LEN_LEN ≤ 1048576 → fld s F.CH_LEN_LEN % 8 = 0 → fld s F.CH_WPTR_PTR = fld s F.CH_LEN_LEN →
    Answers (.chEn q v) s fun t => fld t F.CH_STATUS_STATE = 3 ∧ t.plan.soundHeld = !flag s F.CK_STATUS_UP ∧ OnlyChanges [.regs, .plan] s t)
  ∧ (∀ (s : State) (q : Requester) (v : Word), Manages s q → fld s F.CH_STATUS_STATE = 1 → fld s F.CH_STATUS_HOLDER = holderNo q →
    fld s F.CH_WPTR_PTR + 4 ≤ 1048576 →
    Answers (.chWdata q v) s fun t => t.plan.staging = s.plan.staging ++ toBytes 4 v.toNat
      ∧ fld t F.CH_WPTR_PTR = fld s F.CH_WPTR_PTR + 4 ∧ OnlyChanges [.regs, .plan] s t)
  ∧ (∀ (s : State) (img : List Byte), running s 94 = true → fld s F.CH_STATUS_STATE = 2 → img.length = fld s F.CH_LEN_LEN →
    exec (.chartFetchDone img) s = .next (beginSounding { s with plan := { s.plan with staging := img } }))
  ∧ (∀ s : State, running s 94 = true → fld s F.CH_STATUS_STATE = 2 → exec .chartFetchFail s = .next (refuseImage s ⟨0x7F, 0, 1, false⟩))
  ∧ (∀ s : State, running s 94 = true → s.plan.soundHeld = true → flag s F.CK_STATUS_UP = true →
    exec .soundingStart s = .next { s with plan := { s.plan with soundHeld := false } })
  ∧ (∀ (s : State) (m : Image), running s 94 = true → fld s F.CH_STATUS_STATE = 3 → s.plan.soundHeld = false →
    decodeImage s (imageBytes s) = .ok m → judgeImage s m = none → exec (.soundingDone false) s = .next (acceptImage s m))
  ∧ (∀ (s : State) (m : Image) (f : Fail) (bad : Bool), running s 94 = true → fld s F.CH_STATUS_STATE = 3 → s.plan.soundHeld = false →
    decodeImage s (imageBytes s) = .ok m → judgeImage s m = some f → exec (.soundingDone bad) s = .next (refuseImage s f))
  ∧ (∀ s : State, running s 94 = true → fld s F.CH_STATUS_STATE = 3 → s.plan.soundHeld = false →
    exec .soundingTimeout s = .next (refuseImage s ⟨0x7F, 0, 3, false⟩))
  ∧ (∀ (s : State) (a : Apply) (m : Image), running s 94 = true → s.plan.apply = some a → decodeImage s (imageBytes s) = .ok m →
    a.step = .accepted → flag s F.FAB_SEC_STATUS_TRNG_FAIL = false → exec .applyStart s = .next (beginApply s a m))
  ∧ (∀ (s : State) (a : Apply) (m : Image), running s 94 = true → s.plan.apply = some a → decodeImage s (imageBytes s) = .ok m →
    a.step = .loops → loopsRun s = true →
    Answers .applyContinue s fun t => t.plan.apply = some { a with step := .filling })
  ∧ (∀ (s : State) (a : Apply) (m : Image), running s 94 = true → s.plan.apply = some a → decodeImage s (imageBytes s) = .ok m →
    a.step = .filling → s.plan.fills.any (fun f => f.2 == .apply) = false → exec .applyFinish s = .next (finishApply s a m))

/-- The fence commands complete with their own effect (R55, R58): every owned resource named starts its fence, or has it lifted when no image is sounded or
applied; and a fence with no traffic in flight is complete.
Where the rules leave the outcome open it is the model’s choice: log entries 7, 25. -/
def Obligations.FenceCommandsComplete : Prop :=
  (∀ (s : State) (q : Requester) (v : Word) (ks : List Nat), Manages s q → fenceKeys v.toNat = some ks → bit v.toNat 31 = false →
    exec (.chFence q v) s = .next (showPending s ((ownedKeys s ks).1.foldl startFence (ownedKeys s ks).2)))
  ∧ (∀ (s : State) (q : Requester) (v : Word) (ks : List Nat), Manages s q → fenceKeys v.toNat = some ks → bit v.toNat 31 = true →
    chartBusy s = false →
    exec (.chUnfence q v) s = .next (showPending s ((ownedKeys s ks).1.foldl liftFence (ownedKeys s ks).2)))
  ∧ (∀ (s : State) (sp : Fin 3) (id : BitVec 16), running s 94 = true → tfind s.plan.fence (doneKey sp.val id.toNat) = some .fencing →
    fenceStill s (doneKey sp.val id.toNat) = true → doneKey sp.val id.toNat / 4096 ≠ kEP →
    Answers (.fenceDone sp id) s fun t => tfind t.plan.fence (doneKey sp.val id.toNat) = some .fenced)

/-- The commands of the tides complete with their own effect (R70, R73, R76, R78, R79, R83, R84, R89): an edge increments the count and sends its message to
every tap that listens; a tap takes the message and launches; its acknowledgement reaches the master; a refused arming finds a free entry; a tap
stores an action; it resynchronises; the masters resume; and a calibration runs and completes.
Where the rules leave the outcome open it is the model’s choice: log entries 7, 8, 26. -/
def Obligations.TideCommandsComplete : Prop :=
  (∀ (s : State) (m : TideId) (now : Nat), running s 96 = true → (masterOf s m.val).running = true → (masterOf s m.val).held = false →
    (masterOf s m.val).slate = [] → (masterOf s m.val).await = [] →
    Answers (.tideEdge m now) s fun t => (masterOf t m.val).count = ((masterOf s m.val).count + 1) % 2 ^ 64
      ∧ ∀ x ∈ tapsOf s m.val, (tapOf t x).net = some (edgeMsg (((masterOf s m.val).count + 1) % 2 ^ 64) 0))
  ∧ (∀ (s : State) (t : TapId) (msg : BitVec 84), running s (tapDomain t.val) = true → (tapOf s t.val).net = some msg → parityOk msg = true →
    msg.toNat % 4 = 0 → (tapOf s t.val).resync = false → bits msg.toNat 2 16 = ((tapOf s t.val).count + 1) % 2 ^ 16 →
    Answers (.tapEdgeReceive t 0) s fun u => (tapOf u t.val).count = ((tapOf s t.val).count + 1) % 2 ^ 64
      ∧ (tapOf u t.val).recv = some ⟨((tapOf s t.val).count + 1) % 2 ^ 64, bits msg.toNat 18 64⟩ ∧ (tapOf u t.val).net = none
      ∧ OnlyChanges [.tide] s u)
  ∧ (∀ (s : State) (t : TapId) (now : Nat) (e : RecvEdge), running s (tapDomain t.val) = true → (tapOf s t.val).recv = some e →
    (tapOf s t.val).resync = false → exec (.tapLaunch t now) s = .next (launchTap s t.val now e))
  ∧ (∀ (s : State) (t : TapId) (ns : Nat) (e : RecvEdge), running s 96 = true → (tapOf s t.val).acking = some e → (tapOf s t.val).src ≤ 16 →
    slewWaits s t.val e = false → Answers (.tapAck t ns) s fun u => (tapOf u t.val).acking = none)
  ∧ (∀ (s : State) (m : TideId) (r : ArmReq) (rest : List ArmReq), running s 96 = true → s.tide.armReqs = r :: rest → r.tide = m.val →
    exec (.slateArm m) s = .next (armEntry { s with tide := { s.tide with armReqs := rest } } r))
  ∧ (∀ (s : State) (t : TapId) (e : Idx64) (a : Slate), running s (tapDomain t.val) = true → (tapOf s t.val).src ≤ 16 →
    tfind (masterOf s (tapOf s t.val).src).slate e.val = some a → a.taps.contains t.val = true → a.stored.contains t.val = false → a.due = none →
    Answers (.tapArmAction t e) s fun u => tfind (tapOf u t.val).acts e.val = some a.act ∧ OnlyChanges [.tide] s u)
  ∧ (∀ (s : State) (t : TapId), running s (tapDomain t.val) = true → (tapOf s t.val).resync = true → (tapOf s t.val).asked = false →
    Answers (.tapResyncRequest t) s fun u => (tapOf u t.val).asked = true ∧ (tapOf u t.val).acts = [] ∧ OnlyChanges [.tide] s u)
  ∧ (∀ (s : State) (t : TapId), running s (tapDomain t.val) = true → running s 96 = true → (tapOf s t.val).src ≤ 16 →
    (tapOf s t.val).resync = true → (tapOf s t.val).asked = true → (masterOf s (tapOf s t.val).src).running = true →
    Answers (.tapResyncLoad t) s fun u => (tapOf u t.val).count = (masterOf s (tapOf s t.val).src).count ∧ (tapOf u t.val).resync = false
      ∧ (tapOf u t.val).asked = false)
  ∧ (∀ (s : State) (q : Requester), Manages s q → Regs.wf s = true → flag s F.TD_STATUS_XA_LOST = true →
    Answers (.tdResume q) s fun t => flag t F.TD_STATUS_XA_LOST = false ∧ flag t F.TD_STATUS_ON_FIO = true
      ∧ (∀ e ∈ t.tide.masters, e.2.held = false) ∧ OnlyChanges [.regs, .tide] s t)
  ∧ (∀ (s : State) (q : Requester), Manages s q →
    Answers (.tdCal q) s fun t => flag t F.TD_STATUS_CAL_BUSY = true ∧ OnlyChanges [.regs] s t)
  ∧ (∀ (s : State) (ms : List CalMeas), running s 94 = true → flag s F.TD_STATUS_CAL_BUSY = true → s.lc.boot ≠ 8 →
    exec (.calibrationDone ms) s = .next (endCal s ms))
  ∧ (∀ (s : State) (ms : List CalMeas), running s 94 = true → flag s F.TD_STATUS_CAL_BUSY = true → s.lc.boot = 8 →
    Answers (.calibrationDone ms) s fun t => t.lc.boot = 9)

/-- The commands of translation complete with their own effect (R136, R138–R144, R147, R149, R152, R157–R160): a lookup adds its transfer, and a read of several lines is looked up line by line (R275); the
walker takes a miss and reads; a read's entry is taken or its failure ends the walk; a completed transfer returns; an invalidation drops what it matches and is acknowledged; the wrack queue's
index is taken; held transfers are replayed or killed; and the dirty log moves to the next bitmap and stops; a line of it that is filled takes the data read, beside the
marks that waited for it; a swap done has written every line of the old bitmap back with its marks, sets DONE and raises its source; and a host error gives the log up.
Where the rules leave the outcome open it is the model’s choice: log entries 7, 9, 17, 18. -/
def Obligations.TranslationCommandsComplete : Prop :=
  (∀ (s : State) (src : BitVec 16) (c : CoveId) (ctx : BitVec 12) (dva : BitVec 64) (len : Nat) (acc : Access) (k cl fpa : Nat) (dl : Bool) (s1 : State),
    running s (unitDomain src.toNat) = true → (src.toNat / 4096 = 6 ∨ src.toNat / 4096 = 7 → k = c.val) →
    (src.toNat / 4096 ≠ 6 → src.toNat / 4096 ≠ 7 → unitOwner s src.toNat = some k) →
    unitClient src.toNat = some cl → coveExists s k = true → (acc ≠ .read ∨ dva.toNat % 64 + len ≤ 64) → lookup s cl k ctx.toNat dva.toNat len acc = (.hit fpa dl, s1) →
    exec (.translateRequest src c ctx dva len acc) s = .next (addXfer s1
      ⟨k, src.toNat, some cl, ctx.toNat, dva.toNat, len, acc, fpa, dl, 1, 0, false, false, none, false, 0, .ready⟩))
  ∧ (∀ (s : State) (src : BitVec 16) (c : CoveId) (ctx : BitVec 12) (dva : BitVec 64) (len k cl : Nat),
    running s (unitDomain src.toNat) = true → (src.toNat / 4096 = 6 ∨ src.toNat / 4096 = 7 → k = c.val) →
    (src.toNat / 4096 ≠ 6 → src.toNat / 4096 ≠ 7 → unitOwner s src.toNat = some k) →
    unitClient src.toNat = some cl → coveExists s k = true → 64 < dva.toNat % 64 + len →
    exec (.translateRequest src c ctx dva len .read) s =
      .next ((splitLines dva.toNat len .read).foldl (requestLine src.toNat k cl ctx.toNat .read) s)
    ∧ ((splitLines dva.toNat len .read).map (·.2)).sum = len
    ∧ ∀ x ∈ splitLines dva.toNat len .read, 0 < x.2 ∧ x.1 % 64 + x.2 ≤ 64 ∧ dva.toNat ≤ x.1 ∧ x.1 + x.2 ≤ dva.toNat + len)
  ∧ (∀ (s : State) (m : Miss) (rest : List Miss), running s 92 = true → s.xl.missq = m :: rest → s.xl.walks = [] → missWaits s m = true →
    (∀ e ∈ s.xl.xfers, e.2.stage ≠ .queueing) →
    Answers .walkStart s fun t => t.xl.missq = rest
      ∧ tfind t.xl.walks s.xl.nextWalk = some ⟨m.cove, m.ctx, m.dva, (walkStartAt s m.cove m.ctx m.dva).1, (walkStartAt s m.cove m.ctx m.dva).2, false⟩
      ∧ t.out = .hostRead 0 ((walkStartAt s m.cove m.ctx m.dva).2 % 2 ^ 64) 8 :: s.out)
  ∧ (∀ (s : State) (w : Nat) (k : Walk) (e : Dword), running s 92 = true → tfind s.xl.walks w = some k →
    exec (.walkReadDone w (some e)) s = .next (stepWalk s w k e.toNat))
  ∧ (∀ (s : State) (w : Nat) (k : Walk), running s 92 = true → tfind s.xl.walks w = some k →
    exec (.walkReadDone w none) s = .next (endWalk (incCtr s C.XL_WALK_ERR) w 6))
  ∧ (∀ (s : State) (w : Nat), running s 92 = true → thas s.xl.walks w = true →
    exec (.walkTimeout w) s = .next (endWalk (incCtr s C.XL_WALK_ERR) w 6))
  ∧ (∀ (s : State) (id : Nat) (x : Xfer) (r : Resp), tfind s.xl.xfers id = some x → x.stage = .done r →
    running s (unitDomain x.src) = true → exec (.transferComplete id) s = .next (emit (delXfer (markXfer s x r) id) (.xferDone id r)))
  ∧ (∀ (s : State) (q : Requester) (c : CoveId), Manages s q → coveExists s c.val = true → (invsOf s c.val).length < 16 →
    Answers (.xlInvGo q c) s fun t => ∃ i : Inv, invsOf t c.val = invsOf s c.val ++ [i] ∧ i.await = participants s c.val ∧ OnlyChanges [.xl] s t)
  ∧ (∀ (s : State) (c : CoveId) (cl : Fin 228) (i : Inv), running s 92 = true → running s (clientDomain cl.val) = true →
    invsOf s c.val = [i] → i.await = [cl.val] → invBusy s c.val cl.val i = false → s.xl.invs.sorted = true →
    exec (.invAck c cl) s = .next (signalEvent (setInvs (setInvs s c.val [{ i with await := [] }]) c.val []) c.val i.event i.value 3))
  ∧ (∀ (s : State) (c : CoveId), running s 92 = true → (invsOf s c.val).any (fun i => !i.slow) = true →
    Answers (.invSlow c) s fun t => invsOf t c.val = firstSlow (invsOf s c.val) ∧ (srcOf t 515).pending = true)
  ∧ (∀ (s : State) (q : Requester) (c : CoveId) (v : Word), Manages s q → coveExists s c.val = true →
    (fld s (F.XL_WQ_PROD_PROD c.val) + 65536 - v.toNat % 65536) % 65536 ≤ 256 →
    exec (.xlWqCons q c v) s = .next (setFld s (F.XL_WQ_CONS_CONS c.val) (v.toNat % 65536)))
  ∧ (∀ (s : State) (q : Requester) (c : CoveId) (ctx : BitVec 12), Manages s q → coveExists s c.val = true →
    exec (.xlWqReplay q c ctx) s = .next ((heldOf s c.val ctx.toNat).foldl replayXfer s)
    ∧ exec (.xlWqKill q c ctx) s = .next (killCtx s c.val ctx.toNat))
  ∧ (∀ (s : State) (q : Requester) (c : CoveId), Manages s q → Regs.wf s = true → coveExists s c.val = true → flag s (F.XL_DL_STATUS_BUSY c.val) = false →
    Answers (.xlDlSwap q c) s (fun t => dlEpoch t c.val = dlEpoch s c.val + 1 ∧ dlOn t c.val = true ∧ flag t (F.XL_DL_STATUS_BUSY c.val) = true)
    ∧ Answers (.xlDlStop q c) s (fun t => dlEpoch t c.val = dlEpoch s c.val + 1 ∧ dlOn t c.val = false ∧ flag t (F.XL_DL_STATUS_BUSY c.val) = true))
  ∧ (∀ (s : State) (c : CoveId) (a : BitVec 64) (d : Line), running s 92 = true →
    Answers (.dirtyLogLineFill c a d) s fun t => ∃ u : State, t = dlAdmit u ∧ (s.xl.dlWait = [] → t = u) ∧ u.xl.dlWait = s.xl.dlWait
      ∧ u.xl.dlc.length = s.xl.dlc.length ∧ (∀ (j : Nat) (x : DirtyLine), s.xl.dlc[j]? = some x →
        u.xl.dlc[j]? = some (if x.cove = c.val ∧ x.addr = a.toNat ∧ x.filled = false then { x with filled := true, data := d } else x))
      ∧ OnlyChanges [.xl] s u)
  ∧ (∀ (s : State) (c : CoveId), running s 92 = true → flag s (F.XL_DL_STATUS_BUSY c.val) = true →
    (∀ d ∈ s.xl.dlc, d.cove = c.val → d.old = true → d.filled = true) → (∀ d ∈ s.xl.dlWait, d.cove = c.val → d.old = false) →
    s.env.hostWriteFails = false →
    Answers (.dirtyLogSwapDone c) s fun t => (srcOf t 515).pending = true ∧ flag t (F.XL_DL_STATUS_DONE c.val) = true
      ∧ (Regs.wf s = true → flag t (F.XL_DL_STATUS_BUSY c.val) = false)
      ∧ (∀ d ∈ s.xl.dlc, d.cove = c.val → d.old = true → .hostWrite 0 (d.addr % 2 ^ 64) (lineBytes (d.data ||| d.marks)) ∈ t.out)
      ∧ ∀ d ∈ t.xl.dlc, d.cove = c.val → d.old = false)
  ∧ (∀ (s : State) (c : CoveId), running s 92 = true → dlOn s c.val = true →
    Answers (.dirtyLogHostError c) s fun t => (srcOf t 515).pending = true)

/-- The commands of events and rings complete with their own effect (R236–R239, R392): a signal reaches its event; the operations of a requester
signal, wait, reset and read; the ring's index and base are taken and waiting records written; and the command processor's signals and waits are
answered, but not accepted while its CP_RST_N is low (R395).
Where the rules leave the outcome open it is the model’s choice: log entries 7, 30. -/
def Obligations.EventCommandsComplete : Prop :=
  (∀ (s : State) (c : CoveId) (e : BitVec 16) (v : Dword), running s 94 = true → coveExists s c.val = true → areaReady s c.val = true →
    exec (.eventSignal c e v) s = .next (applySignal s c.val e.toNat v.toNat 3))
  ∧ (∀ (s : State) (q : Requester) (c : CoveId), Reaches s q c.val → areaReady s c.val = true →
    exec (.evOpSignal q c) s = .next (applySignal s c.val (evNum s q c.val) (evVal s q c.val) 1)
    ∧ (slotsInUse s c.val < 256 →
      exec (.evOpWait q c) s = .next (installWait s c.val ⟨evNum s q c.val, evVal s q c.val, evTag s q c.val, false⟩))
    ∧ exec (.evOpReset q c) s = .next (resetEvent s c.val (evNum s q c.val))
    ∧ (∀ (v : Nat) (s1 : State), evValue s c.val (evNum s q c.val) = (some v, s1) →
      exec (.evOpRead q c) s = .next (setFld64 s1 ((F.EV_RES_LO_VALUE c.val).own q) ((F.EV_RES_HI_VALUE c.val).own q) v)))
  ∧ (∀ (s : State) (q : Requester) (c : CoveId) (v : Word), Reaches s q c.val → ringWait s c.val = [] → bits v.toNat 16 3 = 0 →
    (fld s (F.EV_CV_CRING_PROD c.val) + 65536 - v.toNat % 65536) % 65536 ≤ 1024 →
    exec (.evCringCons q c v) s = .next (setFld s (F.EV_CV_CRING_CONS c.val) v.toNat))
  ∧ (∀ (s : State) (q : Requester) (c : CoveId) (v : Word), Manages s q → ringWait s c.val = [] →
    exec (.evCringBase q c v) s = .next (setFld (setFlag s (F.EV_CRING_LO_EN c.val) (v.toNat.testBit 0)) (F.EV_CRING_LO_ADDR_LO c.val) (v.toNat / 2 ^ 14)))
  ∧ (∀ (s : State) (c : CoveId) (e : BitVec 16) (v : Dword) (tag : BitVec 22), running s 94 = true → coveExists s c.val = true → coveSt s c.val ≠ 4 →
    cpInReset s c.val = false → areaReady s c.val = true →
    exec (.cpEventSignal c e v tag) s = .next (emit (applySignal s c.val e.toNat v.toNat 2) (.cpEvent c.val 0 tag.toNat 0))
    ∧ (slotsInUse s c.val < 256 →
      exec (.cpEventWait c e v tag) s =
        .next (installWait (emit s (.cpEvent c.val 0 tag.toNat 0)) c.val ⟨e.toNat, v.toNat, tag.toNat, true⟩)))
  ∧ (∀ (s : State) (c : CoveId) (e : BitVec 16) (v : Dword) (tag : BitVec 22), cpInReset s c.val = true →
    exec (.cpEventSignal c e v tag) s = .next s ∧ exec (.cpEventWait c e v tag) s = .next s)

/-- A signal is a UMAX on its event, and acts on the old value that it returns: below v, the waits that v reaches complete, all of them when v is the largest value, which exhausts
the event; at v or above, the signal is a counted regression; and a UMAX that completes with error status is counted as lost (R236).
Where the rules leave the outcome open it is the model’s choice: log entry 30. -/
def Obligations.SignalMeaning : Prop :=
  ∀ (s s1 : State) (c e v src : Nat),
    (∀ old : Dword, evAccess s c e (evUmax e v) = (some (.old old), s1) →
      (old.toNat < v → v < evMax → applySignal s c e v src = finishWaits s1 c e 0 v (fun w => decide (w.target ≤ v)))
      ∧ (old.toNat < v → v = evMax → applySignal s c e v src =
        finishWaits (setFld (setFlag s1 (F.EV_CV_STATUS_EXHAUST c) true) (F.EV_CV_EXH_LAST_EVENT c) e) c e 0 evMax (fun _ => true))
      ∧ (v ≤ old.toNat → applySignal s c e v src =
        setFld (setFld (incCtr (setFlag s1 (F.EV_CV_STATUS_REGRESS c) true) (C.EV_CV_REGRESS c)) (F.EV_CV_REG_LAST_EVENT c) e) (F.EV_CV_REG_LAST_SRC c) src))
    ∧ (∀ x : ErrKind, evAccess s c e (evUmax e v) = (some (.error x), s1) →
      applySignal s c e v src = setFlag (incCtr s1 (C.EV_CV_LOST c)) (F.EV_CV_STATUS_SIGERR c) true)

/-- The commands of the object area, of objects, graphs and queues complete with their own effect (R218, R224, R226–R228, R231, R233, R235, R242, R244): an
area that the cove owns starts its initialisation, and ends it READY; the operations of OB_CMD change the entry they name and store their status and results; a
context is killed or revived; a Free queue becomes Active; and an entry or a lookup of the command processor is answered, but not accepted while its CP_RST_N is
low (R395).
Where the rules leave the outcome open it is the model’s choice: log entries 7, 28, 29. -/
def Obligations.ObjectCommandsComplete : Prop :=
  (∀ (s : State) (q : Requester) (c : CoveId) (v : Word), Manages s q → flag s (F.OB_AREA_EN c.val) = false → coveExists s c.val = true →
    10 ≤ bits v.toNat 16 5 → bits v.toNat 16 5 ≤ 24 → ownsGranules s c.val (bits v.toNat 0 13) (areaSpan (bits v.toNat 16 5)) = true →
    Answers (.obAreaEnable q c v) s fun t => flag t (F.OB_AREA_EN c.val) = true ∧ flag t (F.OB_AREA_STATUS_INIT c.val) = true ∧ OnlyChanges [.regs] s t)
  ∧ (∀ (s : State) (c : CoveId), running s 94 = true → flag s (F.OB_AREA_STATUS_INIT c.val) = true → flag s (F.OB_AREA_EN c.val) = true →
    Answers (.obAreaInitDone c) s fun t => areaReady t c.val = true ∧ headsOf t c.val = ⟨tableSize s c.val, 0, tableSize s c.val - 1⟩)
  ∧ (∀ (s s1 : State) (q : Requester) (c : CoveId) (a : ObAns), Reaches s q c.val → areaReady s c.val = true →
    create s c.val (obArg s q c.val 0 + 2 ^ 32 * bits (obArg s q c.val 1) 0 16) (bits (obArg s q c.val 1) 16 12) (bit (obArg s q c.val 1) 28)
      (obArg s q c.val 2 + 2 ^ 32 * bits (obArg s q c.val 3) 0 12) = (a, s1) →
    exec (.obCreate q c) s = .next (obAnswer s1 q c.val a))
  ∧ (∀ (s s1 : State) (q : Requester) (c : CoveId) (e : ObjEnt), Reaches s q c.val → areaReady s c.val = true → e.state = 1 →
    modRef s c.val (obArg s q c.val 0) (fun e => if e.state = 1 then e.incHost else none) = (some e, s1) →
    exec (.obHold q c) s = .next (obAnswer (if e.hsat = false ∧ e.host = 65535 then incCtr s1 (C.OB_CV_SAT c.val) else s1) q c.val (.plain .ok)))
  ∧ (∀ (s s1 : State) (q : Requester) (c : CoveId) (e : ObjEnt), Reaches s q c.val → areaReady s c.val = true →
    modRef s c.val (obArg s q c.val 0) (fun e => if e.droppable then some e.decHost.settled else none) = (some e, s1) →
    (e.droppable = true → exec (.obDrop q c) s =
      .next (obAnswer (reclaimed s1 c.val (obArg s q c.val 0 % 2 ^ 24) e.decHost) q c.val (.plain .ok)))
    ∧ (e.state = 1 → e.hsat = true → exec (.obDrop q c) s = .next (obAnswer s1 q c.val (.plain .ok))))
  ∧ (∀ (s s1 : State) (q : Requester) (c : CoveId) (e : ObjEnt), Reaches s q c.val → areaReady s c.val = true →
    modRef s c.val (obArg s q c.val 0) (fun e => if e.state = 1 && (e.hsat || e.host != 0)
      then some (toZombie e (bits (obArg s q c.val 1) 0 16) (bit (obArg s q c.val 1) 16) (obVal s q c.val)).settled else none) = (some e, s1) →
    e.state = 1 → (e.hsat = true ∨ e.host ≠ 0) → exec (.obFree q c) s =
      .next (obAnswer (reclaimed (countLive (dropLookup s1 c.val (obArg s q c.val 0 % 2 ^ 24)) c.val (-1) 1) c.val (obArg s q c.val 0 % 2 ^ 24)
        (toZombie e (bits (obArg s q c.val 1) 0 16) (bit (obArg s q c.val 1) 16) (obVal s q c.val))) q c.val (.plain .ok)))
  ∧ (∀ (s s1 : State) (q : Requester) (c : CoveId) (e : ObjEnt), Reaches s q c.val → areaReady s c.val = true →
    refEnt s c.val (obArg s q c.val 0) = (some e, s1) →
    exec (.obQuery q c) s = .next (obAnswer s1 q c.val ⟨.ok, leAt e.bytes 8 4, leAt e.bytes 16 4⟩))
  ∧ (∀ (s s1 s2 : State) (q : Requester) (c : CoveId) (e : ObjEnt) (o : Option Nat) (g : Nat), Reaches s q c.val → areaReady s c.val = true →
    refEnt s c.val (obArg s q c.val 1) = (some e, s1) → e.state = 1 → graphOf s c.val (bits (obArg s q c.val 0) 0 8) = ⟨o, g⟩ → g ≠ 2 ^ 32 - 1 →
    incDev s1 c.val (obArg s q c.val 1 % 2 ^ 24) = (true, s2) →
    exec (.gSet q c) s = .next (obAnswer (setGraph (match o with | some old => decDev s2 c.val (old % 2 ^ 24) | none => s2) c.val
      (bits (obArg s q c.val 0) 0 8) ⟨some (obArg s q c.val 1), g + 1⟩) q c.val ⟨.ok, g + 1, 0⟩))
  ∧ (∀ (s : State) (q : Requester) (c : CoveId) (o : Option Nat) (g : Nat), Reaches s q c.val → areaReady s c.val = true →
    graphOf s c.val (bits (obArg s q c.val 0) 0 8) = ⟨o, g⟩ →
    exec (.gClear q c) s = .next (obAnswer (setGraph (match o with | some old => decDev s c.val (old % 2 ^ 24) | none => s) c.val
      (bits (obArg s q c.val 0) 0 8) ⟨none, 0⟩) q c.val (.plain .ok)))
  ∧ (∀ (s : State) (q : Requester) (c : CoveId), Reaches s q c.val → areaReady s c.val = true →
    (queueOf s c.val (bits (obArg s q c.val 0) 0 6)).ph = .free → bit (obArg s q c.val 0) 8 = false → bits (obArg s q c.val 1) 0 10 ≠ 0 →
    reserveSum s c.val ≤ 48 →
    Answers (.qCreate q c) s fun t => (queueOf t c.val (bits (obArg s q c.val 0) 0 6)).ph = .active
      ∧ (queueOf t c.val (bits (obArg s q c.val 0) 0 6)).share = bits (obArg s q c.val 1) 0 10
      ∧ flag t ((F.OB_RESULT_DONE c.val).own q) = true)
  ∧ (∀ (s : State) (q : Requester) (c : CoveId) (ctx : BitVec 12), Manages s q → areaReady s c.val = true →
    exec (.obCtxKill q c ctx) s = .next (killCtx s c.val ctx.toNat))
  ∧ (∀ (s : State) (q : Requester) (c : CoveId) (ctx : BitVec 12), Manages s q → areaReady s c.val = true → isKilled s c.val ctx.toNat = true →
    isRunning s c.val ctx.toNat = false →
    Answers (.obCtxRevive q c ctx) s fun t => t.ob.killed = tsetD s.ob.killed (c.val * 4096 + ctx.toNat) false false ∧ OnlyChanges [.objects, .counters] s t)
  ∧ (∀ (s s1 : State) (c : CoveId) (entry : Line) (now : Nat), running s 94 = true → coveExists s c.val = true → coveSt s c.val ≠ 4 →
    cpInReset s c.val = false → subStatus s c.val (readSub entry) = (0, s1) →
    exec (.cpSubmit c entry now) s =
      .next (emit (acceptSub s1 c.val (readSub entry) entry now).2 (.cpStatus c.val (acceptSub s1 c.val (readSub entry) entry now).1)))
  ∧ (∀ (s : State) (c : CoveId) (ctx : BitVec 12) (h : Word) (ofs : BitVec 48), running s 94 = true → coveExists s c.val = true → coveSt s c.val ≠ 4 →
    cpInReset s c.val = false → areaReady s c.val = true → exec (.cpLookup c ctx h ofs) s = .next (lookupPort s c.val ctx.toNat h.toNat ofs.toNat))
  ∧ (∀ (s : State) (c : CoveId), cpInReset s c.val = true → (∀ (entry : Line) (now : Nat), exec (.cpSubmit c entry now) s = .next s)
    ∧ ∀ (ctx : BitVec 12) (h : Word) (ofs : BitVec 48), exec (.cpLookup c ctx h ofs) s = .next s)
  ∧ (∀ (s : State) (q : Requester) (c : CoveId) (k : Idx64) (v : Word), Reaches s q c.val → (queueOf s c.val k.val).ph ≠ .free →
    exec (.doorbellWrite q c k v) s = .next (emit s (.doorbell c.val k.val v)))

/-- The commands of context slots complete with their own effect (R222, R223): a context takes a free slot, or begins the eviction of a victim, or waits
when there is none; the slot of a victim passes to the context it was evicted for, or is free; and a loaded context is RESIDENT.
Where the rules leave the outcome open it is the model’s choice: log entries 7, 29, 32. -/
def Obligations.SlotCommandsComplete : Prop :=
  (∀ (s : State) (c : CoveId) (ctx : BitVec 12), running s 94 = true → coveExists s c.val = true → isKilled s c.val ctx.toNat = false →
    slotOf s c.val ctx.toNat = none → slotComing s c.val ctx.toNat = false → s.ob.waiters = [] →
    (s.ob.slots.length < 48 →
      Answers (.slotRequest c ctx) s fun t => t.ob.slots = s.ob.slots ++ [⟨c.val, ctx.toNat, .loading⟩] ∧ t.ob.waiters = [] ∧ OnlyChanges [.objects] s t)
    ∧ (∀ v : CtxSlot, 48 ≤ s.ob.slots.length → victimSlot s c.val = some v →
      Answers (.slotRequest c ctx) s fun t => t.ob.slots = s.ob.slots.map (fun x => if x = v then { x with ph := .evicting (some (c.val, ctx.toNat)) } else x)
        ∧ t.ob.waiters = [] ∧ OnlyChanges [.objects] s t)
    ∧ (48 ≤ s.ob.slots.length → victimSlot s c.val = none →
      Answers (.slotRequest c ctx) s fun t => t.ob.slots = s.ob.slots ∧ t.ob.waiters = [(c.val, ctx.toNat)] ∧ OnlyChanges [.objects] s t))
  ∧ (∀ (s : State) (c : CoveId) (ctx : BitVec 12) (x : CtxSlot) (dest : Option (Nat × Nat)), running s 94 = true → slotOf s c.val ctx.toNat = some x →
    x.ph = .evicting dest →
    (s.ob.waiters = [] → areaReady s c.val = false →
      Answers (.ctxEvictDone c ctx) s fun t =>
        t.ob.slots = s.ob.slots.filter (fun y => y != x) ++ dest.toList.map (fun w => ⟨w.1, w.2, .loading⟩) ∧ OnlyChanges [.objects, .counters] s t)
    ∧ (Answers (.ctxEvictDone c ctx) s fun t => ∀ w ∈ dest, (⟨w.1, w.2, .loading⟩ : CtxSlot) ∈ t.ob.slots))
  ∧ (∀ (s : State) (c : CoveId) (ctx : BitVec 12) (x : CtxSlot), running s 94 = true → slotOf s c.val ctx.toNat = some x → x.ph = .loading →
    s.ob.waiters = [] →
    (Answers (.ctxLoadDone c ctx) s fun t => t.ob.slots = s.ob.slots.map (fun y => if y = x then { y with ph := .resident } else y))
    ∧ (areaReady s c.val = false → Answers (.ctxLoadDone c ctx) s fun t => OnlyChanges [.objects] s t))

/-- The commands that release, place and run steps complete with their own effect (R234, R235, R241, R247–R263): a head leaves its ring for the
scheduler; an entry retires; a graph's image is opened, a step read and placed, and an entry without further steps ended; an engine takes the tile it
picks, a tile ends and is charged, and a tile over its limit is aborted and then removed.
Where the rules leave the outcome open it is the model’s choice: log entries 7, 27, 31. -/
def Obligations.SchedulerCommandsComplete : Prop :=
  (∀ (s : State) (c : CoveId) (k : Idx64) (e : QEntry) (rest : List QEntry), running s 94 = true → coveActive s c.val = true →
    (queueOf s c.val k.val).ph = .active → (queueOf s c.val k.val).fifo = e :: rest → e.wev = none → isResident s c.val e.ctx = true →
    (runsOf s c.val k.val).length < 4 → releasedSteps s c.val < 256 →
    Answers (.queueHeadRelease c k) s fun t => ∃ r : Run, t.sq.runs = s.sq.runs ++ [r] ∧ r.cove = c.val ∧ r.queue = k.val ∧ r.ent = e
      ∧ r.todo = (if e.graph then [] else [e.target]) ∧ r.finished = false)
  ∧ (∀ (s : State) (c : CoveId) (k : Idx64) (e : QEntry) (rest : List QEntry) (ev tgt v : Nat) (s1 : State), running s 94 = true → coveActive s c.val = true →
    (queueOf s c.val k.val).ph = .active → (queueOf s c.val k.val).fifo = e :: rest → e.wev = some (ev, tgt) → evValue s c.val ev = (some v, s1) →
    (v < tgt → exec (.queueHeadRelease c k) s = .next s1)
    ∧ (tgt ≤ v → isResident s c.val e.ctx = true → (runsOf s c.val k.val).length < 4 → releasedSteps s c.val < 256 →
      Answers (.queueHeadRelease c k) s fun t => ∃ r : Run, t.sq.runs = s1.sq.runs ++ [r] ∧ r.cove = c.val ∧ r.queue = k.val ∧ r.ent = e))
  ∧ (∀ (s : State) (c : CoveId) (k : Idx64) (now : Nat) (r : Run) (rest : List Run), running s 94 = true → (queueOf s c.val k.val).ph = .active →
    runsOf s c.val k.val = r :: rest → r.finished = true → (stepsWhere s (fun x => x.entry == r.ent.id)).any (fun e => e.2.busy) = false →
    exec (.entryRetire c k now) s = .next (retrySlots (retireRun s c.val k.val r now)))
  ∧ (∀ (s : State) (c : CoveId) (k : Idx64) (now : Nat) (far : Bool) (r : Run), running s 94 = true → coveActive s c.val = true →
    (queueOf s c.val k.val).ph = .active → unplacedOf s c.val k.val = none → nextRun s c.val k.val = some r → isResident s c.val r.ent.ctx = true →
    (r.opened = false → exec (.stepRelease c k now far) s = .next (runWork s (openRun c.val r)))
    ∧ (r.opened = true → exec (.stepRelease c k now far) s = .next (runWork s (releaseNext s c.val k.val r now far)))
    ∧ (r.opened = true → r.todo = [] → exec (.stepRelease c k now far) s = .next (endRun s r.ent.id)))
  ∧ (∀ (s : State) (c : CoveId) (k : Idx64) (now : Nat) (far : Bool) (i : Nat), running s 94 = true → coveActive s c.val = true →
    (queueOf s c.val k.val).ph = .active → unplacedOf s c.val k.val = some i → exec (.stepRelease c k now far) s = .next (placeStep s c.val i far))
  ∧ (∀ (s : State) (u : BitVec 16) (now c : Nat) (k : Cand), running s (unitDomain u.toNat) = true → unitOwner s u.toNat = some c →
    takesTile s c u.toNat = true → pickTile s c u.toNat = some k →
    Answers (.engineTileBoundary u now) s fun t => engOf t u.toNat = some ⟨k.step, k.tile, false, false, none, 0⟩)
  ∧ (∀ (s : State) (u : BitVec 16) (ns : Nat) (e : Eng) (f : TileEnd) (x : Step), running s (unitDomain u.toNat) = true → engOf s u.toNat = some e →
    e.fin = some f → stepOf s e.step = some x → s.en.deliver.any (fun d => d.src == u.toNat) = false →
    exec (.tileComplete u ns) s = .next (retrySlots (settleStep (dropTile (chargeTime s x.cove x.queue x.ctx ns) u.toNat
      (f == .error || e.expired != 0)) e.step)))
  ∧ (∀ (s : State) (u : BitVec 16) (e : Eng) (x : Step), running s 94 = true → engOf s u.toNat = some e → stepOf s e.step = some x →
    e.expired = 0 → tileEnded s u.toNat e = false → paused s u.toNat = false →
    exec (.tileWatchdog u) s = .next (sqNote (incCtr (incCtr (setEng s u.toNat { e with expired := 1, abort := decide (u.toNat / 4096 ≠ 4) })
      (C.SQ_CV_WDOG x.cove)) C.SQ_WDOG) e.step 0x30 1 u.toNat))
  ∧ (∀ (s : State) (u : BitVec 16) (ns : Nat) (e : Eng) (x : Step), running s 94 = true → engOf s u.toNat = some e → stepOf s e.step = some x →
    e.expired = 1 → tileEnded s u.toNat e = false → unitBusy s u.toNat = false → replaying s u.toNat = false →
    exec (.tileWatchdogLimit2 ⟨u, ns⟩) s = .next (retrySlots (remapUnit (resetEngine s u.toNat x ns) x.cove u.toNat)))

/-- The commands of preemption, chunks and queue destruction complete with their own effect (R244, R264–R269): a slice that expires makes its step a victim; a
victim saves its ranges or defers; ports are given up and restored; a chunk end continues or yields; a preempted step resumes; spill space is enabled; and a queue drains,
is acknowledged engine by engine, and is marked stuck.
Where the rules leave the outcome open it is the model’s choice: log entries 7, 29, 32. -/
def Obligations.PreemptionCommandsComplete : Prop :=
  (∀ (s : State) (p : Fin 128) (now i t0 : Nat) (far : Bool) (x : Step), running s 94 = true → tfind s.sq.ports p.val = some (i, t0) → stepOf s i = some x →
    fld s (F.SQ_CV_CTL_SLICE x.cove) ≠ 0 → t0 + fld s (F.SQ_CV_CTL_SLICE x.cove) * 1000 < now → (queueOf s x.cove x.queue).rt = false → x.liveDva ≠ 0 →
    x.ph = .running → ∀ j : Nat, portWaiter s x.cove (queueOf s x.cove x.queue).vt = some j →
    exec (.sliceExpiry p now far) s = .next (preemptFor (setStep s i { x with cheapOnly := true }) x.cove j [i] far))
  ∧ (∀ (s s1 : State) (i now : Nat) (x : Step) (l : LiveEnt), running s 94 = true → stepOf s i = some x → x.live? = some l → x.ph = .stopping →
    x.stageDone = true → x.busy = false → x.stopHere = true → x.atLast = false → workStopped s x.cove = false →
    (∀ (rs : List LiveRange) (us : List Nat), readRanges (sqWho x.cove x.ctx) (fld s F.FAB_ARR_INFO_SP_MIB) l s = .ok (.ok rs, s1) →
      reserveUnits s1 x.cove (unitsFor l.bytes) = some us → exec (.preemptStopPoint ⟨i, now⟩) s = .next (beginSave s1 i x rs us false now))
    ∧ (∀ rs : List LiveRange, readRanges (sqWho x.cove x.ctx) (fld s F.FAB_ARR_INFO_SP_MIB) l s = .ok (.ok rs, s1) →
      reserveUnits s1 x.cove (unitsFor l.bytes) = none → exec (.preemptStopPoint ⟨i, now⟩) s =
        .next (goOn (incCtr s1 (C.SQ_CV_DEFER x.cove)) x.cove x.queue i (fun x => Step.pass { x with cheapOnly := true })))
    ∧ (∀ d : Nat, readRanges (sqWho x.cove x.ctx) (fld s F.FAB_ARR_INFO_SP_MIB) l s = .ok (.error d, s1) →
      exec (.preemptStopPoint ⟨i, now⟩) s = .next (goOn (sqNote s1 i 0x32 d 0x9000) x.cove x.queue i Step.pass)))
  ∧ (∀ (s s1 : State) (i : Nat) (p : Fin 128) (now ns : Nat) (x : Step) (y : Bool), running s (unitDomain p.val) = true →
    stepOf s i = some x → x.ph = .saving y → (x.moves.filter (fun m => m.unit == p.val)).isEmpty = false → scratchMoved x p.val = true →
    workStopped s x.cove = false → spillMoves x true (x.moves.filter (fun m => m.unit == p.val)) s = .ok ((), s1) →
    (x.moves.filter (fun m => m.unit != p.val) = [] →
      exec (.saveDone i ⟨p, ns⟩ now) s =
        .next (saved (freePort (setStep (chargeCtx s1 x.cove x.ctx ns) i { x with moves := [] }) p.val) i { x with moves := [] } y now))
    ∧ (x.moves.filter (fun m => m.unit != p.val) ≠ [] →
      exec (.saveDone i ⟨p, ns⟩ now) s =
        .next (freePort (setStep (chargeCtx s1 x.cove x.ctx ns) i { x with moves := x.moves.filter (fun m => m.unit != p.val) }) p.val)))
  ∧ (∀ (s : State) (i now : Nat) (x : Step), running s 94 = true → stepOf s i = some x → x.ph = .running → x.stage + 1 = x.nstage →
    x.chunk + 1 ≠ x.nchunk → x.stageDone = true → workStopped s x.cove = false →
    (x.live? = none ∨ fld s (F.SQ_CV_CTL_MIX x.cove) = 0 ∨ tokenLive s x.cove = false →
      exec (.chunkEnd ⟨i, now⟩) s = .next (goOn s x.cove x.queue i Step.pass))
    ∧ (∀ (l : LiveEnt) (s1 : State) (rs : List LiveRange) (us : List Nat), x.live? = some l → fld s (F.SQ_CV_CTL_MIX x.cove) ≠ 0 → tokenLive s x.cove = true →
      readRanges (sqWho x.cove x.ctx) (fld s F.FAB_ARR_INFO_SP_MIB) l s = .ok (.ok rs, s1) → reserveUnits s1 x.cove (unitsFor l.bytes) = some us →
      exec (.chunkEnd ⟨i, now⟩) s = .next (beginSave (incCtr s1 (C.SQ_CV_YIELD x.cove)) i { x with tokens := 0 } rs us true now)))
  ∧ (∀ (s : State) (i now : Nat) (x : Step) (m : List (Nat × Nat)), running s 94 = true → stepOf s i = some x → mayResume s x = true → coveActive s x.cove = true →
    x.resumeMap s = some m → exec (.stepResume i now) s = .next (resumeStep s i x m now))
  ∧ (∀ (s s1 : State) (i : Nat) (p : Fin 128) (ns : Nat) (x : Step), running s (unitDomain p.val) = true → stepOf s i = some x →
    x.ph = .resuming → (x.moves.filter (fun m => m.unit == p.val)).isEmpty = false → scratchMoved x p.val = true → workStopped s x.cove = false →
    spillMoves x false (x.moves.filter (fun m => m.unit == p.val)) s = .ok ((), s1) →
    (x.moves.filter (fun m => m.unit != p.val) = [] →
      exec (.restoreDone i ⟨p, ns⟩) s =
        .next (retrySlots (settleStep (leavePort (setStep (chargeCtx s1 x.cove x.ctx ns) i { x with moves := [], units := [], ph := .running }) i p.val) i)))
    ∧ (x.moves.filter (fun m => m.unit != p.val) ≠ [] →
      exec (.restoreDone i ⟨p, ns⟩) s =
        .next (leavePort (setStep (chargeCtx s1 x.cove x.ctx ns) i { x with moves := x.moves.filter (fun m => m.unit != p.val) }) i p.val)))
  ∧ (∀ (s : State) (q : Requester) (c : CoveId) (v : Word), Manages s q → flag s (F.SQ_SPILL_EN c.val) = false → coveExists s c.val = true →
    1 ≤ bits v.toNat 16 7 → bits v.toNat 16 7 ≤ 64 → ownsGranules s c.val (bits v.toNat 0 13) (bits v.toNat 16 7) = true →
    Answers (.sqSpillEnable q c v) s fun t => flag t (F.SQ_SPILL_EN c.val) = true ∧ flag t (F.SQ_SPILL_STATUS_READY c.val) = true ∧ OnlyChanges [.regs] s t)
  ∧ (∀ (s : State) (q : Requester) (c : CoveId), Reaches s q c.val → areaReady s c.val = true →
    (queueOf s c.val (bits (obArg s q c.val 0) 0 6)).ph = .active →
    exec (.qDestroy q c) s = .next (obAnswer (beginDestroy s c.val (bits (obArg s q c.val 0) 0 6) (bit (obArg s q c.val 0) 8)
      (if bit (obArg s q c.val 1) 16 then some (bits (obArg s q c.val 1) 0 16, obVal s q c.val) else none)) q c.val (.plain .ok)))
  ∧ (∀ (s : State) (c : CoveId) (k : Idx64) (u : BitVec 16), running s 94 = true → (queueOf s c.val k.val).ph = .draining →
    (queueOf s c.val k.val).await.contains u.toNat = true → engOf s u.toNat = none →
    exec (.qdestroyEngineAck c k u) s = .next (tryDestroy (setQueue s c.val k.val { queueOf s c.val k.val with
      await := (queueOf s c.val k.val).await.filter (· != u.toNat) }) c.val k.val))
  ∧ (∀ (s : State) (c : CoveId) (k : Idx64), running s 94 = true → (queueOf s c.val k.val).ph = .draining →
    flag s (F.OB_Q_STATUS_STUCK c.val k.val) = false →
    Answers (.qdestroyStuck c k) s fun t => (srcOf t 516).pending = true)

/-- The commands of shoal engines complete with their own effect (R164–R189): a tile starts, or ends at once when told to abort; a pass is built; the rows fetched
arrive; an occurrence is pooled; a bag ends and is emitted, or replayed first where the guard asks for it; and hash arbitration is switched.
Where the rules leave the outcome open it is the model’s choice: log entries 7, 33, 34. -/
def Obligations.GatherCommandsComplete : Prop :=
  (∀ (s : State) (n : Idx64) (t : OnTile) (c : Nat), newTile s (gpUnit n.val) = some t → unitOwner s (gpUnit n.val) = some c → Works s (gpUnit n.val) →
    exec (.gatherTileStart n) s =
      .next (if t.eng.abort then endTile s (gpUnit n.val) .aborted else runWork s (startGather c n.val t)))
  ∧ (∀ (s : State) (n : Idx64) (t : OnTile) (g : Gather) (c : Nat), GatherRuns s n.val c t g → g.passDue = true → sliceTurn s n.val t = true →
    (g.tbl.hash = true → running s (80 + n.val / 8) = true) → exec (.dedupPass n) s = .next (runWork s (dedupPass c n.val g)))
  ∧ (∀ (s s1 : State) (n : Idx64) (t : OnTile) (g : Gather) (c : Nat) (row : BitVec 40) (f : Fetched), GatherRuns s n.val c t g →
    tfind g.rows row.toNat = some none → thas g.lost row.toNat = false → fetchRow (engWho c (gpUnit n.val) g.ctx) g row.toNat s = .ok (f, s1) →
    exec (.rowFetchDone n row) s = .next (arriveRow s1 c n.val g row.toNat f))
  ∧ (∀ (s : State) (n : Idx64) (t : OnTile) (g : Gather) (c b : Nat) (pos : BitVec 17) (r : Option Nat) (l : List Word), GatherRuns s n.val c t g →
    tfind g.occ pos.toNat = some r → g.bagOf pos.toNat = some b → g.next? r = true → g.yields r = some l →
    (g.cmd.mode ≠ 2 → exec (.rowPool n pos) s = .next (incCtr (incCtr (setFill s n.val (Gather.pooled { g with
      bags := tput g.bags b ((tgetD g.bags b (Bag.new g.tbl.dim)).pool g.cmd.mode ⟨r, l, 0, (r.map (thas g.lost)).getD false⟩) } pos.toNat)) (C.GP_CV_ROWS c)) (C.GP_ROWS n.val)))
    ∧ (g.cmd.mode = 2 → ∀ (w : List Byte) (s1 : State), readAt (engWho c (gpUnit n.val) g.ctx) (g.cmd.wgt + 4 * pos.toNat) 4 s = .ok (.ok w, s1) →
      exec (.rowPool n pos) s = .next (incCtr (incCtr (setFill s1 n.val (Gather.pooled { g with
        bags := tput g.bags b ((tgetD g.bags b (Bag.new g.tbl.dim)).pool 2 ⟨r, l, BitVec.ofNat 32 (leAt w 0 4), (r.map (thas g.lost)).getD false⟩) } pos.toNat))
        (C.GP_CV_ROWS c)) (C.GP_ROWS n.val))))
  ∧ (∀ (s : State) (n : Idx64) (t : OnTile) (g : Gather) (c : Nat) (bag : BitVec 12), GatherRuns s n.val c t g → bag.toNat < g.cmd.nbag →
    g.emitted ≤ bag.toNat → (tgetD g.bags bag.toNat (Bag.new g.tbl.dim)).ph = .pooling →
    (tgetD g.bags bag.toNat (Bag.new g.tbl.dim)).occs.length = g.bagLen bag.toNat →
    (t.eng.abort = true → exec (.bagEnd n bag) s = .next (endTile s (gpUnit n.val) .aborted))
    ∧ (t.eng.abort = false → g.guardFires (tgetD g.bags bag.toNat (Bag.new g.tbl.dim)) = true →
      exec (.bagEnd n bag) s = .next (setGather s n.val { g with
        bags := tput g.bags bag.toNat { tgetD g.bags bag.toNat (Bag.new g.tbl.dim) with ph := .replay } }))
    ∧ (t.eng.abort = false → g.guardFires (tgetD g.bags bag.toNat (Bag.new g.tbl.dim)) = false →
      exec (.bagEnd n bag) s = .next (setGather s n.val { g with bags := tput g.bags bag.toNat { tgetD g.bags bag.toNat (Bag.new g.tbl.dim) with
        ph := .ready, acc := g.settled bag.toNat (tgetD g.bags bag.toNat (Bag.new g.tbl.dim)).acc } })))
  ∧ (∀ (s : State) (n : Idx64) (t : OnTile) (g : Gather) (c : Nat) (bag : BitVec 12) (x : Bag), GatherRuns s n.val c t g →
    tfind g.bags bag.toNat = some x → x.ph = .replay → exec (.bagReplayDone n bag) s = .next (runWork s (replayBag c n.val g bag.toNat x)))
  ∧ (∀ (s : State) (n : Idx64) (t : OnTile) (g : Gather) (c : Nat) (x : Bag), GatherRuns s n.val c t g →
    tfind g.bags g.emitted = some x → x.ph = .ready →
    exec (.bagOutput n) s = .next (if t.eng.abort then endTile s (gpUnit n.val) .aborted else runWork s (emitBag c n.val t g x)))
  ∧ (∀ (s : State) (q : Requester) (k : Fin 16), Manages s q →
    exec (.hdCtlArb q k true) s = .next (setFlag s (F.HD_CTL_ARB k.val) true)
    ∧ (splitOwned s k.val = true → exec (.hdCtlArb q k false) s = .next (setFlag s (F.HD_STATUS_ARB_REF k.val) true))
    ∧ (splitOwned s k.val = false → exec (.hdCtlArb q k false) s = .next (setFlag s (F.HD_CTL_ARB k.val) false)))

/-- The commands of live tables complete with their own effect (R193–R207): slot operations are taken and end; a delta tile starts and applies its records; a flip is
taken, armed and ends; a pair acknowledges the edge it has drained; limbo is released; and compaction folds one entry after another.
Where the rules leave the outcome open it is the model’s choice: log entries 7, 35. -/
def Obligations.TableCommandsComplete : Prop :=
  (∀ (s : State) (q : Requester) (c : CoveId) (slot : Idx64) (ctx : BitVec 12) (e : Fin 8), Manages s q → s.en.bind = none → coveExists s c.val = true →
    ownerOf s kTU e.val = some c.val → tabOf s c.val slot.val = none →
    Answers (.tuBind q c slot ctx e) s fun t => flag t F.TU_BIND_STATUS_BUSY = true
      ∧ t.en.bind = some ⟨1, c.val, slot.val, ctx.toNat, e.val, fld64 s F.TU_BIND_DESC_LO_DVA_LO F.TU_BIND_DESC_HI_DVA_HI⟩ ∧ OnlyChanges [.regs, .engines] s t)
  ∧ (∀ (s s1 t : State) (b : Bind), s.en.bind = some b → Works s (tuUnit b.eng) → bindWork s b s = .ok (t, s1) → exec .tuBindDone s = .next t)
  ∧ (∀ (s : State) (q : Requester) (c : CoveId) (slot : Idx64) (x : TSlot), Manages s q → s.en.bind = none → tabOf s c.val slot.val = some x →
    (slotPinned s c.val slot.val x = false → exec (.tuUnbind q c slot) s = .next (bindEnd (dropSlot s c.val slot.val) 0))
    ∧ (slotPinned s c.val slot.val x = true → exec (.tuUnbind q c slot) s = .next (bindEnd s 4))
    ∧ (slotPinned s c.val slot.val x = false → exec (.tuDiscardPending q c slot) s =
      .next (slotWork s ⟨3, c.val, slot.val, x.ctx, x.eng, x.desc⟩ (doDiscard c.val slot.val x)))
    ∧ exec (.tuCompactNow q c slot) s = .next (bindEnd (startFold s c.val slot.val false) 0))
  ∧ (∀ (s : State) (n : Fin 8) (t : OnTile) (c : Nat), newTile s (tuUnit n.val) = some t → unitOwner s (tuUnit n.val) = some c → Works s (tuUnit n.val) →
    exec (.deltaTileStart n) s = .next (runWork s (startDelta c n.val t)))
  ∧ (∀ (s : State) (n : Fin 8) (t : OnTile) (d : Delta) (c : Nat) (x : TSlot), liveTile s (tuUnit n.val) = some t → deltaOf s n.val = some d →
    unitOwner s (tuUnit n.val) = some c → tabOf s c d.tslot = some x → Works s (tuUnit n.val) →
    exec (.deltaRecord n) s = .next (runWork s (applyRecord c n.val d x)))
  ∧ (∀ (s : State) (q : Requester) (c : CoveId), Manages s q →
    (flipRefusal s c.val (fld64 s F.TU_FLIP_MASK_LO F.TU_FLIP_MASK_HI) = none → Answers (.tuFlipGo q c) s fun t =>
      tfind t.en.flips c.val = some ⟨fld64 s F.TU_FLIP_MASK_LO F.TU_FLIP_MASK_HI, fld64 s F.TU_FLIP_TGT_LO F.TU_FLIP_TGT_HI, fld s F.TU_FLIP_EVENT,
        fld64 s F.TU_FLIP_VAL_LO F.TU_FLIP_VAL_HI, false⟩ ∧ OnlyChanges [.engines] s t)
    ∧ (∀ k : Nat, flipRefusal s c.val (fld64 s F.TU_FLIP_MASK_LO F.TU_FLIP_MASK_HI) = some k →
      exec (.tuFlipGo q c) s = .next (setFld (setFlag s (F.TU_FLIP_STATUS_REFUSED c.val) true) (F.TU_FLIP_STATUS_CODE c.val) k)))
  ∧ (∀ (s : State) (c : CoveId) (f : Flip) (e : Nat), tfind s.en.flips c.val = some f → flipEngine s c.val f.mask = some e → f.armed = false →
    flipPinned s c.val f.mask = false → (maskSlots f.mask).any (deltaRuns s c.val) = false → running s (unitDomain (tuUnit e)) = true →
    exec (.flipArm c) s = .next (armEntry { s with en := { s.en with flips := tput s.en.flips c.val { f with armed := true } } }
      ⟨c.val, .flip c.val, f.target, flipTaps s c.val⟩))
  ∧ (∀ (s s1 : State) (c : CoveId) (f : Flip) (r : SlateReport), running s 94 = true → tfind s.en.flips c.val = some f →
    takeReport s (fun a => a == .flip c.val) = some (r, s1) → exec (.flipOutcome c) s = .next (flipEnd s1 c.val f r))
  ∧ (∀ (s : State) (p : Fin 32), running s (32 + p.val) = true → (tapOf s (128 + p.val)).resync = false →
    (∀ e ∈ s.xl.xfers, e.2.eng = true → e.2.src ≠ gpUnit (2 * p.val) ∧ e.2.src ≠ gpUnit (2 * p.val + 1)) →
    Answers (.pairDrainAck p) s fun t => tfind t.en.drained p.val =
      some (if (tapOf s (128 + p.val)).recv.isSome then (tapOf s (128 + p.val)).count - 1 else (tapOf s (128 + p.val)).count) ∧ OnlyChanges [.engines] s t)
  ∧ (∀ (s s1 : State) (n : Fin 8) (rest : List Limbo), Works s (tuUnit n.val) → tgetD s.en.limbo n.val [] ≠ [] →
    freeLimbo (tgetD s.en.limbo n.val []) s = .ok (rest, s1) →
    exec (.limboRelease n) s = .next { s1 with en := { s1.en with limbo := tsetD s1.en.limbo n.val [] rest } })
  ∧ (∀ (s : State) (c : CoveId) (slot : Idx64) (x : TSlot), tabOf s c.val slot.val = some x → Works s (tuUnit x.eng) →
    (x.folding = none → x.compacting = true → exec (.compactionMoveDone c slot) s = .next (runWork s (askFold c.val slot.val x)))
    ∧ (∀ (f : Fold) (s1 : State) (y : TSlot), x.folding = some f → f.done = true → limboFull s x.eng = false → runWork s (clearFold c.val slot.val x f) = s1 →
      tabOf s1 c.val slot.val = some y → exec (.compactionMoveDone c slot) s =
        .next (if y.folding.isNone && y.compacting then runWork s1 (askFold c.val slot.val y) else s1)))

/-- The commands of movers, rankers and sweep engines complete with their own effect (R209–R215): a tile starts, does its next block or segment, or ends when told
to abort; a move is queued, refused or dropped; its next line is moved; and it ends once whole or failed.
Where the rules leave the outcome open it is the model’s choice: log entries 7, 36, 37. -/
def Obligations.MoverCommandsComplete : Prop :=
  (∀ (s : State) (n : Fin 16) (t : OnTile) (c : Nat), unitOwner s (rmUnit n.val) = some c → Works s (rmUnit n.val) →
    (newTile s (rmUnit n.val) = some t → exec (.moverTileStart n) s =
      .next (if t.eng.abort then endTile s (rmUnit n.val) .aborted else runWork s (startMover c n.val t)))
    ∧ (∀ m : Mover, liveTile s (rmUnit n.val) = some t → tfind s.en.rm (rmUnit n.val) = some m → exec (.moverBlock n) s =
      .next (if t.eng.abort then endTile s (rmUnit n.val) .aborted else runWork s (moveBlock c n.val t m))))
  ∧ (∀ (s : State) (n : Fin 8) (t : OnTile) (c : Nat), unitOwner s (tkUnit n.val) = some c → Works s (tkUnit n.val) →
    (newTile s (tkUnit n.val) = some t → exec (.rankerTileStart n) s =
      .next (if t.eng.abort then endTile s (tkUnit n.val) .aborted else runWork s (startRank c n.val t)))
    ∧ (∀ r : Ranker, liveTile s (tkUnit n.val) = some t → tfind s.en.tk (tkUnit n.val) = some r → exec (.rankerSegment n) s =
      .next (if t.eng.abort then endTile s (tkUnit n.val) .aborted else runWork s (rankSegment c n.val r))))
  ∧ (∀ (s : State) (q : Requester) (c : CoveId), Reaches s q c.val → fld64 s (F.SW_CV_MV_SRC_LO c.val) (F.SW_CV_MV_SRC_HI c.val) % 64 = 0 →
    fld64 s (F.SW_CV_MV_SRC_LO c.val) (F.SW_CV_MV_SRC_HI c.val) < 2 ^ 48 → fld64 s (F.SW_CV_MV_DST_LO c.val) (F.SW_CV_MV_DST_HI c.val) % 64 = 0 →
    fld64 s (F.SW_CV_MV_DST_LO c.val) (F.SW_CV_MV_DST_HI c.val) < 2 ^ 48 → fld s (F.SW_CV_MV_LEN c.val) % 64 = 0 → 64 ≤ fld s (F.SW_CV_MV_LEN c.val) →
    fld s (F.SW_CV_MV_LEN c.val) ≤ 2 ^ 30 →
    (tenantMoves s c.val < (if flag s (F.SW_CV_MV_ADVICE c.val) then 32 else 64) → Answers (.swCvMvGo q c) s fun t =>
      (∃ m : Move, t.en.moves = s.en.moves ++ [m] ∧ m.cove = c.val ∧ m.src = fld64 s (F.SW_CV_MV_SRC_LO c.val) (F.SW_CV_MV_SRC_HI c.val)
        ∧ m.dst = fld64 s (F.SW_CV_MV_DST_LO c.val) (F.SW_CV_MV_DST_HI c.val) ∧ m.len = fld s (F.SW_CV_MV_LEN c.val) ∧ m.done = 0
        ∧ m.kind = (if flag s (F.SW_CV_MV_ADVICE c.val) then .advice else .prefetch)) ∧ OnlyChanges [.engines] s t)
    ∧ (64 ≤ tenantMoves s c.val → flag s (F.SW_CV_MV_ADVICE c.val) = false → exec (.swCvMvGo q c) s = .next (setFlag s (F.SW_CV_MV_STATUS_FULL c.val) true)))
  ∧ (∀ (s : State) (n : StackId) (m : Move), headMove s n.val = some m → fillWaits s n.val = false → rekeyWaits s n.val = false → verifyWaits s n.val = false →
    Works s (swUnit n.val) → exec (.moveLine ⟨n, false⟩) s = .next (runWork s (moveLine s m)))
  ∧ (∀ (s : State) (i : Nat) (m : Move), s.en.moves.find? (fun m => m.id == i) = some m → running s (unitDomain (swUnit m.sweep)) = true →
    (∀ r d : Nat, m.failed = some (r, d) → exec (.moveEnd i) s = .next (endFailed (dropMove s i) m r d))
    ∧ (m.failed = none → m.whole = true →
      exec (.moveEnd i) s = .next (moveEvent (endFold (incCtr (dropMove s i) (C.SW_MOVES m.sweep)) m true) m.cove m.event)))

/-- The commands of engine ports complete with their own effect (R382–R391): a tile starts; a row is fed, or feeding stops at a group's end when told to abort; an output
row returns; the tile ends at its boundary; an array's error stops it; a delivery reaches the input buffer; local space is saved and restored; and a clear begins, ends or is late.
Where the rules leave the outcome open it is the model’s choice: log entries 7, 38. -/
def Obligations.PortCommandsComplete : Prop :=
  (∀ (s : State) (p : Fin 128) (t : OnTile) (c : Nat), newTile s p.val = some t → unitOwner s p.val = some c → Works s p.val →
    exec (.epTileStart p) s = .next (if t.eng.abort then endTile s p.val .aborted else runWork s (startEp c p.val t)))
  ∧ (∀ (s : State) (p : Fin 128) (o : OnTile) (t : EpTile) (c : Nat), PortRuns s p.val c o t → t.tbReq = false → t.fedAll = false →
    (o.eng.abort = true → t.fed % (64 * t.lanes) = 0 → exec (.epFeedRow p) s = .next (endFeed s p.val t))
    ∧ (o.eng.abort = false ∨ t.fed % (64 * t.lanes) ≠ 0 → exec (.epFeedRow p) s = .next (runWork s (feedRow c p.val t))))
  ∧ (∀ (s : State) (p : Fin 128) (o : OnTile) (t : EpTile) (c : Nat) (lane : Bool) (row : BitVec 13) (data : List Byte), PortRuns s p.val c o t → t.obytes ≠ 0 →
    data.length = t.obytes → (lane = true → t.split = true) → row.toNat = t.ret lane → row.toNat < t.fedOf lane →
    exec (.arrOutputRow p lane row data) s = .next (runWork s (writeBack c p.val t lane row.toNat data)))
  ∧ (∀ (s : State) (p : Fin 128) (o : OnTile) (t : EpTile) (c : Nat), PortRuns s p.val c o t → t.tbReq = true →
    t.obytes = 0 ∨ t.arrErr = true ∨ t.ret0 = t.fedOf false ∧ (t.split = false ∨ t.ret1 = t.fedOf true) →
    exec (.arrTbAck p) s = .next (endTile s p.val (t.outcome o.eng.abort)))
  ∧ (∀ (s : State) (p : Fin 128) (o : OnTile) (t : EpTile) (c : Nat), PortRuns s p.val c o t → t.arrErr = false →
    exec (.arrErr p) s = .next (unitNote (if t.tbReq then setEp s p.val { t with arrErr := true } else endFeed s p.val { t with arrErr := true })
      c p.val 0x3B 0 t.cmdDva))
  ∧ (∀ (s : State) (p : Fin 128) (now : Nat) (d : Delivery), running s (unitDomain p.val) = true → s.en.deliver.find? (fun d => d.port s == some p.val) = some d →
    portOut s p.val = false → unitOwner s p.val = (stepOf s d.step).map (·.cove) →
    ((occupant s p.val = some d.step ∨ occupant s p.val = none ∧ fenceOn s (unitKey p.val) = false) →
      exec (.epDelivery p now) s =
        .next (takePort (writeInbuf { s with en := { s.en with deliver := s.en.deliver.erase d } } p.val d.off d.bytes) p.val d.step now)))
  ∧ (∀ (s : State) (p : Fin 128) (data : Line) (i : Nat) (x : Step) (m : SpillMove), Works s p.val → spWork s p.val = some (i, x, m) → engOf s p.val = none →
    workStopped s x.cove = false → (∀ t : State, spLine s p.val i x m data = some t → exec (.epScratchpadAccess p data) s = .next t)
    ∧ (spLine s p.val i x m data = none → exec (.epScratchpadAccess p data) s = .next (issueRest s p.val)))
  ∧ (∀ (s : State) (p : Fin 128), running s (unitDomain p.val) = true →
    (tgetD s.en.clearing p.val 0 = 3 → Answers (.arrayClear p) s fun t => tfind t.en.clearing p.val = some 1 ∧ t.out = .eaClr p.val :: s.out
      ∧ (∀ e ∈ t.en.inbuf, e.1 / 16384 ≠ p.val) ∧ OnlyChanges [.engines] s t)
    ∧ (tgetD s.en.clearing p.val 0 = 1 → exec (.arrClrDone p) s = .next (portIn s p.val))
    ∧ (tgetD s.en.clearing p.val 0 = 1 → Answers (.arrayClearTimeout p) s fun t => tfind t.en.clearing p.val = some 2
      ∧ ∀ c, ownerOf s kEP p.val = some c → (srcOf t (576 + c)).pending = true))

/-- A step takes the command at the front of the queue and answers its outcome on the state with the queue's rest.
Where the rules leave the outcome open it is the model’s choice: log entry 3. -/
def Obligations.StepRunsFrontCommand : Prop :=
  ∀ (s : State) (c : Instr) (rest : List Instr), step { s with pending := c :: rest } = exec c { s with pending := rest }

/-- On an empty queue the block idles (log entry 3, the model's choice). -/
def Obligations.StepIdlesOnEmptyQueue : Prop := ∀ s : State, s.pending = [] → step s = .next s

/-- No row of the table gives bits, so no word spells a command, and placing a word changes nothing.
Where the rules leave the outcome open it is the model’s choice: log entry 3. -/
def Obligations.NoWordSpellsACommand : Prop :=
  ∀ nbits w : Nat, decodeTableWord nbits w = none ∧ ∀ s : State, s.withFetchWord nbits w = s

/-- Every command completes in every state: it answers a next state, leaves the queue of the waiting commands alone, and only adds to what the block has
sent out.
Where the rules leave the outcome open it is the model’s choice: log entry 6. -/
def Obligations.EveryCommandAnswers : Prop :=
  ∀ (c : Instr) (s : State), ∃ t, exec c s = .next t ∧ t.pending = s.pending ∧ ∃ l, t.out = l ++ s.out

/-- The tables of memory and of the registers keep their canonical form across every step, and no counter passes all ones (R13). -/
def Obligations.StepKeepsTablesCanonical : Prop :=
  ∀ s t : State, Memory.wf s.mem = true → Regs.wf s = true → step s = .next t → Memory.wf t.mem = true ∧ Regs.wf t = true

/-- The tables are canonical at reset, and hold nothing: that no line of memory is listed before it is written, and that no command waits, are the
model's choices (log entries 4 and 3). -/
def Obligations.ResetTablesCanonical : Prop :=
  Memory.wf State.reset.mem = true ∧ Regs.wf State.reset = true ∧ State.reset.mem.lines = [] ∧ State.reset.pending = []

/-- The state at reset: every field of every register of the table holds the reset value its row gives; every counter is zero but the lifetime counters of power-on and of fabric
resets, which have counted this reset (R353; that the state after reset has counted it is log entry 47's choice); no source is pending; no cove exists; no memory is listed (log
entry 4's choice); and the watchdog of every cove is 10 units of 10 µs, 100 µs (R262). The fuses at reset are the model's choice (log entry 1). -/
def Obligations.ResetValues : Prop :=
  (∀ r ∈ regRows, ∀ off : Nat, r.holds off = true → ∀ q : Requester, ∀ f ∈ r.flds, fld State.reset (rowFld q off f) = f.2.2.1)
  ∧ (∀ n : Nat, n ≠ lbCtr 0 → n ≠ lbCtr 1 → ctr State.reset n = 0) ∧ ctr State.reset (lbCtr 0) = 1 ∧ ctr State.reset (lbCtr 1) = 1
  ∧ (∀ n : Nat, (srcOf State.reset n).pending = false)
  ∧ (∀ c : Nat, coveExists State.reset c = false) ∧ (∀ n a : Nat, rawLine State.reset n a = RawLine.zero)
  ∧ (∀ c : Nat, fld State.reset (F.SQ_CFG_WDOG c) = 10)

/-- The state codes of the fuse patterns, and blown fuses stay blown across every step (R357). -/
def Obligations.FusesStayBlown : Prop :=
  (senseState 0b0000 = (0, false) ∧ senseState 0b0001 = (1, false) ∧ senseState 0b0011 = (2, false) ∧ senseState 0b0111 = (3, false)
    ∧ (∀ t : Nat, t < 16 → t.testBit 3 = true → senseState t = (4, false))
    ∧ ∀ t : Nat, t ∈ [2, 4, 5, 6] → senseState t = (4, true))
  ∧ ∀ s t : State, step s = .next t → Fuses.kept s.lc.fuses t.lc.fuses

/-- A statistics counter advances by what is added, stops at all ones, and no other counter moves (R13). -/
def Obligations.CountersSaturate : Prop :=
  ∀ (s : State) (k n : Nat), Regs.wf s = true → ctr (addCtr s k n) k = min (ctr s k + n) (2 ^ 64 - 1)
    ∧ (∀ j : Nat, j ≠ k → ctr (addCtr s k n) j = ctr s j) ∧ OnlyChanges [.counters] s (addCtr s k n)

/-- A misaligned access, or one of another size, changes no register, whichever command makes it: Unsupported Request over the host link, STATUS 0x01 over Ibpin, whose own error flag
is set (R7, R380). That an access of another size is answered as a misaligned one is log entry 11's choice. -/
def Obligations.MisshapenAccesses : Prop :=
  ∀ (s : State) (off : BitVec 25) (size : Nat) (w : Bool), hostClosed s = false → ¬ (off.toNat % 4 = 0 ∧ size = 4) →
    (∀ q : Requester, q ≠ .ibpin → exec (.regAccessBadSize q off size w) s = .next (emit s (.unsupported q)))
    ∧ exec (.regAccessBadSize .ibpin off size w) s = .next (emit (setFlag s F.FAB_IB_STATUS_ERROR true) (.ibResult 1 none))
    ∧ (off.toNat % 4 ≠ 0 → (∀ (q : Requester) (x : WriteData), q ≠ .ibpin → exec (.regWrite q off x) s = .next (emit s (.unsupported q))
        ∧ exec (.counterLoRead q off) s = .next (emit s (.unsupported q)))
      ∧ ∀ x : WriteData, exec (.regWrite .ibpin off x) s = .next (emit (setFlag s F.FAB_IB_STATUS_ERROR true) (.ibResult 1 none))
        ∧ exec (.counterLoRead .ibpin off) s = .next (emit (setFlag s F.FAB_IB_STATUS_ERROR true) (.ibResult 1 none)))
    ∧ (off.toNat % 4 ≠ 0 → ∀ v : Word, exec (.ibpinRead (off.setWidth 32)) s = .next (emit (setFlag s F.FAB_IB_STATUS_ERROR true) (.ibResult 1 none))
      ∧ exec (.ibpinWrite (off.setWidth 32) v) s = .next (emit (setFlag s F.FAB_IB_STATUS_ERROR true) (.ibResult 1 none)))

/-- What a field does with a value written to it: RW takes it, RW1C clears and RW1S sets where it is 1, RO, WO and ROC keep what they hold; no other field changes (R9). -/
def Obligations.AccessCodes : Prop :=
  ∀ (s : State) (off v lo w rst : Nat) (q : Requester) (k : AccCode), Regs.wf s = true → fieldIgnores s off lo (bits v lo w) = false →
    fld s (rowFld q off (lo, w, rst, k)) < 2 ^ w →
    fld (fieldWrite off q v s (lo, w, rst, k)) (rowFld q off (lo, w, rst, k)) = (match k with
      | .rw => bits v lo w
      | .rw1c => fld s (rowFld q off (lo, w, rst, k)) - (fld s (rowFld q off (lo, w, rst, k)) &&& bits v lo w)
      | .rw1s => fld s (rowFld q off (lo, w, rst, k)) ||| bits v lo w
      | _ => fld s (rowFld q off (lo, w, rst, k)))
    ∧ ∀ g : Fld, g.key ≠ (rowFld q off (lo, w, rst, k)).key → fld (fieldWrite off q v s (lo, w, rst, k)) g = fld s g

/-- An access that a breakwater does not admit, or that carries a reserved tag, has no effect on memory, completes with an error and no data, is counted, and raises the
breakwater source. It is captured, with the check point that dropped it, its tag, access and source, the unit it was sent to, the granule and the address; while an earlier capture is held, OVERRUN
is set and the capture stays (R18, R20–R22). What a reserved tag's capture names as unit and address is log entry 13's reading.
Where the rules leave the outcome open it is the model’s choice: log entry 13. -/
def Obligations.DroppedAccesses : Prop :=
  ∀ (s : State) (link : Bool) (q : Req) (point tgt gran addr : Nat), Regs.wf s = true →
    (16 < q.tag ∧ point = 1 ∧ tgt = targetUnit s q.fpa ∧ gran = 0 ∧ addr = 0
      ∨ q.tag ≤ 16 ∧ decodeFpa s q.fpa = .data gran ∧ (granOf s gran).owner ≠ 31
        ∧ flag s (F.SC_STATUS_TRAINED (placeByte (dataPer s) gran (granOf s gran).mode (q.fpa % 2 ^ 28)).1) = true
        ∧ granAdmits (granOf s gran) q.tag q.acc = false
        ∧ point = 3 ∧ tgt = 0xB000 + (placeByte (dataPer s) gran (granOf s gran).mode (q.fpa % 2 ^ 28)).1 ∧ addr = q.fpa
      ∨ q.tag < 16 ∧ (∃ b o, decodeFpa s q.fpa = .tidepool b o ∧ ownerOf s kBank b ≠ some q.tag ∧ tgt = 0xA000 + b)
        ∧ point = 2 ∧ gran = 0 ∧ addr = q.fpa) →
    ∃ t, memAccess s link q = (some (.error .dropped), t) ∧ t.mem = s.mem ∧ ctr t C.FAB_BRK_CNT = min (ctr s C.FAB_BRK_CNT + 1) maxCtr
      ∧ flag t F.FAB_BRK_STATUS_DROP = true ∧ (srcOf t 513).pending = true
      ∧ (flag s F.FAB_BRK_STATUS_DROP = false →
        fld t F.FAB_BRK_LAST0_CT = q.tag % 2 ^ F.FAB_BRK_LAST0_CT.w ∧ fld t F.FAB_BRK_LAST0_POINT = point
        ∧ fld t F.FAB_BRK_LAST0_ACC = accCode q.acc ∧ fld t F.FAB_BRK_LAST0_SRC = q.src % 2 ^ 16 ∧ fld t F.FAB_BRK_LAST1_TGT = tgt % 2 ^ 16
        ∧ fld t F.FAB_BRK_LAST1_GRANULE = gran % 2 ^ 13 ∧ fld t F.FAB_BRK_LAST2_ADDR_LO = addr % 2 ^ 32
        ∧ fld t F.FAB_BRK_LAST3_ADDR_HI = addr / 2 ^ 32 % 2 ^ 9)
      ∧ (flag s F.FAB_BRK_STATUS_DROP = true → flag t F.FAB_BRK_STATUS_OVERRUN = true
        ∧ ∀ f ∈ [F.FAB_BRK_LAST0_CT, F.FAB_BRK_LAST0_POINT, F.FAB_BRK_LAST0_ACC, F.FAB_BRK_LAST0_SRC, F.FAB_BRK_LAST1_TGT, F.FAB_BRK_LAST1_GRANULE,
            F.FAB_BRK_LAST2_ADDR_LO, F.FAB_BRK_LAST3_ADDR_HI], fld t f = fld s f)

/-- No two bytes of the data granules share a place on the stacks, where the granules of each row keep to the modes that R98 allows (R97, R98). -/
def Obligations.PlacementIsInjective : Prop :=
  ∀ d g₁ m₁ o₁ g₂ m₂ o₂ : Nat, 0 < d → g₁ < 32 * d → g₂ < 32 * d → o₁ < 2 ^ 28 → o₂ < 2 ^ 28 → m₁ ≤ 2 → m₂ ≤ 2 →
    (g₁ % d = g₂ % d → (m₁ = 0 ↔ m₂ = 0) ∧ (g₁ / d / 8 = g₂ / d / 8 → m₁ = m₂)) →
    placeByte d g₁ m₁ o₁ = placeByte d g₂ m₂ o₂ → g₁ = g₂ ∧ o₁ = o₂

/-- A stored word without error reads clean, and the decoder corrects every error of one or two stored bits, counting the bits (R109, R110). -/
def Obligations.WordCodeCorrects : Prop :=
  ∀ d : Dword, decodeWord d (wordCode d) = .clean
    ∧ (∀ i : Nat, i < 79 → decodeWord (flipPos d (wordCode d) i).1 (flipPos d (wordCode d) i).2 = .corrected d (wordCode d) 1)
    ∧ ∀ i j : Nat, i < j → j < 79 →
      decodeWord (flipPos (flipPos d (wordCode d) i).1 (flipPos d (wordCode d) i).2 j).1
        (flipPos (flipPos d (wordCode d) i).1 (flipPos d (wordCode d) i).2 j).2 = .corrected d (wordCode d) 2

/-- An atomic returns the old operand and leaves in its place the result of its operation, of the operand's width; every other word of the line is unchanged (R102). -/
def Obligations.AtomicMeaning : Prop :=
  ∀ (l : Line) (op : AtomOp) (wide : Bool) (i : Fin 16) (x y : Dword),
    (applyAccess l (.atomic op wide i x y)).2 = .old (atomRead l wide i)
    ∧ atomRead (applyAccess l (.atomic op wide i x y)).1 wide i =
      atomCut wide (match op with
        | .add => atomRead l wide i + x
        | .swap => x
        | .cas => if atomRead l wide i = atomCut wide y then x else atomRead l wide i
        | .umin => if (atomCut wide x).toNat < (atomRead l wide i).toNat then x else atomRead l wide i
        | .umax => if (atomRead l wide i).toNat < (atomCut wide x).toNat then x else atomRead l wide i
        | .and => atomRead l wide i &&& x
        | .or => atomRead l wide i ||| x
        | .xor => atomRead l wide i ^^^ x)
    ∧ ∀ j : Fin 16, (if wide then j.val / 2 ≠ i.val / 2 else j ≠ i) →
      atomRead (applyAccess l (.atomic op wide i x y)).1 false j = atomRead l false j

/-- A line of a bank whose written bit is clear reads as zeros and leaves the state alone; its first write or atomic sets the bit, and the line then holds the write's
bytes merged into zeros (R128).
Where the rules leave the outcome open it is the model’s choice: log entries 4, 15. -/
def Obligations.TidepoolWrittenBits : Prop :=
  ∀ (s : State) (b o : Nat) (q : Req), Memory.wf s.mem = true → q.tag = 16 ∨ ownerOf s kBank b = some q.tag → (q.tag < 16 → fenceOn s (resKey kBank b) = false) →
    tpWrittenBit s b (o / 64) = false →
    (q.acc = .read → tpAccess s b o q = (some (.data 0), s))
    ∧ (q.acc ≠ .read → ∃ t, tpAccess s b o q = (some (applyAccess 0 q.acc).2, t) ∧ tpWrittenBit t b (o / 64) = true
      ∧ ∀ k : Nat, k < 8 → (tpWord t b (o / 64 * 8 + k)).data = lineWord (applyAccess 0 q.acc).1 k)

/-- A record goes to slot PROD mod 256, PROD advances and the cove's wrack source is raised; a full queue, which a ring that is not enabled counts as, loses it and counts it
in XL_WQ_OVERFLOW; a host-bus error sets WERR, loses the record in the same way, and PROD and SEQ do not advance. A HELD record that is lost sets OFL and kills its context, as ACTION 2
does (R149, R153, R154).
Where the rules leave the outcome open it is the model’s choice: log entry 9. -/
def Obligations.WrackQueueWrites : Prop :=
  (∀ (s : State) (c : Nat) (r : WrackRec), coveExists s c = true → Regs.wf s = true →
    (wrackFull s c = true → ∃ t, writeWrack s c r = (false, t) ∧ ctr t (C.XL_WQ_OVERFLOW c) = min (ctr s (C.XL_WQ_OVERFLOW c) + 1) maxCtr
      ∧ t.out = s.out ∧ OnlyChanges [.counters] s t)
    ∧ (wrackFull s c = false → s.env.hostWriteFails = true → ∃ t, writeWrack s c r = (false, t) ∧ flag t (F.XL_WQ_STATUS_WERR c) = true
      ∧ ctr t (C.XL_WQ_OVERFLOW c) = min (ctr s (C.XL_WQ_OVERFLOW c) + 1) maxCtr ∧ t.out = s.out
      ∧ fld t (F.XL_WQ_PROD_PROD c) = fld s (F.XL_WQ_PROD_PROD c) ∧ t.xl.wqSeq = s.xl.wqSeq)
    ∧ (wrackFull s c = false → s.env.hostWriteFails = false → ∃ t, writeWrack s c r = (true, t)
      ∧ fld t (F.XL_WQ_PROD_PROD c) = (fld s (F.XL_WQ_PROD_PROD c) + 1) % 65536
      ∧ .hostWrite 0 ((wrackBase s c + fld s (F.XL_WQ_PROD_PROD c) % 256 * 32) % 2 ^ 64) (wrackBytes s c r) ∈ t.out
      ∧ (raisable s (32 * c + 1) = true → (srcOf t (32 * c + 1)).pending = true))
    ∧ (flag s (F.XL_WQ_BASE_LO_EN c) = false → wrackFull s c = true)
    ∧ (flag s (F.XL_WQ_BASE_LO_EN c) = true → (wrackFull s c = true ↔
      (fld s (F.XL_WQ_PROD_PROD c) + 65536 - fld s (F.XL_WQ_CONS_CONS c)) % 65536 = 256)))
  ∧ ∀ (s u : State) (id reason level : Nat) (x : Xfer), tfind s.xl.xfers id = some x →
    writeWrack (incCtr (setXfer s id { x with stage := .held reason level }) (C.XL_CV_FAULT x.tag)) x.tag (faultRec x reason level) = (false, u) →
    (faultRec x reason level).held = true
    ∧ holdXfer s id reason level = killCtx (setFlag u (F.XL_WQ_STATUS_OFL x.tag) true) x.tag x.ctx
    ∧ (∀ (q : Requester) (c : CoveId) (ctx : BitVec 12), x.tag = c.val → x.ctx = ctx.toNat → Manages u q → coveExists u c.val = true →
      exec (.xlWqKill q c ctx) (setFlag u (F.XL_WQ_STATUS_OFL c.val) true) = .next (holdXfer s id reason level))

/-- An HREF holds the handle in its low 24 bits and INC above them, and every operation that names an object by an HREF with another INC than its entry's is refused with BADREF (R225). -/
def Obligations.StaleReferencesRefused : Prop :=
  (∀ h i : Nat, h < 2 ^ 24 → i < 256 → href h i % 2 ^ 24 = h ∧ href h i / 2 ^ 24 = i)
  ∧ ∀ (s s1 : State) (q : Requester) (c : CoveId) (e : ObjEnt), Reaches s q c.val → areaReady s c.val = true →
    (modEnt s c.val (obArg s q c.val 0 % 2 ^ 24) (fun _ => none) = (some e, s1) → e.inc ≠ obArg s q c.val 0 / 2 ^ 24 →
      exec (.obHold q c) s = .next (obAnswer s1 q c.val (.plain .badref)) ∧ exec (.obDrop q c) s = .next (obAnswer s1 q c.val (.plain .badref))
      ∧ exec (.obFree q c) s = .next (obAnswer s1 q c.val (.plain .badref)))
    ∧ (getEnt s c.val (obArg s q c.val 0 % 2 ^ 24) = (some e, s1) → e.inc ≠ obArg s q c.val 0 / 2 ^ 24 →
      exec (.obQuery q c) s = .next (obAnswer s1 q c.val (.plain .badref)))
    ∧ (getEnt s c.val (obArg s q c.val 1 % 2 ^ 24) = (some e, s1) → e.inc ≠ obArg s q c.val 1 / 2 ^ 24 →
      exec (.gSet q c) s = .next (obAnswer s1 q c.val (.plain .badref)))
    ∧ (∀ (ctx : BitVec 12) (h : Word) (ofs : BitVec 48), running s 94 = true → coveSt s c.val ≠ 4 → tgetD s.ob.lookups c.val [] = [] →
      getEnt s c.val (h.toNat % 2 ^ 24) = (some e, s1) → e.inc ≠ h.toNat / 2 ^ 24 →
      exec (.cpLookup c ctx h ofs) s = .next (emit s1 (.cpLookup c.val 1 0 0)))
    ∧ (∀ (ctx r : Nat) (rs : List Nat), getEnt s c.val (r % 2 ^ 24) = (some e, s1) → e.inc ≠ r / 2 ^ 24 → checkRefs s c.val ctx (r :: rs) = (4, s1))

/-- Charging t ns to a queue adds ⌊t × 1,024 ÷ SHARE⌋ to its VT, and a queue that gains eligible work after holding none takes at least the least VT of the queues of the
cove that hold eligible work (R259).
Where the rules leave the outcome open it is the model’s choice: log entry 27. -/
def Obligations.VirtualTime : Prop :=
  (∀ (s : State) (c q ctx ns : Nat), (queueOf s c q).ph ≠ .free → 1 ≤ (queueOf s c q).share →
    (queueOf (chargeTime s c q ctx ns) c q).vt = ((queueOf s c q).vt + ns * 1024 / (queueOf s c q).share) % 2 ^ 64)
  ∧ ∀ (s : State) (c q : Nat) (f : State → State), hasWork s c q = false → hasWork (f s) c q = true → (queueOf (f s) c q).ph ≠ .free →
    (∃ j, j < 64 ∧ j ≠ q ∧ hasWork (f s) c j = true) →
    ∃ j, j < 64 ∧ j ≠ q ∧ hasWork (f s) c j = true ∧ (queueOf (gaining s c q f) c q).vt = max (queueOf (f s) c q).vt (queueOf (f s) c j).vt
      ∧ ∀ k, k < 64 → k ≠ q → hasWork (f s) c k = true → (queueOf (f s) c j).vt ≤ (queueOf (f s) c k).vt

/-- A raise sets PENDING; while PENDING is set a further raise changes nothing; a source that is ACTIVE or has EN = 0 is neither released nor routed by it (R292). -/
def Obligations.RaisesMerge : Prop :=
  ∀ (s : State) (i : Nat), raisable s i = true →
    ((srcOf s i).pending = true → raiseSrc s i = s)
    ∧ (srcOf (raiseSrc s i) i).pending = true
    ∧ ((srcOf s i).pending = false → (srcOf s i).active = true ∨ (srcOf s i).en = false →
      srcOf (raiseSrc s i) i = { srcOf s i with pending := true })

/-- A claim takes the pending, unheld source routed to the target with the lowest PRIO, and of these the lowest number: PENDING clears, ACTIVE is set with the target as its
service target, and VALID with the number is returned; with nothing to claim it returns 0 and changes nothing (R298).
Where the rules leave the outcome open it is the model’s choice: log entry 19. -/
def Obligations.ClaimTakesTheBestSource : Prop :=
  ∀ (s : State) (t : Nat), s.bc.srcs.sorted = true →
    ((∀ i, ¬ ((srcOf s i).pending = true ∧ (srcOf s i).held = false ∧ (srcOf s i).route = some t)) → claimTgt s t = (0, s))
    ∧ (∀ j : Nat, (srcOf s j).pending = true → (srcOf s j).held = false → (srcOf s j).route = some t →
      ∃ i, (srcOf s i).pending = true ∧ (srcOf s i).held = false ∧ (srcOf s i).route = some t
        ∧ ((srcOf s i).prio < (srcOf s j).prio ∨ (srcOf s i).prio = (srcOf s j).prio ∧ i ≤ j)
        ∧ claimTgt s t = (BitVec.ofNat 32 (2 ^ 31 + i), setSrc s i { srcOf s i with pending := false, active := true, svc := t, route := none }))

/-- The registers of R161 are the driver's and the manager's: a virtual function's commands on them in its own window change nothing, and neither does a register write of it from
XL_WQ_CONS to the last of the XL_INV_ registers, XL_WQ_STATUS and the staging registers among them (R161).
Where the rules leave the outcome open it is the model’s choice: log entry 17. -/
def Obligations.VirtualFunctionsLeaveTheDriversRegisters : Prop :=
  ∀ (s : State) (c : CoveId) (v : Word) (ctx : BitVec 12), hostClosed s = false →
    exec (.xlWqCons (.vf c) c v) s = .next s ∧ exec (.xlWqReplay (.vf c) c ctx) s = .next s ∧ exec (.xlWqKill (.vf c) c ctx) s = .next s
    ∧ exec (.xlInvGo (.vf c) c) s = .next s
    ∧ ∀ (off : BitVec 25) (x : WriteData), off.toNat % 4 = 0 → winBase c.val + 0x3004 ≤ off.toNat → off.toNat ≤ winBase c.val + 0x3040 →
      exec (.regWrite (.vf c) off x) s = .next s

/-- A virtual function never reaches the fabric-global space: every command on a register there, every register write at an offset there and every read of a counter there is answered with
Unsupported Request and changes nothing (R6). Its accesses to another cove's window are dropped there: they are recorded as a breakwater drop, and no field of a window but its own
changes (R20–R22).
Where the rules leave the outcome open it is the model’s choice: log entry 11. -/
def Obligations.VirtualFunctionsStayInTheirWindow : Prop :=
  ∀ (s : State) (n : CoveId), hostClosed s = false →
    (∀ i : Instr, fabricCmd i = some (.vf n) → exec i s = .next (emit s (.unsupported (.vf n))))
    ∧ (∀ off : BitVec 25, inWin off.toNat = false → (∀ x : WriteData, exec (.regWrite (.vf n) off x) s = .next (emit s (.unsupported (.vf n))))
      ∧ (isCtrLo off.toNat = true → exec (.counterLoRead (.vf n) off) s = .next (emit s (.unsupported (.vf n)))))
    ∧ (∀ off : BitVec 25, inWin off.toNat = true → off.toNat % 4 = 0 → offCove off.toNat ≠ n →
      (∀ x : WriteData, exec (.regWrite (.vf n) off x) s = .next (winDrop s n.val (offCove off.toNat).val true off.toNat))
      ∧ (isCtrLo off.toNat = true → exec (.counterLoRead (.vf n) off) s =
        .next (emit (winDrop s n.val (offCove off.toNat).val false off.toNat) (.unsupported (.vf n)))))
    ∧ ∀ (c d : CoveId) (w : Bool) (off : Nat) (f : Fld), d ≠ n → f.off / 0x100000 = 16 + d.val → f.lo < 32 →
      fld (winDrop s n.val c.val w off) f = fld s f

/-- A write of a code to LC_NEXT that is refused sets REFUSED and its cause and raises source 523, and starts no programming; the causes are those of R360: 3 for code 4
in Scrapped or with BADFUSE, where it is accepted otherwise, also while another transition is pending; 2 for another code while one is pending; and 1 for a code that the present
state does not accept. An accepted code is queued to be programmed (R358–R360).
Where the rules leave the outcome open it is the model’s choice: log entry 48. -/
def Obligations.LifecycleRequests : Prop :=
  ∀ (s : State) (q : Requester) (v : Word), Manages s q →
    (∀ k : Nat, nextRefusal s (v.toNat % 8) = some k → ∃ t, exec (.lcNext q v) s = .next t ∧ flag t F.LC_STATUS_REFUSED = true
      ∧ fld t F.LC_STATUS_CODE = k ∧ (srcOf t 523).pending = true ∧ t.lc = s.lc ∧ fld t F.LC_NEXT_CODE = fld s F.LC_NEXT_CODE)
    ∧ (nextRefusal s (v.toNat % 8) = none → ∃ t, exec (.lcNext q v) s = .next t ∧ flag t F.LC_STATUS_PENDING = true
      ∧ t.lc.prog = s.lc.prog ++ [v.toNat % 8] ∧ t.lc.fuses = s.lc.fuses)
    ∧ (v.toNat % 8 = 4 → (nextRefusal s 4 = some 3 ↔ fld s F.LC_STATE_STATE = 4 ∨ flag s F.LC_STATE_BADFUSE = true))
    ∧ (v.toNat % 8 = 4 → fld s F.LC_STATE_STATE ≠ 4 → flag s F.LC_STATE_BADFUSE = false → nextRefusal s 4 = none)
    ∧ (v.toNat % 8 ≠ 4 → flag s F.LC_STATUS_PENDING = false →
      ¬ (v.toNat % 8 = fld s F.LC_STATE_STATE + 1 ∧ fld s F.LC_STATE_STATE < 3) → nextRefusal s (v.toNat % 8) = some 1)
    ∧ (v.toNat % 8 ≠ 4 → flag s F.LC_STATUS_PENDING = true → nextRefusal s (v.toNat % 8) = some 2)
    ∧ (v.toNat % 8 ≠ 4 → flag s F.LC_STATUS_PENDING = false → (nextRefusal s (v.toNat % 8) = none ↔
      v.toNat % 8 = fld s F.LC_STATE_STATE + 1 ∧ fld s F.LC_STATE_STATE < 3))

/-- A probe of a row under a generation takes, among the valid entries of the row with BORN at most the generation, one with the largest BORN, and misses when there is none (R199). -/
def Obligations.ProbeTakesTheNewestPublished : Prop :=
  ∀ (l : List OvlEnt) (r g : Nat),
    (∀ e : OvlEnt, probeEnts l r g = some e → e ∈ l ∧ e.v = true ∧ e.row = r ∧ e.born ≤ g
      ∧ ∀ f ∈ l, f.v = true → f.row = r → f.born ≤ g → f.born ≤ e.born)
    ∧ (probeEnts l r g = none ↔ ∀ f ∈ l, ¬ (f.v = true ∧ f.row = r ∧ f.born ≤ g))

/-- The ranking of a segment: at most K scores, each with its position in the segment, best first, equal scores and NaNs in position order, and no score
left out stands before one that is listed. One score stands before another by value in the direction of DESC, −0 equal to +0, and a NaN stands after every number in either direction: the order is
that of the sign and magnitude of the FP32 words (R211). -/
def Obligations.RankingIsBestFirst : Prop :=
  ∀ (desc : Bool) (k : Nat) (l : List Word),
    (∀ a b : Word, before desc a b = true ↔ a.toNat % 2 ^ 31 ≤ 0x7F800000 ∧ (0x7F800000 < b.toNat % 2 ^ 31
      ∨ (if desc then (if b.msb then -(b.toNat % 2 ^ 31 : Int) else b.toNat % 2 ^ 31) < (if a.msb then -(a.toNat % 2 ^ 31 : Int) else a.toNat % 2 ^ 31)
         else (if a.msb then -(a.toNat % 2 ^ 31 : Int) else a.toNat % 2 ^ 31) < (if b.msb then -(b.toNat % 2 ^ 31 : Int) else b.toNat % 2 ^ 31))))
    ∧ (topScores desc k l).length = min k l.length
    ∧ (∀ e ∈ topScores desc k l, l[e.2]? = some e.1)
    ∧ (topScores desc k l).Pairwise (fun a b => before desc b.1 a.1 = false ∧ (before desc a.1 b.1 = false → a.2 < b.2))
    ∧ ∀ (e : Word × Nat) (i : Nat) (w : Word), e ∈ topScores desc k l → l[i]? = some w → (w, i) ∉ topScores desc k l →
      before desc w e.1 = false

/-- Each issue takes one unit of a regulator's credit; a master whose credit is 0 issues nothing, and the last unit sets HELD; a regulator of unlimited credit takes none (R278).
Where the rules leave the outcome open it is the model’s choice: log entry 27. -/
def Obligations.CreditIsTakenAtIssue : Prop :=
  ∀ (s : State) (r : Nat),
    ((regulOf s r).unlimited = false → (regulOf s r).credit = 0 → charge s r = none)
    ∧ ((regulOf s r).unlimited = false → 0 < (regulOf s r).credit → s.bw.sorted = true → ∃ t, charge s r = some t
      ∧ (regulOf t r).credit = (regulOf s r).credit - 1 ∧ ((regulOf s r).credit = 1 → (regulOf t r).held = true)
      ∧ ∀ j, j ≠ r → regulOf t j = regulOf s j)
    ∧ ((regulOf s r).unlimited = true → s.bw.sorted = true → ∃ t, charge s r = some t ∧ (regulOf t r).credit = (regulOf s r).credit)

/-- The frame of every command: a part of the state that `frameOf` does not name for it reads as before, and what the fabric is connected to
changes at the release of a command processor's reset alone, whose CP_IDLE is then high.
Where the rules leave the outcome open it is the model’s choice: log entry 6. -/
def Obligations.CommandFrames : Prop :=
  ∀ (c : Instr) (s t : State), exec c s = .next t → OnlyChanges (frameOf c) s t

/-- After a full-line write that completes, a read of the same line under the same tag gives the data back, whatever keys and codes stand between (R101, R106–R113, R118, R122). No
injection is armed on the line, its key is in use, and no zero-fill runs over its granule.
Where the rules leave the outcome open it is the model’s choice: log entries 5, 20. -/
def Obligations.ReadsGiveWhatWasWritten : Prop :=
  ∀ (s t : State) (link : Bool) (q : Req) (l : Line) (g n sda : Nat), decodeFpa s q.fpa = .data g →
    placeByte (dataPer s) g (granOf s g).mode (q.fpa % 2 ^ 28) = (n, sda) → injects s n q.fpa = false → s.mem.kr.sorted = true → fillOf s g = none →
    writeKid s g < 64 → (writeKid s g ≠ 0 → (kidOf s (writeKid s g)).st ≠ .free) →
    (∀ x ∈ tgetD s.mem.mdc (mdcKey n (metaLine s sda)) [], x.line ≠ sda / 64) →
    memAccess s link { q with acc := .write (BitVec.allOnes 64) l } = (some .done, t) →
    ∃ u, memAccess t false { q with acc := .read } = (some (.data l), u)

/-- An access to a data granule leaves the stored bits of every other line as they were, but for metadata lines that the controller's cache writes back, and, where the link to the stack
fails, the data lines that such a metadata line describes, which the lost write poisons; an access to the tidepool leaves every line of the stacks (R101, R103, R105). -/
def Obligations.AccessesLeaveOtherLines : Prop :=
  ∀ (s t : State) (link : Bool) (q : Req) (r : Option Resp) (m line : Nat), memAccess s link q = (r, t) →
    (∀ g n sda : Nat, decodeFpa s q.fpa = .data g → placeByte (dataPer s) g (granOf s g).mode (q.fpa % 2 ^ 28) = (n, sda) →
      lineKey m line ≠ lineKey n (sda / 64) → lineKey m line ≠ lineKey n (metaLine s sda) →
      (∀ e ∈ s.mem.mdc, ∀ x ∈ e.2, lineKey n x.line ≠ lineKey m line
        ∧ (tgetD s.env.linkFails n false = true → ∀ w : Nat, w < 8 → lineKey n (8 * (x.line - dataPer s * 2 ^ 22) + w) ≠ lineKey m line)) → rawLine t m line = rawLine s m line)
    ∧ ((∀ g : Nat, decodeFpa s q.fpa ≠ .data g) → rawLine t m line = rawLine s m line)
end

