-- ==== Sys2Proof/Laws/Ext.lean ====
section
/-!
SUPPORT. What every operation of the machine leaves true, and the parts it may change.
-/
namespace Sys2Proof.Machine

/-- The place of a part in a mask. -/
def Part.bit : Part → Nat
  | .regs => 0 | .counters => 1 | .latches => 2 | .plan => 3 | .tide => 4 | .mem => 5 | .xl => 6 | .bw => 7 | .beacon => 8
  | .clocks => 9 | .logbook => 10 | .life => 11 | .objects => 12 | .sched => 13 | .engines => 14 | .sessions => 15 | .env => 16

/-- `t` comes from `s` by operations that change no part outside the mask `m`. -/
structure Ext (m : Nat) (s t : State) : Prop where
  queue : t.pending = s.pending
  env : t.env = s.env
  free : s.freeCtr ≤ t.freeCtr
  out : s.out <:+ t.out
  regs : Regs.wf s = true → Regs.wf t = true
  mem : Memory.wf s.mem = true → Memory.wf t.mem = true
  fuse : s.lc.fuses.kept t.lc.fuses
  same : ∀ p : Part, m.testBit p.bit = false → p.same s t

theorem Fuses.kept_refl (a : Fuses) : a.kept a := ⟨fun _ h => h, fun h => h, fun h => h⟩
theorem Fuses.kept_trans {a b c : Fuses} (h : a.kept b) (k : b.kept c) : a.kept c :=
  ⟨fun i x => k.1 i (h.1 i x), fun x => k.2.1 (h.2.1 x), fun x => k.2.2 (h.2.2 x)⟩

theorem Ext.refl (m : Nat) (s : State) : Ext m s s :=
  ⟨rfl, rfl, Nat.le_refl _, List.suffix_refl _, id, id, Fuses.kept_refl _, fun p _ => by cases p <;> exact rfl⟩

theorem Part.same_trans {p : Part} {s t u : State} (h : p.same s t) (k : p.same t u) : p.same s u := by
  cases p <;> exact Eq.trans k h

theorem testBit_sub {m n i : Nat} (h : n &&& m = n) (hm : m.testBit i = false) : n.testBit i = false := by
  rw [← h, Nat.testBit_and, hm, Bool.and_false]

theorem sub_trans {n k m : Nat} (h : n &&& k = n) (g : k &&& m = k) : n &&& m = n := by
  rw [← h, Nat.and_assoc, g]

theorem Ext.step {m n : Nat} {s t u : State} (h : Ext m s t) (k : Ext n t u) (hn : n &&& m = n) : Ext m s u where
  queue := k.queue.trans h.queue
  env := k.env.trans h.env
  free := Nat.le_trans h.free k.free
  out := h.out.trans k.out
  regs := fun x => k.regs (h.regs x)
  mem := fun x => k.mem (h.mem x)
  fuse := Fuses.kept_trans h.fuse k.fuse
  same := fun p hp => Part.same_trans (h.same p hp) (k.same p (testBit_sub hn hp))

theorem Ext.seq {m n : Nat} {s t u : State} (k : Ext n t u) (hn : n &&& m = n) (h : Ext m s t) : Ext m s u := h.step k hn

/-- A record update that leaves the queue, the outputs, the registers, the stored bits and the fuses. -/
theorem Ext.raw {m : Nat} {s0 s : State} {latches plan tide mem xl bw bc ck lb lc ob sq en sc} (h : Ext m s0 s)
    (e1 : mem.lines = s.mem.lines) (e2 : mem.mdc = s.mem.mdc) (e3 : mem.tpw = s.mem.tpw)
    (e4 : mem.tpWritten = s.mem.tpWritten) (e5 : lc.fuses = s.lc.fuses)
    (same : ∀ p : Part, m.testBit p.bit = false → p.same s
      ⟨s.pending, s.freeCtr, s.out, s.flds, s.ctrs, latches, plan, tide, mem, xl, bw, bc, s.env, ck, lb, lc, ob, sq, en, sc⟩) :
    Ext m s0
      ⟨s.pending, s.freeCtr, s.out, s.flds, s.ctrs, latches, plan, tide, mem, xl, bw, bc, s.env, ck, lb, lc, ob, sq, en, sc⟩ where
  queue := h.queue
  env := h.env
  free := h.free
  out := h.out
  regs := h.regs
  mem := fun x => by have y := h.mem x; unfold Memory.wf at y ⊢; rw [e1, e2, e3, e4]; exact y
  fuse := e5 ▸ h.fuse
  same := fun p hp => Part.same_trans (h.same p hp) (same p hp)

theorem Ext.of_snd {α : Type} {m : Nat} {s t : State} {p : α × State} {a : α} (e : p = (a, t)) (h : Ext m s p.2) :
    Ext m s t := by rw [e] at h; exact h
theorem Ext.of_fst {α : Type} {m : Nat} {s t : State} {p : State × α} {a : α} (e : p = (t, a)) (h : Ext m s p.1) :
    Ext m s t := by rw [e] at h; exact h
theorem Ext.of_third {α β : Type} {m : Nat} {s t : State} {p : α × β × State} {a : α} {b : β} (e : p = (a, b, t))
    (h : Ext m s p.2.2) : Ext m s t := by rw [e] at h; exact h

theorem Ext.foldl {α : Type} {m : Nat} {s0 : State} (f : State → α → State) (hf : ∀ s a, Ext m s (f s a)) (l : List α) :
    ∀ s, Ext m s0 s → Ext m s0 (l.foldl f s) := by
  induction l with
  | nil => intro s h; exact h
  | cons a l ih => intro s h; exact ih _ (h.step (hf s a) (Nat.and_self m))

theorem Ext.fold_on {α β : Type} {m : Nat} {s0 : State} (g : β → State) (f : β → α → β)
    (hf : ∀ b a, Ext m (g b) (g (f b a))) (l : List α) : ∀ b, Ext m s0 (g b) → Ext m s0 (g (l.foldl f b)) := by
  induction l with
  | nil => intro b h; exact h
  | cons a l ih => intro b h; exact ih _ (h.step (hf b a) (Nat.and_self m))

end Sys2Proof.Machine
end

