-- ==== Sys2Proof/Laws/Table.lean ====
section
/-!
SUPPORT. Tables: what a lookup gives after an update, and that every update keeps the canonical form.
-/
namespace Sys2Proof.Machine

variable {α : Type}

theorem Tbl.sorted_iff (t : Tbl α) : t.sorted = true ↔ t.Pairwise (fun a b => a.1 < b.1) := by
  match t with
  | [] => simp [Tbl.sorted]
  | [x] => simp [Tbl.sorted]
  | (j, v) :: (k, w) :: t =>
    have ih := Tbl.sorted_iff ((k, w) :: t)
    simp only [Tbl.sorted, Bool.and_eq_true, decide_eq_true_eq, ih]
    constructor
    · rintro ⟨h, p⟩
      refine List.pairwise_cons.2 ⟨fun x hx => ?_, p⟩
      rcases List.mem_cons.1 hx with rfl | hx
      · exact h
      · exact Nat.lt_trans h ((List.pairwise_cons.1 p).1 x hx)
    · intro p
      exact ⟨(List.pairwise_cons.1 p).1 _ (List.mem_cons_self ..), (List.pairwise_cons.1 p).2⟩

theorem mem_tput {t : Tbl α} {k : Nat} {v : α} {x : Nat × α} (h : x ∈ tput t k v) : x = (k, v) ∨ x ∈ t := by
  induction t with
  | nil => simp only [tput, List.mem_singleton] at h; exact .inl h
  | cons y t ih =>
    obtain ⟨j, w⟩ := y
    simp only [tput] at h
    split at h
    · exact List.mem_cons.1 h
    · split at h
      · rcases List.mem_cons.1 h with h | h
        · exact .inl h
        · exact .inr (List.mem_cons_of_mem _ h)
      · rcases List.mem_cons.1 h with h | h
        · exact .inr (h ▸ List.mem_cons_self ..)
        · exact (ih h).imp id (List.mem_cons_of_mem _)

theorem tput_pairwise {t : Tbl α} (h : t.Pairwise (fun a b => a.1 < b.1)) (k : Nat) (v : α) :
    (tput t k v).Pairwise (fun a b => a.1 < b.1) := by
  induction t with
  | nil => exact List.pairwise_singleton _ _
  | cons y t ih =>
    obtain ⟨j, w⟩ := y
    have hj := (List.pairwise_cons.1 h).1
    have ht := (List.pairwise_cons.1 h).2
    simp only [tput]
    split
    · next hk =>
      refine List.pairwise_cons.2 ⟨fun x hx => ?_, h⟩
      rcases List.mem_cons.1 hx with rfl | hx
      · exact hk
      · exact Nat.lt_trans hk (hj x hx)
    · split
      · next _ hk => exact List.pairwise_cons.2 ⟨fun x hx => hk ▸ hj x hx, ht⟩
      · next h1 h2 =>
        refine List.pairwise_cons.2 ⟨fun x hx => ?_, ih ht⟩
        rcases mem_tput hx with rfl | hx
        · exact Nat.lt_of_le_of_ne (Nat.le_of_not_lt h1) (Ne.symm h2)
        · exact hj x hx

theorem tdel_sublist (t : Tbl α) (k : Nat) : (tdel t k).Sublist t := by
  induction t with
  | nil => exact List.Sublist.refl _
  | cons y t ih =>
    obtain ⟨j, w⟩ := y
    simp only [tdel]
    split
    · exact List.sublist_cons_self _ _
    · exact ih.cons_cons _

theorem tput_sorted {t : Tbl α} (h : t.sorted = true) (k : Nat) (v : α) : (tput t k v).sorted = true :=
  (Tbl.sorted_iff _).2 (tput_pairwise ((Tbl.sorted_iff _).1 h) k v)

theorem sublist_sorted {t u : Tbl α} (h : t.sorted = true) (hs : u.Sublist t) : u.sorted = true :=
  (Tbl.sorted_iff _).2 (((Tbl.sorted_iff _).1 h).sublist hs)

theorem tsetD_sorted [DecidableEq α] {t : Tbl α} (h : t.sorted = true) (k : Nat) (d v : α) :
    (tsetD t k d v).sorted = true := by
  unfold tsetD
  split
  · exact sublist_sorted h (tdel_sublist _ _)
  · exact tput_sorted h k v

theorem mem_tsetD [DecidableEq α] {t : Tbl α} {k : Nat} {d v : α} {x : Nat × α} (h : x ∈ tsetD t k d v) :
    (x = (k, v) ∧ v ≠ d) ∨ x ∈ t := by
  unfold tsetD at h
  split at h
  · exact .inr ((tdel_sublist _ _).subset h)
  · next hv => exact (mem_tput h).imp (fun e => ⟨e, hv⟩) id

theorem Tbl.wf_iff [DecidableEq α] (d : Nat → α) (t : Tbl α) :
    t.wf d = true ↔ t.sorted = true ∧ ∀ e ∈ t, e.2 ≠ d e.1 := by
  simp [Tbl.wf]

theorem tsetD_wf [DecidableEq α] {d : Nat → α} {t : Tbl α} (h : t.wf d = true) (k : Nat) (v : α) :
    (tsetD t k (d k) v).wf d = true := by
  rw [Tbl.wf_iff] at h ⊢
  refine ⟨tsetD_sorted h.1 _ _ _, fun e he => ?_⟩
  rcases mem_tsetD he with ⟨rfl, hv⟩ | he
  · exact hv
  · exact h.2 e he

theorem sublist_wf [DecidableEq α] {d : Nat → α} {t u : Tbl α} (h : t.wf d = true) (hs : u.Sublist t) : u.wf d = true := by
  rw [Tbl.wf_iff] at h ⊢
  exact ⟨sublist_sorted h.1 hs, fun e he => h.2 e (hs.subset he)⟩

/-! ### Lookup after an update -/

theorem tfind_tput_self (t : Tbl α) (k : Nat) (v : α) : tfind (tput t k v) k = some v := by
  induction t with
  | nil => simp [tput, tfind]
  | cons y t ih =>
    obtain ⟨j, w⟩ := y
    simp only [tput]
    split
    · simp [tfind]
    · split
      · simp [tfind]
      · next _ hk => simp [tfind, Ne.symm hk, ih]

theorem tfind_tput_ne (t : Tbl α) {k j : Nat} (v : α) (h : j ≠ k) : tfind (tput t k v) j = tfind t j := by
  induction t with
  | nil => simp [tput, tfind, Ne.symm h]
  | cons y t ih =>
    obtain ⟨i, w⟩ := y
    simp only [tput]
    split
    · simp [tfind, Ne.symm h]
    · split
      · next _ hk => subst hk; simp [tfind, Ne.symm h]
      · simp only [tfind, ih]

theorem tfind_tdel_ne (t : Tbl α) {k j : Nat} (h : j ≠ k) : tfind (tdel t k) j = tfind t j := by
  induction t with
  | nil => rfl
  | cons y t ih =>
    obtain ⟨i, w⟩ := y
    simp only [tdel]
    split
    · next hi => subst hi; simp [tfind, Ne.symm h]
    · simp only [tfind, ih]

theorem tfind_eq_none_of_lt {t : Tbl α} {k : Nat} (h : ∀ e ∈ t, k < e.1) : tfind t k = none := by
  induction t with
  | nil => rfl
  | cons y t ih =>
    obtain ⟨i, w⟩ := y
    have := h (i, w) (List.mem_cons_self ..)
    simp only [tfind]
    rw [if_neg (Nat.ne_of_gt this)]
    exact ih (fun e he => h e (List.mem_cons_of_mem _ he))

theorem tfind_tdel_self {t : Tbl α} (h : t.sorted = true) (k : Nat) : tfind (tdel t k) k = none := by
  rw [Tbl.sorted_iff] at h
  induction t with
  | nil => rfl
  | cons y t ih =>
    obtain ⟨i, w⟩ := y
    simp only [tdel]
    split
    · next hi => subst hi; exact tfind_eq_none_of_lt (List.pairwise_cons.1 h).1
    · next hi => simp only [tfind, if_neg hi]; exact ih (List.pairwise_cons.1 h).2

theorem tgetD_tsetD_ne [DecidableEq α] (t : Tbl α) {k j : Nat} (d d' v : α) (h : j ≠ k) :
    tgetD (tsetD t k d v) j d' = tgetD t j d' := by
  unfold tgetD tsetD
  split
  · rw [tfind_tdel_ne t h]
  · rw [tfind_tput_ne t v h]

theorem tgetD_tsetD_self [DecidableEq α] {t : Tbl α} (h : t.sorted = true) (k : Nat) (d v : α) :
    tgetD (tsetD t k d v) k d = v := by
  unfold tgetD tsetD
  split
  · next hv => rw [tfind_tdel_self h]; exact hv.symm
  · rw [tfind_tput_self]; rfl

end Sys2Proof.Machine
end

