-- ==== Sys2Proof/Laws/Basic.lean ====
section
/-!
SUPPORT. What the elementary operations do: register fields, counters, outputs, free values, stored bits.
-/
namespace Sys2Proof.Machine

theorem Regs.wf_iff (s : State) :
    Regs.wf s = true ↔ s.flds.sorted = true ∧ s.ctrs.wf (fun _ => 0) = true ∧ ∀ e ∈ s.ctrs, e.2 ≤ maxCtr := by
  simp [Regs.wf, and_assoc]

theorem Memory.wf_iff (m : MemSt) : Memory.wf m = true ↔ m.lines.wf (fun _ => RawLine.zero) = true
    ∧ m.mdc.wf (fun _ => []) = true ∧ m.tpw.wf (fun _ => TpWord.zero) = true ∧ m.tpWritten.wf (fun _ => false) = true := by
  simp [Memory.wf, and_assoc]

theorem setFld_ext (s : State) (f : Fld) (v : Nat) : Ext 1 s (setFld s f v) where
  queue := rfl
  env := rfl
  free := Nat.le_refl _
  out := List.suffix_refl _
  regs := fun h => by
    rw [Regs.wf_iff] at h ⊢
    exact ⟨tsetD_sorted h.1 _ _ _, h.2⟩
  mem := id
  fuse := Fuses.kept_refl _
  same := fun p hp => by cases p <;> first | exact absurd hp (by decide) | exact rfl

theorem setFlag_ext (s : State) (f : Fld) (b : Bool) : Ext 1 s (setFlag s f b) := setFld_ext s f _

theorem setFld64_ext (s : State) (lo hi : Fld) (v : Nat) : Ext 1 s (setFld64 s lo hi v) :=
  (setFld_ext s lo v).step (setFld_ext _ hi _) (by decide)

theorem setCtr_ext (s : State) (c v : Nat) : Ext 2 s (setCtr s c v) where
  queue := rfl
  env := rfl
  free := Nat.le_refl _
  out := List.suffix_refl _
  regs := fun h => by
    rw [Regs.wf_iff] at h ⊢
    refine ⟨h.1, tsetD_wf h.2.1 _ _, fun e he => ?_⟩
    rcases mem_tsetD he with ⟨rfl, _⟩ | he
    · exact Nat.le_pred_of_lt (Nat.mod_lt _ (by decide))
    · exact h.2.2 e he
  mem := id
  fuse := Fuses.kept_refl _
  same := fun p hp => by cases p <;> first | exact absurd hp (by decide) | exact rfl

theorem addCtr_ext (s : State) (c n : Nat) : Ext 2 s (addCtr s c n) := setCtr_ext s c _
theorem incCtr_ext (s : State) (c : Nat) : Ext 2 s (incCtr s c) := setCtr_ext s c _

theorem emit_ext (s : State) (o : Out) : Ext 0 s (emit s o) where
  queue := rfl
  env := rfl
  free := Nat.le_refl _
  out := List.suffix_cons _ _
  regs := id
  mem := id
  fuse := Fuses.kept_refl _
  same := fun p _ => by cases p <;> exact rfl

theorem drawFree_ext (s : State) (w : Nat) : Ext 0 s (drawFree s w).2 where
  queue := rfl
  env := rfl
  free := Nat.le_succ _
  out := List.suffix_refl _
  regs := id
  mem := id
  fuse := Fuses.kept_refl _
  same := fun p _ => by cases p <;> exact rfl

theorem setRaw_ext (s : State) (n line : Nat) (r : RawLine) : Ext 32 s (setRaw s n line r) where
  queue := rfl
  env := rfl
  free := Nat.le_refl _
  out := List.suffix_refl _
  regs := id
  mem := fun h => by
    rw [Memory.wf_iff] at h ⊢
    exact ⟨tsetD_wf h.1 _ _, h.2⟩
  fuse := Fuses.kept_refl _
  same := fun p hp => by cases p <;> first | exact absurd hp (by decide) | exact rfl

theorem setMdc_ext (s : State) (n line : Nat) (l : List MdcEnt) : Ext 32 s (setMdc s n line l) where
  queue := rfl
  env := rfl
  free := Nat.le_refl _
  out := List.suffix_refl _
  regs := id
  mem := fun h => by
    rw [Memory.wf_iff] at h ⊢
    exact ⟨h.1, tsetD_wf h.2.1 _ _, h.2.2⟩
  fuse := Fuses.kept_refl _
  same := fun p hp => by cases p <;> first | exact absurd hp (by decide) | exact rfl

theorem setTp_ext (s : State) (bank w : Nat) (v : TpWord) : Ext 32 s (setTp s bank w v) where
  queue := rfl
  env := rfl
  free := Nat.le_refl _
  out := List.suffix_refl _
  regs := id
  mem := fun h => by
    rw [Memory.wf_iff] at h ⊢
    exact ⟨h.1, h.2.1, tsetD_wf h.2.2.1 _ _, h.2.2.2⟩
  fuse := Fuses.kept_refl _
  same := fun p hp => by cases p <;> first | exact absurd hp (by decide) | exact rfl

theorem setTpWritten_ext (s : State) (bank line : Nat) (b : Bool) : Ext 32 s (setTpWritten s bank line b) where
  queue := rfl
  env := rfl
  free := Nat.le_refl _
  out := List.suffix_refl _
  regs := id
  mem := fun h => by
    rw [Memory.wf_iff] at h ⊢
    exact ⟨h.1, h.2.1, h.2.2.1, tsetD_wf h.2.2.2 _ _⟩
  fuse := Fuses.kept_refl _
  same := fun p hp => by cases p <;> first | exact absurd hp (by decide) | exact rfl

/-! ### Raising a source changes registers and the beacon -/

theorem setSrc_ext (s : State) (i : Nat) (v : Src) : Ext 256 s (setSrc s i v) :=
  (Ext.refl 256 s).raw rfl rfl rfl rfl rfl (fun p hp => by cases p <;> first | exact absurd hp (by decide) | exact rfl)

theorem setTgt_ext (s : State) (t : Nat) (v : Tgt) : Ext 256 s (setTgt s t v) :=
  (Ext.refl 256 s).raw rfl rfl rfl rfl rfl (fun p hp => by cases p <;> first | exact absurd hp (by decide) | exact rfl)

theorem sendLine_ext (s : State) (t : Nat) : Ext 256 s (sendLine s t) := by
  unfold sendLine
  dsimp only
  split
  · split
    · exact (Ext.refl 256 s).step (emit_ext ..) (by decide)
    · exact setTgt_ext ..
  · exact Ext.refl _ _

theorem riseLine_ext (s : State) (t : Nat) : Ext 256 s (riseLine s t) := by
  unfold riseLine
  split
  · exact sendLine_ext s t
  · exact (Ext.refl 256 s).raw rfl rfl rfl rfl rfl (fun p hp => by cases p <;> first | exact absurd hp (by decide) | exact rfl)

theorem deliver_ext {m : Nat} {s s1 : State} (h : Ext m s s1) (hm : 256 &&& m = 256) : Ext m s (deliver s s1) := by
  have h2 : Ext m s ((List.range 64).foldl (fun x t => if lineReq s1 t && !lineReq s t then riseLine x t else x) s1) := by
    refine Ext.foldl _ (fun x t => ?_) _ _ h
    split
    · exact (Ext.refl m x).step (riseLine_ext x t) hm
    · exact Ext.refl _ _
  unfold deliver
  dsimp only
  split
  · exact h2.step (emit_ext ..) (Nat.zero_and _)
  · exact h2

theorem fallBack_ext (s : State) (i : Nat) : Ext 257 s (fallBack s i).1 := by
  unfold fallBack
  dsimp only
  split
  · exact ((Ext.refl 257 s).step (setSrc_ext ..) (by decide)).step (setFlag_ext ..) (by decide)
  · exact (Ext.refl 257 s).step (setFlag_ext ..) (by decide)

theorem routeSrc_ext (s : State) (i : Nat) : Ext 257 s (routeSrc s i).1 := by
  unfold routeSrc
  dsimp only
  split
  · split
    · exact ((Ext.refl 257 s).step (setSrc_ext ..) (by decide)).step (setFld_ext ..) (by decide)
    · exact (Ext.refl 257 s).step (setFlag_ext ..) (by decide)
  · split
    · exact (Ext.refl 257 s).step (setSrc_ext ..) (by decide)
    · exact fallBack_ext s i

theorem holdoff_ext (s : State) (i : Nat) : Ext 257 s (holdoff s i).1 := by
  unfold holdoff
  dsimp only
  split
  · exact Ext.refl _ _
  · split
    · exact (Ext.refl 257 s).step (setSrc_ext ..) (by decide)
    · refine Ext.step ?_ (routeSrc_ext _ i) (by decide)
      split
      · exact Ext.refl _ _
      · exact (Ext.refl 257 s).raw rfl rfl rfl rfl rfl (fun p hp => by cases p <;> first | exact absurd hp (by decide) | exact rfl)

theorem raiseCore_ext (s : State) (i : Nat) : Ext 257 s (raiseCore s i).1 := by
  unfold raiseCore
  dsimp only
  split
  · exact Ext.refl _ _
  · exact ((Ext.refl 257 s).step (setSrc_ext ..) (by decide)).step (holdoff_ext ..) (by decide)

/-- Raising a source changes registers and the beacon, and sends what rises. -/
theorem raiseSrc_ext (s : State) (i : Nat) : Ext 257 s (raiseSrc s i) := by
  unfold raiseSrc beaconStep
  dsimp only
  refine deliver_ext ?_ (by decide)
  split
  · exact (raiseCore_ext s i).step (raiseCore_ext ..) (by decide)
  · exact raiseCore_ext s i

/-! ### The metadata cache keeps memory canonical -/

theorem logErr_ext (s : State) (n kind word pp s1 s3 : Nat) (q : Req) : Ext 1 s (logErr s n kind word pp s1 s3 q) := by
  unfold logErr
  dsimp only
  split
  · repeat refine Ext.step ?_ (setFld_ext ..) (by decide)
    exact Ext.refl _ _
  · exact setFlag_ext ..

theorem countPoison_ext (s : State) (n : Nat) (c : Option Nat) : Ext 259 s (countPoison s n c) := by
  unfold countPoison raiseMem
  refine Ext.step ?_ (raiseSrc_ext ..) (by decide)
  have h : Ext 259 s (lbAdd (incCtr s (C.SC_POISON n)) 13 1) :=
    ((Ext.refl 259 s).step (incCtr_ext ..) (by decide)).step (addCtr_ext ..) (by decide)
  cases c with
  | none => exact h
  | some c => exact h.step (incCtr_ext ..) (by decide)

theorem countLostMeta_ext (s : State) (n : Nat) (q : Req) : Ext 259 s (countLostMeta s n q) :=
  (((Ext.refl 259 s).step (incCtr_ext ..) (by decide)).step (logErr_ext ..) (by decide)).step (raiseSrc_ext ..) (by decide)

theorem loseMeta_ext (n line : Nat) (a : RawLine × State) (w : Nat) : Ext 291 a.2 (loseMeta n line a w).2 := by
  unfold loseMeta
  dsimp only
  split
  · exact Ext.refl _ _
  · refine Ext.step ?_ (countPoison_ext ..) (by decide)
    exact ((Ext.refl 291 a.2).step (countLostMeta_ext ..) (by decide)).step (setRaw_ext ..) (by decide)

/-- A metadata line goes to its stack whole, or poisons the lines whose words it loses: memory stays canonical either way. -/
theorem writeMeta_ext (s : State) (n line : Nat) (r : RawLine) : Ext 291 s (writeMeta s n line r).2 := by
  unfold writeMeta
  dsimp only
  refine Ext.step ?_ (setRaw_ext ..) (by decide)
  split
  · exact Ext.fold_on Prod.snd _ (loseMeta_ext n line) _ (r, s) (Ext.refl _ _)
  · exact Ext.refl _ _

theorem flushEnt_ext (n : Nat) (a : List MdcEnt × State) (x : MdcEnt) : Ext 291 a.2 (flushEnt n a x).2 := by
  unfold flushEnt
  split
  · exact writeMeta_ext ..
  · exact Ext.refl _ _

theorem mdcFlush_ext (s : State) (n : Nat) : Ext 291 s (mdcFlush s n) := by
  unfold mdcFlush
  refine Ext.foldl _ (fun s e => ?_) _ _ (Ext.refl _ _)
  refine Ext.step (Ext.fold_on Prod.snd _ (flushEnt_ext n) e.2 ([], s) (Ext.refl _ _)) (n := 32) ?_ (by decide)
  exact ⟨rfl, rfl, Nat.le_refl _, List.suffix_refl _, id,
    fun h => by rw [Memory.wf_iff] at h ⊢; exact ⟨h.1, tsetD_wf h.2.1 _ _, h.2.2⟩, Fuses.kept_refl _,
    fun p hp => by cases p <;> first | exact absurd hp (by decide) | exact rfl⟩

theorem mdcFetch_ext (s : State) (n line : Nat) : Ext 291 s (mdcFetch s n line).2 := by
  unfold mdcFetch
  dsimp only
  split
  · exact (Ext.refl 291 s).step (setMdc_ext ..) (by decide)
  · refine Ext.step ?_ (setMdc_ext ..) (by decide)
    have h : Ext 291 s (incCtr (countOnDie s n) (C.SC_MDC_MISS n)) := by
      refine Ext.step ?_ (incCtr_ext ..) (by decide)
      unfold countOnDie
      split
      · exact (Ext.refl 291 s).raw rfl rfl rfl rfl rfl (fun p hp => by cases p <;> first | exact absurd hp (by decide) | exact rfl)
      · exact Ext.refl _ _
    split
    · split
      · exact h.step (writeMeta_ext ..) (by decide)
      · exact h
    · exact h

/-- Replacing a metadata word in the cache keeps memory canonical. -/
theorem mdcWrite_ext (s : State) (n line w : Nat) (v : Dword) : Ext 291 s (mdcWrite s n line w v) :=
  (mdcFetch_ext s n line).step (setMdc_ext ..) (by decide)

end Sys2Proof.Machine
end

