-- ==== Sys2Proof/Laws/State.lean ====
section
/-!
SUPPORT. What each elementary update leaves of the state: one lemma for each field and update, true by definition.
-/
namespace Sys2Proof.Machine

@[simp] theorem setFld_pending (s : State) (f : Fld) (v : Nat) : (setFld s f v).pending = s.pending := rfl
@[simp] theorem setFld_freeCtr (s : State) (f : Fld) (v : Nat) : (setFld s f v).freeCtr = s.freeCtr := rfl
@[simp] theorem setFld_out (s : State) (f : Fld) (v : Nat) : (setFld s f v).out = s.out := rfl
@[simp] theorem setFld_ctrs (s : State) (f : Fld) (v : Nat) : (setFld s f v).ctrs = s.ctrs := rfl
@[simp] theorem setFld_latches (s : State) (f : Fld) (v : Nat) : (setFld s f v).latches = s.latches := rfl
@[simp] theorem setFld_plan (s : State) (f : Fld) (v : Nat) : (setFld s f v).plan = s.plan := rfl
@[simp] theorem setFld_tide (s : State) (f : Fld) (v : Nat) : (setFld s f v).tide = s.tide := rfl
@[simp] theorem setFld_mem (s : State) (f : Fld) (v : Nat) : (setFld s f v).mem = s.mem := rfl
@[simp] theorem setFld_xl (s : State) (f : Fld) (v : Nat) : (setFld s f v).xl = s.xl := rfl
@[simp] theorem setFld_bw (s : State) (f : Fld) (v : Nat) : (setFld s f v).bw = s.bw := rfl
@[simp] theorem setFld_bc (s : State) (f : Fld) (v : Nat) : (setFld s f v).bc = s.bc := rfl
@[simp] theorem setFld_env (s : State) (f : Fld) (v : Nat) : (setFld s f v).env = s.env := rfl
@[simp] theorem setFld_ck (s : State) (f : Fld) (v : Nat) : (setFld s f v).ck = s.ck := rfl
@[simp] theorem setFld_lb (s : State) (f : Fld) (v : Nat) : (setFld s f v).lb = s.lb := rfl
@[simp] theorem setFld_lc (s : State) (f : Fld) (v : Nat) : (setFld s f v).lc = s.lc := rfl
@[simp] theorem setFld_ob (s : State) (f : Fld) (v : Nat) : (setFld s f v).ob = s.ob := rfl
@[simp] theorem setFld_sq (s : State) (f : Fld) (v : Nat) : (setFld s f v).sq = s.sq := rfl
@[simp] theorem setFld_en (s : State) (f : Fld) (v : Nat) : (setFld s f v).en = s.en := rfl
@[simp] theorem setFld_sc (s : State) (f : Fld) (v : Nat) : (setFld s f v).sc = s.sc := rfl

@[simp] theorem setFlag_pending (s : State) (f : Fld) (b : Bool) : (setFlag s f b).pending = s.pending := rfl
@[simp] theorem setFlag_freeCtr (s : State) (f : Fld) (b : Bool) : (setFlag s f b).freeCtr = s.freeCtr := rfl
@[simp] theorem setFlag_out (s : State) (f : Fld) (b : Bool) : (setFlag s f b).out = s.out := rfl
@[simp] theorem setFlag_ctrs (s : State) (f : Fld) (b : Bool) : (setFlag s f b).ctrs = s.ctrs := rfl
@[simp] theorem setFlag_latches (s : State) (f : Fld) (b : Bool) : (setFlag s f b).latches = s.latches := rfl
@[simp] theorem setFlag_plan (s : State) (f : Fld) (b : Bool) : (setFlag s f b).plan = s.plan := rfl
@[simp] theorem setFlag_tide (s : State) (f : Fld) (b : Bool) : (setFlag s f b).tide = s.tide := rfl
@[simp] theorem setFlag_mem (s : State) (f : Fld) (b : Bool) : (setFlag s f b).mem = s.mem := rfl
@[simp] theorem setFlag_xl (s : State) (f : Fld) (b : Bool) : (setFlag s f b).xl = s.xl := rfl
@[simp] theorem setFlag_bw (s : State) (f : Fld) (b : Bool) : (setFlag s f b).bw = s.bw := rfl
@[simp] theorem setFlag_bc (s : State) (f : Fld) (b : Bool) : (setFlag s f b).bc = s.bc := rfl
@[simp] theorem setFlag_env (s : State) (f : Fld) (b : Bool) : (setFlag s f b).env = s.env := rfl
@[simp] theorem setFlag_ck (s : State) (f : Fld) (b : Bool) : (setFlag s f b).ck = s.ck := rfl
@[simp] theorem setFlag_lb (s : State) (f : Fld) (b : Bool) : (setFlag s f b).lb = s.lb := rfl
@[simp] theorem setFlag_lc (s : State) (f : Fld) (b : Bool) : (setFlag s f b).lc = s.lc := rfl
@[simp] theorem setFlag_ob (s : State) (f : Fld) (b : Bool) : (setFlag s f b).ob = s.ob := rfl
@[simp] theorem setFlag_sq (s : State) (f : Fld) (b : Bool) : (setFlag s f b).sq = s.sq := rfl
@[simp] theorem setFlag_en (s : State) (f : Fld) (b : Bool) : (setFlag s f b).en = s.en := rfl
@[simp] theorem setFlag_sc (s : State) (f : Fld) (b : Bool) : (setFlag s f b).sc = s.sc := rfl

@[simp] theorem setCtr_pending (s : State) (k v : Nat) : (setCtr s k v).pending = s.pending := rfl
@[simp] theorem setCtr_freeCtr (s : State) (k v : Nat) : (setCtr s k v).freeCtr = s.freeCtr := rfl
@[simp] theorem setCtr_out (s : State) (k v : Nat) : (setCtr s k v).out = s.out := rfl
@[simp] theorem setCtr_flds (s : State) (k v : Nat) : (setCtr s k v).flds = s.flds := rfl
@[simp] theorem setCtr_latches (s : State) (k v : Nat) : (setCtr s k v).latches = s.latches := rfl
@[simp] theorem setCtr_plan (s : State) (k v : Nat) : (setCtr s k v).plan = s.plan := rfl
@[simp] theorem setCtr_tide (s : State) (k v : Nat) : (setCtr s k v).tide = s.tide := rfl
@[simp] theorem setCtr_mem (s : State) (k v : Nat) : (setCtr s k v).mem = s.mem := rfl
@[simp] theorem setCtr_xl (s : State) (k v : Nat) : (setCtr s k v).xl = s.xl := rfl
@[simp] theorem setCtr_bw (s : State) (k v : Nat) : (setCtr s k v).bw = s.bw := rfl
@[simp] theorem setCtr_bc (s : State) (k v : Nat) : (setCtr s k v).bc = s.bc := rfl
@[simp] theorem setCtr_env (s : State) (k v : Nat) : (setCtr s k v).env = s.env := rfl
@[simp] theorem setCtr_ck (s : State) (k v : Nat) : (setCtr s k v).ck = s.ck := rfl
@[simp] theorem setCtr_lb (s : State) (k v : Nat) : (setCtr s k v).lb = s.lb := rfl
@[simp] theorem setCtr_lc (s : State) (k v : Nat) : (setCtr s k v).lc = s.lc := rfl
@[simp] theorem setCtr_ob (s : State) (k v : Nat) : (setCtr s k v).ob = s.ob := rfl
@[simp] theorem setCtr_sq (s : State) (k v : Nat) : (setCtr s k v).sq = s.sq := rfl
@[simp] theorem setCtr_en (s : State) (k v : Nat) : (setCtr s k v).en = s.en := rfl
@[simp] theorem setCtr_sc (s : State) (k v : Nat) : (setCtr s k v).sc = s.sc := rfl

@[simp] theorem addCtr_pending (s : State) (k n : Nat) : (addCtr s k n).pending = s.pending := rfl
@[simp] theorem addCtr_freeCtr (s : State) (k n : Nat) : (addCtr s k n).freeCtr = s.freeCtr := rfl
@[simp] theorem addCtr_out (s : State) (k n : Nat) : (addCtr s k n).out = s.out := rfl
@[simp] theorem addCtr_flds (s : State) (k n : Nat) : (addCtr s k n).flds = s.flds := rfl
@[simp] theorem addCtr_latches (s : State) (k n : Nat) : (addCtr s k n).latches = s.latches := rfl
@[simp] theorem addCtr_plan (s : State) (k n : Nat) : (addCtr s k n).plan = s.plan := rfl
@[simp] theorem addCtr_tide (s : State) (k n : Nat) : (addCtr s k n).tide = s.tide := rfl
@[simp] theorem addCtr_mem (s : State) (k n : Nat) : (addCtr s k n).mem = s.mem := rfl
@[simp] theorem addCtr_xl (s : State) (k n : Nat) : (addCtr s k n).xl = s.xl := rfl
@[simp] theorem addCtr_bw (s : State) (k n : Nat) : (addCtr s k n).bw = s.bw := rfl
@[simp] theorem addCtr_bc (s : State) (k n : Nat) : (addCtr s k n).bc = s.bc := rfl
@[simp] theorem addCtr_env (s : State) (k n : Nat) : (addCtr s k n).env = s.env := rfl
@[simp] theorem addCtr_ck (s : State) (k n : Nat) : (addCtr s k n).ck = s.ck := rfl
@[simp] theorem addCtr_lb (s : State) (k n : Nat) : (addCtr s k n).lb = s.lb := rfl
@[simp] theorem addCtr_lc (s : State) (k n : Nat) : (addCtr s k n).lc = s.lc := rfl
@[simp] theorem addCtr_ob (s : State) (k n : Nat) : (addCtr s k n).ob = s.ob := rfl
@[simp] theorem addCtr_sq (s : State) (k n : Nat) : (addCtr s k n).sq = s.sq := rfl
@[simp] theorem addCtr_en (s : State) (k n : Nat) : (addCtr s k n).en = s.en := rfl
@[simp] theorem addCtr_sc (s : State) (k n : Nat) : (addCtr s k n).sc = s.sc := rfl

@[simp] theorem incCtr_pending (s : State) (k : Nat) : (incCtr s k).pending = s.pending := rfl
@[simp] theorem incCtr_freeCtr (s : State) (k : Nat) : (incCtr s k).freeCtr = s.freeCtr := rfl
@[simp] theorem incCtr_out (s : State) (k : Nat) : (incCtr s k).out = s.out := rfl
@[simp] theorem incCtr_flds (s : State) (k : Nat) : (incCtr s k).flds = s.flds := rfl
@[simp] theorem incCtr_latches (s : State) (k : Nat) : (incCtr s k).latches = s.latches := rfl
@[simp] theorem incCtr_plan (s : State) (k : Nat) : (incCtr s k).plan = s.plan := rfl
@[simp] theorem incCtr_tide (s : State) (k : Nat) : (incCtr s k).tide = s.tide := rfl
@[simp] theorem incCtr_mem (s : State) (k : Nat) : (incCtr s k).mem = s.mem := rfl
@[simp] theorem incCtr_xl (s : State) (k : Nat) : (incCtr s k).xl = s.xl := rfl
@[simp] theorem incCtr_bw (s : State) (k : Nat) : (incCtr s k).bw = s.bw := rfl
@[simp] theorem incCtr_bc (s : State) (k : Nat) : (incCtr s k).bc = s.bc := rfl
@[simp] theorem incCtr_env (s : State) (k : Nat) : (incCtr s k).env = s.env := rfl
@[simp] theorem incCtr_ck (s : State) (k : Nat) : (incCtr s k).ck = s.ck := rfl
@[simp] theorem incCtr_lb (s : State) (k : Nat) : (incCtr s k).lb = s.lb := rfl
@[simp] theorem incCtr_lc (s : State) (k : Nat) : (incCtr s k).lc = s.lc := rfl
@[simp] theorem incCtr_ob (s : State) (k : Nat) : (incCtr s k).ob = s.ob := rfl
@[simp] theorem incCtr_sq (s : State) (k : Nat) : (incCtr s k).sq = s.sq := rfl
@[simp] theorem incCtr_en (s : State) (k : Nat) : (incCtr s k).en = s.en := rfl
@[simp] theorem incCtr_sc (s : State) (k : Nat) : (incCtr s k).sc = s.sc := rfl

@[simp] theorem emit_pending (s : State) (o : Out) : (emit s o).pending = s.pending := rfl
@[simp] theorem emit_freeCtr (s : State) (o : Out) : (emit s o).freeCtr = s.freeCtr := rfl
@[simp] theorem emit_flds (s : State) (o : Out) : (emit s o).flds = s.flds := rfl
@[simp] theorem emit_ctrs (s : State) (o : Out) : (emit s o).ctrs = s.ctrs := rfl
@[simp] theorem emit_latches (s : State) (o : Out) : (emit s o).latches = s.latches := rfl
@[simp] theorem emit_plan (s : State) (o : Out) : (emit s o).plan = s.plan := rfl
@[simp] theorem emit_tide (s : State) (o : Out) : (emit s o).tide = s.tide := rfl
@[simp] theorem emit_mem (s : State) (o : Out) : (emit s o).mem = s.mem := rfl
@[simp] theorem emit_xl (s : State) (o : Out) : (emit s o).xl = s.xl := rfl
@[simp] theorem emit_bw (s : State) (o : Out) : (emit s o).bw = s.bw := rfl
@[simp] theorem emit_bc (s : State) (o : Out) : (emit s o).bc = s.bc := rfl
@[simp] theorem emit_env (s : State) (o : Out) : (emit s o).env = s.env := rfl
@[simp] theorem emit_ck (s : State) (o : Out) : (emit s o).ck = s.ck := rfl
@[simp] theorem emit_lb (s : State) (o : Out) : (emit s o).lb = s.lb := rfl
@[simp] theorem emit_lc (s : State) (o : Out) : (emit s o).lc = s.lc := rfl
@[simp] theorem emit_ob (s : State) (o : Out) : (emit s o).ob = s.ob := rfl
@[simp] theorem emit_sq (s : State) (o : Out) : (emit s o).sq = s.sq := rfl
@[simp] theorem emit_en (s : State) (o : Out) : (emit s o).en = s.en := rfl
@[simp] theorem emit_sc (s : State) (o : Out) : (emit s o).sc = s.sc := rfl

@[simp] theorem setRaw_pending (s : State) (n line : Nat) (r : RawLine) : (setRaw s n line r).pending = s.pending := rfl
@[simp] theorem setRaw_freeCtr (s : State) (n line : Nat) (r : RawLine) : (setRaw s n line r).freeCtr = s.freeCtr := rfl
@[simp] theorem setRaw_out (s : State) (n line : Nat) (r : RawLine) : (setRaw s n line r).out = s.out := rfl
@[simp] theorem setRaw_flds (s : State) (n line : Nat) (r : RawLine) : (setRaw s n line r).flds = s.flds := rfl
@[simp] theorem setRaw_ctrs (s : State) (n line : Nat) (r : RawLine) : (setRaw s n line r).ctrs = s.ctrs := rfl
@[simp] theorem setRaw_latches (s : State) (n line : Nat) (r : RawLine) : (setRaw s n line r).latches = s.latches := rfl
@[simp] theorem setRaw_plan (s : State) (n line : Nat) (r : RawLine) : (setRaw s n line r).plan = s.plan := rfl
@[simp] theorem setRaw_tide (s : State) (n line : Nat) (r : RawLine) : (setRaw s n line r).tide = s.tide := rfl
@[simp] theorem setRaw_xl (s : State) (n line : Nat) (r : RawLine) : (setRaw s n line r).xl = s.xl := rfl
@[simp] theorem setRaw_bw (s : State) (n line : Nat) (r : RawLine) : (setRaw s n line r).bw = s.bw := rfl
@[simp] theorem setRaw_bc (s : State) (n line : Nat) (r : RawLine) : (setRaw s n line r).bc = s.bc := rfl
@[simp] theorem setRaw_env (s : State) (n line : Nat) (r : RawLine) : (setRaw s n line r).env = s.env := rfl
@[simp] theorem setRaw_ck (s : State) (n line : Nat) (r : RawLine) : (setRaw s n line r).ck = s.ck := rfl
@[simp] theorem setRaw_lb (s : State) (n line : Nat) (r : RawLine) : (setRaw s n line r).lb = s.lb := rfl
@[simp] theorem setRaw_lc (s : State) (n line : Nat) (r : RawLine) : (setRaw s n line r).lc = s.lc := rfl
@[simp] theorem setRaw_ob (s : State) (n line : Nat) (r : RawLine) : (setRaw s n line r).ob = s.ob := rfl
@[simp] theorem setRaw_sq (s : State) (n line : Nat) (r : RawLine) : (setRaw s n line r).sq = s.sq := rfl
@[simp] theorem setRaw_en (s : State) (n line : Nat) (r : RawLine) : (setRaw s n line r).en = s.en := rfl
@[simp] theorem setRaw_sc (s : State) (n line : Nat) (r : RawLine) : (setRaw s n line r).sc = s.sc := rfl

@[simp] theorem setMdc_pending (s : State) (n line : Nat) (l : List MdcEnt) : (setMdc s n line l).pending = s.pending := rfl
@[simp] theorem setMdc_freeCtr (s : State) (n line : Nat) (l : List MdcEnt) : (setMdc s n line l).freeCtr = s.freeCtr := rfl
@[simp] theorem setMdc_out (s : State) (n line : Nat) (l : List MdcEnt) : (setMdc s n line l).out = s.out := rfl
@[simp] theorem setMdc_flds (s : State) (n line : Nat) (l : List MdcEnt) : (setMdc s n line l).flds = s.flds := rfl
@[simp] theorem setMdc_ctrs (s : State) (n line : Nat) (l : List MdcEnt) : (setMdc s n line l).ctrs = s.ctrs := rfl
@[simp] theorem setMdc_latches (s : State) (n line : Nat) (l : List MdcEnt) : (setMdc s n line l).latches = s.latches := rfl
@[simp] theorem setMdc_plan (s : State) (n line : Nat) (l : List MdcEnt) : (setMdc s n line l).plan = s.plan := rfl
@[simp] theorem setMdc_tide (s : State) (n line : Nat) (l : List MdcEnt) : (setMdc s n line l).tide = s.tide := rfl
@[simp] theorem setMdc_xl (s : State) (n line : Nat) (l : List MdcEnt) : (setMdc s n line l).xl = s.xl := rfl
@[simp] theorem setMdc_bw (s : State) (n line : Nat) (l : List MdcEnt) : (setMdc s n line l).bw = s.bw := rfl
@[simp] theorem setMdc_bc (s : State) (n line : Nat) (l : List MdcEnt) : (setMdc s n line l).bc = s.bc := rfl
@[simp] theorem setMdc_env (s : State) (n line : Nat) (l : List MdcEnt) : (setMdc s n line l).env = s.env := rfl
@[simp] theorem setMdc_ck (s : State) (n line : Nat) (l : List MdcEnt) : (setMdc s n line l).ck = s.ck := rfl
@[simp] theorem setMdc_lb (s : State) (n line : Nat) (l : List MdcEnt) : (setMdc s n line l).lb = s.lb := rfl
@[simp] theorem setMdc_lc (s : State) (n line : Nat) (l : List MdcEnt) : (setMdc s n line l).lc = s.lc := rfl
@[simp] theorem setMdc_ob (s : State) (n line : Nat) (l : List MdcEnt) : (setMdc s n line l).ob = s.ob := rfl
@[simp] theorem setMdc_sq (s : State) (n line : Nat) (l : List MdcEnt) : (setMdc s n line l).sq = s.sq := rfl
@[simp] theorem setMdc_en (s : State) (n line : Nat) (l : List MdcEnt) : (setMdc s n line l).en = s.en := rfl
@[simp] theorem setMdc_sc (s : State) (n line : Nat) (l : List MdcEnt) : (setMdc s n line l).sc = s.sc := rfl

@[simp] theorem setTp_pending (s : State) (b w : Nat) (v : TpWord) : (setTp s b w v).pending = s.pending := rfl
@[simp] theorem setTp_freeCtr (s : State) (b w : Nat) (v : TpWord) : (setTp s b w v).freeCtr = s.freeCtr := rfl
@[simp] theorem setTp_out (s : State) (b w : Nat) (v : TpWord) : (setTp s b w v).out = s.out := rfl
@[simp] theorem setTp_flds (s : State) (b w : Nat) (v : TpWord) : (setTp s b w v).flds = s.flds := rfl
@[simp] theorem setTp_ctrs (s : State) (b w : Nat) (v : TpWord) : (setTp s b w v).ctrs = s.ctrs := rfl
@[simp] theorem setTp_latches (s : State) (b w : Nat) (v : TpWord) : (setTp s b w v).latches = s.latches := rfl
@[simp] theorem setTp_plan (s : State) (b w : Nat) (v : TpWord) : (setTp s b w v).plan = s.plan := rfl
@[simp] theorem setTp_tide (s : State) (b w : Nat) (v : TpWord) : (setTp s b w v).tide = s.tide := rfl
@[simp] theorem setTp_xl (s : State) (b w : Nat) (v : TpWord) : (setTp s b w v).xl = s.xl := rfl
@[simp] theorem setTp_bw (s : State) (b w : Nat) (v : TpWord) : (setTp s b w v).bw = s.bw := rfl
@[simp] theorem setTp_bc (s : State) (b w : Nat) (v : TpWord) : (setTp s b w v).bc = s.bc := rfl
@[simp] theorem setTp_env (s : State) (b w : Nat) (v : TpWord) : (setTp s b w v).env = s.env := rfl
@[simp] theorem setTp_ck (s : State) (b w : Nat) (v : TpWord) : (setTp s b w v).ck = s.ck := rfl
@[simp] theorem setTp_lb (s : State) (b w : Nat) (v : TpWord) : (setTp s b w v).lb = s.lb := rfl
@[simp] theorem setTp_lc (s : State) (b w : Nat) (v : TpWord) : (setTp s b w v).lc = s.lc := rfl
@[simp] theorem setTp_ob (s : State) (b w : Nat) (v : TpWord) : (setTp s b w v).ob = s.ob := rfl
@[simp] theorem setTp_sq (s : State) (b w : Nat) (v : TpWord) : (setTp s b w v).sq = s.sq := rfl
@[simp] theorem setTp_en (s : State) (b w : Nat) (v : TpWord) : (setTp s b w v).en = s.en := rfl
@[simp] theorem setTp_sc (s : State) (b w : Nat) (v : TpWord) : (setTp s b w v).sc = s.sc := rfl

@[simp] theorem setTpWritten_pending (s : State) (b l : Nat) (v : Bool) : (setTpWritten s b l v).pending = s.pending := rfl
@[simp] theorem setTpWritten_freeCtr (s : State) (b l : Nat) (v : Bool) : (setTpWritten s b l v).freeCtr = s.freeCtr := rfl
@[simp] theorem setTpWritten_out (s : State) (b l : Nat) (v : Bool) : (setTpWritten s b l v).out = s.out := rfl
@[simp] theorem setTpWritten_flds (s : State) (b l : Nat) (v : Bool) : (setTpWritten s b l v).flds = s.flds := rfl
@[simp] theorem setTpWritten_ctrs (s : State) (b l : Nat) (v : Bool) : (setTpWritten s b l v).ctrs = s.ctrs := rfl
@[simp] theorem setTpWritten_latches (s : State) (b l : Nat) (v : Bool) : (setTpWritten s b l v).latches = s.latches := rfl
@[simp] theorem setTpWritten_plan (s : State) (b l : Nat) (v : Bool) : (setTpWritten s b l v).plan = s.plan := rfl
@[simp] theorem setTpWritten_tide (s : State) (b l : Nat) (v : Bool) : (setTpWritten s b l v).tide = s.tide := rfl
@[simp] theorem setTpWritten_xl (s : State) (b l : Nat) (v : Bool) : (setTpWritten s b l v).xl = s.xl := rfl
@[simp] theorem setTpWritten_bw (s : State) (b l : Nat) (v : Bool) : (setTpWritten s b l v).bw = s.bw := rfl
@[simp] theorem setTpWritten_bc (s : State) (b l : Nat) (v : Bool) : (setTpWritten s b l v).bc = s.bc := rfl
@[simp] theorem setTpWritten_env (s : State) (b l : Nat) (v : Bool) : (setTpWritten s b l v).env = s.env := rfl
@[simp] theorem setTpWritten_ck (s : State) (b l : Nat) (v : Bool) : (setTpWritten s b l v).ck = s.ck := rfl
@[simp] theorem setTpWritten_lb (s : State) (b l : Nat) (v : Bool) : (setTpWritten s b l v).lb = s.lb := rfl
@[simp] theorem setTpWritten_lc (s : State) (b l : Nat) (v : Bool) : (setTpWritten s b l v).lc = s.lc := rfl
@[simp] theorem setTpWritten_ob (s : State) (b l : Nat) (v : Bool) : (setTpWritten s b l v).ob = s.ob := rfl
@[simp] theorem setTpWritten_sq (s : State) (b l : Nat) (v : Bool) : (setTpWritten s b l v).sq = s.sq := rfl
@[simp] theorem setTpWritten_en (s : State) (b l : Nat) (v : Bool) : (setTpWritten s b l v).en = s.en := rfl
@[simp] theorem setTpWritten_sc (s : State) (b l : Nat) (v : Bool) : (setTpWritten s b l v).sc = s.sc := rfl

@[simp] theorem setKr_pending (s : State) (r : Nat) (k : KeyRange) : (setKr s r k).pending = s.pending := rfl
@[simp] theorem setKr_freeCtr (s : State) (r : Nat) (k : KeyRange) : (setKr s r k).freeCtr = s.freeCtr := rfl
@[simp] theorem setKr_out (s : State) (r : Nat) (k : KeyRange) : (setKr s r k).out = s.out := rfl
@[simp] theorem setKr_flds (s : State) (r : Nat) (k : KeyRange) : (setKr s r k).flds = s.flds := rfl
@[simp] theorem setKr_ctrs (s : State) (r : Nat) (k : KeyRange) : (setKr s r k).ctrs = s.ctrs := rfl
@[simp] theorem setKr_latches (s : State) (r : Nat) (k : KeyRange) : (setKr s r k).latches = s.latches := rfl
@[simp] theorem setKr_plan (s : State) (r : Nat) (k : KeyRange) : (setKr s r k).plan = s.plan := rfl
@[simp] theorem setKr_tide (s : State) (r : Nat) (k : KeyRange) : (setKr s r k).tide = s.tide := rfl
@[simp] theorem setKr_xl (s : State) (r : Nat) (k : KeyRange) : (setKr s r k).xl = s.xl := rfl
@[simp] theorem setKr_bw (s : State) (r : Nat) (k : KeyRange) : (setKr s r k).bw = s.bw := rfl
@[simp] theorem setKr_bc (s : State) (r : Nat) (k : KeyRange) : (setKr s r k).bc = s.bc := rfl
@[simp] theorem setKr_env (s : State) (r : Nat) (k : KeyRange) : (setKr s r k).env = s.env := rfl
@[simp] theorem setKr_ck (s : State) (r : Nat) (k : KeyRange) : (setKr s r k).ck = s.ck := rfl
@[simp] theorem setKr_lb (s : State) (r : Nat) (k : KeyRange) : (setKr s r k).lb = s.lb := rfl
@[simp] theorem setKr_lc (s : State) (r : Nat) (k : KeyRange) : (setKr s r k).lc = s.lc := rfl
@[simp] theorem setKr_ob (s : State) (r : Nat) (k : KeyRange) : (setKr s r k).ob = s.ob := rfl
@[simp] theorem setKr_sq (s : State) (r : Nat) (k : KeyRange) : (setKr s r k).sq = s.sq := rfl
@[simp] theorem setKr_en (s : State) (r : Nat) (k : KeyRange) : (setKr s r k).en = s.en := rfl
@[simp] theorem setKr_sc (s : State) (r : Nat) (k : KeyRange) : (setKr s r k).sc = s.sc := rfl

@[simp] theorem setKid_pending (s : State) (k : Nat) (v : Kid) : (setKid s k v).pending = s.pending := rfl
@[simp] theorem setKid_freeCtr (s : State) (k : Nat) (v : Kid) : (setKid s k v).freeCtr = s.freeCtr := rfl
@[simp] theorem setKid_out (s : State) (k : Nat) (v : Kid) : (setKid s k v).out = s.out := rfl
@[simp] theorem setKid_flds (s : State) (k : Nat) (v : Kid) : (setKid s k v).flds = s.flds := rfl
@[simp] theorem setKid_ctrs (s : State) (k : Nat) (v : Kid) : (setKid s k v).ctrs = s.ctrs := rfl
@[simp] theorem setKid_latches (s : State) (k : Nat) (v : Kid) : (setKid s k v).latches = s.latches := rfl
@[simp] theorem setKid_plan (s : State) (k : Nat) (v : Kid) : (setKid s k v).plan = s.plan := rfl
@[simp] theorem setKid_tide (s : State) (k : Nat) (v : Kid) : (setKid s k v).tide = s.tide := rfl
@[simp] theorem setKid_xl (s : State) (k : Nat) (v : Kid) : (setKid s k v).xl = s.xl := rfl
@[simp] theorem setKid_bw (s : State) (k : Nat) (v : Kid) : (setKid s k v).bw = s.bw := rfl
@[simp] theorem setKid_bc (s : State) (k : Nat) (v : Kid) : (setKid s k v).bc = s.bc := rfl
@[simp] theorem setKid_env (s : State) (k : Nat) (v : Kid) : (setKid s k v).env = s.env := rfl
@[simp] theorem setKid_ck (s : State) (k : Nat) (v : Kid) : (setKid s k v).ck = s.ck := rfl
@[simp] theorem setKid_lb (s : State) (k : Nat) (v : Kid) : (setKid s k v).lb = s.lb := rfl
@[simp] theorem setKid_lc (s : State) (k : Nat) (v : Kid) : (setKid s k v).lc = s.lc := rfl
@[simp] theorem setKid_ob (s : State) (k : Nat) (v : Kid) : (setKid s k v).ob = s.ob := rfl
@[simp] theorem setKid_sq (s : State) (k : Nat) (v : Kid) : (setKid s k v).sq = s.sq := rfl
@[simp] theorem setKid_en (s : State) (k : Nat) (v : Kid) : (setKid s k v).en = s.en := rfl
@[simp] theorem setKid_sc (s : State) (k : Nat) (v : Kid) : (setKid s k v).sc = s.sc := rfl

@[simp] theorem setSrc_pending (s : State) (i : Nat) (v : Src) : (setSrc s i v).pending = s.pending := rfl
@[simp] theorem setSrc_freeCtr (s : State) (i : Nat) (v : Src) : (setSrc s i v).freeCtr = s.freeCtr := rfl
@[simp] theorem setSrc_out (s : State) (i : Nat) (v : Src) : (setSrc s i v).out = s.out := rfl
@[simp] theorem setSrc_flds (s : State) (i : Nat) (v : Src) : (setSrc s i v).flds = s.flds := rfl
@[simp] theorem setSrc_ctrs (s : State) (i : Nat) (v : Src) : (setSrc s i v).ctrs = s.ctrs := rfl
@[simp] theorem setSrc_latches (s : State) (i : Nat) (v : Src) : (setSrc s i v).latches = s.latches := rfl
@[simp] theorem setSrc_plan (s : State) (i : Nat) (v : Src) : (setSrc s i v).plan = s.plan := rfl
@[simp] theorem setSrc_tide (s : State) (i : Nat) (v : Src) : (setSrc s i v).tide = s.tide := rfl
@[simp] theorem setSrc_mem (s : State) (i : Nat) (v : Src) : (setSrc s i v).mem = s.mem := rfl
@[simp] theorem setSrc_xl (s : State) (i : Nat) (v : Src) : (setSrc s i v).xl = s.xl := rfl
@[simp] theorem setSrc_bw (s : State) (i : Nat) (v : Src) : (setSrc s i v).bw = s.bw := rfl
@[simp] theorem setSrc_env (s : State) (i : Nat) (v : Src) : (setSrc s i v).env = s.env := rfl
@[simp] theorem setSrc_ck (s : State) (i : Nat) (v : Src) : (setSrc s i v).ck = s.ck := rfl
@[simp] theorem setSrc_lb (s : State) (i : Nat) (v : Src) : (setSrc s i v).lb = s.lb := rfl
@[simp] theorem setSrc_lc (s : State) (i : Nat) (v : Src) : (setSrc s i v).lc = s.lc := rfl
@[simp] theorem setSrc_ob (s : State) (i : Nat) (v : Src) : (setSrc s i v).ob = s.ob := rfl
@[simp] theorem setSrc_sq (s : State) (i : Nat) (v : Src) : (setSrc s i v).sq = s.sq := rfl
@[simp] theorem setSrc_en (s : State) (i : Nat) (v : Src) : (setSrc s i v).en = s.en := rfl
@[simp] theorem setSrc_sc (s : State) (i : Nat) (v : Src) : (setSrc s i v).sc = s.sc := rfl

@[simp] theorem setTgt_pending (s : State) (t : Nat) (v : Tgt) : (setTgt s t v).pending = s.pending := rfl
@[simp] theorem setTgt_freeCtr (s : State) (t : Nat) (v : Tgt) : (setTgt s t v).freeCtr = s.freeCtr := rfl
@[simp] theorem setTgt_out (s : State) (t : Nat) (v : Tgt) : (setTgt s t v).out = s.out := rfl
@[simp] theorem setTgt_flds (s : State) (t : Nat) (v : Tgt) : (setTgt s t v).flds = s.flds := rfl
@[simp] theorem setTgt_ctrs (s : State) (t : Nat) (v : Tgt) : (setTgt s t v).ctrs = s.ctrs := rfl
@[simp] theorem setTgt_latches (s : State) (t : Nat) (v : Tgt) : (setTgt s t v).latches = s.latches := rfl
@[simp] theorem setTgt_plan (s : State) (t : Nat) (v : Tgt) : (setTgt s t v).plan = s.plan := rfl
@[simp] theorem setTgt_tide (s : State) (t : Nat) (v : Tgt) : (setTgt s t v).tide = s.tide := rfl
@[simp] theorem setTgt_mem (s : State) (t : Nat) (v : Tgt) : (setTgt s t v).mem = s.mem := rfl
@[simp] theorem setTgt_xl (s : State) (t : Nat) (v : Tgt) : (setTgt s t v).xl = s.xl := rfl
@[simp] theorem setTgt_bw (s : State) (t : Nat) (v : Tgt) : (setTgt s t v).bw = s.bw := rfl
@[simp] theorem setTgt_env (s : State) (t : Nat) (v : Tgt) : (setTgt s t v).env = s.env := rfl
@[simp] theorem setTgt_ck (s : State) (t : Nat) (v : Tgt) : (setTgt s t v).ck = s.ck := rfl
@[simp] theorem setTgt_lb (s : State) (t : Nat) (v : Tgt) : (setTgt s t v).lb = s.lb := rfl
@[simp] theorem setTgt_lc (s : State) (t : Nat) (v : Tgt) : (setTgt s t v).lc = s.lc := rfl
@[simp] theorem setTgt_ob (s : State) (t : Nat) (v : Tgt) : (setTgt s t v).ob = s.ob := rfl
@[simp] theorem setTgt_sq (s : State) (t : Nat) (v : Tgt) : (setTgt s t v).sq = s.sq := rfl
@[simp] theorem setTgt_en (s : State) (t : Nat) (v : Tgt) : (setTgt s t v).en = s.en := rfl
@[simp] theorem setTgt_sc (s : State) (t : Nat) (v : Tgt) : (setTgt s t v).sc = s.sc := rfl

@[simp] theorem setRegul_pending (s : State) (r : Nat) (v : Regul) : (setRegul s r v).pending = s.pending := rfl
@[simp] theorem setRegul_freeCtr (s : State) (r : Nat) (v : Regul) : (setRegul s r v).freeCtr = s.freeCtr := rfl
@[simp] theorem setRegul_out (s : State) (r : Nat) (v : Regul) : (setRegul s r v).out = s.out := rfl
@[simp] theorem setRegul_flds (s : State) (r : Nat) (v : Regul) : (setRegul s r v).flds = s.flds := rfl
@[simp] theorem setRegul_ctrs (s : State) (r : Nat) (v : Regul) : (setRegul s r v).ctrs = s.ctrs := rfl
@[simp] theorem setRegul_latches (s : State) (r : Nat) (v : Regul) : (setRegul s r v).latches = s.latches := rfl
@[simp] theorem setRegul_plan (s : State) (r : Nat) (v : Regul) : (setRegul s r v).plan = s.plan := rfl
@[simp] theorem setRegul_tide (s : State) (r : Nat) (v : Regul) : (setRegul s r v).tide = s.tide := rfl
@[simp] theorem setRegul_mem (s : State) (r : Nat) (v : Regul) : (setRegul s r v).mem = s.mem := rfl
@[simp] theorem setRegul_xl (s : State) (r : Nat) (v : Regul) : (setRegul s r v).xl = s.xl := rfl
@[simp] theorem setRegul_bc (s : State) (r : Nat) (v : Regul) : (setRegul s r v).bc = s.bc := rfl
@[simp] theorem setRegul_env (s : State) (r : Nat) (v : Regul) : (setRegul s r v).env = s.env := rfl
@[simp] theorem setRegul_ck (s : State) (r : Nat) (v : Regul) : (setRegul s r v).ck = s.ck := rfl
@[simp] theorem setRegul_lb (s : State) (r : Nat) (v : Regul) : (setRegul s r v).lb = s.lb := rfl
@[simp] theorem setRegul_lc (s : State) (r : Nat) (v : Regul) : (setRegul s r v).lc = s.lc := rfl
@[simp] theorem setRegul_ob (s : State) (r : Nat) (v : Regul) : (setRegul s r v).ob = s.ob := rfl
@[simp] theorem setRegul_sq (s : State) (r : Nat) (v : Regul) : (setRegul s r v).sq = s.sq := rfl
@[simp] theorem setRegul_en (s : State) (r : Nat) (v : Regul) : (setRegul s r v).en = s.en := rfl
@[simp] theorem setRegul_sc (s : State) (r : Nat) (v : Regul) : (setRegul s r v).sc = s.sc := rfl

@[simp] theorem setXfer_pending (s : State) (i : Nat) (x : Xfer) : (setXfer s i x).pending = s.pending := rfl
@[simp] theorem setXfer_freeCtr (s : State) (i : Nat) (x : Xfer) : (setXfer s i x).freeCtr = s.freeCtr := rfl
@[simp] theorem setXfer_out (s : State) (i : Nat) (x : Xfer) : (setXfer s i x).out = s.out := rfl
@[simp] theorem setXfer_flds (s : State) (i : Nat) (x : Xfer) : (setXfer s i x).flds = s.flds := rfl
@[simp] theorem setXfer_ctrs (s : State) (i : Nat) (x : Xfer) : (setXfer s i x).ctrs = s.ctrs := rfl
@[simp] theorem setXfer_latches (s : State) (i : Nat) (x : Xfer) : (setXfer s i x).latches = s.latches := rfl
@[simp] theorem setXfer_plan (s : State) (i : Nat) (x : Xfer) : (setXfer s i x).plan = s.plan := rfl
@[simp] theorem setXfer_tide (s : State) (i : Nat) (x : Xfer) : (setXfer s i x).tide = s.tide := rfl
@[simp] theorem setXfer_mem (s : State) (i : Nat) (x : Xfer) : (setXfer s i x).mem = s.mem := rfl
@[simp] theorem setXfer_bw (s : State) (i : Nat) (x : Xfer) : (setXfer s i x).bw = s.bw := rfl
@[simp] theorem setXfer_bc (s : State) (i : Nat) (x : Xfer) : (setXfer s i x).bc = s.bc := rfl
@[simp] theorem setXfer_env (s : State) (i : Nat) (x : Xfer) : (setXfer s i x).env = s.env := rfl
@[simp] theorem setXfer_ck (s : State) (i : Nat) (x : Xfer) : (setXfer s i x).ck = s.ck := rfl
@[simp] theorem setXfer_lb (s : State) (i : Nat) (x : Xfer) : (setXfer s i x).lb = s.lb := rfl
@[simp] theorem setXfer_lc (s : State) (i : Nat) (x : Xfer) : (setXfer s i x).lc = s.lc := rfl
@[simp] theorem setXfer_ob (s : State) (i : Nat) (x : Xfer) : (setXfer s i x).ob = s.ob := rfl
@[simp] theorem setXfer_sq (s : State) (i : Nat) (x : Xfer) : (setXfer s i x).sq = s.sq := rfl
@[simp] theorem setXfer_en (s : State) (i : Nat) (x : Xfer) : (setXfer s i x).en = s.en := rfl
@[simp] theorem setXfer_sc (s : State) (i : Nat) (x : Xfer) : (setXfer s i x).sc = s.sc := rfl

@[simp] theorem delXfer_pending (s : State) (i : Nat) : (delXfer s i).pending = s.pending := rfl
@[simp] theorem delXfer_freeCtr (s : State) (i : Nat) : (delXfer s i).freeCtr = s.freeCtr := rfl
@[simp] theorem delXfer_out (s : State) (i : Nat) : (delXfer s i).out = s.out := rfl
@[simp] theorem delXfer_flds (s : State) (i : Nat) : (delXfer s i).flds = s.flds := rfl
@[simp] theorem delXfer_ctrs (s : State) (i : Nat) : (delXfer s i).ctrs = s.ctrs := rfl
@[simp] theorem delXfer_latches (s : State) (i : Nat) : (delXfer s i).latches = s.latches := rfl
@[simp] theorem delXfer_plan (s : State) (i : Nat) : (delXfer s i).plan = s.plan := rfl
@[simp] theorem delXfer_tide (s : State) (i : Nat) : (delXfer s i).tide = s.tide := rfl
@[simp] theorem delXfer_mem (s : State) (i : Nat) : (delXfer s i).mem = s.mem := rfl
@[simp] theorem delXfer_bw (s : State) (i : Nat) : (delXfer s i).bw = s.bw := rfl
@[simp] theorem delXfer_bc (s : State) (i : Nat) : (delXfer s i).bc = s.bc := rfl
@[simp] theorem delXfer_env (s : State) (i : Nat) : (delXfer s i).env = s.env := rfl
@[simp] theorem delXfer_ck (s : State) (i : Nat) : (delXfer s i).ck = s.ck := rfl
@[simp] theorem delXfer_lb (s : State) (i : Nat) : (delXfer s i).lb = s.lb := rfl
@[simp] theorem delXfer_lc (s : State) (i : Nat) : (delXfer s i).lc = s.lc := rfl
@[simp] theorem delXfer_ob (s : State) (i : Nat) : (delXfer s i).ob = s.ob := rfl
@[simp] theorem delXfer_sq (s : State) (i : Nat) : (delXfer s i).sq = s.sq := rfl
@[simp] theorem delXfer_en (s : State) (i : Nat) : (delXfer s i).en = s.en := rfl
@[simp] theorem delXfer_sc (s : State) (i : Nat) : (delXfer s i).sc = s.sc := rfl

@[simp] theorem addXfer_pending (s : State) (x : Xfer) : (addXfer s x).pending = s.pending := rfl
@[simp] theorem addXfer_freeCtr (s : State) (x : Xfer) : (addXfer s x).freeCtr = s.freeCtr := rfl
@[simp] theorem addXfer_out (s : State) (x : Xfer) : (addXfer s x).out = s.out := rfl
@[simp] theorem addXfer_flds (s : State) (x : Xfer) : (addXfer s x).flds = s.flds := rfl
@[simp] theorem addXfer_ctrs (s : State) (x : Xfer) : (addXfer s x).ctrs = s.ctrs := rfl
@[simp] theorem addXfer_latches (s : State) (x : Xfer) : (addXfer s x).latches = s.latches := rfl
@[simp] theorem addXfer_plan (s : State) (x : Xfer) : (addXfer s x).plan = s.plan := rfl
@[simp] theorem addXfer_tide (s : State) (x : Xfer) : (addXfer s x).tide = s.tide := rfl
@[simp] theorem addXfer_mem (s : State) (x : Xfer) : (addXfer s x).mem = s.mem := rfl
@[simp] theorem addXfer_bw (s : State) (x : Xfer) : (addXfer s x).bw = s.bw := rfl
@[simp] theorem addXfer_bc (s : State) (x : Xfer) : (addXfer s x).bc = s.bc := rfl
@[simp] theorem addXfer_env (s : State) (x : Xfer) : (addXfer s x).env = s.env := rfl
@[simp] theorem addXfer_ck (s : State) (x : Xfer) : (addXfer s x).ck = s.ck := rfl
@[simp] theorem addXfer_lb (s : State) (x : Xfer) : (addXfer s x).lb = s.lb := rfl
@[simp] theorem addXfer_lc (s : State) (x : Xfer) : (addXfer s x).lc = s.lc := rfl
@[simp] theorem addXfer_ob (s : State) (x : Xfer) : (addXfer s x).ob = s.ob := rfl
@[simp] theorem addXfer_sq (s : State) (x : Xfer) : (addXfer s x).sq = s.sq := rfl
@[simp] theorem addXfer_en (s : State) (x : Xfer) : (addXfer s x).en = s.en := rfl
@[simp] theorem addXfer_sc (s : State) (x : Xfer) : (addXfer s x).sc = s.sc := rfl

@[simp] theorem setInvs_pending (s : State) (c : Nat) (l : List Inv) : (setInvs s c l).pending = s.pending := rfl
@[simp] theorem setInvs_freeCtr (s : State) (c : Nat) (l : List Inv) : (setInvs s c l).freeCtr = s.freeCtr := rfl
@[simp] theorem setInvs_out (s : State) (c : Nat) (l : List Inv) : (setInvs s c l).out = s.out := rfl
@[simp] theorem setInvs_flds (s : State) (c : Nat) (l : List Inv) : (setInvs s c l).flds = s.flds := rfl
@[simp] theorem setInvs_ctrs (s : State) (c : Nat) (l : List Inv) : (setInvs s c l).ctrs = s.ctrs := rfl
@[simp] theorem setInvs_latches (s : State) (c : Nat) (l : List Inv) : (setInvs s c l).latches = s.latches := rfl
@[simp] theorem setInvs_plan (s : State) (c : Nat) (l : List Inv) : (setInvs s c l).plan = s.plan := rfl
@[simp] theorem setInvs_tide (s : State) (c : Nat) (l : List Inv) : (setInvs s c l).tide = s.tide := rfl
@[simp] theorem setInvs_mem (s : State) (c : Nat) (l : List Inv) : (setInvs s c l).mem = s.mem := rfl
@[simp] theorem setInvs_bw (s : State) (c : Nat) (l : List Inv) : (setInvs s c l).bw = s.bw := rfl
@[simp] theorem setInvs_bc (s : State) (c : Nat) (l : List Inv) : (setInvs s c l).bc = s.bc := rfl
@[simp] theorem setInvs_env (s : State) (c : Nat) (l : List Inv) : (setInvs s c l).env = s.env := rfl
@[simp] theorem setInvs_ck (s : State) (c : Nat) (l : List Inv) : (setInvs s c l).ck = s.ck := rfl
@[simp] theorem setInvs_lb (s : State) (c : Nat) (l : List Inv) : (setInvs s c l).lb = s.lb := rfl
@[simp] theorem setInvs_lc (s : State) (c : Nat) (l : List Inv) : (setInvs s c l).lc = s.lc := rfl
@[simp] theorem setInvs_ob (s : State) (c : Nat) (l : List Inv) : (setInvs s c l).ob = s.ob := rfl
@[simp] theorem setInvs_sq (s : State) (c : Nat) (l : List Inv) : (setInvs s c l).sq = s.sq := rfl
@[simp] theorem setInvs_en (s : State) (c : Nat) (l : List Inv) : (setInvs s c l).en = s.en := rfl
@[simp] theorem setInvs_sc (s : State) (c : Nat) (l : List Inv) : (setInvs s c l).sc = s.sc := rfl

@[simp] theorem setHeads_pending (s : State) (c : Nat) (h : ObHeads) : (setHeads s c h).pending = s.pending := rfl
@[simp] theorem setHeads_freeCtr (s : State) (c : Nat) (h : ObHeads) : (setHeads s c h).freeCtr = s.freeCtr := rfl
@[simp] theorem setHeads_out (s : State) (c : Nat) (h : ObHeads) : (setHeads s c h).out = s.out := rfl
@[simp] theorem setHeads_flds (s : State) (c : Nat) (h : ObHeads) : (setHeads s c h).flds = s.flds := rfl
@[simp] theorem setHeads_ctrs (s : State) (c : Nat) (h : ObHeads) : (setHeads s c h).ctrs = s.ctrs := rfl
@[simp] theorem setHeads_latches (s : State) (c : Nat) (h : ObHeads) : (setHeads s c h).latches = s.latches := rfl
@[simp] theorem setHeads_plan (s : State) (c : Nat) (h : ObHeads) : (setHeads s c h).plan = s.plan := rfl
@[simp] theorem setHeads_tide (s : State) (c : Nat) (h : ObHeads) : (setHeads s c h).tide = s.tide := rfl
@[simp] theorem setHeads_mem (s : State) (c : Nat) (h : ObHeads) : (setHeads s c h).mem = s.mem := rfl
@[simp] theorem setHeads_xl (s : State) (c : Nat) (h : ObHeads) : (setHeads s c h).xl = s.xl := rfl
@[simp] theorem setHeads_bw (s : State) (c : Nat) (h : ObHeads) : (setHeads s c h).bw = s.bw := rfl
@[simp] theorem setHeads_bc (s : State) (c : Nat) (h : ObHeads) : (setHeads s c h).bc = s.bc := rfl
@[simp] theorem setHeads_env (s : State) (c : Nat) (h : ObHeads) : (setHeads s c h).env = s.env := rfl
@[simp] theorem setHeads_ck (s : State) (c : Nat) (h : ObHeads) : (setHeads s c h).ck = s.ck := rfl
@[simp] theorem setHeads_lb (s : State) (c : Nat) (h : ObHeads) : (setHeads s c h).lb = s.lb := rfl
@[simp] theorem setHeads_lc (s : State) (c : Nat) (h : ObHeads) : (setHeads s c h).lc = s.lc := rfl
@[simp] theorem setHeads_sq (s : State) (c : Nat) (h : ObHeads) : (setHeads s c h).sq = s.sq := rfl
@[simp] theorem setHeads_en (s : State) (c : Nat) (h : ObHeads) : (setHeads s c h).en = s.en := rfl
@[simp] theorem setHeads_sc (s : State) (c : Nat) (h : ObHeads) : (setHeads s c h).sc = s.sc := rfl

@[simp] theorem setGraph_pending (s : State) (c i : Nat) (g : GraphSlot) : (setGraph s c i g).pending = s.pending := rfl
@[simp] theorem setGraph_freeCtr (s : State) (c i : Nat) (g : GraphSlot) : (setGraph s c i g).freeCtr = s.freeCtr := rfl
@[simp] theorem setGraph_out (s : State) (c i : Nat) (g : GraphSlot) : (setGraph s c i g).out = s.out := rfl
@[simp] theorem setGraph_flds (s : State) (c i : Nat) (g : GraphSlot) : (setGraph s c i g).flds = s.flds := rfl
@[simp] theorem setGraph_ctrs (s : State) (c i : Nat) (g : GraphSlot) : (setGraph s c i g).ctrs = s.ctrs := rfl
@[simp] theorem setGraph_latches (s : State) (c i : Nat) (g : GraphSlot) : (setGraph s c i g).latches = s.latches := rfl
@[simp] theorem setGraph_plan (s : State) (c i : Nat) (g : GraphSlot) : (setGraph s c i g).plan = s.plan := rfl
@[simp] theorem setGraph_tide (s : State) (c i : Nat) (g : GraphSlot) : (setGraph s c i g).tide = s.tide := rfl
@[simp] theorem setGraph_mem (s : State) (c i : Nat) (g : GraphSlot) : (setGraph s c i g).mem = s.mem := rfl
@[simp] theorem setGraph_xl (s : State) (c i : Nat) (g : GraphSlot) : (setGraph s c i g).xl = s.xl := rfl
@[simp] theorem setGraph_bw (s : State) (c i : Nat) (g : GraphSlot) : (setGraph s c i g).bw = s.bw := rfl
@[simp] theorem setGraph_bc (s : State) (c i : Nat) (g : GraphSlot) : (setGraph s c i g).bc = s.bc := rfl
@[simp] theorem setGraph_env (s : State) (c i : Nat) (g : GraphSlot) : (setGraph s c i g).env = s.env := rfl
@[simp] theorem setGraph_ck (s : State) (c i : Nat) (g : GraphSlot) : (setGraph s c i g).ck = s.ck := rfl
@[simp] theorem setGraph_lb (s : State) (c i : Nat) (g : GraphSlot) : (setGraph s c i g).lb = s.lb := rfl
@[simp] theorem setGraph_lc (s : State) (c i : Nat) (g : GraphSlot) : (setGraph s c i g).lc = s.lc := rfl
@[simp] theorem setGraph_sq (s : State) (c i : Nat) (g : GraphSlot) : (setGraph s c i g).sq = s.sq := rfl
@[simp] theorem setGraph_en (s : State) (c i : Nat) (g : GraphSlot) : (setGraph s c i g).en = s.en := rfl
@[simp] theorem setGraph_sc (s : State) (c i : Nat) (g : GraphSlot) : (setGraph s c i g).sc = s.sc := rfl

@[simp] theorem setQueue_pending (s : State) (c q : Nat) (v : Queue) : (setQueue s c q v).pending = s.pending := rfl
@[simp] theorem setQueue_freeCtr (s : State) (c q : Nat) (v : Queue) : (setQueue s c q v).freeCtr = s.freeCtr := rfl
@[simp] theorem setQueue_out (s : State) (c q : Nat) (v : Queue) : (setQueue s c q v).out = s.out := rfl
@[simp] theorem setQueue_flds (s : State) (c q : Nat) (v : Queue) : (setQueue s c q v).flds = s.flds := rfl
@[simp] theorem setQueue_ctrs (s : State) (c q : Nat) (v : Queue) : (setQueue s c q v).ctrs = s.ctrs := rfl
@[simp] theorem setQueue_latches (s : State) (c q : Nat) (v : Queue) : (setQueue s c q v).latches = s.latches := rfl
@[simp] theorem setQueue_plan (s : State) (c q : Nat) (v : Queue) : (setQueue s c q v).plan = s.plan := rfl
@[simp] theorem setQueue_tide (s : State) (c q : Nat) (v : Queue) : (setQueue s c q v).tide = s.tide := rfl
@[simp] theorem setQueue_mem (s : State) (c q : Nat) (v : Queue) : (setQueue s c q v).mem = s.mem := rfl
@[simp] theorem setQueue_xl (s : State) (c q : Nat) (v : Queue) : (setQueue s c q v).xl = s.xl := rfl
@[simp] theorem setQueue_bw (s : State) (c q : Nat) (v : Queue) : (setQueue s c q v).bw = s.bw := rfl
@[simp] theorem setQueue_bc (s : State) (c q : Nat) (v : Queue) : (setQueue s c q v).bc = s.bc := rfl
@[simp] theorem setQueue_env (s : State) (c q : Nat) (v : Queue) : (setQueue s c q v).env = s.env := rfl
@[simp] theorem setQueue_ck (s : State) (c q : Nat) (v : Queue) : (setQueue s c q v).ck = s.ck := rfl
@[simp] theorem setQueue_lb (s : State) (c q : Nat) (v : Queue) : (setQueue s c q v).lb = s.lb := rfl
@[simp] theorem setQueue_lc (s : State) (c q : Nat) (v : Queue) : (setQueue s c q v).lc = s.lc := rfl
@[simp] theorem setQueue_sq (s : State) (c q : Nat) (v : Queue) : (setQueue s c q v).sq = s.sq := rfl
@[simp] theorem setQueue_en (s : State) (c q : Nat) (v : Queue) : (setQueue s c q v).en = s.en := rfl
@[simp] theorem setQueue_sc (s : State) (c q : Nat) (v : Queue) : (setQueue s c q v).sc = s.sc := rfl

@[simp] theorem setWaits_pending (s : State) (c : Nat) (l : List EvWait) : (setWaits s c l).pending = s.pending := rfl
@[simp] theorem setWaits_freeCtr (s : State) (c : Nat) (l : List EvWait) : (setWaits s c l).freeCtr = s.freeCtr := rfl
@[simp] theorem setWaits_out (s : State) (c : Nat) (l : List EvWait) : (setWaits s c l).out = s.out := rfl
@[simp] theorem setWaits_flds (s : State) (c : Nat) (l : List EvWait) : (setWaits s c l).flds = s.flds := rfl
@[simp] theorem setWaits_ctrs (s : State) (c : Nat) (l : List EvWait) : (setWaits s c l).ctrs = s.ctrs := rfl
@[simp] theorem setWaits_latches (s : State) (c : Nat) (l : List EvWait) : (setWaits s c l).latches = s.latches := rfl
@[simp] theorem setWaits_plan (s : State) (c : Nat) (l : List EvWait) : (setWaits s c l).plan = s.plan := rfl
@[simp] theorem setWaits_tide (s : State) (c : Nat) (l : List EvWait) : (setWaits s c l).tide = s.tide := rfl
@[simp] theorem setWaits_mem (s : State) (c : Nat) (l : List EvWait) : (setWaits s c l).mem = s.mem := rfl
@[simp] theorem setWaits_xl (s : State) (c : Nat) (l : List EvWait) : (setWaits s c l).xl = s.xl := rfl
@[simp] theorem setWaits_bw (s : State) (c : Nat) (l : List EvWait) : (setWaits s c l).bw = s.bw := rfl
@[simp] theorem setWaits_bc (s : State) (c : Nat) (l : List EvWait) : (setWaits s c l).bc = s.bc := rfl
@[simp] theorem setWaits_env (s : State) (c : Nat) (l : List EvWait) : (setWaits s c l).env = s.env := rfl
@[simp] theorem setWaits_ck (s : State) (c : Nat) (l : List EvWait) : (setWaits s c l).ck = s.ck := rfl
@[simp] theorem setWaits_lb (s : State) (c : Nat) (l : List EvWait) : (setWaits s c l).lb = s.lb := rfl
@[simp] theorem setWaits_lc (s : State) (c : Nat) (l : List EvWait) : (setWaits s c l).lc = s.lc := rfl
@[simp] theorem setWaits_sq (s : State) (c : Nat) (l : List EvWait) : (setWaits s c l).sq = s.sq := rfl
@[simp] theorem setWaits_en (s : State) (c : Nat) (l : List EvWait) : (setWaits s c l).en = s.en := rfl
@[simp] theorem setWaits_sc (s : State) (c : Nat) (l : List EvWait) : (setWaits s c l).sc = s.sc := rfl

@[simp] theorem setStep_pending (s : State) (i : Nat) (x : Step) : (setStep s i x).pending = s.pending := rfl
@[simp] theorem setStep_freeCtr (s : State) (i : Nat) (x : Step) : (setStep s i x).freeCtr = s.freeCtr := rfl
@[simp] theorem setStep_out (s : State) (i : Nat) (x : Step) : (setStep s i x).out = s.out := rfl
@[simp] theorem setStep_flds (s : State) (i : Nat) (x : Step) : (setStep s i x).flds = s.flds := rfl
@[simp] theorem setStep_ctrs (s : State) (i : Nat) (x : Step) : (setStep s i x).ctrs = s.ctrs := rfl
@[simp] theorem setStep_latches (s : State) (i : Nat) (x : Step) : (setStep s i x).latches = s.latches := rfl
@[simp] theorem setStep_plan (s : State) (i : Nat) (x : Step) : (setStep s i x).plan = s.plan := rfl
@[simp] theorem setStep_tide (s : State) (i : Nat) (x : Step) : (setStep s i x).tide = s.tide := rfl
@[simp] theorem setStep_mem (s : State) (i : Nat) (x : Step) : (setStep s i x).mem = s.mem := rfl
@[simp] theorem setStep_xl (s : State) (i : Nat) (x : Step) : (setStep s i x).xl = s.xl := rfl
@[simp] theorem setStep_bw (s : State) (i : Nat) (x : Step) : (setStep s i x).bw = s.bw := rfl
@[simp] theorem setStep_bc (s : State) (i : Nat) (x : Step) : (setStep s i x).bc = s.bc := rfl
@[simp] theorem setStep_env (s : State) (i : Nat) (x : Step) : (setStep s i x).env = s.env := rfl
@[simp] theorem setStep_ck (s : State) (i : Nat) (x : Step) : (setStep s i x).ck = s.ck := rfl
@[simp] theorem setStep_lb (s : State) (i : Nat) (x : Step) : (setStep s i x).lb = s.lb := rfl
@[simp] theorem setStep_lc (s : State) (i : Nat) (x : Step) : (setStep s i x).lc = s.lc := rfl
@[simp] theorem setStep_ob (s : State) (i : Nat) (x : Step) : (setStep s i x).ob = s.ob := rfl
@[simp] theorem setStep_en (s : State) (i : Nat) (x : Step) : (setStep s i x).en = s.en := rfl
@[simp] theorem setStep_sc (s : State) (i : Nat) (x : Step) : (setStep s i x).sc = s.sc := rfl

@[simp] theorem setEng_pending (s : State) (u : Nat) (e : Eng) : (setEng s u e).pending = s.pending := rfl
@[simp] theorem setEng_freeCtr (s : State) (u : Nat) (e : Eng) : (setEng s u e).freeCtr = s.freeCtr := rfl
@[simp] theorem setEng_out (s : State) (u : Nat) (e : Eng) : (setEng s u e).out = s.out := rfl
@[simp] theorem setEng_flds (s : State) (u : Nat) (e : Eng) : (setEng s u e).flds = s.flds := rfl
@[simp] theorem setEng_ctrs (s : State) (u : Nat) (e : Eng) : (setEng s u e).ctrs = s.ctrs := rfl
@[simp] theorem setEng_latches (s : State) (u : Nat) (e : Eng) : (setEng s u e).latches = s.latches := rfl
@[simp] theorem setEng_plan (s : State) (u : Nat) (e : Eng) : (setEng s u e).plan = s.plan := rfl
@[simp] theorem setEng_tide (s : State) (u : Nat) (e : Eng) : (setEng s u e).tide = s.tide := rfl
@[simp] theorem setEng_mem (s : State) (u : Nat) (e : Eng) : (setEng s u e).mem = s.mem := rfl
@[simp] theorem setEng_xl (s : State) (u : Nat) (e : Eng) : (setEng s u e).xl = s.xl := rfl
@[simp] theorem setEng_bw (s : State) (u : Nat) (e : Eng) : (setEng s u e).bw = s.bw := rfl
@[simp] theorem setEng_bc (s : State) (u : Nat) (e : Eng) : (setEng s u e).bc = s.bc := rfl
@[simp] theorem setEng_env (s : State) (u : Nat) (e : Eng) : (setEng s u e).env = s.env := rfl
@[simp] theorem setEng_ck (s : State) (u : Nat) (e : Eng) : (setEng s u e).ck = s.ck := rfl
@[simp] theorem setEng_lb (s : State) (u : Nat) (e : Eng) : (setEng s u e).lb = s.lb := rfl
@[simp] theorem setEng_lc (s : State) (u : Nat) (e : Eng) : (setEng s u e).lc = s.lc := rfl
@[simp] theorem setEng_ob (s : State) (u : Nat) (e : Eng) : (setEng s u e).ob = s.ob := rfl
@[simp] theorem setEng_en (s : State) (u : Nat) (e : Eng) : (setEng s u e).en = s.en := rfl
@[simp] theorem setEng_sc (s : State) (u : Nat) (e : Eng) : (setEng s u e).sc = s.sc := rfl

@[simp] theorem setTab_pending (s : State) (c i : Nat) (x : TSlot) : (setTab s c i x).pending = s.pending := rfl
@[simp] theorem setTab_freeCtr (s : State) (c i : Nat) (x : TSlot) : (setTab s c i x).freeCtr = s.freeCtr := rfl
@[simp] theorem setTab_out (s : State) (c i : Nat) (x : TSlot) : (setTab s c i x).out = s.out := rfl
@[simp] theorem setTab_flds (s : State) (c i : Nat) (x : TSlot) : (setTab s c i x).flds = s.flds := rfl
@[simp] theorem setTab_ctrs (s : State) (c i : Nat) (x : TSlot) : (setTab s c i x).ctrs = s.ctrs := rfl
@[simp] theorem setTab_latches (s : State) (c i : Nat) (x : TSlot) : (setTab s c i x).latches = s.latches := rfl
@[simp] theorem setTab_plan (s : State) (c i : Nat) (x : TSlot) : (setTab s c i x).plan = s.plan := rfl
@[simp] theorem setTab_tide (s : State) (c i : Nat) (x : TSlot) : (setTab s c i x).tide = s.tide := rfl
@[simp] theorem setTab_mem (s : State) (c i : Nat) (x : TSlot) : (setTab s c i x).mem = s.mem := rfl
@[simp] theorem setTab_xl (s : State) (c i : Nat) (x : TSlot) : (setTab s c i x).xl = s.xl := rfl
@[simp] theorem setTab_bw (s : State) (c i : Nat) (x : TSlot) : (setTab s c i x).bw = s.bw := rfl
@[simp] theorem setTab_bc (s : State) (c i : Nat) (x : TSlot) : (setTab s c i x).bc = s.bc := rfl
@[simp] theorem setTab_env (s : State) (c i : Nat) (x : TSlot) : (setTab s c i x).env = s.env := rfl
@[simp] theorem setTab_ck (s : State) (c i : Nat) (x : TSlot) : (setTab s c i x).ck = s.ck := rfl
@[simp] theorem setTab_lb (s : State) (c i : Nat) (x : TSlot) : (setTab s c i x).lb = s.lb := rfl
@[simp] theorem setTab_lc (s : State) (c i : Nat) (x : TSlot) : (setTab s c i x).lc = s.lc := rfl
@[simp] theorem setTab_ob (s : State) (c i : Nat) (x : TSlot) : (setTab s c i x).ob = s.ob := rfl
@[simp] theorem setTab_sq (s : State) (c i : Nat) (x : TSlot) : (setTab s c i x).sq = s.sq := rfl
@[simp] theorem setTab_sc (s : State) (c i : Nat) (x : TSlot) : (setTab s c i x).sc = s.sc := rfl

@[simp] theorem setGather_pending (s : State) (n : Nat) (g : Gather) : (setGather s n g).pending = s.pending := rfl
@[simp] theorem setGather_freeCtr (s : State) (n : Nat) (g : Gather) : (setGather s n g).freeCtr = s.freeCtr := rfl
@[simp] theorem setGather_out (s : State) (n : Nat) (g : Gather) : (setGather s n g).out = s.out := rfl
@[simp] theorem setGather_flds (s : State) (n : Nat) (g : Gather) : (setGather s n g).flds = s.flds := rfl
@[simp] theorem setGather_ctrs (s : State) (n : Nat) (g : Gather) : (setGather s n g).ctrs = s.ctrs := rfl
@[simp] theorem setGather_latches (s : State) (n : Nat) (g : Gather) : (setGather s n g).latches = s.latches := rfl
@[simp] theorem setGather_plan (s : State) (n : Nat) (g : Gather) : (setGather s n g).plan = s.plan := rfl
@[simp] theorem setGather_tide (s : State) (n : Nat) (g : Gather) : (setGather s n g).tide = s.tide := rfl
@[simp] theorem setGather_mem (s : State) (n : Nat) (g : Gather) : (setGather s n g).mem = s.mem := rfl
@[simp] theorem setGather_xl (s : State) (n : Nat) (g : Gather) : (setGather s n g).xl = s.xl := rfl
@[simp] theorem setGather_bw (s : State) (n : Nat) (g : Gather) : (setGather s n g).bw = s.bw := rfl
@[simp] theorem setGather_bc (s : State) (n : Nat) (g : Gather) : (setGather s n g).bc = s.bc := rfl
@[simp] theorem setGather_env (s : State) (n : Nat) (g : Gather) : (setGather s n g).env = s.env := rfl
@[simp] theorem setGather_ck (s : State) (n : Nat) (g : Gather) : (setGather s n g).ck = s.ck := rfl
@[simp] theorem setGather_lb (s : State) (n : Nat) (g : Gather) : (setGather s n g).lb = s.lb := rfl
@[simp] theorem setGather_lc (s : State) (n : Nat) (g : Gather) : (setGather s n g).lc = s.lc := rfl
@[simp] theorem setGather_ob (s : State) (n : Nat) (g : Gather) : (setGather s n g).ob = s.ob := rfl
@[simp] theorem setGather_sq (s : State) (n : Nat) (g : Gather) : (setGather s n g).sq = s.sq := rfl
@[simp] theorem setGather_sc (s : State) (n : Nat) (g : Gather) : (setGather s n g).sc = s.sc := rfl

@[simp] theorem setEp_pending (s : State) (p : Nat) (t : EpTile) : (setEp s p t).pending = s.pending := rfl
@[simp] theorem setEp_freeCtr (s : State) (p : Nat) (t : EpTile) : (setEp s p t).freeCtr = s.freeCtr := rfl
@[simp] theorem setEp_out (s : State) (p : Nat) (t : EpTile) : (setEp s p t).out = s.out := rfl
@[simp] theorem setEp_flds (s : State) (p : Nat) (t : EpTile) : (setEp s p t).flds = s.flds := rfl
@[simp] theorem setEp_ctrs (s : State) (p : Nat) (t : EpTile) : (setEp s p t).ctrs = s.ctrs := rfl
@[simp] theorem setEp_latches (s : State) (p : Nat) (t : EpTile) : (setEp s p t).latches = s.latches := rfl
@[simp] theorem setEp_plan (s : State) (p : Nat) (t : EpTile) : (setEp s p t).plan = s.plan := rfl
@[simp] theorem setEp_tide (s : State) (p : Nat) (t : EpTile) : (setEp s p t).tide = s.tide := rfl
@[simp] theorem setEp_mem (s : State) (p : Nat) (t : EpTile) : (setEp s p t).mem = s.mem := rfl
@[simp] theorem setEp_xl (s : State) (p : Nat) (t : EpTile) : (setEp s p t).xl = s.xl := rfl
@[simp] theorem setEp_bw (s : State) (p : Nat) (t : EpTile) : (setEp s p t).bw = s.bw := rfl
@[simp] theorem setEp_bc (s : State) (p : Nat) (t : EpTile) : (setEp s p t).bc = s.bc := rfl
@[simp] theorem setEp_env (s : State) (p : Nat) (t : EpTile) : (setEp s p t).env = s.env := rfl
@[simp] theorem setEp_ck (s : State) (p : Nat) (t : EpTile) : (setEp s p t).ck = s.ck := rfl
@[simp] theorem setEp_lb (s : State) (p : Nat) (t : EpTile) : (setEp s p t).lb = s.lb := rfl
@[simp] theorem setEp_lc (s : State) (p : Nat) (t : EpTile) : (setEp s p t).lc = s.lc := rfl
@[simp] theorem setEp_ob (s : State) (p : Nat) (t : EpTile) : (setEp s p t).ob = s.ob := rfl
@[simp] theorem setEp_sq (s : State) (p : Nat) (t : EpTile) : (setEp s p t).sq = s.sq := rfl
@[simp] theorem setEp_sc (s : State) (p : Nat) (t : EpTile) : (setEp s p t).sc = s.sc := rfl

end Sys2Proof.Machine
end

