-- ==== Sys2Proof/WellFormed.lean ====
section
/-!
DEFINITION. Well-formed commands: what an operand must satisfy that its type does not say. `exec` gives every command a meaning, well-formed or
not; a command that is not well-formed stands for no event of the hardware.
-/
namespace Sys2Proof

/-- An atomic's operand is naturally aligned (R102). -/
def Access.wf : Access → Bool
  | .atomic _ wide idx _ _ => !wide || idx.val % 2 == 0
  | _ => true

/-- Reports, one for each sensor or island, come in full: 24 junction sensors (R345), 6 islands (R346), 48 scarp sensors (R347). -/
def Instr.wf : Instr → Bool
  | .regWrite _ off _ => off.toNat % 4 == 0
  | .counterLoRead _ off => off.toNat % 4 == 0
  | .regAccessBadSize _ off size _ => !(off.toNat % 4 == 0 && size == 4)
  | .chartFetchDone image => decide (image.length ≤ 2 ^ 20)
  | .transferIssue (.raw _ _ _ acc) => acc.wf
  | .translateRequest _ _ _ _ len acc => acc.wf && decide (1 ≤ len)
  | .tjSample temps => temps.length == 24
  | .powerRead watts => watts.length == 6
  | .pmbAlert watts => watts.length == 6
  | .scarpMeasure ratios => ratios.length == 48
  | .freeboardReplan ratios => ratios.length == 48
  | .bounceChunk _ data _ _ => decide (data.length ≤ 4096)
  | .ibpinBadOpcode op => op != 1 && op != 2
  | _ => true

end Sys2Proof
end

