-- ==== Sys2Proof/Tests/Slice0.lean ====
section
/-!
SUPPORT. Tests: commands that the well-formedness check refuses, the worked examples of the spec, and for every obligation with hypotheses a
theorem `witness_<name>` that shows, clause by clause, a state and operands that meet them together.
-/
namespace Sys2Proof.Tests
open Sys2Proof Sys2Proof.Machine
set_option Elab.async false
set_option linter.unusedVariables false

/-! ### States to test on -/

/-- Out of reset, start-up over: the host ports are open. -/
def up : State := { State.reset with lc := { State.reset.lc with boot := 12 } }

/-- A state with fields set. -/
def withFlds (s : State) (l : List (Fld × Nat)) : State := l.foldl (fun s e => setFld s e.1 e.2) s

/-- Cove 15 ACTIVE and nothing else. -/
def cove : State :=
  withFlds { up with plan := { up.plan with coves := [(15, ⟨0, 0, true, 0⟩)] } } [(F.CV_MGR_STATUS_STATE 15, 1)]

/-- `up` with one source as given. -/
def withSrc (i : Nat) (x : Src) : State := { up with bc := { up.bc with srcs := [(i, x)] } }

/-- `up` with the fields of the reset and slack state changed. -/
def withLc (f : LcSt → LcSt) : State := { up with lc := f up.lc }

/-- At step `n` of start-up. -/
def starting (n : Nat) : State := { State.reset with lc := { State.reset.lc with boot := n } }

/-- `up` with its clocks changed. -/
def withCk (f : CkSt → CkSt) : State := { up with ck := f up.ck }

/-- The next state of an outcome. -/
def nextOf : Host.Outcome State Fault Refusal → Option State
  | .next t => some t
  | _ => none

theorem eq_next {o : Host.Outcome State Fault Refusal} {t : State} (h : nextOf o = some t) : o = .next t := by
  cases o <;> simp_all [nextOf]

/-- An unsigned amendment of generation 2 over 1, which gives cove 0 a descriptor. -/
def amendment : List Byte :=
  (List.range 272).map (fun i => BitVec.ofNat 8 (tgetD
    [(0, 1), (2, 1), (4, 64), (8, 0x50), (9, 0x53), (10, 0x43), (11, 0x48), (13, 1), (14, 0x16), (16, 0x10), (17, 1), (20, 2),
     (24, 1), (28, 1), (50, 1), (64, 0x0F), (66, 1), (68, 208)] i 0))

/-- A master that runs with a period of 4 ms of a 100 MHz crystal. -/
def master : Master := ⟨true, false, 0, 400000, 4000000, none, [], [], 0, 0⟩

/-- The amendment is in the buffer, over generation `gen`, in a state of the buffer and of the apply. -/
def withChart (gen st : Nat) (step : Option ApplyStep) : State :=
  withFlds { up with
      plan := { up.plan with coves := [(0, ⟨0, 1, false, 0⟩)], staging := amendment, xaKhz := 100000,
                             apply := step.map (⟨·, false, [], 2, [], [], []⟩) }
      tide := { up.tide with masters := [(0, master), (16, master)] } }
    [(F.CH_STATUS_STATE, st), (F.CH_LEN_LEN, 272), (F.CH_GEN_GEN, gen)]

/-- The image in the buffer of a state. -/
def imageOf (s : State) : Image := match decodeImage s (imageBytes s) with | .ok m => m | .error _ => Image.start []

/-- `up` with transfer 0 waiting at an address, by the scheduler under the tag of management. -/
def xfer (fpa : Nat) (acc : Access) (st : XStage) : Xfer := ⟨16, 0x9000, none, 0, 0, 64, acc, fpa, false, 1, 0, false, false, none, false, 0, st⟩

/-- `up` with transfer 0. -/
def withXfer (x : Xfer) : State := { up with xl := { up.xl with xfers := [(0, x)], nextXfer := 1 } }

/-- The lowest address of the tidepool. -/
def tpBase : Nat := 0x3FFF * 2 ^ 27

/-- A key range over the last granule, under KID 63, in a phase of re-keying. -/
def keyRange (phase : Nat) : KeyRange := ⟨2719, 1, true, 0, 15, 63, none, phase, false, false, false, 0, []⟩

/-- `up` with that range numbered 63, its granule owned by cove 15. -/
def withRange (phase : Nat) : State :=
  { up with plan := { up.plan with gran := [(2719, ⟨15, 2, 31, 0⟩)] }, mem := { up.mem with kr := [(63, keyRange phase)] } }

/-- `up` with KID 63 in a state. -/
def withKid (st : KidState) (covered : List Place) : State := { up with mem := { up.mem with kids := [(63, ⟨st, false, covered, [], none⟩)] } }

/-- `up` with a zero-fill of the last granule. -/
def withFill (done : Nat) (w : FillFor) : State := { up with plan := { up.plan with fills := [(⟨⟨2719, 2⟩, 0, done⟩, w)] } }

/-- Cove 15 in a state of R305. -/
def coveIn (st : Nat) : State := withFlds cove [(F.CV_MGR_STATUS_STATE 15, st)]

/-- Cove 15 with its session half or wholly begun, under running firmware. -/
def session (l : List Session) : State :=
  withFlds { cove with sc := { cove.sc with sessions := l.map (fun x => (15, x)), devKey := some 0 } } [(F.FAB_SEC_STATUS_FW_OK, 1)]

/-- A bounce copy of cove 15 on engine 3. -/
def copy : BxCopy := ⟨15, 0, 0, 0, 0, 64, true, none, 0, some 3, false⟩

/-- An established session. -/
def established : Session := ⟨true, none, 0, 0, 0, 0⟩

/-- Cove 15 with a TLB entry of pair client 159 for its first page, and a directory. -/
def leaf : Leaf := ⟨15, 4095, 0, 0, 0, true, true, true, false, none⟩

/-- Cove 15 with its object area in service: a table of 1,024 handles on granule 0. -/
def area : State :=
  withFlds { cove with plan := { cove.plan with gran := [(0, ⟨15, 2, 0, 0⟩)] }, ob := { cove.ob with heads := [(15, ⟨1024, 0, 1023⟩)] } }
    [(F.SC_STATUS_TRAINED 0, 1), (F.OB_AREA_STATUS_READY 15, 1), (F.OB_AREA_LOG2 15, 10)]

/-- A Live object with its counts. -/
def entity (host inc : Nat) : ObjEnt := ⟨0, 4095, false, 64, 1, false, false, inc, host, 0, 0, false, 0⟩

/-- The area with handle 1023 in use. -/
def withEnt (e : ObjEnt) : State := (modEnt area 15 1023 (fun _ => some e)).2

/-- The area with queue 63 as given. -/
def withQueue (x : Queue) : State := { area with ob := { area.ob with queues := [(15 * 64 + 63, x)] } }

/-- An Active queue holding some entries. -/
def queue (l : List QEntry) : Queue := ⟨.active, false, 1, 0, l, 0, false, none, [], 0, 0, 0, 0, 0, false⟩

/-- `cove` with some context slots in use. -/
def withSlots (l : List CtxSlot) : State := { cove with ob := { cove.ob with slots := l } }

/-- A state with the argument registers of virtual function 15 set. -/
def withArgs (s : State) (l : List Nat) : State := withFlds s (l.zipIdx.map (fun e => ((F.OB_ARG_ARG 15 e.2).own (.vf 15), e.1)))

/-- OB_CREATE by virtual function 15 with the arguments of a state. -/
def createOf (s : State) : ObAns × State :=
  create s 15 (obArg s (.vf 15) 15 0 + 2 ^ 32 * bits (obArg s (.vf 15) 15 1) 0 16) (bits (obArg s (.vf 15) 15 1) 16 12)
    (bit (obArg s (.vf 15) 15 1) 28) (obArg s (.vf 15) 15 2 + 2 ^ 32 * bits (obArg s (.vf 15) 15 3) 0 12)

/-- An entry of queue 63 of cove 15. -/
def entry : QEntry := ⟨0, 4095, false, 0, none, none, none, [], 0⟩

/-- A tile of a kind on logical engine 127 of it, at the first boundary. -/
def tile (kind : Nat) : TileEnt := ⟨0, kind, 127, 0, 0, 0, 0, 0⟩

/-- A step of cove 15, queue 63 and context 4095. -/
def aStep : Step :=
  { cove := 15, queue := 63, entry := 0, ctx := 4095, desc := 0, nstage := 1, nchunk := 2, skind := 1, liveDva := 64, live := [], tiles := [],
    ph := .running, map := [], placed := true, vec := [], chunk := 0, stage := 0, cheapOnly := false, err := false, seq := 0, started := true,
    accepted := 0, startAt := 0, since := 0, units := [], moves := [], saved := [], noted := [], tokens := 0, fallback := 0, deadlineNs := 0,
    est := 0, tslots := [], ctxs := [] }

/-- A released entry. -/
def aRun : Run := ⟨15, 63, entry, true, [], false, false, none, none, false, 0⟩

/-- Cove 15 with every kind of engine, its area, a resident context, queue 63, and some runs, steps and engines at work. -/
def sched (fifo : List QEntry) (runs : List Run) (steps : Tbl Step) (engines : Tbl Eng) : State :=
  { area with
    plan := { area.plan with owner := [(resKey kEP 127, 15), (resKey kSH 31, 15), (resKey kRM 15, 15), (resKey kTU 7, 15), (resKey kTK 7, 15)] }
    ob := { area.ob with queues := [(1023, queue fifo)], slots := [⟨15, 4095, .resident⟩] }
    sq := { area.sq with runs := runs, steps := steps, engines := engines } }

/-- A tile of `aStep` of a kind at a unit: placed and not begun, or in progress. -/
def onUnit (kind u : Nat) (e : Eng) : State :=
  sched [] [aRun] [(0, { aStep with tiles := [(tile kind, .running)], map := [(kind * 128 + 127, u)] })] [(u, e)]

/-- An engine with tile 0 of step 0. -/
def eng (begun abort : Bool) : Eng := ⟨0, 0, abort, begun, none, 0⟩

/-- What stands on that unit. -/
def onTile (kind u : Nat) (e : Eng) : OnTile := ⟨e, { aStep with tiles := [(tile kind, .running)], map := [(kind * 128 + 127, u)] }, tile kind⟩

/-- A step at a stop point with a live range of 64 bytes. -/
def stopping : Step := { aStep with ph := .stopping, liveDva := 64, live := [⟨0, 1, true, true, 64⟩] }

/-- One live range in memory: 64 bytes at DVA 64 of a port's input buffer, in the first line of the area's granule, which the shared L2 maps for the
scheduler. -/
def withLive (s : State) : State :=
  (mgmtAccess (withFlds { s with
      flds := tput s.flds F.FAB_ARR_INFO_SP_MIB.key 1
      xl := { s.xl with l2 := [(l2Key 0 4095 0, [leaf])] } } [(F.XL_CTXDIR_LO_EN 15, 1)])
    0 (.write (BitVec.allOnes 64) (BitVec.ofNat 512 (64 + 64 * 2 ^ 64)))).2

/-- Spill space of one granule. -/
def withSpill (s : State) : State := withFlds s [(F.SQ_SPILL_STATUS_READY 15, 1), (F.SQ_SPILL_COUNT 15, 1)]

/-- A scratchpad range of a unit, moved whole. -/
def moved (u : Nat) : SpillMove := ⟨u, ⟨0, true, 127, 64⟩, 0, 1⟩

/-- The live range read. -/
def liveRange : LiveRange := ⟨64, false, 0, 64⟩

/-- The value of a piece of work that does not stall. -/
def okVal {α : Type} : Except Stall (α × State) → Option α
  | .ok x => some x.1
  | .error _ => none

/-- The state a piece of work leaves. -/
def okState {α : Type} : Except Stall (α × State) → State
  | .ok x => x.2
  | .error _ => up

theorem ok_eq {α : Type} {x : Except Stall (α × State)} {a : α} (h : okVal x = some a) : x = .ok (a, okState x) := by
  cases x with
  | error _ => cases h
  | ok y => cases h; rfl

/-- The state that paid work leaves. -/
def got (o : Option State) : State := o.getD up

theorem got_eq {o : Option State} (h : o.isSome = true) : o = some (got o) := by
  cases o with
  | none => cases h
  | some t => rfl

/-- A state whose regulator `r` has used its credit up. -/
def broke (r : Nat) (s : State) : State :=
  { s with bw := [(r, ⟨⟨1, false, false, 0, 1, 1⟩, 1, 0, false, 0, 0, 0, false, false, 0, false, none⟩)] }

/-- What the scheduler reads of the ranges of the live-map entry of a step. -/
def rangesOf (s : State) (bytes : Nat) : Except Stall (Except Nat (List LiveRange) × State) :=
  readRanges (sqWho 15 4095) (fld s F.FAB_ARR_INFO_SP_MIB) ⟨0, 1, true, true, bytes⟩ s

/-- A table of one row of 32 binary32 lanes. -/
def table : TableDesc := ⟨0, 1, 0, 1, 128, 0, false, false, false, 0, 0, 0, 0, 0, 0, 0, 0, []⟩

/-- A gather of one index into one bag, by sums. -/
def gather : Gather :=
  ⟨⟨0, 0, 0, 0, 0, 1, 1, 0, 0, false, 128⟩, 0, 4095, table, none, 0, none, [0, 1], 0, 0, [], [], [], [], none, [], 0, []⟩

/-- Shoal engine 63 with a gather in progress. -/
def gathering (e : Eng) (g : Gather) : State :=
  { onUnit 1 0x103F e with en := { area.en with gp := [(0x103F, g)] } }

/-- A bag that has its one occurrence. -/
def fullBag (ph : BagPh) : Bag := ⟨ph, List.replicate 32 0, List.replicate 32 (-150), [⟨some 0, List.replicate 32 0, 0, false⟩]⟩

/-- A bound slot of the last table-update engine over an overlay of one bucket. -/
def tslot : TSlot := ⟨7, 4095, 0, table, ⟨0, 0, 1, 0, 63, 0, 0, 0⟩, 0, false, false, false, none, [], 0, 0⟩

/-- Cove 15 with slot 63 bound, and memory and translation for its engine. -/
def bound (e : Eng) (x : TSlot) : State :=
  { onUnit 3 0x4007 e with
    flds := tput area.flds (F.XL_CTXDIR_LO_EN 15).key 1
    xl := { area.xl with tlb := [(183, [leaf])] }
    en := { area.en with slots := [(15 * 64 + 63, x)] } }

/-- A delta tile of slot 63 with one record. -/
def delta : Delta := ⟨0, 4095, 63, 0, 0, 1, 0⟩

/-- A flip of slot 63. -/
def flip (armed : Bool) : Flip := ⟨2 ^ 63, 0, 0, 0, armed⟩

/-- A move of cove 15 on the last sweep engine. -/
def move : Move := ⟨0, 15, 4095, 0, 64, 64, 0, .prefetch, 31, none, none⟩

/-- `cove` with some moves. -/
def withMoves (l : List Move) : State := { cove with en := { cove.en with moves := l } }

/-- A tile of 8,192 rows on an engine port. -/
def epTile : EpTile :=
  { cmdDva := 0, ctx := 4095, ctx1 := 0, a0 := 0, out0 := 0, a1 := 0, out1 := 0, rows := 8192, rbytes := 64, obytes := 1, split := false, ain := false,
    astride := 64, ostride := 64, mask0 := 0, mask1 := 0, fed := 0, tbReq := false, ret0 := 0, ret1 := 0, fault0 := false, fault1 := false,
    skip := [], bad := false, arrErr := false }

/-- Engine port 127 with that tile in progress. -/
def porting (abort : Bool) (t : EpTile) : State := { onUnit 0 127 (eng true abort) with en := { area.en with ep := [(127, t)] } }

/-- `up` with the clear of port 127 at a stage. -/
def clearing (n : Nat) : State := { up with en := { up.en with clearing := [(127, n)] } }

/-- A set that lacks the first line of a granule, on that line's stack. -/
theorem lacks_first {s : State} {n x : Nat} {p : Place} (hx : x.testBit 0 = false) (hp : (placedAt s p 0).1 = n) : lacksOn s n p x = true :=
  List.any_eq_true.2 ⟨0, List.mem_range.2 (by decide), by simp [hx, hp]⟩

theorem headFill_one {s : State} {n : Nat} {f : ZFill} {w : FillFor} (hf : s.plan.fills = [(f, w)]) (hl : lacksOn s n f.place f.done = true) :
    headFill s n = some f := by
  simp [headFill, hf, hl]

theorem headRekey_one {s : State} {n r : Nat} {k : KeyRange} {p : Place} {l : List Place} (hq : s.mem.sweepQ = [r])
    (hk : tfind s.mem.kr r = some k) (hp : rangePlaces s k = p :: l) (h : k.phase = 2 ∧ k.sweepDone = false ∧ fillOf s p.gran = none)
    (hl : lacksOn s n p (tgetD k.swept p.gran 0) = true) : headRekey s n = some r := by
  simp [headRekey, hq, hk, hp, h, hl]

theorem headVerify_one {s : State} {n k : Nat} {p : Place} {l : List Place} (hq : s.mem.verifyQ = [k]) (hp : (kidOf s k).covered = p :: l)
    (hl : lacksOn s n p (tgetD (kidOf s k).verified 0 0) = true) : headVerify s n = some k := by
  simp [headVerify, hq, hp, hl]

/-- A KID that the table does not list is Free. -/
theorem other_kid {s : State} {i j : Nat} {v : Kid} (hk : s.mem.kids = [(i, v)]) (h : j ≠ i) : (kidOf s j).st ≠ .draining := by
  simp [kidOf, hk, tgetD, tfind, h.symm, Kid.init]

/-! ### Well-formedness: one ill-formed command for each check, and a well-formed one beside it -/

theorem test_wf_regWrite : (Instr.regWrite .pf 2 ⟨0, 0⟩).wf = false ∧ (Instr.regWrite .pf 4 ⟨0, 0⟩).wf = true := by decide
theorem test_wf_counterLoRead : (Instr.counterLoRead .pf 6).wf = false ∧ (Instr.counterLoRead .pf 8).wf = true := by decide
/-- An aligned access of 4 bytes is no bad size (R7). -/
theorem test_wf_regAccessBadSize :
    (Instr.regAccessBadSize .pf 4 4 true).wf = false ∧ (Instr.regAccessBadSize .pf 4 8 true).wf = true := by decide
theorem test_wf_chartFetchDone : (Instr.chartFetchDone (List.replicate (2 ^ 20 + 1) 0)).wf = false := by
  rw [Instr.wf, List.length_replicate]; decide
theorem test_wf_transferIssue : (Instr.transferIssue (.raw 0 0 0 (.atomic .add true 1 0 0))).wf = false ∧
    (Instr.transferIssue (.raw 0 0 0 (.atomic .add true 2 0 0))).wf = true := by decide
theorem test_wf_translateRequest : (Instr.translateRequest 0 0 0 0 8 (.atomic .add true 1 0 0)).wf = false ∧
    (Instr.translateRequest 0 0 0 0 0 .read).wf = false ∧ (Instr.translateRequest 0 0 0 0 1 .read).wf = true := by decide
theorem test_wf_tjSample : (Instr.tjSample [0]).wf = false ∧ (Instr.tjSample (List.replicate 24 0)).wf = true := by decide
theorem test_wf_powerRead : (Instr.powerRead [none]).wf = false ∧ (Instr.powerRead (List.replicate 6 none)).wf = true := by decide
theorem test_wf_pmbAlert : (Instr.pmbAlert []).wf = false ∧ (Instr.pmbAlert (List.replicate 6 none)).wf = true := by decide
theorem test_wf_scarpMeasure : (Instr.scarpMeasure [1]).wf = false ∧ (Instr.scarpMeasure (List.replicate 48 1)).wf = true := by decide
theorem test_wf_freeboardReplan :
    (Instr.freeboardReplan [1]).wf = false ∧ (Instr.freeboardReplan (List.replicate 48 1)).wf = true := by decide
theorem test_wf_bounceChunk : (Instr.bounceChunk 0 (List.replicate 4097 0) 0 false).wf = false := by
  rw [Instr.wf, List.length_replicate]; decide
theorem test_wf_ibpinBadOpcode :
    (Instr.ibpinBadOpcode 1).wf = false ∧ (Instr.ibpinBadOpcode 2).wf = false ∧ (Instr.ibpinBadOpcode 3).wf = true := by decide

/-! ### The worked examples of the spec -/

/-- 00_scope.md, worked example: GP45 runs in D54 and EP93 in D75. -/
theorem test_unit_domains : unitDomain 0x102D = 54 ∧ unitDomain 93 = 75 := by decide

/-- 04_memory_plane.md, worked example of R97: FPA 0x0083_4012_3440 in a MODE 1 granule of 36 GiB stacks. -/
theorem test_placement : placeByte 128 2100 1 1193024 = (22, 0x340024440) ∧ pseudoCh 0x340024440 = 4 := by decide

/-- The same example: the metadata line is at MDA 0x8_6800_4880. -/
theorem test_metadata_line :
    metaLine (withFlds up [(F.FAB_CONFIG_STACK36, 1)]) 0x340024440 = 0x868004880 / 64 := by decide +kernel

/-- 04_memory_plane.md, worked example of R110: one error, in data bit 5, at position 19. -/
theorem test_one_error :
    decodeWord 0x0123456789ABCDCF (wordCode 0x0123456789ABCDEF) = .corrected 0x0123456789ABCDEF (wordCode 0x0123456789ABCDEF) 1 := by
  decide +kernel

/-- The same example: two errors, in data bits 5 and 12, whose S1 is 0x53. -/
theorem test_two_errors :
    decodeWord 0x0123456789ABDDCF (wordCode 0x0123456789ABCDEF) = .corrected 0x0123456789ABCDEF (wordCode 0x0123456789ABCDEF) 2 ∧
    (wordSyndromes 0x0123456789ABDDCF (wordCode 0x0123456789ABCDEF)).1 = 0x53 := by
  decide +kernel

/-- The same example: three errors are not corrected. -/
theorem test_three_errors : decodeWord 0x0123456789ABDDCE (wordCode 0x0123456789ABCDEF) = .uncorrectable := by decide +kernel

/-- 04_memory_plane.md, R110's powers of α in the example. -/
theorem test_alpha : gfAlpha 19 = 0x39 ∧ gfAlpha 26 = 0x6A ∧ gfAlpha 22 = 0x53 := by decide +kernel

/-- 05_translation.md, worked example of R132: the walk indices of DVA 0x7F12_3456_3440. -/
theorem test_walk_indices : (List.range 4).map (fun l => walkIndex l 0x7F1234563440) = [22, 418, 72, 254] := by decide

/-- 05_translation.md, worked example of R150: the 834th record of C1. -/
theorem test_wrack_record :
    wrackBytes { withFlds up [(F.XL_WQ_PROD_PROD 1, 833)] with
        xl := { up.xl with wqSeq := [(1, 833)] }, tide := { up.tide with masters := [(1, { master with count := 7214 })] } } 1
      ⟨0x025, true, true, 0, 0, 1, 0x7F1234563440, 0, 70, 0, 0⟩ =
    toBytes 8 0x0143025100000341 ++ toBytes 8 0x00007F1234563440 ++ toBytes 8 0x46 ++ toBytes 8 0x1C2E := by decide +kernel

/-- 05_translation.md, after R159: page 0x83_4012 marks bit 2 of byte 1,075,202 of the bitmap. -/
theorem test_dirty_bit : dirtyBit 0 0x834012 = (1075202 / 64 * 64, 1#512 <<< (8 * (1075202 % 64) + 2)) := by decide +kernel

/-- 06_shoal_engines.md, pooling one bag: 28.75 is 0x41E6 and −4.25 is 0xC088 in BF16. -/
theorem test_bf16 : bf16.encode (.fin false 115 (-2)) = (0x41E6, false) ∧ bf16.encode (.fin true 17 (-2)) = (0xC088, false) := by
  decide +kernel

/-- The same example: FP16 0x4A40 is 12.5 and 0xC100 is −2.5. -/
theorem test_fp16 : laneVal (toLane (fp16.decode 0x4A40)) = laneVal 0x41480000 ∧
    toLane (fp16.decode 0xC100) = 0xC0200000 := by decide +kernel

/-- 07_live_tables_and_movers.md, worked example of R197: the entry of row 0x4C_4B51, BORN 18, slot 88,000. -/
theorem test_overlay_entry :
    OvlEnt.bytes ⟨0x4C4B51, true, 18, 88000⟩ = toBytes 8 0x00000100004C4B51 ++ toBytes 8 0x000157C000000012 := by decide +kernel

/-- 08_host_objects.md, worked example: handle 0x1A2B at INC 7. -/
theorem test_href : href 0x1A2B 7 = 0x07001A2B := by decide

/-- The same example: record 5,000 of DEVNO 37, event 40, value 3. -/
theorem test_ring_record :
    ringBytes (withFlds up [(F.EV_CV_CRING_PROD 1, 5000), (F.CV_MANIFEST_DEVNO 1, 37)]) 1 ⟨0x12345, 40, 0, 3, false⟩ =
      [0x45, 0x23, 0x41, 0x09, 0x28, 0, 0, 0, 3, 0, 0, 0, 0, 0, 0, 0] := by decide +kernel

/-- 11_beacon_interrupts.md, worked example: the claim of target 16 returns 0x8000_0020. -/
theorem test_claim :
    (claimTgt { up with bc := { up.bc with srcs := [(32, { Src.init with pending := true, en := true, route := some 16 })] } } 16).1 =
      0x80000020 := by decide +kernel

/-! ### Single steps -/

/-- The block idles on an empty queue (log entry 3). -/
theorem test_idle : step up = .next up := rfl

/-- A step takes the command at the front. -/
theorem test_front : (nextOf (step { up with pending := [.jtagIdcode, .slackNAssert] })).map (·.pending) = some [.slackNAssert] := by
  decide +kernel

/-- R51: a write of CH_WDATA in LOADING stores four bytes at CH_WPTR and advances it. -/
theorem test_wdata :
    (nextOf (exec (.chWdata .pf 0x44332211) (withFlds up [(F.CH_STATUS_STATE, 1), (F.CH_STATUS_HOLDER, 2)]))).map
      (fun t => (fld t F.CH_WPTR_PTR, t.plan.staging.take 4)) = some (4, [0x11, 0x22, 0x33, 0x44]) := by decide +kernel

/-! ### Witnesses of the obligations' hypotheses -/

theorem witness_BeaconCommandsComplete :
    (∃ (s : State) (src : SourceId), running s 94 = true ∧ raisable s src.val = true) ∧
    (∃ (s : State) (g : Idx64) (i : Nat), running s 94 = true ∧ tgetD s.bc.running g.val false = true ∧ i / 16 = g.val ∧ i ≠ 524 ∧ (srcOf s i).pending =
      true ∧ (srcOf s i).held = true) ∧
    (∃ (s : State) (q : Requester) (t : TargetId) (i : Nat), hostClosed s = false ∧ mayTgt s q t.val = true ∧ bestSrc s t.val = some i) ∧
    (∃ (s : State) (q : Requester) (t : TargetId) (v : Word), hostClosed s = false ∧ mayTgt s q t.val = true ∧ (srcOf s (v.toNat % 1024)).active = true ∧
      (srcOf s (v.toNat % 1024)).svc = t.val ∧ (srcOf s (v.toNat % 1024)).en = true) ∧
    (∃ (s : State) (q : Requester) (c : CoveId) (v : Word) (k : Nat), Reaches s q c.val ∧ k < 16 ∧ v.toNat.testBit k = true) ∧
    (∃ (s : State) (q : Requester) (src : SourceId) (v : Word), hostClosed s = false ∧ qMgmt q = true ∧ ((srcClass src.val = 1 ∨ srcClass src.val = 2)) ∧
      mayName s src.val (bits v.toNat 8 6) = true ∧ bit v.toNat 4 = true) ∧
    (∃ (s : State) (q : Requester) (t : TargetId) (v : Word), hostClosed s = false ∧ qMgmt q = true ∧ ¬ (bits v.toNat 0 2 = 2 ∧ (tgtOwner s t.val).isSome
      = true) ∧ bit v.toNat 2 = true) ∧
    (∃ (s : State) (q : Requester) (on : Bool), Manages s q ∧ isMakerOrIntegrator s = true) ∧
    (∃ (s : State), running s 94 = true ∧ attention s = true ∧ ibPulses s = true) :=
  ⟨⟨State.reset, 513, by decide +kernel⟩,
   ⟨{ withSrc 523 ⟨true, true, false, none, 0, 0, true, 0⟩ with bc := { srcs := [(523, ⟨true, true, false, none, 0, 0, true, 0⟩)], tgts := [], running := [(32, true)], unsent := [] } },
      32, 523, by decide +kernel⟩,
   ⟨withSrc 591 ⟨true, false, false, some 63, 0, 15, true, 63⟩, .pf, 63, 591, by decide +kernel⟩,
   ⟨withSrc 591 ⟨false, false, true, none, 63, 15, true, 63⟩, .ibpin, 63, 591, by decide +kernel⟩,
   ⟨cove, .vf 15, 15, 0x8000, 15, by decide +kernel⟩,
   ⟨up, .pf, 524, 0x3F1F, by decide +kernel⟩,
   ⟨up, .pf, 63, 0x7FF06, by decide +kernel⟩,
   ⟨up, .ibpin, true, by decide +kernel⟩,
   ⟨{ up with bc := { up.bc with srcs := [(512, ⟨true, false, false, some 63, 0, 0, true, 63⟩)], tgts := [(63, ⟨2, true, 0, false⟩)] } }, by
      decide +kernel⟩⟩

theorem witness_RegisterCommandsComplete :
    (∃ (s : State) (q : Requester) (off : BitVec 25) (v late : Word) (r : RegRow), Manages s q ∧ off.toNat % 4 = 0 ∧ inWin off.toNat = false ∧ starts q
      off.toNat (keepLate off.toNat v late) s = none ∧ rowAt off.toNat = some r) ∧
    (∃ (s : State) (q : Requester) (off : BitVec 25) (size : Nat) (w : Bool), hostClosed s = false ∧ q ≠ .ibpin ∧ ¬ (off.toNat % 4 = 0 ∧ size = 4)) ∧
    (∃ (s : State) (off : BitVec 25), hostClosed s = false ∧ off.toNat % 4 = 0 ∧ inWin off.toNat = false ∧ isCtrLo off.toNat = true) ∧
    (∃ (s : State) (a : Word), hostClosed s = false ∧ a.toNat % 4 = 0 ∧ a.toNat < 0x2000000) ∧
    (∃ (s : State) (a v : Word) (t : State), hostClosed s = false ∧ a.toNat % 4 = 0 ∧ a.toNat < 0x2000000 ∧ writeReg .ibpin a.toNat v s = .next t) ∧
    (∃ (s : State) (op : Byte), hostClosed s = false ∧ op ≠ 1 ∧ op ≠ 2) ∧
    (∃ (s : State), resetting s = false ∧ slackOn s = false) ∧
    (∃ (s : State) (wr : Option (Word × Word)), resetting s = false ∧ slackOn s = true) :=
  ⟨⟨up, .pf, 0xE0020, 0x7F, 0, ⟨0xE0020, 1, 0, 1, 0, .plain, [(0, 7, 0, .rw)]⟩, by decide +kernel⟩,
   ⟨up, .vf 15, 0x1FFFFFF, 4, true, by decide +kernel⟩,
   ⟨up, 0x100, by decide +kernel⟩,
   ⟨up, 0x1FFFFFC, by decide +kernel⟩,
   ⟨up, 0x1FFFFFC, 0xFFFFFFFF, up, by exact ⟨by decide, by decide, by decide, eq_next (by decide +kernel)⟩⟩,
   ⟨up, 3, by decide +kernel⟩,
   ⟨up, by decide +kernel⟩,
   ⟨withFlds up [(F.SL_STATUS_FROZEN, 1)], some (0x1FFFFFC, 0), by decide +kernel⟩⟩

theorem witness_RegulatorCommandsComplete :
    (∃ (s : State) (r : Fin 256), running s 96 = true ∧ s.bw.sorted = true) ∧
    (∃ (s : State) (r : Fin 256) (b : ReadBuffer), mayUrge s r.val = true ∧ running s (unitDomain (regulUnit r.val)) = true) ∧
    (∃ (s : State), running s 94 = true) :=
  ⟨⟨up, 255, by decide +kernel⟩,
   ⟨{ up with bw := [(255, ⟨⟨0, true, false, 0, 1, 1⟩, 1, 1, false, 0, 0, 0, false, false, 0, false, none⟩)], sq := { up.sq with engines := [(regulUnit 255, ⟨0, 0, false, false, none, 0⟩)] } },
      255, ⟨0, 63⟩, by decide +kernel⟩,
   ⟨State.reset, by decide +kernel⟩⟩

theorem witness_LifecycleCommandsComplete :
    (∃ (s : State) (q : Requester) (v : Word), Manages s q ∧ nextRefusal s (bits v.toNat 0 3) = none) ∧
    (∃ (s : State) (uid fwk : Bool) (code : Nat) (rest : List Nat), s.lc.prog = code :: rest ∧ masksBlown (blowMasks s.lc.fuses code uid fwk) code = true) ∧
    (∃ (s : State) (q : Requester) (v : Word), Manages s q ∧ fld s F.LC_STATE_STATE = 2) :=
  ⟨⟨up, .pf, 1, by decide +kernel⟩,
   ⟨{ State.reset with lc := { State.reset.lc with prog := [4] } }, true, true, 4, [], by decide +kernel⟩,
   ⟨withFlds up [(F.LC_STATE_STATE, 2)], .pf, 1, by decide +kernel⟩⟩

theorem witness_SlackCommandsComplete :
    (∃ (s : State) (q : Requester) (v : Word), Manages s q ∧ s.lc.inReset = false ∧ bit v.toNat 0 = true) ∧
    (∃ (s : State), s.lc.inReset = false) ∧
    (∃ (s : State), slackCauses s ≠ 0 ∧ slackOn s = false ∧ s.lc.inReset = false) ∧
    (∃ (s : State) (fio : Nat), flag s F.SL_STATUS_STOPPING = true ∧ ((fld s F.SL_STATUS_WAVE = 3 → waveCReady s = true))) ∧
    (∃ (s : State) (n : StackId), flag s F.SL_STATUS_STOPPING = true ∧ flag s (F.SC_STATUS_TRAINED n.val) = true ∧ s.lc.sr.contains n.val = false ∧
      s.ck.lost.contains n.val = false ∧ running s n.val = true ∧ srcRuns s (domNow s n.val).src = true) ∧
    (∃ (s : State), flag s F.SL_STATUS_STOPPING = true ∧ s.lc.srDue = false) ∧
    (∃ (s : State), flag s F.SL_STATUS_FROZEN = true ∧ slackCauses s = 0 ∧ s.lc.want.contains .slack = false ∧ s.lc.noted.contains .slack = false ∧
      releaseResumes s = true) :=
  ⟨⟨up, .pf, 1, by decide +kernel⟩,
   ⟨up, by decide +kernel⟩,
   ⟨withFlds up [(F.SL_STATUS_PIN, 1)], by decide +kernel⟩,
   ⟨withFlds up [(F.SL_STATUS_STOPPING, 1), (F.SL_STATUS_WAVE, 5)], 0, by decide +kernel⟩,
   ⟨withFlds up [(F.SL_STATUS_STOPPING, 1), (F.SC_STATUS_TRAINED 31, 1)], 31, by decide +kernel⟩,
   ⟨withFlds up [(F.SL_STATUS_STOPPING, 1)], by decide +kernel⟩,
   ⟨withFlds up [(F.SL_STATUS_FROZEN, 1)], by decide +kernel⟩⟩

theorem witness_JtagCommandsComplete :
    (∃ (s : State), isMakerOrIntegrator s = true) ∧
    (∃ (s : State), networkOpen s = true) ∧
    (∃ (s : State), s.lc.inReset = false) ∧
    (∃ (s : State) (d : DomainId) (n : Nat), flag s F.SL_STATUS_FROZEN = true ∧ networkSelected s = true ∧ dataOpen s = true ∧ n ≤ (tgetD s.lc.flops d.val
      []).length) ∧
    (∃ (s : State) (d : DomainId) (vs : List Nat), flag s F.SL_STATUS_FROZEN = true ∧ networkSelected s = true ∧ dataOpen s = true ∧ vs.length = (tgetD
      s.lc.flops d.val []).length) ∧
    (∃ (s : State) (d : DomainId) (p : BitVec 32) (w v x : Nat), flag s F.SL_STATUS_FROZEN = true ∧ networkSelected s = true ∧ dataOpen s = true ∧ fld s
      F.LC_STATE_STATE ≠ 2 ∧ tfind s.lc.ctlFlops (d.val * 2 ^ 32 + p.toNat) = some x) ∧
    (∃ (s : State) (d : DomainId) (off low w v : Nat) (f : Nat × Nat × Nat × AccCode), flag s F.SL_STATUS_FROZEN = true ∧ networkSelected s = true ∧
      dataOpen s = true ∧ fld s F.LC_STATE_STATE ≠ 2 ∧ flopDomain off = d.val ∧ ctlFld off low w = some f ∧ Regs.wf s = true) ∧
    (∃ (s : State) (b : Fin 512) (w : BitVec 15), flag s F.SL_STATUS_FROZEN = true ∧ networkSelected s = true ∧ dataOpen s = true) ∧
    (∃ (s u : State) (fpa : BitVec 41) (p : Nat × Nat), networkSelected s = true ∧ instrWorks s = true ∧ instrPlace s fpa.toNat = some p ∧ takeTurn
      (addCtr s C.BW_FAB_UNREG 64) ⟨16, 0x9000, fpa.toNat, .read, none, .demand⟩ = u) ∧
    (∃ (s u : State) (fpa : BitVec 41) (d : Line) (pin inl : Dword) (p : Nat × Nat), networkSelected s = true ∧ instrWorks s = true ∧ instrPlace s
      fpa.toNat = some p ∧ takeTurn (addCtr s C.BW_FAB_UNREG 64) ⟨16, 0x9000, fpa.toNat, .write 0 0, none, .demand⟩ = u) :=
  ⟨⟨State.reset, by decide +kernel⟩,
   ⟨State.reset, by decide +kernel⟩,
   ⟨up, by decide +kernel⟩,
   ⟨withFlds (withLc fun l => { l with ir := 0x10, flops := [(99, [true, false])], ctlFlops := [(99 * 2 ^ 32 + 0xFFFFFFFF, 5)] }) [(F.SL_STATUS_FROZEN,
      1)], 99, 2, by decide +kernel⟩,
   ⟨withFlds (withLc fun l => { l with ir := 0x10, flops := [(99, [true, false])], ctlFlops := [(99 * 2 ^ 32 + 0xFFFFFFFF, 5)] }) [(F.SL_STATUS_FROZEN,
      1)], 99, [1, 1], by decide +kernel⟩,
   ⟨withFlds (withLc fun l => { l with ir := 0x10, flops := [(99, [true, false])], ctlFlops := [(99 * 2 ^ 32 + 0xFFFFFFFF, 5)] }) [(F.SL_STATUS_FROZEN,
      1)], 99, 0xFFFFFFFF, 3, 7, 5, by decide +kernel⟩,
   ⟨withFlds (withLc fun l => { l with ir := 0x10 }) [(F.SL_STATUS_FROZEN, 1)], 94, 0xE0020, 0, 7, 0x7F, (0, 7, 0, .rw), by decide +kernel⟩,
   ⟨withFlds (withLc fun l => { l with ir := 0x10 }) [(F.SL_STATUS_FROZEN, 1)], 511, 0x7FFF, by decide +kernel⟩,
   ⟨(withFlds { up with lc := { up.lc with ir := 0x10 }, plan := { up.plan with gran := [(0, ⟨15, 0, 0, 0⟩)] } } [(F.FAB_CONFIG_READY, 1),
      (F.SC_STATUS_TRAINED 0, 1)]), takeTurn (addCtr (withFlds { up with lc := { up.lc with ir := 0x10 }, plan := { up.plan with gran := [(0, ⟨15, 0, 0, 0⟩)] } }
      [(F.FAB_CONFIG_READY, 1), (F.SC_STATUS_TRAINED 0, 1)]) C.BW_FAB_UNREG 64) ⟨16, 0x9000, 0, .read, none, .demand⟩, 0, (0, 0),
      by and_intros <;> first | with_reducible rfl | decide +kernel⟩,
   ⟨(withFlds { up with lc := { up.lc with ir := 0x10 }, plan := { up.plan with gran := [(0, ⟨15, 0, 0, 0⟩)] } } [(F.FAB_CONFIG_READY, 1),
      (F.SC_STATUS_TRAINED 0, 1)]), takeTurn (addCtr (withFlds { up with lc := { up.lc with ir := 0x10 }, plan := { up.plan with gran := [(0, ⟨15, 0, 0, 0⟩)] } }
      [(F.FAB_CONFIG_READY, 1), (F.SC_STATUS_TRAINED 0, 1)]) C.BW_FAB_UNREG 64) ⟨16, 0x9000, 0, .write 0 0, none, .demand⟩, 0, 0, 0, 0, (0, 0),
      by and_intros <;> first | with_reducible rfl | decide +kernel⟩⟩

theorem witness_ResetCommandsComplete :
    (∃ (s : State) (q : Requester) (v : Word), Manages s q ∧ bit v.toNat 0 = true ∧ bits v.toNat 8 8 = 0xA5) ∧
    (∃ (s : State) (r : RstCause), s.lc.inReset = false ∧ s.lc.prog = [] ∧ s.sc.commit = none ∧ r ∈ s.lc.want ∧ r ≠ .por ∧ .por ∉ s.lc.want ∧ s.lc.noted =
      []) ∧
    (∃ (s : State), s.lc.inReset = true ∧ .por ∉ s.lc.want ∧ Regs.wf s = true) :=
  ⟨⟨up, .pf, 0xA503, by decide +kernel⟩,
   ⟨withLc fun l => { l with want := [.pfFlr] }, .pfFlr, by decide +kernel⟩,
   ⟨withLc fun l => { l with inReset := true }, by decide +kernel⟩⟩

theorem witness_StartupCommandsComplete :
    (∃ (s : State) (a b : List Byte), atStep s 2 = true ∧ running s 94 = true ∧ isScrapped s = false) ∧
    (∃ (s : State) (khz : Nat) (xb : Bool), atStep s 3 = true ∧ running s 94 = true ∧ flag s F.CK_STATUS_STRAP_ERR = false ∧ strapOk s khz = true) ∧
    (∃ (s : State), atStep s 4 = true ∧ running s 94 = true) ∧
    (∃ (s : State), atStep s 5 = true ∧ running s 94 = true ∧ fld s F.CK_STATUS_LOCK = 0x3F) ∧
    (∃ (s : State) (tr : BitVec 32) (big : Bool), atStep s 7 = true ∧ running s 94 = true) ∧
    (∃ (s : State), running s 94 = true ∧ fld s F.LC_STATE_STATE = 3 ∧ flag s F.FAB_CONFIG_READY = true ∧ flag s F.LC_STATUS_SCRUBBED = false ∧ flag s
      F.LC_STATUS_VERIFY_ERR = false ∧ s.mem.lines = [] ∧ s.mem.mdc = []) ∧
    (∃ (s : State) (h : List (List Byte)) (e : List (Nat × Nat × List Byte)), atStep s 10 = true ∧ running s 94 = true) ∧
    (∃ (s : State), atStep s 11 = true ∧ running s 94 = true) :=
  ⟨⟨starting 2, [], [], by decide +kernel⟩,
   ⟨{ starting 3 with flds := [(F.CK_STATUS_XA_SEL.key, 3)] }, 110000, true, by decide +kernel⟩,
   ⟨starting 4, by decide +kernel⟩,
   ⟨withFlds (starting 5) [(F.CK_STATUS_LOCK, 0x3F)], by decide +kernel⟩,
   ⟨starting 7, 0xFFFFFFFF, true, by decide +kernel⟩,
   ⟨withFlds up [(F.LC_STATE_STATE, 3), (F.FAB_CONFIG_READY, 1)], by decide +kernel⟩,
   ⟨starting 10, [], [], by decide +kernel⟩,
   ⟨starting 11, by decide +kernel⟩⟩

theorem witness_ClockCommandsComplete :
    (∃ (s : State) (src : Fin 10), s.lc.inReset = false ∧ counted s src.val = true ∧ ((4 ≤ src.val → thas s.ck.grace (src.val - 4) = false)) ∧ tgetD
      s.ck.badGates src.val 0 = 0) ∧
    (∃ (s : State) (src : Fin 10), s.lc.inReset = false ∧ counted s src.val = true ∧ ((4 ≤ src.val → thas s.ck.grace (src.val - 4) = false)) ∧ 1 ≤ tgetD
      s.ck.badGates src.val 0) ∧
    (∃ (s : State) (p : Fin 6), (fld s F.CK_STATUS_LOCK).testBit p.val = true) ∧
    (∃ (s : State) (p : Fin 6), (fld s F.CK_STATUS_EN).testBit p.val = true ∧ (fld s F.CK_STATUS_LOCK).testBit p.val = false ∧ s.ck.failed.contains p.val
      = false ∧ (loopPlan s p.val).ref = 0 ∧ flag s F.CK_STATUS_XA_OK = true) ∧
    (∃ (s : State) (d : DomainId) (tp : Bool) (src div : Nat), (domNow s (muxOf d tp)).next = some (src, div) ∧ srcRuns s (domNow s (muxOf d tp)).src =
      true ∧ srcRuns s src = true) ∧
    (∃ (s : State) (d : DomainId) (tp : Bool), (domNow s (muxOf d tp)).next.isSome = true ∧ (domNow s (muxOf d tp)).src = 6) ∧
    (∃ (s : State) (d : DomainId) (tp : Bool), (domNow s (muxOf d tp)).next.isSome = true ∧ (domNow s (muxOf d tp)).src < 6) ∧
    (∃ (s : State) (p : Fin 6) (g : Nat), slackOn s = false ∧ tfind s.ck.goal p.val = some g ∧ 1 ≤ fld s (F.CK_LOOP_MULT p.val) ∧ fld s (F.CK_LOOP_MULT
      p.val) ≠ g ∧ Regs.wf s = true) ∧
    (∃ (s : State) (p : Fin 6), slackOn s = true) :=
  ⟨⟨withFlds up [(F.CK_STATUS_FIO_OK, 1)], 2, by decide +kernel⟩,
   ⟨withFlds (withCk fun c => { c with badGates := [(2, 1)] }) [(F.CK_STATUS_FIO_OK, 1)], 2, by decide +kernel⟩,
   ⟨withFlds up [(F.CK_STATUS_LOCK, 0x20)], 5, by decide +kernel⟩,
   ⟨withFlds up [(F.CK_STATUS_EN, 0x20), (F.CK_STATUS_XA_OK, 1)], 5, by decide +kernel⟩,
   ⟨withFlds (withCk fun c => { c with doms := [(0, ⟨6, 1, false, some (8, 2)⟩)] }) [(F.CK_STATUS_XA_OK, 1)], 0, false, 8, 2, by decide +kernel⟩,
   ⟨withCk fun c => { c with doms := [(0, ⟨6, 1, false, some (5, 2)⟩)] }, 0, false, by decide +kernel⟩,
   ⟨withCk fun c => { c with doms := [(0, ⟨5, 1, false, some (6, 2)⟩)] }, 0, false, by decide +kernel⟩,
   ⟨withFlds (withCk fun c => { c with goal := [(5, 1)] }) [(F.CK_LOOP_MULT 5, 2)], 5, 1, by decide +kernel⟩,
   ⟨withFlds up [(F.SL_STATUS_FROZEN, 1)], 5, by decide +kernel⟩⟩

theorem witness_IslandCommandsComplete :
    (∃ (s : State) (i : IslandId), running s 94 = true ∧ (islOf s i.val).ph = .idle ∧ (islOf s i.val).stale = false ∧ flag s (F.VS_ISL_STATE_BOOT i.val) =
      false ∧ fld s (F.VS_ISL_STATE_OP i.val) < fld s (F.VS_ISL_STATE_TARGET i.val)) ∧
    (∃ (s : State) (i : IslandId) (r : SlateReport) (s1 : State), running s 94 = true ∧ (islOf s i.val).ph = .frequency true ∧ takeReport s (fun a => a ==
      .dvfs i.val) = some (r, s1) ∧ r.outcome = .done) ∧
    (∃ (s : State) (i : IslandId) (mv : Nat), running s 94 = true ∧ (islOf s i.val).ph = .lowering ∧ (islOf s i.val).mv ≤ mv + 10 ∧ mv ≤ (islOf s
      i.val).mv + 10) ∧
    (∃ (s : State) (q : Requester), Manages s q) ∧
    (∃ (s : State) (q : Requester) (i : IslandId) (c : CoveId) (v : Word), Manages s q) ∧
    (∃ (s : State) (q : Requester) (i : IslandId) (v : Word), Manages s q) ∧
    (∃ (s : State) (temps : List Byte) (i : Nat), running s 97 = true ∧ Regs.wf s = true ∧ i < 6) ∧
    (∃ (s : State) (i : IslandId), running s 94 = true ∧ fld s F.VS_TJ_LIMIT ≤ fld s (F.VS_ISL_TEMP_TJ i.val)) ∧
    (∃ (s : State) (i : Nat), running s 94 = true ∧ Regs.wf s = true ∧ i < 6) ∧
    (∃ (s : State) (ws : List (Option Nat)) (i w : Nat), running s 94 = true ∧ Regs.wf s = true ∧ i < 6 ∧ ws[i]? = some (some w)) :=
  ⟨⟨withFlds up [(F.VS_ISL_STATE_BOOT 5, 0), (F.VS_ISL_STATE_TARGET 5, 7)], 5, by decide +kernel⟩,
   ⟨{ up with ck := { up.ck with isls := [(5, ⟨.frequency true, 1, 800, 0, 7, 0, 0, false⟩)] }, tide := { up.tide with reports := [⟨16, .dvfs 5, .done, 0⟩] } },
      5, ⟨16, .dvfs 5, .done, 0⟩, { up with ck := { up.ck with isls := [(5, ⟨.frequency true, 1, 800, 0, 7, 0, 0, false⟩)] } }, by decide +kernel⟩,
   ⟨withCk fun c => { c with isls := [(5, ⟨.lowering, 1, 800, 0, 7, 0, 0, false⟩)] }, 5, 790, by decide +kernel⟩,
   ⟨up, .pf, by decide +kernel⟩,
   ⟨up, .pf, 5, 15, 0xF, by decide +kernel⟩,
   ⟨up, .pf, 5, 0xF, by decide +kernel⟩,
   ⟨up, [], 5, by decide +kernel⟩,
   ⟨withFlds up [(F.VS_TJ_LIMIT, 0)], 5, by decide +kernel⟩,
   ⟨up, 5, by decide +kernel⟩,
   ⟨up, [none, none, none, none, none, some 4095], 5, 4095, by decide +kernel⟩⟩

theorem witness_LogbookCommandsComplete :
    (∃ (s : State) (rs : List Nat), running s 97 = true ∧ s.ck.nextMeas ≤ poweredS s) ∧
    (∃ (s : State), running s 94 = true ∧ fld64 s F.FB_NEXT_LO_SECONDS F.FB_NEXT_HI_SECONDS ≤ poweredS s) ∧
    (∃ (s : State) (q : Requester), Manages s q) ∧
    (∃ (s : State) (rs : List Nat), running s 94 = true ∧ s.ck.replan = true ∧ s.lc.boot ≠ 9 ∧ ((chartBusy s = false ∨ s.plan.soundHeld = true))) ∧
    (∃ (s : State) (rs : List Nat), running s 94 = true ∧ s.lc.boot = 9 ∧ Regs.wf s = true ∧ ((chartBusy s = false ∨ s.plan.soundHeld = true))) ∧
    (∃ (s : State) (rs : List Nat), running s 94 = true ∧ s.ck.replan = true ∧ chartBusy s = true ∧ s.plan.soundHeld = false) ∧
    (∃ (s : State), running s 94 = true ∧ flag s F.LB_STATUS_OPEN = true ∧ s.lb.entryS + 900 ≤ poweredS s) ∧
    (∃ (s : State) (k : Nat), running s 94 = true ∧ s.lb.op = .entry k ∧ s.lb.queue = [] ∧ Regs.wf s = true) ∧
    (∃ (s : State) (q : Requester) (v : Word), Manages s q) ∧
    (∃ (s : State), running s 96 = true ∧ Regs.wf s = true) :=
  ⟨⟨withCk fun c => { c with nextMeas := 0 }, [], by decide +kernel⟩,
   ⟨up, by decide +kernel⟩,
   ⟨up, .pf, by decide +kernel⟩,
   ⟨withCk fun c => { c with replan := true }, [], by decide +kernel⟩,
   ⟨{ withFlds (starting 9) [(F.CH_STATUS_STATE, 3)] with plan := { (starting 9).plan with soundHeld := true } }, [], by decide +kernel⟩,
   ⟨withFlds (withCk fun c => { c with replan := true }) [(F.CH_STATUS_STATE, 3)], [], by decide +kernel⟩,
   ⟨{ withFlds up [(F.LB_STATUS_OPEN, 1)] with ctrs := [(C.LB_POWERED, 900)] }, by decide +kernel⟩,
   ⟨{ up with lb := { up.lb with op := .entry 1 } }, 1, by decide +kernel⟩,
   ⟨up, .pf, 0xFFFFFFFF, by decide +kernel⟩,
   ⟨up, by decide +kernel⟩⟩

theorem witness_AccessCommandsComplete :
    (∃ (s : State) (id : Nat) (x : Xfer) (link : Bool), Picks s id x false ∧ x.acc = .read) ∧
    (∃ (s : State) (id : Nat) (x : Xfer), Picks s id x false ∧ isFullWrite x.acc = true) ∧
    (∃ (s : State) (id : Nat) (x : Xfer) (link : Bool), Picks s id x false ∧ isPartialWrite x.acc = true) ∧
    (∃ (s : State) (id : Nat) (x : Xfer) (wide : Bool) (i : Fin 16) (a b : Dword), Picks s id x false ∧ x.acc = .atomic .add wide i a b) ∧
    (∃ (s : State) (id : Nat) (x : Xfer) (wide : Bool) (i : Fin 16) (a b : Dword), Picks s id x false ∧ x.acc = .atomic .swap wide i a b) ∧
    (∃ (s : State) (id : Nat) (x : Xfer) (wide : Bool) (i : Fin 16) (a b : Dword), Picks s id x false ∧ x.acc = .atomic .cas wide i a b) ∧
    (∃ (s : State) (id : Nat) (x : Xfer) (wide : Bool) (i : Fin 16) (a b : Dword), Picks s id x false ∧ x.acc = .atomic .umin wide i a b) ∧
    (∃ (s : State) (id : Nat) (x : Xfer) (wide : Bool) (i : Fin 16) (a b : Dword), Picks s id x false ∧ x.acc = .atomic .umax wide i a b) ∧
    (∃ (s : State) (id : Nat) (x : Xfer) (wide : Bool) (i : Fin 16) (a b : Dword), Picks s id x false ∧ x.acc = .atomic .and wide i a b) ∧
    (∃ (s : State) (id : Nat) (x : Xfer) (wide : Bool) (i : Fin 16) (a b : Dword), Picks s id x false ∧ x.acc = .atomic .or wide i a b) ∧
    (∃ (s : State) (id : Nat) (x : Xfer) (wide : Bool) (i : Fin 16) (a b : Dword), Picks s id x false ∧ x.acc = .atomic .xor wide i a b) ∧
    (∃ (s : State) (id : Nat) (x : Xfer), Picks s id x true ∧ x.acc = .read) ∧
    (∃ (s : State) (id : Nat) (x : Xfer), Picks s id x true ∧ x.acc ≠ .read) ∧
    (∃ (s : State) (b : Fin 512) (w : BitVec 15) (d : Dword) (c n : Nat), running s (80 + b.val / 64) = true ∧ s.mem.tpw.sorted = true ∧ (tpWord s b.val
      w.toNat).poison = false ∧ decodeWord (tpWord s b.val w.toNat).data (tpWord s b.val w.toNat).code = .corrected d c n) ∧
    (∃ (s : State) (id : Nat) (x : Xfer) (s1 : State), running s (unitDomain x.src) = true ∧ tfind s.xl.xfers id = some x ∧ x.stage = .ready ∧ x.client =
      none ∧ inTidepool s x.fpa = false ∧ (((queueAt s x.fpa).map (·.1)).map (slotsUsed s)).getD 0 < 2048 ∧ chargeUnit s x.src = some s1) :=
  ⟨⟨withXfer (xfer 0 .read .waiting), 0, xfer 0 .read .waiting, true, by decide +kernel⟩,
   ⟨withXfer (xfer (2720 * 2 ^ 28 - 64) (.write (BitVec.allOnes 64) 0) .waiting), 0, xfer (2720 * 2 ^ 28 - 64) (.write (BitVec.allOnes 64) 0) .waiting,
      by decide +kernel⟩,
   ⟨withXfer (xfer 0 (.write 1 0) .waiting), 0, xfer 0 (.write 1 0) .waiting, true, by decide +kernel⟩,
   ⟨withXfer (xfer 0 (.atomic .add true 15 1 2) .waiting), 0, xfer 0 (.atomic .add true 15 1 2) .waiting, true, 15, 1, 2, by decide +kernel⟩,
   ⟨withXfer (xfer 0 (.atomic .swap true 15 1 2) .waiting), 0, xfer 0 (.atomic .swap true 15 1 2) .waiting, true, 15, 1, 2, by decide +kernel⟩,
   ⟨withXfer (xfer 0 (.atomic .cas true 15 1 2) .waiting), 0, xfer 0 (.atomic .cas true 15 1 2) .waiting, true, 15, 1, 2, by decide +kernel⟩,
   ⟨withXfer (xfer 0 (.atomic .umin true 15 1 2) .waiting), 0, xfer 0 (.atomic .umin true 15 1 2) .waiting, true, 15, 1, 2, by decide +kernel⟩,
   ⟨withXfer (xfer 0 (.atomic .umax true 15 1 2) .waiting), 0, xfer 0 (.atomic .umax true 15 1 2) .waiting, true, 15, 1, 2, by decide +kernel⟩,
   ⟨withXfer (xfer 0 (.atomic .and true 15 1 2) .waiting), 0, xfer 0 (.atomic .and true 15 1 2) .waiting, true, 15, 1, 2, by decide +kernel⟩,
   ⟨withXfer (xfer 0 (.atomic .or true 15 1 2) .waiting), 0, xfer 0 (.atomic .or true 15 1 2) .waiting, true, 15, 1, 2, by decide +kernel⟩,
   ⟨withXfer (xfer 0 (.atomic .xor true 15 1 2) .waiting), 0, xfer 0 (.atomic .xor true 15 1 2) .waiting, true, 15, 1, 2, by decide +kernel⟩,
   ⟨withXfer (xfer tpBase .read .waiting), 0, xfer tpBase .read .waiting, by decide +kernel⟩,
   ⟨withXfer (xfer (tpBase + 2 ^ 27 - 64) (.write 1 0) .waiting), 0, xfer (tpBase + 2 ^ 27 - 64) (.write 1 0) .waiting, by decide +kernel⟩,
   ⟨{ up with mem := { up.mem with tpw := [(32768 * 511 + 32767, ⟨1, 0, false⟩)] } }, 511, 32767, 0, 0, 1, by decide +kernel⟩,
   ⟨withXfer (xfer 0 .read .ready), 0, xfer 0 .read .ready, addCtr (withXfer (xfer 0 .read .ready)) C.BW_FAB_UNREG 64, by decide +kernel⟩⟩

theorem witness_StackCommandsComplete :
    (∃ (s : State) (n : StackId), running s n.val = true) ∧
    (∃ (s : State) (n : StackId) (temp : Byte) (rate : Fin 3), running s n.val = true ∧ flag s (F.SC_STATUS_TRAINED n.val) = true ∧ flag s
      (F.SC_STATUS_SELF_REFRESH n.val) = false) ∧
    (∃ (s : State) (q : Requester) (n : StackId), Manages s q) ∧
    (∃ (s : State) (q : Requester) (r : Idx64) (k : KeyRange) (kid : Nat), Manages s q ∧ tfind s.mem.kr r.val = some k ∧ k.scramble = true ∧ k.cur ≠ 0 ∧
      k.phase = 0 ∧ s.mem.rekeyQ = [] ∧ takeable s = some kid) ∧
    (∃ (s : State) (r kid : Nat) (rest : List Nat) (k : KeyRange), running s 94 = true ∧ s.mem.rekeyQ = r :: rest ∧ takeable s = some kid ∧
      s.sc.scrubQ.contains r = false ∧ tfind s.mem.kr r = some k) ∧
    (∃ (s : State) (n : StackId) (g : BitVec 13) (line : BitVec 22) (r : Nat) (k : KeyRange) (t : State), Works s (swUnit n.val) ∧ rangeOf s g.toNat =
      some (r, k) ∧ headRekey s n.val = some r ∧ (granOf s g.toNat).owner ≠ 31 ∧ (placeLine s g.toNat line.toNat).1 = n.val ∧ (tgetD k.swept g.toNat
      0).testBit line.toNat = false ∧ fillWaits s n.val = false ∧ fillOf s g.toNat = none ∧ rekeyLine s n.val r g.toNat line.toNat k = some t) ∧
    (∃ (s : State) (n : StackId) (g : BitVec 13) (line : BitVec 22) (r : Nat) (k : KeyRange), Works s (swUnit n.val) ∧ rangeOf s g.toNat = some (r, k) ∧
      headRekey s n.val = some r ∧ (granOf s g.toNat).owner ≠ 31 ∧ (placeLine s g.toNat line.toNat).1 = n.val ∧ (tgetD k.swept g.toNat 0).testBit
      line.toNat = false ∧ fillWaits s n.val = false ∧ fillOf s g.toNat = none ∧ rekeyLine s n.val r g.toNat line.toNat k = none) ∧
    (∃ (s : State) (r : Idx64) (k : KeyRange) (p : Nat), running s 94 = true ∧ s.mem.kr.sorted = true ∧ tfind s.mem.kr r.val = some k ∧ k.phase = 2 ∧
      k.queued = false ∧ k.sweepDone = false ∧ k.pred = some p ∧ p < 64 ∧ (kidOf s p).st = .draining ∧ (kidOf s p).range = some r.val ∧ ((∀ j, j ≠ p →
      (kidOf s j).st ≠ .draining)) ∧ ((∀ e ∈ s.mem.kr, e.2.pred = some p → e.1 = r.val)) ∧ s.plan.fills = [] ∧ (rangePlaces s k).all (fun p =>
      allLines (tgetD k.swept p.gran 0)) = true) ∧
    (∃ (s : State) (k : Fin 64), running s 94 = true ∧ (kidOf s k.val).st = .flushing) ∧
    (∃ (s : State) (n : StackId) (k : Fin 64) (j : Nat) (line : BitVec 22) (p : Place) (t : State), Works s (swUnit n.val) ∧ (kidOf s k.val).covered[j]? =
      some p ∧ headVerify s n.val = some k.val ∧ (placedAt s p line.toNat).1 = n.val ∧ (tgetD (kidOf s k.val).verified j 0).testBit line.toNat = false
      ∧ fillWaits s n.val = false ∧ rekeyWaits s n.val = false ∧ verifyLine s n.val k.val j (placedAt s p line.toNat).2 line.toNat = some t) ∧
    (∃ (s : State) (n : StackId) (k : Fin 64) (j : Nat) (line : BitVec 22) (p : Place), Works s (swUnit n.val) ∧ (kidOf s k.val).covered[j]? = some p ∧
      headVerify s n.val = some k.val ∧ (placedAt s p line.toNat).1 = n.val ∧ (tgetD (kidOf s k.val).verified j 0).testBit line.toNat = false ∧
      fillWaits s n.val = false ∧ rekeyWaits s n.val = false ∧ verifyLine s n.val k.val j (placedAt s p line.toNat).2 line.toNat = none) ∧
    (∃ (s : State) (k : Fin 64), running s 94 = true ∧ s.mem.kids.sorted = true ∧ (kidOf s k.val).st = .retired ∧ (kidOf s k.val).covered = []) ∧
    (∃ (s : State) (n : StackId) (g : BitVec 13) (line : BitVec 22) (f : ZFill) (t : State), Works s (swUnit n.val) ∧ headFill s n.val = some f ∧
      f.place.gran = g.toNat ∧ f.done.testBit line.toNat = false ∧ (placedAt s f.place line.toNat).1 = n.val ∧ fillLine s n.val line.toNat f = some t) ∧
    (∃ (s : State) (n : StackId) (g : BitVec 13) (line : BitVec 22) (f : ZFill), Works s (swUnit n.val) ∧ headFill s n.val = some f ∧ f.place.gran =
      g.toNat ∧ f.done.testBit line.toNat = false ∧ (placedAt s f.place line.toNat).1 = n.val ∧ fillLine s n.val line.toNat f = none) ∧
    (∃ (s : State) (g : BitVec 13) (f : ZFill) (c : Nat), running s 94 = true ∧ s.plan.fills = [(f, .scrub c)] ∧ f.place.gran = g.toNat ∧ allLines f.done
      = true) ∧
    (∃ (s : State) (n : StackId) (behind : Bool) (t : State), Works s (swUnit n.val) ∧ fld s (F.SW_PATROL_POS_LINE n.val) < stackLines s ∧ flag s
      (F.SC_STATUS_TRAINED n.val) = true ∧ patrolPauses s n.val (fld s (F.SW_PATROL_POS_LINE n.val)) = false ∧ fillWaits s n.val = false ∧ rekeyWaits
      s n.val = false ∧ verifyWaits s n.val = false ∧ ((behind = false → headMove s n.val = none)) ∧ patrolLine s n.val (fld s (F.SW_PATROL_POS_LINE
      n.val)) = some t) ∧
    (∃ (s : State) (n : StackId) (behind : Bool), Works s (swUnit n.val) ∧ fld s (F.SW_PATROL_POS_LINE n.val) < stackLines s ∧ flag s (F.SC_STATUS_TRAINED
      n.val) = true ∧ patrolPauses s n.val (fld s (F.SW_PATROL_POS_LINE n.val)) = false ∧ fillWaits s n.val = false ∧ rekeyWaits s n.val = false ∧
      verifyWaits s n.val = false ∧ ((behind = false → headMove s n.val = none)) ∧ patrolLine s n.val (fld s (F.SW_PATROL_POS_LINE n.val)) = none) ∧
    (∃ (s : State) (n : StackId) (late : Bool), running s n.val = true ∧ Regs.wf s = true ∧ stackLines s ≤ fld s (F.SW_PATROL_POS_LINE n.val)) :=
  ⟨⟨up, 31, by decide +kernel⟩,
   ⟨withFlds up [(F.SC_STATUS_TRAINED 31, 1)], 31, 0xFF, 2, by decide +kernel⟩,
   ⟨up, .pf, 31, by decide +kernel⟩,
   ⟨withRange 0, .pf, 63, keyRange 0, 1, by decide +kernel⟩,
   ⟨{ withRange 0 with mem := { (withRange 0).mem with rekeyQ := [63] } }, 63, 1, [], keyRange 0, by decide +kernel⟩,
   ⟨{ withRange 2 with mem := { (withRange 2).mem with sweepQ := [63] } }, 31, 2719, 0x3FFFFF, 63, keyRange 2, got (rekeyLine ({ withRange 2 with mem := { (withRange 2).mem with sweepQ := [63] } })
      (31 : StackId).val 63 (2719 : BitVec 13).toNat (0x3FFFFF : BitVec 22).toNat (keyRange 2)),
      by refine ⟨?_, ?_, headRekey_one rfl (k := keyRange 2) ?_ (l := []) (p := ⟨2719, 2⟩) ?_ ?_ (lacks_first ?_ ?_), ?_, ?_, ?_, ?_, ?_, got_eq ?_⟩ <;> decide +kernel⟩,
   ⟨broke 255 ({ withRange 2 with mem := { (withRange 2).mem with sweepQ := [63] } }), 31, 2719, 0x3FFFFF, 63, keyRange 2,
      by refine ⟨?_, ?_, headRekey_one rfl (k := keyRange 2) ?_ (l := []) (p := ⟨2719, 2⟩) ?_ ?_ (lacks_first ?_ ?_), ?_, ?_, ?_, ?_, ?_, ?_⟩ <;> decide +kernel⟩,
   ⟨{ up with mem := { up.mem with kr := [(63, { keyRange 2 with pred := some 62 })], kids := [(62, ⟨.draining, true, [], [], some 63⟩)] } }, 63, { keyRange 2 with pred := some 62 },
      62, by and_intros <;> first | decide +kernel | exact fun j h => other_kid rfl h⟩,
   ⟨withKid .flushing [], 63, by decide +kernel⟩,
   ⟨{ withKid .retired [⟨2719, 2⟩] with mem := { (withKid .retired [⟨2719, 2⟩]).mem with verifyQ := [63] } }, 31, 63, 0, 0x3FFFFF, ⟨2719, 2⟩, got
      (verifyLine ({ withKid .retired [⟨2719, 2⟩] with mem := { (withKid .retired [⟨2719, 2⟩]).mem with verifyQ := [63] } }) (31 : StackId).val (63 :
      Fin 64).val 0 (placedAt ({ withKid .retired [⟨2719, 2⟩] with mem := { (withKid .retired [⟨2719, 2⟩]).mem with verifyQ := [63] } }) ⟨2719, 2⟩
      (0x3FFFFF : BitVec 22).toNat).2 (0x3FFFFF : BitVec 22).toNat),
      by refine ⟨?_, ?_, headVerify_one rfl ?_ (l := []) (p := ⟨2719, 2⟩) (lacks_first ?_ ?_), ?_, ?_, ?_, ?_, got_eq ?_⟩ <;> decide +kernel⟩,
   ⟨broke 255 ({ withKid .retired [⟨2719, 2⟩] with mem := { (withKid .retired [⟨2719, 2⟩]).mem with verifyQ := [63] } }), 31, 63, 0, 0x3FFFFF, ⟨2719, 2⟩,
      by refine ⟨?_, ?_, headVerify_one rfl ?_ (l := []) (p := ⟨2719, 2⟩) (lacks_first ?_ ?_), ?_, ?_, ?_, ?_, ?_⟩ <;> decide +kernel⟩,
   ⟨withKid .retired [], 63, by decide +kernel⟩,
   ⟨withFill 0 .apply, 31, 2719, 0x3FFFFF, ⟨⟨2719, 2⟩, 0, 0⟩, got (fillLine (withFill 0 .apply) (31 : StackId).val (0x3FFFFF : BitVec 22).toNat ⟨⟨2719,
      2⟩, 0, 0⟩), by refine ⟨?_, headFill_one rfl (lacks_first ?_ ?_), ?_, ?_, ?_, got_eq ?_⟩ <;> decide +kernel⟩,
   ⟨broke 255 (withFill 0 .apply), 31, 2719, 0x3FFFFF, ⟨⟨2719, 2⟩, 0, 0⟩,
      by refine ⟨?_, headFill_one rfl (lacks_first ?_ ?_), ?_, ?_, ?_, ?_⟩ <;> decide +kernel⟩,
   ⟨withFill (2 ^ 2 ^ 22 - 1) (.scrub 15), 2719, ⟨⟨2719, 2⟩, 0, 2 ^ 2 ^ 22 - 1⟩, 15, by decide +kernel⟩,
   ⟨withFlds up [(F.SC_STATUS_TRAINED 31, 1)], 31, true, got (patrolLine (withFlds up [(F.SC_STATUS_TRAINED 31, 1)]) (31 : StackId).val (fld (withFlds up
      [(F.SC_STATUS_TRAINED 31, 1)]) (F.SW_PATROL_POS_LINE (31 : StackId).val))),
      by refine ⟨?_, ?_, ?_, ?_, ?_, ?_, ?_, ?_, got_eq ?_⟩ <;> decide +kernel⟩,
   ⟨broke 255 (withFlds up [(F.SC_STATUS_TRAINED 31, 1)]), 31, true, by decide +kernel⟩,
   ⟨withFlds up [(F.SW_PATROL_POS_LINE 31, 96 * 2 ^ 22)], 31, true, by decide +kernel⟩⟩

theorem witness_CoveStateCommandsComplete :
    (∃ (s : State) (q : Requester) (c : CoveId) (v : Word), Manages s q ∧ bit v.toNat 0 = true ∧ bit v.toNat 2 = false ∧ coveSt s c.val = 1 ∧ bit v.toNat
      1 = false ∧ Regs.wf s = true) ∧
    (∃ (s : State) (q : Requester) (c : CoveId) (v : Word), Manages s q ∧ bit v.toNat 0 = false ∧ bit v.toNat 2 = true ∧ coveSt s c.val = 3 ∧ quiesceAbort
      s c.val = false ∧ chartBusy s = false ∧ Regs.wf s = true) ∧
    (∃ (s : State) (c : CoveId), running s 94 = true ∧ quiescing s c.val = true ∧ quiesceDrained s c.val = true ∧ thas s.sc.auto c.val = false ∧ Regs.wf s
      = true) ∧
    (∃ (s : State) (q : Requester) (c : CoveId) (v : Word), Manages s q ∧ v.getLsbD 0 = true ∧ coveSt s c.val = 3 ∧ Regs.wf s = true) ∧
    (∃ (s : State) (c : CoveId), running s 94 = true ∧ coveSt s c.val = 4 ∧ resetWaits s c.val = false ∧ thas s.sc.cpRst c.val = false ∧ thas
      s.tide.masters c.val = false ∧ thas s.sc.flr c.val = false ∧ Regs.wf s = true) ∧
    (∃ (s : State) (c : CoveId), hostClosed s = false ∧ coveExists s c.val = false) ∧
    (∃ (s : State) (c : CoveId), hostClosed s = false ∧ coveExists s c.val = true ∧ coveSt s c.val = 4) ∧
    (∃ (s : State) (c : CoveId), running s 94 = true ∧ thas s.sc.flr c.val = true ∧ coveExists s c.val = true ∧ coveSt s c.val ≠ 1) ∧
    (∃ (s : State) (c : CoveId), hostClosed s = false ∧ coveExists s c.val = true ∧ coveSt s c.val ≠ 4 ∧ fld s F.CH_STATUS_STATE = 4 ∧ Regs.wf s = true) ∧
    (∃ (s : State) (c : CoveId), running s 94 = true ∧ thas s.sc.cpRst c.val = true ∧ ((coveSt s c.val ≠ 4 ∨ resetWaits s c.val = false))) :=
  ⟨⟨cove, .pf, 15, 1, by decide +kernel⟩,
   ⟨coveIn 3, .pf, 15, 4, by decide +kernel⟩,
   ⟨coveIn 2, 15, by decide +kernel⟩,
   ⟨coveIn 3, .pf, 15, 1, by decide +kernel⟩,
   ⟨coveIn 4, 15, by decide +kernel⟩,
   ⟨up, 15, by decide +kernel⟩,
   ⟨coveIn 4, 15, by decide +kernel⟩,
   ⟨{ coveIn 2 with sc := { up.sc with flr := [(15, true)] } }, 15, by decide +kernel⟩,
   ⟨withFlds cove [(F.CH_STATUS_STATE, 4)], 15, by decide +kernel⟩,
   ⟨{ cove with sc := { up.sc with cpRst := [(15, true)] } }, 15, by decide +kernel⟩⟩

theorem witness_SessionCommandsComplete :
    (∃ (s : State) (c : CoveId) (i : Byte), hostClosed s = false ∧ spdmServes s c.val = true) ∧
    (∃ (s : State) (c : CoveId) (r : SpdmReq), hostClosed s = false ∧ spdmServes s c.val = true) ∧
    (∃ (s : State) (c : CoveId), hostClosed s = false ∧ spdmServes s c.val = true ∧ sessionUp s c.val = false ∧ flag s F.FAB_SEC_STATUS_TRNG_FAIL = false) ∧
    (∃ (s : State) (c : CoveId) (x : Session), hostClosed s = false ∧ spdmServes s c.val = true ∧ sessionOf s c.val = some x ∧ x.up = false) ∧
    (∃ (s : State) (c : CoveId) (x : Session), hostClosed s = false ∧ spdmServes s c.val = true ∧ sessionOf s c.val = some x ∧ x.up = true) ∧
    (∃ (s : State) (c : CoveId), hostClosed s = false ∧ spdmServes s c.val = true ∧ sessionUp s c.val = true) ∧
    (∃ (s : State) (c : CoveId), running s 94 = true ∧ sessionUp s c.val = true) ∧
    (∃ (s : State) (q : Requester) (v : Word), Manages s q ∧ bits v.toNat 0 9 ≤ fld s F.FAB_SEC_STATUS_RUN_SVN ∧ bits v.toNat 0 9 < 256 ∧ isScrapped s =
      false ∧ fld s F.FAB_SEC_STATUS_FUSED_SVN < bits v.toNat 0 9) ∧
    (∃ (s : State) (v : Nat), s.sc.commit = some v ∧ Regs.wf s = true) ∧
    (∃ (s : State), running s 94 = true ∧ flag s F.FAB_SEC_STATUS_TRNG_FAIL = true ∧ Regs.wf s = true) ∧
    (∃ (s : State), running s 94 = true ∧ flag s F.FAB_SEC_STATUS_TRNG_FAIL = false) :=
  ⟨⟨session [], 15, 0xFF, by decide +kernel⟩,
   ⟨session [], 15, .getVersion, by decide +kernel⟩,
   ⟨session [], 15, by decide +kernel⟩,
   ⟨session [⟨false, some 0, 0, 0, 0, 0⟩], 15, ⟨false, some 0, 0, 0, 0, 0⟩, by decide +kernel⟩,
   ⟨session [established], 15, established, by decide +kernel⟩,
   ⟨session [established], 15, by decide +kernel⟩,
   ⟨session [established], 15, by decide +kernel⟩,
   ⟨withFlds up [(F.FAB_SEC_STATUS_RUN_SVN, 255), (F.FAB_SEC_STATUS_FUSED_SVN, 254)], .pf, 255, by decide +kernel⟩,
   ⟨{ up with sc := { up.sc with commit := some 255 } }, 255, by decide +kernel⟩,
   ⟨withFlds up [(F.FAB_SEC_STATUS_TRNG_FAIL, 1)], by decide +kernel⟩,
   ⟨up, by decide +kernel⟩⟩

theorem witness_CopyCommandsComplete :
    (∃ (s : State) (q : Requester) (c : CoveId) (x : BxCopy), Reaches s q c.val ∧ sessionUp s c.val = true ∧ (copiesOf s c.val).length < 16 ∧ stagedCopy s
      c.val = some x) ∧
    (∃ (s : State) (b : Fin 4) (x : BxCopy) (k : Session) (data : List Byte) (e : BitVec 256), running s (88 + b.val) = true ∧ copyOn s b.val = some x ∧
      x.orphan = false ∧ ((x.toHost = true ∨ data.length = x.chunk)) ∧ bxKilled s b.val = false ∧ coveActive s x.cove = true ∧ sessionOf s x.cove =
      some k ∧ k.up = true ∧ lastCounter s x.cove x.toHost < counterStop) ∧
    (∃ (s : State) (b : Fin 4) (x : BxCopy), running s (88 + b.val) = true ∧ copyOn s b.val = some x) ∧
    (∃ (s : State) (q : Requester) (c : CoveId), Manages s q ∧ flag s (F.CV_MIG_STATUS_BUSY c.val) = false) ∧
    (∃ (s : State) (c : CoveId) (o : MigOp) (chunks : List (List Byte × BitVec 256)) (fail : Option Nat), running s 94 = true ∧ tfind s.sc.mig c.val =
      some o) :=
  ⟨⟨withFlds (session [established]) [(F.CV_BX_LEN 15, 2 ^ 30)], .vf 15, 15, ⟨15, 0, 0, 0, 0, 2 ^ 30, false, some (0, 0), 0, none, false⟩, by
      decide +kernel⟩,
   ⟨{ session [established] with sc := { (session [established]).sc with copies := [copy] } }, 3, copy, established, [], 0, by decide +kernel⟩,
   ⟨{ session [established] with sc := { (session [established]).sc with copies := [copy] } }, 3, copy, by decide +kernel⟩,
   ⟨cove, .pf, 15, by decide +kernel⟩,
   ⟨{ cove with sc := { cove.sc with mig := [(15, ⟨1, 0, 0, 0, 1, 4096⟩)] } }, 15, ⟨1, 0, 0, 0, 1, 4096⟩, [], none, by decide +kernel⟩⟩

theorem witness_ChartCommandsComplete :
    (∃ (s : State) (q : Requester) (v : Word), Manages s q ∧ Regs.wf s = true ∧ bit v.toNat 0 = true ∧ fld s F.CH_STATUS_STATE = 0 ∧ fld s
      F.CH_STATUS_HOLDER = 0) ∧
    (∃ (s : State) (q : Requester) (v : Word), Manages s q ∧ Regs.wf s = true ∧ bit v.toNat 1 = true ∧ bit v.toNat 2 = false ∧ fld s F.CH_STATUS_STATE = 1
      ∧ fld s F.CH_STATUS_HOLDER = holderNo q) ∧
    (∃ (s : State) (q : Requester) (v : Word), Manages s q ∧ Regs.wf s = true ∧ bit v.toNat 2 = true ∧ bit v.toNat 4 = false ∧ fld s F.CH_STATUS_STATE = 1
      ∧ fld s F.CH_STATUS_HOLDER = holderNo q ∧ isScrapped s = false ∧ flag s F.FAB_SEC_STATUS_FW_FAIL = false ∧ fld s F.CH_LEN_LEN ≤ 1048576 ∧ fld s
      F.CH_LEN_LEN % 8 = 0 ∧ fld s F.CH_WPTR_PTR = fld s F.CH_LEN_LEN) ∧
    (∃ (s : State) (q : Requester) (v : Word), Manages s q ∧ fld s F.CH_STATUS_STATE = 1 ∧ fld s F.CH_STATUS_HOLDER = holderNo q ∧ fld s F.CH_WPTR_PTR + 4
      ≤ 1048576) ∧
    (∃ (s : State) (img : List Byte), running s 94 = true ∧ fld s F.CH_STATUS_STATE = 2 ∧ img.length = fld s F.CH_LEN_LEN) ∧
    (∃ (s : State), running s 94 = true ∧ fld s F.CH_STATUS_STATE = 2) ∧
    (∃ (s : State), running s 94 = true ∧ s.plan.soundHeld = true ∧ flag s F.CK_STATUS_UP = true) ∧
    (∃ (s : State) (m : Image), running s 94 = true ∧ fld s F.CH_STATUS_STATE = 3 ∧ s.plan.soundHeld = false ∧ decodeImage s (imageBytes s) = .ok m ∧
      judgeImage s m = none) ∧
    (∃ (s : State) (m : Image) (f : Fail) (bad : Bool), running s 94 = true ∧ fld s F.CH_STATUS_STATE = 3 ∧ s.plan.soundHeld = false ∧ decodeImage s
      (imageBytes s) = .ok m ∧ judgeImage s m = some f) ∧
    (∃ (s : State), running s 94 = true ∧ fld s F.CH_STATUS_STATE = 3 ∧ s.plan.soundHeld = false) ∧
    (∃ (s : State) (a : Apply) (m : Image), running s 94 = true ∧ s.plan.apply = some a ∧ decodeImage s (imageBytes s) = .ok m ∧ a.step = .accepted ∧ flag
      s F.FAB_SEC_STATUS_TRNG_FAIL = false) ∧
    (∃ (s : State) (a : Apply) (m : Image), running s 94 = true ∧ s.plan.apply = some a ∧ decodeImage s (imageBytes s) = .ok m ∧ a.step = .loops ∧
      loopsRun s = true) ∧
    (∃ (s : State) (a : Apply) (m : Image), running s 94 = true ∧ s.plan.apply = some a ∧ decodeImage s (imageBytes s) = .ok m ∧ a.step = .filling ∧
      s.plan.fills.any (fun f => f.2 == .apply) = false) :=
  ⟨⟨up, .pf, 1, by decide +kernel⟩,
   ⟨withFlds up [(F.CH_STATUS_STATE, 1), (F.CH_STATUS_HOLDER, 2)], .pf, 2, by decide +kernel⟩,
   ⟨withFlds up [(F.CH_STATUS_STATE, 1), (F.CH_STATUS_HOLDER, 1), (F.CH_LEN_LEN, 1048576), (F.CH_WPTR_PTR, 1048576)], .ibpin, 4, by decide +kernel⟩,
   ⟨withFlds up [(F.CH_STATUS_STATE, 1), (F.CH_STATUS_HOLDER, 2), (F.CH_WPTR_PTR, 1048572)], .pf, 0xFFFFFFFF, by decide +kernel⟩,
   ⟨withFlds up [(F.CH_STATUS_STATE, 2), (F.CH_LEN_LEN, 1)], [0], by decide +kernel⟩,
   ⟨withFlds up [(F.CH_STATUS_STATE, 2)], by decide +kernel⟩,
   ⟨withFlds { up with plan := { up.plan with soundHeld := true } } [(F.CK_STATUS_UP, 1)], by decide +kernel⟩,
   ⟨withChart 1 3 none, imageOf (withChart 1 3 none), by decide +kernel⟩,
   ⟨withChart 7 3 none, imageOf (withChart 7 3 none), ⟨0x61, 1, 0, true⟩, false, by decide +kernel⟩,
   ⟨withChart 1 3 none, by decide +kernel⟩,
   ⟨withChart 1 4 (some .accepted), ⟨.accepted, false, [], 2, [], [], []⟩, imageOf (withChart 1 4 (some .accepted)), by decide +kernel⟩,
   ⟨withChart 1 4 (some .loops), ⟨.loops, false, [], 2, [], [], []⟩, imageOf (withChart 1 4 (some .loops)), by decide +kernel⟩,
   ⟨withChart 1 4 (some .filling), ⟨.filling, false, [], 2, [], [], []⟩, imageOf (withChart 1 4 (some .filling)), by decide +kernel⟩⟩

theorem witness_FenceCommandsComplete :
    (∃ (s : State) (q : Requester) (v : Word) (ks : List Nat), Manages s q ∧ fenceKeys v.toNat = some ks ∧ bit v.toNat 31 = false) ∧
    (∃ (s : State) (q : Requester) (v : Word) (ks : List Nat), Manages s q ∧ fenceKeys v.toNat = some ks ∧ bit v.toNat 31 = true ∧ chartBusy s = false) ∧
    (∃ (s : State) (sp : Fin 3) (id : BitVec 16), running s 94 = true ∧ tfind s.plan.fence (doneKey sp.val id.toNat) = some .fencing ∧ fenceStill s
      (doneKey sp.val id.toNat) = true ∧ doneKey sp.val id.toNat / 4096 ≠ kEP) :=
  ⟨⟨up, .pf, 0x4001003F, [0x703F], by decide +kernel⟩,
   ⟨up, .pf, 0xA0010A9F, [0x10000 + 2719], by decide +kernel⟩,
   ⟨{ up with plan := { up.plan with fence := [(0x703F, .fencing)] } }, 2, 63, by decide +kernel⟩⟩

theorem witness_TideCommandsComplete :
    (∃ (s : State) (m : TideId) (now : Nat), running s 96 = true ∧ (masterOf s m.val).running = true ∧ (masterOf s m.val).held = false ∧ (masterOf s
      m.val).slate = [] ∧ (masterOf s m.val).await = []) ∧
    (∃ (s : State) (t : TapId) (msg : BitVec 84), running s (tapDomain t.val) = true ∧ (tapOf s t.val).net = some msg ∧ parityOk msg = true ∧ msg.toNat %
      4 = 0 ∧ (tapOf s t.val).resync = false ∧ bits msg.toNat 2 16 = ((tapOf s t.val).count + 1) % 2 ^ 16) ∧
    (∃ (s : State) (t : TapId) (now : Nat) (e : RecvEdge), running s (tapDomain t.val) = true ∧ (tapOf s t.val).recv = some e ∧ (tapOf s t.val).resync =
      false) ∧
    (∃ (s : State) (t : TapId) (ns : Nat) (e : RecvEdge), running s 96 = true ∧ (tapOf s t.val).acking = some e ∧ (tapOf s t.val).src ≤ 16 ∧ slewWaits s
      t.val e = false) ∧
    (∃ (s : State) (m : TideId) (r : ArmReq) (rest : List ArmReq), running s 96 = true ∧ s.tide.armReqs = r :: rest ∧ r.tide = m.val) ∧
    (∃ (s : State) (t : TapId) (e : Idx64) (a : Slate), running s (tapDomain t.val) = true ∧ (tapOf s t.val).src ≤ 16 ∧ tfind (masterOf s (tapOf s
      t.val).src).slate e.val = some a ∧ a.taps.contains t.val = true ∧ a.stored.contains t.val = false ∧ a.due = none) ∧
    (∃ (s : State) (t : TapId), running s (tapDomain t.val) = true ∧ (tapOf s t.val).resync = true ∧ (tapOf s t.val).asked = false) ∧
    (∃ (s : State) (t : TapId), running s (tapDomain t.val) = true ∧ running s 96 = true ∧ (tapOf s t.val).src ≤ 16 ∧ (tapOf s t.val).resync = true ∧
      (tapOf s t.val).asked = true ∧ (masterOf s (tapOf s t.val).src).running = true) ∧
    (∃ (s : State) (q : Requester), Manages s q ∧ Regs.wf s = true ∧ flag s F.TD_STATUS_XA_LOST = true) ∧
    (∃ (s : State) (ms : List CalMeas), running s 94 = true ∧ flag s F.TD_STATUS_CAL_BUSY = true ∧ s.lc.boot ≠ 8) ∧
    (∃ (s : State) (ms : List CalMeas), running s 94 = true ∧ flag s F.TD_STATUS_CAL_BUSY = true ∧ s.lc.boot = 8) :=
  ⟨⟨{ up with tide := { up.tide with masters := [(16, master)] } }, 16, 2 ^ 64 - 1, by decide +kernel⟩,
   ⟨{ up with tide := { up.tide with taps := [(291, { Tap.init with src := 16, count := 2 ^ 64 - 1, net := some (edgeMsg 0 (2 ^ 64 - 1)) })] } }, 291,
      edgeMsg 0 (2 ^ 64 - 1), by decide +kernel⟩,
   ⟨{ up with tide := { up.tide with taps := [(291, { Tap.init with src := 16, recv := some ⟨1, 0⟩ })] } }, 291, 0, ⟨1, 0⟩, by decide +kernel⟩,
   ⟨{ up with tide := { up.tide with taps := [(291, { Tap.init with src := 16, acking := some ⟨1, 0⟩ })] } }, 291, 0, ⟨1, 0⟩, by decide +kernel⟩,
   ⟨{ up with tide := { up.tide with armReqs := [⟨16, .dvfs 5, 1, [291]⟩] } }, 16, ⟨16, .dvfs 5, 1, [291]⟩, [], by decide +kernel⟩,
   ⟨{ up with tide := { up.tide with taps := [(291, { Tap.init with src := 16 })], masters := [(16, { master with slate := [(63, ⟨.dvfs 5, 9, [291], [], none, 0, [], [], false⟩)] })] } },
      291, 63, ⟨.dvfs 5, 9, [291], [], none, 0, [], [], false⟩, by decide +kernel⟩,
   ⟨{ up with tide := { up.tide with taps := [(291, { Tap.init with src := 16, resync := true })] } }, 291, by decide +kernel⟩,
   ⟨{ up with tide := { up.tide with taps := [(291, { Tap.init with src := 16, resync := true, asked := true })], masters := [(16, master)] } }, 291, by
      decide +kernel⟩,
   ⟨withFlds up [(F.TD_STATUS_XA_LOST, 1)], .pf, by decide +kernel⟩,
   ⟨withFlds up [(F.TD_STATUS_CAL_BUSY, 1)], [], by decide +kernel⟩,
   ⟨withFlds (starting 8) [(F.TD_STATUS_CAL_BUSY, 1)], [], by decide +kernel⟩⟩

theorem witness_TranslationCommandsComplete :
    (∃ (s : State) (src : BitVec 16) (c : CoveId) (ctx : BitVec 12) (dva : BitVec 64) (len : Nat) (acc : Access) (k cl fpa : Nat) (dl : Bool) (s1 :
      State), running s (unitDomain src.toNat) = true ∧ ((src.toNat / 4096 = 6 ∨ src.toNat / 4096 = 7 → k = c.val)) ∧ ((src.toNat / 4096 ≠ 6 →
      src.toNat / 4096 ≠ 7 → unitOwner s src.toNat = some k)) ∧ unitClient src.toNat = some cl ∧ coveExists s k = true ∧ ((acc ≠ .read ∨ dva.toNat %
      64 + len ≤ 64)) ∧ lookup s cl k ctx.toNat dva.toNat len acc = (.hit fpa dl, s1)) ∧
    (∃ (s : State) (src : BitVec 16) (c : CoveId) (ctx : BitVec 12) (dva : BitVec 64) (len k cl : Nat), running s (unitDomain src.toNat) = true ∧
      ((src.toNat / 4096 = 6 ∨ src.toNat / 4096 = 7 → k = c.val)) ∧ ((src.toNat / 4096 ≠ 6 → src.toNat / 4096 ≠ 7 → unitOwner s src.toNat = some k)) ∧
      unitClient src.toNat = some cl ∧ coveExists s k = true ∧ 64 < dva.toNat % 64 + len) ∧
    (∃ (s : State) (m : Miss) (rest : List Miss), running s 92 = true ∧ s.xl.missq = m :: rest ∧ s.xl.walks = [] ∧ missWaits s m = true ∧ (∀ e ∈
      s.xl.xfers, e.2.stage ≠ .queueing)) ∧
    (∃ (s : State) (w : Nat) (k : Walk) (e : Dword), running s 92 = true ∧ tfind s.xl.walks w = some k) ∧
    (∃ (s : State) (w : Nat) (k : Walk), running s 92 = true ∧ tfind s.xl.walks w = some k) ∧
    (∃ (s : State) (w : Nat), running s 92 = true ∧ thas s.xl.walks w = true) ∧
    (∃ (s : State) (id : Nat) (x : Xfer) (r : Resp), tfind s.xl.xfers id = some x ∧ x.stage = .done r ∧ running s (unitDomain x.src) = true) ∧
    (∃ (s : State) (q : Requester) (c : CoveId), Manages s q ∧ coveExists s c.val = true ∧ (invsOf s c.val).length < 16) ∧
    (∃ (s : State) (c : CoveId) (cl : Fin 228) (i : Inv), running s 92 = true ∧ running s (clientDomain cl.val) = true ∧ invsOf s c.val = [i] ∧ i.await =
      [cl.val] ∧ invBusy s c.val cl.val i = false ∧ s.xl.invs.sorted = true) ∧
    (∃ (s : State) (c : CoveId), running s 92 = true ∧ (invsOf s c.val).any (fun i => !i.slow) = true) ∧
    (∃ (s : State) (q : Requester) (c : CoveId) (v : Word), Manages s q ∧ coveExists s c.val = true ∧ (fld s (F.XL_WQ_PROD_PROD c.val) + 65536 - v.toNat %
      65536) % 65536 ≤ 256) ∧
    (∃ (s : State) (q : Requester) (c : CoveId) (ctx : BitVec 12), Manages s q ∧ coveExists s c.val = true) ∧
    (∃ (s : State) (q : Requester) (c : CoveId), Manages s q ∧ Regs.wf s = true ∧ coveExists s c.val = true ∧ flag s (F.XL_DL_STATUS_BUSY c.val) = false) ∧
    (∃ (s : State) (c : CoveId) (a : BitVec 64) (d : Line), running s 92 = true) ∧
    (∃ (s : State) (c : CoveId), running s 92 = true ∧ flag s (F.XL_DL_STATUS_BUSY c.val) = true ∧ ((∀ d ∈ s.xl.dlc, d.cove = c.val → d.old = true →
      d.filled = true)) ∧ ((∀ d ∈ s.xl.dlWait, d.cove = c.val → d.old = false)) ∧ s.env.hostWriteFails = false) ∧
    (∃ (s : State) (c : CoveId), running s 92 = true ∧ dlOn s c.val = true) :=
  ⟨⟨withFlds { cove with plan := { cove.plan with owner := [(resKey kSH 31, 15)] }, xl := { cove.xl with tlb := [(159, [leaf])] } } [(F.XL_CTXDIR_LO_EN
      15, 1)], 0x201F, 15, 4095, 0xFFFF, 1, .read, 15, 159, 0xFFFF, false, (lookup (withFlds { cove with plan := { cove.plan with owner := [(resKey kSH 31, 15)] }, xl := { cove.xl with tlb := [(159, [leaf])] } }
      [(F.XL_CTXDIR_LO_EN 15, 1)]) 159 15 4095 0xFFFF 1 .read).2, by decide +kernel⟩,
   ⟨withFlds { cove with plan := { cove.plan with owner := [(resKey kSH 31, 15)] }, xl := { cove.xl with tlb := [(159, [leaf])] } } [(F.XL_CTXDIR_LO_EN
      15, 1)], 0x201F, 15, 4095, 0xFFFF, 2, 15, 159, by decide +kernel⟩,
   ⟨{ cove with xl := { cove.xl with missq := [⟨15, 4095, 0⟩], xfers := [(0, { xfer 0 .read .missing with tag := 15, ctx := 4095, dva := 0 })] } }, ⟨15,
      4095, 0⟩, [], by decide +kernel⟩,
   ⟨{ cove with xl := { cove.xl with walks := [(0, ⟨15, 4095, 0, 3, 0, false⟩)] } }, 0, ⟨15, 4095, 0, 3, 0, false⟩, 0xFFFFFFFFFFFFFFFF, by
      decide +kernel⟩,
   ⟨{ cove with xl := { cove.xl with walks := [(0, ⟨15, 4095, 0, 3, 0, false⟩)] } }, 0, ⟨15, 4095, 0, 3, 0, false⟩, by decide +kernel⟩,
   ⟨{ cove with xl := { cove.xl with walks := [(0, ⟨15, 4095, 0, 3, 0, false⟩)] } }, 0, by decide +kernel⟩,
   ⟨withXfer (xfer 0 .read (.done (.data 0))), 0, xfer 0 .read (.done (.data 0)), .data 0, by decide +kernel⟩,
   ⟨cove, .pf, 15, by decide +kernel⟩,
   ⟨{ cove with xl := { cove.xl with invs := [(15, [⟨0, 1, none, 0, 0, false, [227]⟩])] } }, 15, 227, ⟨0, 1, none, 0, 0, false, [227]⟩, by
      decide +kernel⟩,
   ⟨{ cove with xl := { cove.xl with invs := [(15, [⟨0, 1, none, 0, 0, false, [227]⟩])] } }, 15, by decide +kernel⟩,
   ⟨cove, .pf, 15, 0xFF00, by decide +kernel⟩,
   ⟨cove, .pf, 15, 4095, by decide +kernel⟩,
   ⟨cove, .pf, 15, by decide +kernel⟩,
   ⟨up, 15, 0xFFFFFFFFFFFFFFFF, 0, by decide +kernel⟩,
   ⟨withFlds cove [(F.XL_DL_STATUS_BUSY 15, 1)], 15, by decide +kernel⟩,
   ⟨withFlds cove [(F.XL_DL_STATUS_ON 15, 1)], 15, by decide +kernel⟩⟩

theorem witness_EventCommandsComplete :
    (∃ (s : State) (c : CoveId) (e : BitVec 16) (v : Dword), running s 94 = true ∧ coveExists s c.val = true ∧ areaReady s c.val = true) ∧
    (∃ (s : State) (q : Requester) (c : CoveId), Reaches s q c.val ∧ areaReady s c.val = true ∧ slotsInUse s c.val < 256) ∧
    (∃ (s : State) (q : Requester) (c : CoveId) (v : Nat) (s1 : State), Reaches s q c.val ∧ areaReady s c.val = true ∧ evValue s c.val (evNum s q c.val) =
      (some v, s1)) ∧
    (∃ (s : State) (q : Requester) (c : CoveId) (v : Word), Reaches s q c.val ∧ ringWait s c.val = [] ∧ bits v.toNat 16 3 = 0 ∧ (fld s (F.EV_CV_CRING_PROD
      c.val) + 65536 - v.toNat % 65536) % 65536 ≤ 1024) ∧
    (∃ (s : State) (q : Requester) (c : CoveId) (v : Word), Manages s q ∧ ringWait s c.val = []) ∧
    (∃ (s : State) (c : CoveId) (e : BitVec 16) (v : Dword) (tag : BitVec 22), running s 94 = true ∧ coveExists s c.val = true ∧ coveSt s c.val ≠ 4 ∧
      cpInReset s c.val = false ∧ areaReady s c.val = true ∧ slotsInUse s c.val < 256) ∧
    (∃ (s : State) (c : CoveId) (e : BitVec 16) (v : Dword) (tag : BitVec 22), cpInReset s c.val = true) :=
  ⟨⟨area, 15, 0xFFFF, 0xFFFFFFFFFFFFFFFF, by decide +kernel⟩,
   ⟨area, .vf 15, 15, by decide +kernel⟩,
   ⟨area, .vf 15, 15, 0, (evValue area 15 (evNum area (.vf 15) 15)).2, by decide +kernel⟩,
   ⟨area, .vf 15, 15, 0xFC00, by decide +kernel⟩,
   ⟨area, .pf, 15, 0xFFFFFFFF, by decide +kernel⟩,
   ⟨area, 15, 0xFFFF, 0, 0x3FFFFF, by decide +kernel⟩,
   ⟨{ area with sc := { area.sc with cpRst := [(15, true)] } }, 15, 0xFFFF, 0, 0x3FFFFF, by decide +kernel⟩⟩

theorem witness_SignalMeaning :
    (∃ (s s1 : State) (c e v src : Nat) (old : Dword), evAccess s c e (evUmax e v) = (some (.old old), s1) ∧ old.toNat < v ∧ v < evMax) ∧
    (∃ (s s1 : State) (c e v src : Nat) (old : Dword), evAccess s c e (evUmax e v) = (some (.old old), s1) ∧ old.toNat < v ∧ v = evMax) ∧
    (∃ (s s1 : State) (c e v src : Nat) (old : Dword), evAccess s c e (evUmax e v) = (some (.old old), s1) ∧ v ≤ old.toNat) ∧
    (∃ (s s1 : State) (c e v src : Nat) (x : ErrKind), evAccess s c e (evUmax e v) = (some (.error x), s1)) :=
  ⟨⟨area, (evAccess area 15 65535 (evUmax 65535 1)).2, 15, 65535, 1, 1, 0, by decide +kernel⟩,
   ⟨area, (evAccess area 15 65535 (evUmax 65535 evMax)).2, 15, 65535, evMax, 1, 0, by decide +kernel⟩,
   ⟨area, (evAccess area 15 65535 (evUmax 65535 0)).2, 15, 65535, 0, 1, 0, by decide +kernel⟩,
   ⟨withFlds area [(F.OB_AREA_GRANULE 15, 8191)], (evAccess (withFlds area [(F.OB_AREA_GRANULE 15, 8191)]) 15 0 (evUmax 0 1)).2, 15, 0, 1, 1, .address,
      by decide +kernel⟩⟩

theorem witness_ObjectCommandsComplete :
    (∃ (s : State) (q : Requester) (c : CoveId) (v : Word), Manages s q ∧ flag s (F.OB_AREA_EN c.val) = false ∧ coveExists s c.val = true ∧ 10 ≤ bits
      v.toNat 16 5 ∧ bits v.toNat 16 5 ≤ 24 ∧ ownsGranules s c.val (bits v.toNat 0 13) (areaSpan (bits v.toNat 16 5)) = true) ∧
    (∃ (s : State) (c : CoveId), running s 94 = true ∧ flag s (F.OB_AREA_STATUS_INIT c.val) = true ∧ flag s (F.OB_AREA_EN c.val) = true) ∧
    (∃ (s s1 : State) (q : Requester) (c : CoveId) (a : ObAns), Reaches s q c.val ∧ areaReady s c.val = true ∧ create s c.val (obArg s q c.val 0 + 2 ^ 32
      * bits (obArg s q c.val 1) 0 16) (bits (obArg s q c.val 1) 16 12) (bit (obArg s q c.val 1) 28) (obArg s q c.val 2 + 2 ^ 32 * bits (obArg s q
      c.val 3) 0 12) = (a, s1)) ∧
    (∃ (s s1 : State) (q : Requester) (c : CoveId) (e : ObjEnt), Reaches s q c.val ∧ areaReady s c.val = true ∧ e.state = 1 ∧ modRef s c.val (obArg s q
      c.val 0) (fun e => if e.state = 1 then e.incHost else none) = (some e, s1)) ∧
    (∃ (s s1 : State) (q : Requester) (c : CoveId) (e : ObjEnt), Reaches s q c.val ∧ areaReady s c.val = true ∧ modRef s c.val (obArg s q c.val 0) (fun e
      => if e.droppable then some e.decHost.settled else none) = (some e, s1) ∧ e.droppable = true) ∧
    (∃ (s s1 : State) (q : Requester) (c : CoveId) (e : ObjEnt), Reaches s q c.val ∧ areaReady s c.val = true ∧ modRef s c.val (obArg s q c.val 0) (fun e
      => if e.droppable then some e.decHost.settled else none) = (some e, s1) ∧ e.state = 1 ∧ e.hsat = true) ∧
    (∃ (s s1 : State) (q : Requester) (c : CoveId) (e : ObjEnt), Reaches s q c.val ∧ areaReady s c.val = true ∧ modRef s c.val (obArg s q c.val 0) (fun e
      => if e.state = 1 && (e.hsat || e.host != 0) then some (toZombie e (bits (obArg s q c.val 1) 0 16) (bit (obArg s q c.val 1) 16) (obVal s q
      c.val)).settled else none) = (some e, s1) ∧ e.state = 1 ∧ ((e.hsat = true ∨ e.host ≠ 0))) ∧
    (∃ (s s1 : State) (q : Requester) (c : CoveId) (e : ObjEnt), Reaches s q c.val ∧ areaReady s c.val = true ∧ refEnt s c.val (obArg s q c.val 0) = (some
      e, s1)) ∧
    (∃ (s s1 s2 : State) (q : Requester) (c : CoveId) (e : ObjEnt) (o : Option Nat) (g : Nat), Reaches s q c.val ∧ areaReady s c.val = true ∧ refEnt s
      c.val (obArg s q c.val 1) = (some e, s1) ∧ e.state = 1 ∧ graphOf s c.val (bits (obArg s q c.val 0) 0 8) = ⟨o, g⟩ ∧ g ≠ 2 ^ 32 - 1 ∧ incDev s1
      c.val (obArg s q c.val 1 % 2 ^ 24) = (true, s2)) ∧
    (∃ (s : State) (q : Requester) (c : CoveId) (o : Option Nat) (g : Nat), Reaches s q c.val ∧ areaReady s c.val = true ∧ graphOf s c.val (bits (obArg s
      q c.val 0) 0 8) = ⟨o, g⟩) ∧
    (∃ (s : State) (q : Requester) (c : CoveId), Reaches s q c.val ∧ areaReady s c.val = true ∧ (queueOf s c.val (bits (obArg s q c.val 0) 0 6)).ph =
      .free ∧ bit (obArg s q c.val 0) 8 = false ∧ bits (obArg s q c.val 1) 0 10 ≠ 0 ∧ reserveSum s c.val ≤ 48) ∧
    (∃ (s : State) (q : Requester) (c : CoveId) (ctx : BitVec 12), Manages s q ∧ areaReady s c.val = true ∧ isKilled s c.val ctx.toNat = true ∧ isRunning
      s c.val ctx.toNat = false) ∧
    (∃ (s s1 : State) (c : CoveId) (entry : Line) (now : Nat), running s 94 = true ∧ coveExists s c.val = true ∧ coveSt s c.val ≠ 4 ∧ cpInReset s c.val =
      false ∧ subStatus s c.val (readSub entry) = (0, s1)) ∧
    (∃ (s : State) (c : CoveId) (ctx : BitVec 12) (h : Word) (ofs : BitVec 48), running s 94 = true ∧ coveExists s c.val = true ∧ coveSt s c.val ≠ 4 ∧
      cpInReset s c.val = false ∧ areaReady s c.val = true) ∧
    (∃ (s : State) (c : CoveId) (entry : Line) (now : Nat), cpInReset s c.val = true) ∧
    (∃ (s : State) (c : CoveId) (ctx : BitVec 12) (h : Word) (ofs : BitVec 48), cpInReset s c.val = true) ∧
    (∃ (s : State) (q : Requester) (c : CoveId) (k : Idx64) (v : Word), Reaches s q c.val ∧ (queueOf s c.val k.val).ph ≠ .free) :=
  ⟨⟨{ cove with plan := { cove.plan with gran := [(2717, ⟨15, 0, 0, 0⟩), (2718, ⟨15, 0, 0, 0⟩), (2719, ⟨15, 0, 0, 0⟩)] } }, .pf, 15, BitVec.ofNat 32 (24
      * 2 ^ 16 + 2717), by decide +kernel⟩,
   ⟨withFlds cove [(F.OB_AREA_STATUS_INIT 15, 1), (F.OB_AREA_EN 15, 1)], 15, by decide +kernel⟩,
   ⟨(withArgs (area) [0xFFFFFFFF, 0x1FFFFFFF, 1, 0]), (createOf (withArgs (area) [0xFFFFFFFF, 0x1FFFFFFF, 1, 0])).2, .vf 15, 15, (createOf (withArgs
      (area) [0xFFFFFFFF, 0x1FFFFFFF, 1, 0])).1, by exact ⟨by decide +kernel, by decide +kernel, Prod.mk.eta.symm⟩⟩,
   ⟨(withArgs (withEnt (entity 65534 255)) [255 * 2 ^ 24 + 1023]), (modRef (withArgs (withEnt (entity 65534 255)) [255 * 2 ^ 24 + 1023]) 15 (obArg
      (withArgs (withEnt (entity 65534 255)) [255 * 2 ^ 24 + 1023]) (.vf 15) 15 0) (fun e => if e.state = 1 then e.incHost else none)).2, .vf 15, 15,
      entity 65534 255, by decide +kernel⟩,
   ⟨(withArgs (withEnt (entity 1 255)) [255 * 2 ^ 24 + 1023]), (modRef (withArgs (withEnt (entity 1 255)) [255 * 2 ^ 24 + 1023]) 15 (obArg (withArgs
      (withEnt (entity 1 255)) [255 * 2 ^ 24 + 1023]) (.vf 15) 15 0) (fun e => if e.droppable then some e.decHost.settled else none)).2, .vf 15, 15,
      entity 1 255, by decide +kernel⟩,
   ⟨(withArgs (withEnt ({ entity 65535 255 with hsat := true })) [255 * 2 ^ 24 + 1023]), (modRef (withArgs (withEnt ({ entity 65535 255 with hsat := true }))
      [255 * 2 ^ 24 + 1023]) 15 (obArg (withArgs (withEnt ({ entity 65535 255 with hsat := true })) [255 * 2 ^ 24 + 1023]) (.vf 15) 15 0) (fun e => if
      e.droppable then some e.decHost.settled else none)).2, .vf 15, 15, { entity 65535 255 with hsat := true }, by decide +kernel⟩,
   ⟨(withArgs (withEnt (entity 65535 255)) [255 * 2 ^ 24 + 1023]), (modRef (withArgs (withEnt (entity 65535 255)) [255 * 2 ^ 24 + 1023]) 15 (obArg
      (withArgs (withEnt (entity 65535 255)) [255 * 2 ^ 24 + 1023]) (.vf 15) 15 0) (fun e => if e.state = 1 && (e.hsat || e.host != 0) then some
      (toZombie e (bits (obArg (withArgs (withEnt (entity 65535 255)) [255 * 2 ^ 24 + 1023]) (.vf 15) 15 1) 0 16) (bit (obArg (withArgs (withEnt
      (entity 65535 255)) [255 * 2 ^ 24 + 1023]) (.vf 15) 15 1) 16) (obVal (withArgs (withEnt (entity 65535 255)) [255 * 2 ^ 24 + 1023]) (.vf 15)
      15)).settled else none)).2, .vf 15, 15, entity 65535 255, by decide +kernel⟩,
   ⟨(withArgs (withEnt (entity 65534 255)) [255 * 2 ^ 24 + 1023]), (refEnt (withArgs (withEnt (entity 65534 255)) [255 * 2 ^ 24 + 1023]) 15 (obArg
      (withArgs (withEnt (entity 65534 255)) [255 * 2 ^ 24 + 1023]) (.vf 15) 15 0)).2, .vf 15, 15, entity 65534 255, by decide +kernel⟩,
   ⟨(withArgs (withEnt (entity 1 255)) [255, 255 * 2 ^ 24 + 1023]), (refEnt (withArgs (withEnt (entity 1 255)) [255, 255 * 2 ^ 24 + 1023]) 15 (obArg
      (withArgs (withEnt (entity 1 255)) [255, 255 * 2 ^ 24 + 1023]) (.vf 15) 15 1)).2, (incDev (refEnt (withArgs (withEnt (entity 1 255)) [255, 255 *
      2 ^ 24 + 1023]) 15 (obArg (withArgs (withEnt (entity 1 255)) [255, 255 * 2 ^ 24 + 1023]) (.vf 15) 15 1)).2 15 1023).2, .vf 15, 15, entity 1 255,
      none, 0, by decide +kernel⟩,
   ⟨(withArgs ({ area with ob := { area.ob with graphs := [(15 * 256 + 255, ⟨some 1023, 65535⟩)] } }) [255]), .vf 15, 15, some 1023, 65535, by
      decide +kernel⟩,
   ⟨(withArgs (area) [63, 1023]), .vf 15, 15, by decide +kernel⟩,
   ⟨{ area with ob := { area.ob with killed := [(15 * 4096 + 4095, true)] } }, .pf, 15, 4095, by decide +kernel⟩,
   ⟨withQueue (queue []), withQueue (queue []), 15, BitVec.ofNat 512 (63 * 2 ^ 64), 0, by decide +kernel⟩,
   ⟨area, 15, 4095, 0xFFFFFFFF, 0xFFFFFFFFFFFF, by decide +kernel⟩,
   ⟨{ area with sc := { area.sc with cpRst := [(15, true)] } }, 15, 0, 0xFFFFFFFF, by decide +kernel⟩,
   ⟨{ area with sc := { area.sc with cpRst := [(15, true)] } }, 15, 4095, 0xFFFFFFFF, 0xFFFFFFFFFFFF, by decide +kernel⟩,
   ⟨withQueue (queue []), .vf 15, 15, 63, 0xFFFFFFFF, by decide +kernel⟩⟩

theorem witness_SlotCommandsComplete :
    (∃ (s : State) (c : CoveId) (ctx : BitVec 12), running s 94 = true ∧ coveExists s c.val = true ∧ isKilled s c.val ctx.toNat = false ∧ slotOf s c.val
      ctx.toNat = none ∧ slotComing s c.val ctx.toNat = false ∧ s.ob.waiters = [] ∧ s.ob.slots.length < 48) ∧
    (∃ (s : State) (c : CoveId) (ctx : BitVec 12) (v : CtxSlot), running s 94 = true ∧ coveExists s c.val = true ∧ isKilled s c.val ctx.toNat = false ∧
      slotOf s c.val ctx.toNat = none ∧ slotComing s c.val ctx.toNat = false ∧ s.ob.waiters = [] ∧ 48 ≤ s.ob.slots.length ∧ victimSlot s c.val = some
      v) ∧
    (∃ (s : State) (c : CoveId) (ctx : BitVec 12), running s 94 = true ∧ coveExists s c.val = true ∧ isKilled s c.val ctx.toNat = false ∧ slotOf s c.val
      ctx.toNat = none ∧ slotComing s c.val ctx.toNat = false ∧ s.ob.waiters = [] ∧ 48 ≤ s.ob.slots.length ∧ victimSlot s c.val = none) ∧
    (∃ (s : State) (c : CoveId) (ctx : BitVec 12) (x : CtxSlot) (dest : Option (Nat × Nat)), running s 94 = true ∧ slotOf s c.val ctx.toNat = some x ∧
      x.ph = .evicting dest ∧ s.ob.waiters = [] ∧ areaReady s c.val = false) ∧
    (∃ (s : State) (c : CoveId) (ctx : BitVec 12) (x : CtxSlot), running s 94 = true ∧ slotOf s c.val ctx.toNat = some x ∧ x.ph = .loading ∧ s.ob.waiters
      = [] ∧ areaReady s c.val = false) :=
  ⟨⟨withSlots [], 15, 4095, by decide +kernel⟩,
   ⟨withSlots (List.replicate 48 ⟨14, 0, .resident⟩), 15, 4095, ⟨14, 0, .resident⟩, by decide +kernel⟩,
   ⟨withSlots (List.replicate 48 ⟨14, 0, .loading⟩), 15, 4095, by decide +kernel⟩,
   ⟨withSlots [⟨15, 4095, .evicting none⟩], 15, 4095, ⟨15, 4095, .evicting none⟩, none, by decide +kernel⟩,
   ⟨withSlots [⟨15, 4095, .loading⟩], 15, 4095, ⟨15, 4095, .loading⟩, by decide +kernel⟩⟩

theorem witness_SchedulerCommandsComplete :
    (∃ (s : State) (c : CoveId) (k : Idx64) (e : QEntry) (rest : List QEntry), running s 94 = true ∧ coveActive s c.val = true ∧ (queueOf s c.val
      k.val).ph = .active ∧ (queueOf s c.val k.val).fifo = e :: rest ∧ e.wev = none ∧ isResident s c.val e.ctx = true ∧ (runsOf s c.val k.val).length
      < 4 ∧ releasedSteps s c.val < 256) ∧
    (∃ (s : State) (c : CoveId) (k : Idx64) (e : QEntry) (rest : List QEntry) (ev tgt v : Nat) (s1 : State), running s 94 = true ∧ coveActive s c.val =
      true ∧ (queueOf s c.val k.val).ph = .active ∧ (queueOf s c.val k.val).fifo = e :: rest ∧ e.wev = some (ev, tgt) ∧ evValue s c.val ev = (some v,
      s1) ∧ v < tgt) ∧
    (∃ (s : State) (c : CoveId) (k : Idx64) (e : QEntry) (rest : List QEntry) (ev tgt v : Nat) (s1 : State), running s 94 = true ∧ coveActive s c.val =
      true ∧ (queueOf s c.val k.val).ph = .active ∧ (queueOf s c.val k.val).fifo = e :: rest ∧ e.wev = some (ev, tgt) ∧ evValue s c.val ev = (some v,
      s1) ∧ tgt ≤ v ∧ isResident s c.val e.ctx = true ∧ (runsOf s c.val k.val).length < 4 ∧ releasedSteps s c.val < 256) ∧
    (∃ (s : State) (c : CoveId) (k : Idx64) (now : Nat) (r : Run) (rest : List Run), running s 94 = true ∧ (queueOf s c.val k.val).ph = .active ∧ runsOf s
      c.val k.val = r :: rest ∧ r.finished = true ∧ (stepsWhere s (fun x => x.entry == r.ent.id)).any (fun e => e.2.busy) = false) ∧
    (∃ (s : State) (c : CoveId) (k : Idx64) (now : Nat) (far : Bool) (r : Run), running s 94 = true ∧ coveActive s c.val = true ∧ (queueOf s c.val
      k.val).ph = .active ∧ unplacedOf s c.val k.val = none ∧ nextRun s c.val k.val = some r ∧ isResident s c.val r.ent.ctx = true ∧ r.opened = false) ∧
    (∃ (s : State) (c : CoveId) (k : Idx64) (now : Nat) (far : Bool) (r : Run), running s 94 = true ∧ coveActive s c.val = true ∧ (queueOf s c.val
      k.val).ph = .active ∧ unplacedOf s c.val k.val = none ∧ nextRun s c.val k.val = some r ∧ isResident s c.val r.ent.ctx = true ∧ r.opened = true ∧
      r.todo = []) ∧
    (∃ (s : State) (c : CoveId) (k : Idx64) (now : Nat) (far : Bool) (i : Nat), running s 94 = true ∧ coveActive s c.val = true ∧ (queueOf s c.val
      k.val).ph = .active ∧ unplacedOf s c.val k.val = some i) ∧
    (∃ (s : State) (u : BitVec 16) (now c : Nat) (k : Cand), running s (unitDomain u.toNat) = true ∧ unitOwner s u.toNat = some c ∧ takesTile s c u.toNat
      = true ∧ pickTile s c u.toNat = some k) ∧
    (∃ (s : State) (u : BitVec 16) (ns : Nat) (e : Eng) (f : TileEnd) (x : Step), running s (unitDomain u.toNat) = true ∧ engOf s u.toNat = some e ∧ e.fin
      = some f ∧ stepOf s e.step = some x ∧ s.en.deliver.any (fun d => d.src == u.toNat) = false) ∧
    (∃ (s : State) (u : BitVec 16) (e : Eng) (x : Step), running s 94 = true ∧ engOf s u.toNat = some e ∧ stepOf s e.step = some x ∧ e.expired = 0 ∧
      tileEnded s u.toNat e = false ∧ paused s u.toNat = false) ∧
    (∃ (s : State) (u : BitVec 16) (ns : Nat) (e : Eng) (x : Step), running s 94 = true ∧ engOf s u.toNat = some e ∧ stepOf s e.step = some x ∧ e.expired
      = 1 ∧ tileEnded s u.toNat e = false ∧ unitBusy s u.toNat = false ∧ replaying s u.toNat = false) :=
  ⟨⟨sched [entry] [] [] [], 15, 63, entry, [], by decide +kernel⟩,
   ⟨sched [{ entry with wev := some (0, 1) }] [] [] [], 15, 63, { entry with wev := some (0, 1) }, [], 0, 1, 0, (evValue (sched [{ entry with wev := some (0, 1) }]
      [] [] []) 15 0).2, by decide +kernel⟩,
   ⟨sched [{ entry with wev := some (0, 0) }] [] [] [], 15, 63, { entry with wev := some (0, 0) }, [], 0, 0, 0, (evValue (sched [{ entry with wev := some (0, 0) }]
      [] [] []) 15 0).2, by decide +kernel⟩,
   ⟨sched [] [{ aRun with finished := true }] [] [], 15, 63, 0, { aRun with finished := true }, [], by decide +kernel⟩,
   ⟨sched [] [{ aRun with opened := false }] [] [], 15, 63, 0, true, { aRun with opened := false }, by decide +kernel⟩,
   ⟨sched [] [aRun] [] [], 15, 63, 0, false, aRun, by decide +kernel⟩,
   ⟨sched [] [aRun] [(0, { aStep with placed := false, tiles := [(tile 0, .waiting)] })] [], 15, 63, 0, true, 0, by decide +kernel⟩,
   ⟨sched [] [aRun] [(0, { aStep with tiles := [(tile 0, .waiting)], map := [(127, 127)] })] [], 127, 0, 15, ⟨0, { aStep with tiles := [(tile 0, .waiting)], map := [(127, 127)] },
      0, tile 0⟩, by decide +kernel⟩,
   ⟨onUnit 0 127 ({ eng true false with fin := some .done }), 127, 1, { eng true false with fin := some .done }, .done, { aStep with tiles := [(tile 0, .running)], map := [(127, 127)] },
      by decide +kernel⟩,
   ⟨onUnit 0 127 (eng true false), 127, eng true false, { aStep with tiles := [(tile 0, .running)], map := [(127, 127)] }, by decide +kernel⟩,
   ⟨onUnit 0 127 ({ eng true true with expired := 1 }), 127, 0, { eng true true with expired := 1 }, { aStep with tiles := [(tile 0, .running)], map := [(127, 127)] },
      by decide +kernel⟩⟩

theorem witness_PreemptionCommandsComplete :
    (∃ (s : State) (p : Fin 128) (now i t0 : Nat) (far : Bool) (x : Step) (j : Nat), running s 94 = true ∧ tfind s.sq.ports p.val = some (i, t0) ∧ stepOf
      s i = some x ∧ fld s (F.SQ_CV_CTL_SLICE x.cove) ≠ 0 ∧ t0 + fld s (F.SQ_CV_CTL_SLICE x.cove) * 1000 < now ∧ (queueOf s x.cove x.queue).rt = false
      ∧ x.liveDva ≠ 0 ∧ x.ph = .running ∧ portWaiter s x.cove (queueOf s x.cove x.queue).vt = some j) ∧
    (∃ (s s1 : State) (i now : Nat) (x : Step) (l : LiveEnt) (rs : List LiveRange) (us : List Nat), running s 94 = true ∧ stepOf s i = some x ∧ x.live? =
      some l ∧ x.ph = .stopping ∧ x.stageDone = true ∧ x.busy = false ∧ x.stopHere = true ∧ x.atLast = false ∧ workStopped s x.cove = false ∧
      readRanges (sqWho x.cove x.ctx) (fld s F.FAB_ARR_INFO_SP_MIB) l s = .ok (.ok rs, s1) ∧ reserveUnits s1 x.cove (unitsFor l.bytes) = some us) ∧
    (∃ (s s1 : State) (i now : Nat) (x : Step) (l : LiveEnt) (rs : List LiveRange), running s 94 = true ∧ stepOf s i = some x ∧ x.live? = some l ∧ x.ph =
      .stopping ∧ x.stageDone = true ∧ x.busy = false ∧ x.stopHere = true ∧ x.atLast = false ∧ workStopped s x.cove = false ∧ readRanges (sqWho x.cove
      x.ctx) (fld s F.FAB_ARR_INFO_SP_MIB) l s = .ok (.ok rs, s1) ∧ reserveUnits s1 x.cove (unitsFor l.bytes) = none) ∧
    (∃ (s s1 : State) (i now : Nat) (x : Step) (l : LiveEnt) (d : Nat), running s 94 = true ∧ stepOf s i = some x ∧ x.live? = some l ∧ x.ph = .stopping ∧
      x.stageDone = true ∧ x.busy = false ∧ x.stopHere = true ∧ x.atLast = false ∧ workStopped s x.cove = false ∧ readRanges (sqWho x.cove x.ctx) (fld
      s F.FAB_ARR_INFO_SP_MIB) l s = .ok (.error d, s1)) ∧
    (∃ (s s1 : State) (i : Nat) (p : Fin 128) (now ns : Nat) (x : Step) (y : Bool), running s (unitDomain p.val) = true ∧ stepOf s i = some x ∧ x.ph =
      .saving y ∧ (x.moves.filter (fun m => m.unit == p.val)).isEmpty = false ∧ scratchMoved x p.val = true ∧ workStopped s x.cove = false ∧
      spillMoves x true (x.moves.filter (fun m => m.unit == p.val)) s = .ok ((), s1) ∧ x.moves.filter (fun m => m.unit != p.val) = []) ∧
    (∃ (s s1 : State) (i : Nat) (p : Fin 128) (now ns : Nat) (x : Step) (y : Bool), running s (unitDomain p.val) = true ∧ stepOf s i = some x ∧ x.ph =
      .saving y ∧ (x.moves.filter (fun m => m.unit == p.val)).isEmpty = false ∧ scratchMoved x p.val = true ∧ workStopped s x.cove = false ∧
      spillMoves x true (x.moves.filter (fun m => m.unit == p.val)) s = .ok ((), s1) ∧ x.moves.filter (fun m => m.unit != p.val) ≠ []) ∧
    (∃ (s : State) (i now : Nat) (x : Step), running s 94 = true ∧ stepOf s i = some x ∧ x.ph = .running ∧ x.stage + 1 = x.nstage ∧ x.chunk + 1 ≠ x.nchunk
      ∧ x.stageDone = true ∧ workStopped s x.cove = false ∧ (x.live? = none ∨ fld s (F.SQ_CV_CTL_MIX x.cove) = 0 ∨ tokenLive s x.cove = false)) ∧
    (∃ (s : State) (i now : Nat) (x : Step) (l : LiveEnt) (s1 : State) (rs : List LiveRange) (us : List Nat), running s 94 = true ∧ stepOf s i = some x ∧
      x.ph = .running ∧ x.stage + 1 = x.nstage ∧ x.chunk + 1 ≠ x.nchunk ∧ x.stageDone = true ∧ workStopped s x.cove = false ∧ x.live? = some l ∧ fld s
      (F.SQ_CV_CTL_MIX x.cove) ≠ 0 ∧ tokenLive s x.cove = true ∧ readRanges (sqWho x.cove x.ctx) (fld s F.FAB_ARR_INFO_SP_MIB) l s = .ok (.ok rs, s1)
      ∧ reserveUnits s1 x.cove (unitsFor l.bytes) = some us) ∧
    (∃ (s : State) (i now : Nat) (x : Step) (m : List (Nat × Nat)), running s 94 = true ∧ stepOf s i = some x ∧ mayResume s x = true ∧ coveActive s x.cove
      = true ∧ x.resumeMap s = some m) ∧
    (∃ (s s1 : State) (i : Nat) (p : Fin 128) (ns : Nat) (x : Step), running s (unitDomain p.val) = true ∧ stepOf s i = some x ∧ x.ph = .resuming ∧
      (x.moves.filter (fun m => m.unit == p.val)).isEmpty = false ∧ scratchMoved x p.val = true ∧ workStopped s x.cove = false ∧ spillMoves x false
      (x.moves.filter (fun m => m.unit == p.val)) s = .ok ((), s1) ∧ x.moves.filter (fun m => m.unit != p.val) = []) ∧
    (∃ (s s1 : State) (i : Nat) (p : Fin 128) (ns : Nat) (x : Step), running s (unitDomain p.val) = true ∧ stepOf s i = some x ∧ x.ph = .resuming ∧
      (x.moves.filter (fun m => m.unit == p.val)).isEmpty = false ∧ scratchMoved x p.val = true ∧ workStopped s x.cove = false ∧ spillMoves x false
      (x.moves.filter (fun m => m.unit == p.val)) s = .ok ((), s1) ∧ x.moves.filter (fun m => m.unit != p.val) ≠ []) ∧
    (∃ (s : State) (q : Requester) (c : CoveId) (v : Word), Manages s q ∧ flag s (F.SQ_SPILL_EN c.val) = false ∧ coveExists s c.val = true ∧ 1 ≤ bits
      v.toNat 16 7 ∧ bits v.toNat 16 7 ≤ 64 ∧ ownsGranules s c.val (bits v.toNat 0 13) (bits v.toNat 16 7) = true) ∧
    (∃ (s : State) (q : Requester) (c : CoveId), Reaches s q c.val ∧ areaReady s c.val = true ∧ (queueOf s c.val (bits (obArg s q c.val 0) 0 6)).ph =
      .active) ∧
    (∃ (s : State) (c : CoveId) (k : Idx64) (u : BitVec 16), running s 94 = true ∧ (queueOf s c.val k.val).ph = .draining ∧ (queueOf s c.val
      k.val).await.contains u.toNat = true ∧ engOf s u.toNat = none) ∧
    (∃ (s : State) (c : CoveId) (k : Idx64), running s 94 = true ∧ (queueOf s c.val k.val).ph = .draining ∧ flag s (F.OB_Q_STATUS_STUCK c.val k.val) =
      false) :=
  ⟨⟨(withFlds { sched [] [] [(0, { aStep with map := [(127, 127)] }), (1, { aStep with queue := 62, tiles := [(tile 0, .waiting)], map := [(127, 127)] })] [] with ob := { area.ob with queues := [(1023, { queue [] with vt := 1 })] }, sq := { area.sq with steps := [(0, { aStep with map := [(127, 127)] }), (1, { aStep with queue := 62, tiles := [(tile 0, .waiting)], map := [(127, 127)] })], ports := [(127, (0, 0))] } }
      [(F.SQ_CV_CTL_SLICE 15, 1)]), 127, 1001, 0, 0, true, { aStep with map := [(127, 127)] }, 1, by decide +kernel⟩,
   ⟨withLive (withSpill (sched [] [aRun] [(0, stopping)] [])), okState (rangesOf (withLive (withSpill (sched [] [aRun] [(0, stopping)] []))) 64), 0, 0,
      stopping, ⟨0, 1, true, true, 64⟩, [liveRange], [0], by refine ⟨?_, ?_, ?_, ?_, ?_, ?_, ?_, ?_, ?_, ok_eq ?_, ?_⟩ <;> decide +kernel⟩,
   ⟨withLive (sched [] [aRun] [(0, stopping)] []), okState (rangesOf (withLive (sched [] [aRun] [(0, stopping)] [])) 64), 0, 0, stopping, ⟨0, 1, true,
      true, 64⟩, [liveRange], by refine ⟨?_, ?_, ?_, ?_, ?_, ?_, ?_, ?_, ?_, ok_eq ?_, ?_⟩ <;> decide +kernel⟩,
   ⟨withLive (sched [] [aRun] [(0, { stopping with live := [⟨0, 1, true, true, 128⟩] })] []), okState (rangesOf (withLive (sched [] [aRun] [(0, { stopping with live := [⟨0, 1, true, true, 128⟩] })]
      [])) 128), 0, 0, { stopping with live := [⟨0, 1, true, true, 128⟩] }, ⟨0, 1, true, true, 128⟩, 2,
      by refine ⟨?_, ?_, ?_, ?_, ?_, ?_, ?_, ?_, ?_, ok_eq ?_⟩ <;> decide +kernel⟩,
   ⟨sched [] [aRun] [(0, { aStep with ph := .saving false, moves := [moved 127] })] [], okState (spillMoves ({ aStep with ph := .saving false, moves := [moved 127] })
      true [moved 127] (sched [] [aRun] [(0, { aStep with ph := .saving false, moves := [moved 127] })] [])), 0, 127, 0, 0, { aStep with ph := .saving false, moves := [moved 127] },
      false, by refine ⟨?_, ?_, ?_, ?_, ?_, ?_, ok_eq ?_, ?_⟩ <;> decide +kernel⟩,
   ⟨sched [] [aRun] [(0, { aStep with ph := .saving false, moves := [moved 126, moved 127] })] [], okState (spillMoves ({ aStep with ph := .saving false, moves := [moved 126, moved 127] })
      true [moved 127] (sched [] [aRun] [(0, { aStep with ph := .saving false, moves := [moved 126, moved 127] })] [])), 0, 127, 0, 0, { aStep with ph := .saving false, moves := [moved 126, moved 127] },
      false, by refine ⟨?_, ?_, ?_, ?_, ?_, ?_, ok_eq ?_, ?_⟩ <;> decide +kernel⟩,
   ⟨sched [] [aRun] [(0, aStep)] [], 0, 0, aStep, by decide +kernel⟩,
   ⟨withLive (withSpill (withFlds (sched [] [aRun] [(0, { aStep with live := [⟨0, 1, true, true, 64⟩] }), (1, { aStep with skind := 2 })] [])
      [(F.SQ_CV_CTL_MIX 15, 1)])), 0, 0, { aStep with live := [⟨0, 1, true, true, 64⟩] }, ⟨0, 1, true, true, 64⟩, okState (rangesOf (withLive
      (withSpill (withFlds (sched [] [aRun] [(0, { aStep with live := [⟨0, 1, true, true, 64⟩] }), (1, { aStep with skind := 2 })] [])
      [(F.SQ_CV_CTL_MIX 15, 1)]))) 64), [liveRange], [0], by refine ⟨?_, ?_, ?_, ?_, ?_, ?_, ?_, ?_, ?_, ?_, ok_eq ?_, ?_⟩ <;> decide +kernel⟩,
   ⟨sched [] [aRun] [(0, { aStep with ph := .preempted false, tiles := [(tile 0, .waiting)] })] [], 0, 0, { aStep with ph := .preempted false, tiles := [(tile 0, .waiting)] },
      [(127, 127)], by decide +kernel⟩,
   ⟨sched [] [aRun] [(0, { aStep with ph := .resuming, moves := [moved 127] })] [], okState (spillMoves ({ aStep with ph := .resuming, moves := [moved 127] })
      false [moved 127] (sched [] [aRun] [(0, { aStep with ph := .resuming, moves := [moved 127] })] [])), 0, 127, 0, { aStep with ph := .resuming, moves := [moved 127] },
      by refine ⟨?_, ?_, ?_, ?_, ?_, ?_, ok_eq ?_, ?_⟩ <;> decide +kernel⟩,
   ⟨sched [] [aRun] [(0, { aStep with ph := .resuming, moves := [moved 126, moved 127] })] [], okState (spillMoves ({ aStep with ph := .resuming, moves := [moved 126, moved 127] })
      false [moved 127] (sched [] [aRun] [(0, { aStep with ph := .resuming, moves := [moved 126, moved 127] })] [])), 0, 127, 0, { aStep with ph := .resuming, moves := [moved 126, moved 127] },
      by refine ⟨?_, ?_, ?_, ?_, ?_, ?_, ok_eq ?_, ?_⟩ <;> decide +kernel⟩,
   ⟨{ cove with plan := { cove.plan with gran := (List.range 64).map (fun i => (2656 + i, ⟨15, 0, 0, 0⟩)) } }, .pf, 15, BitVec.ofNat 32 (64 * 2 ^ 16 +
      2656), by decide +kernel⟩,
   ⟨(withArgs (withQueue (queue [])) [63]), .vf 15, 15, by decide +kernel⟩,
   ⟨{ area with ob := { area.ob with queues := [(1023, { queue [] with ph := .draining, await := [127] })] } }, 15, 63, 127, by decide +kernel⟩,
   ⟨{ area with ob := { area.ob with queues := [(1023, { queue [] with ph := .draining, await := [127] })] } }, 15, 63, by decide +kernel⟩⟩

theorem witness_GatherCommandsComplete :
    (∃ (s : State) (n : Idx64) (t : OnTile) (c : Nat), newTile s (gpUnit n.val) = some t ∧ unitOwner s (gpUnit n.val) = some c ∧ Works s (gpUnit n.val)) ∧
    (∃ (s : State) (n : Idx64) (t : OnTile) (g : Gather) (c : Nat), GatherRuns s n.val c t g ∧ g.passDue = true ∧ sliceTurn s n.val t = true ∧
      ((g.tbl.hash = true → running s (80 + n.val / 8) = true))) ∧
    (∃ (s s1 : State) (n : Idx64) (t : OnTile) (g : Gather) (c : Nat) (row : BitVec 40) (f : Fetched), GatherRuns s n.val c t g ∧ tfind g.rows row.toNat =
      some none ∧ thas g.lost row.toNat = false ∧ fetchRow (engWho c (gpUnit n.val) g.ctx) g row.toNat s = .ok (f, s1)) ∧
    (∃ (s : State) (n : Idx64) (t : OnTile) (g : Gather) (c b : Nat) (pos : BitVec 17) (r : Option Nat) (l : List Word), GatherRuns s n.val c t g ∧ tfind
      g.occ pos.toNat = some r ∧ g.bagOf pos.toNat = some b ∧ g.next? r = true ∧ g.yields r = some l ∧ g.cmd.mode ≠ 2) ∧
    (∃ (s : State) (n : Idx64) (t : OnTile) (g : Gather) (c b : Nat) (pos : BitVec 17) (r : Option Nat) (l : List Word) (w : List Byte) (s1 : State),
      GatherRuns s n.val c t g ∧ tfind g.occ pos.toNat = some r ∧ g.bagOf pos.toNat = some b ∧ g.next? r = true ∧ g.yields r = some l ∧ g.cmd.mode = 2
      ∧ readAt (engWho c (gpUnit n.val) g.ctx) (g.cmd.wgt + 4 * pos.toNat) 4 s = .ok (.ok w, s1)) ∧
    (∃ (s : State) (n : Idx64) (t : OnTile) (g : Gather) (c : Nat) (bag : BitVec 12), GatherRuns s n.val c t g ∧ bag.toNat < g.cmd.nbag ∧ g.emitted ≤
      bag.toNat ∧ (tgetD g.bags bag.toNat (Bag.new g.tbl.dim)).ph = .pooling ∧ (tgetD g.bags bag.toNat (Bag.new g.tbl.dim)).occs.length = g.bagLen
      bag.toNat ∧ t.eng.abort = true) ∧
    (∃ (s : State) (n : Idx64) (t : OnTile) (g : Gather) (c : Nat) (bag : BitVec 12), GatherRuns s n.val c t g ∧ bag.toNat < g.cmd.nbag ∧ g.emitted ≤
      bag.toNat ∧ (tgetD g.bags bag.toNat (Bag.new g.tbl.dim)).ph = .pooling ∧ (tgetD g.bags bag.toNat (Bag.new g.tbl.dim)).occs.length = g.bagLen
      bag.toNat ∧ t.eng.abort = false ∧ g.guardFires (tgetD g.bags bag.toNat (Bag.new g.tbl.dim)) = true) ∧
    (∃ (s : State) (n : Idx64) (t : OnTile) (g : Gather) (c : Nat) (bag : BitVec 12), GatherRuns s n.val c t g ∧ bag.toNat < g.cmd.nbag ∧ g.emitted ≤
      bag.toNat ∧ (tgetD g.bags bag.toNat (Bag.new g.tbl.dim)).ph = .pooling ∧ (tgetD g.bags bag.toNat (Bag.new g.tbl.dim)).occs.length = g.bagLen
      bag.toNat ∧ t.eng.abort = false ∧ g.guardFires (tgetD g.bags bag.toNat (Bag.new g.tbl.dim)) = false) ∧
    (∃ (s : State) (n : Idx64) (t : OnTile) (g : Gather) (c : Nat) (bag : BitVec 12) (x : Bag), GatherRuns s n.val c t g ∧ tfind g.bags bag.toNat = some x
      ∧ x.ph = .replay) ∧
    (∃ (s : State) (n : Idx64) (t : OnTile) (g : Gather) (c : Nat) (x : Bag), GatherRuns s n.val c t g ∧ tfind g.bags g.emitted = some x ∧ x.ph = .ready) ∧
    (∃ (s : State) (q : Requester) (k : Fin 16), Manages s q ∧ splitOwned s k.val = true) ∧
    (∃ (s : State) (q : Requester) (k : Fin 16), Manages s q ∧ splitOwned s k.val = false) :=
  ⟨⟨onUnit 1 0x103F (eng false false), 63, onTile 1 0x103F (eng false false), 15, by decide +kernel⟩,
   ⟨gathering (eng true false) (gather), 63, onTile 1 0x103F (eng true false), gather, 15, by decide +kernel⟩,
   ⟨{ gathering (eng true false) ({ gather with rows := [(0, none)] }) with xl := { area.xl with tlb := [(159, [leaf])] }, flds := tput (gathering (eng true false) gather).flds (F.XL_CTXDIR_LO_EN 15).key 1 },
      okState (fetchRow (engWho 15 (gpUnit 63) 4095) ({ gather with rows := [(0, none)] }) 0 ({ gathering (eng true false) ({ gather with rows := [(0, none)] }) with xl := { area.xl with tlb := [(159, [leaf])] }, flds := tput (gathering (eng true false) gather).flds (F.XL_CTXDIR_LO_EN 15).key 1 })),
      63, onTile 1 0x103F (eng true false), { gather with rows := [(0, none)] }, 15, 0, ⟨.lanes (List.replicate 32 (laneVal 0)), false, false, false,
      1, 0, 0⟩, by refine ⟨?_, ?_, ?_, ok_eq ?_⟩ <;> decide +kernel⟩,
   ⟨gathering (eng true false) ({ gather with rows := [(0, some (List.replicate 32 0))], occ := [(0, some 0)], arrived := [0] }), 63, onTile 1 0x103F
      (eng true false), { gather with rows := [(0, some (List.replicate 32 0))], occ := [(0, some 0)], arrived := [0] }, 15, 0, 0, some 0,
      List.replicate 32 0, by decide +kernel⟩,
   ⟨{ gathering (eng true false) ({ gather with cmd := { gather.cmd with mode := 2 }, rows := [(0, some (List.replicate 32 0))], occ := [(0, some 0)], arrived := [0] }) with xl := { area.xl with tlb := [(159, [leaf])] }, flds := tput (gathering (eng true false) gather).flds (F.XL_CTXDIR_LO_EN 15).key 1 },
      63, onTile 1 0x103F (eng true false), { gather with cmd := { gather.cmd with mode := 2 }, rows := [(0, some (List.replicate 32 0))], occ := [(0, some 0)], arrived := [0] },
      15, 0, 0, some 0, List.replicate 32 0, [0, 0, 0, 0], okState (readAt (engWho 15 (gpUnit 63) 4095) (gather.cmd.wgt + 4 * 0) 4 ({ gathering (eng true false) ({ gather with cmd := { gather.cmd with mode := 2 }, rows := [(0, some (List.replicate 32 0))], occ := [(0, some 0)], arrived := [0] }) with xl := { area.xl with tlb := [(159, [leaf])] }, flds := tput (gathering (eng true false) gather).flds (F.XL_CTXDIR_LO_EN 15).key 1 })),
      by refine ⟨?_, ?_, ?_, ?_, ?_, ?_, ok_eq ?_⟩ <;> decide +kernel⟩,
   ⟨gathering (eng true true) ({ gather with bags := [(0, fullBag .pooling)] }), 63, onTile 1 0x103F (eng true true), { gather with bags := [(0, fullBag .pooling)] },
      15, 0, by decide +kernel⟩,
   ⟨gathering (eng true false) ({ gather with gap := some 0, bags := [(0, { fullBag .pooling with emax := List.replicate 32 128 })] }), 63, onTile 1
      0x103F (eng true false), { gather with gap := some 0, bags := [(0, { fullBag .pooling with emax := List.replicate 32 128 })] }, 15, 0, by
      decide +kernel⟩,
   ⟨gathering (eng true false) ({ gather with bags := [(0, fullBag .pooling)] }), 63, onTile 1 0x103F (eng true false), { gather with bags := [(0, fullBag .pooling)] },
      15, 0, by decide +kernel⟩,
   ⟨gathering (eng true false) ({ gather with bags := [(0, fullBag .replay)] }), 63, onTile 1 0x103F (eng true false), { gather with bags := [(0, fullBag .replay)] },
      15, 0, fullBag .replay, by decide +kernel⟩,
   ⟨gathering (eng true false) ({ gather with bags := [(0, fullBag .ready)] }), 63, onTile 1 0x103F (eng true false), { gather with bags := [(0, fullBag .ready)] },
      15, fullBag .ready, by decide +kernel⟩,
   ⟨{ up with plan := { up.plan with owner := [(resKey kSH 30, 14), (resKey kSH 31, 15)] } }, .pf, 15, by decide +kernel⟩,
   ⟨up, .pf, 15, by decide +kernel⟩⟩

theorem witness_TableCommandsComplete :
    (∃ (s : State) (q : Requester) (c : CoveId) (slot : Idx64) (ctx : BitVec 12) (e : Fin 8), Manages s q ∧ s.en.bind = none ∧ coveExists s c.val = true ∧
      ownerOf s kTU e.val = some c.val ∧ tabOf s c.val slot.val = none) ∧
    (∃ (s s1 t : State) (b : Bind), s.en.bind = some b ∧ Works s (tuUnit b.eng) ∧ bindWork s b s = .ok (t, s1)) ∧
    (∃ (s : State) (q : Requester) (c : CoveId) (slot : Idx64) (x : TSlot), Manages s q ∧ s.en.bind = none ∧ tabOf s c.val slot.val = some x ∧ slotPinned
      s c.val slot.val x = false) ∧
    (∃ (s : State) (q : Requester) (c : CoveId) (slot : Idx64) (x : TSlot), Manages s q ∧ s.en.bind = none ∧ tabOf s c.val slot.val = some x ∧ slotPinned
      s c.val slot.val x = true) ∧
    (∃ (s : State) (n : Fin 8) (t : OnTile) (c : Nat), newTile s (tuUnit n.val) = some t ∧ unitOwner s (tuUnit n.val) = some c ∧ Works s (tuUnit n.val)) ∧
    (∃ (s : State) (n : Fin 8) (t : OnTile) (d : Delta) (c : Nat) (x : TSlot), liveTile s (tuUnit n.val) = some t ∧ deltaOf s n.val = some d ∧ unitOwner s
      (tuUnit n.val) = some c ∧ tabOf s c d.tslot = some x ∧ Works s (tuUnit n.val)) ∧
    (∃ (s : State) (q : Requester) (c : CoveId), Manages s q ∧ flipRefusal s c.val (fld64 s F.TU_FLIP_MASK_LO F.TU_FLIP_MASK_HI) = none) ∧
    (∃ (s : State) (q : Requester) (c : CoveId) (k : Nat), Manages s q ∧ flipRefusal s c.val (fld64 s F.TU_FLIP_MASK_LO F.TU_FLIP_MASK_HI) = some k) ∧
    (∃ (s : State) (c : CoveId) (f : Flip) (e : Nat), tfind s.en.flips c.val = some f ∧ flipEngine s c.val f.mask = some e ∧ f.armed = false ∧ flipPinned
      s c.val f.mask = false ∧ (maskSlots f.mask).any (deltaRuns s c.val) = false ∧ running s (unitDomain (tuUnit e)) = true) ∧
    (∃ (s s1 : State) (c : CoveId) (f : Flip) (r : SlateReport), running s 94 = true ∧ tfind s.en.flips c.val = some f ∧ takeReport s (fun a => a == .flip
      c.val) = some (r, s1)) ∧
    (∃ (s : State) (p : Fin 32), running s (32 + p.val) = true ∧ (tapOf s (128 + p.val)).resync = false ∧ ((∀ e ∈ s.xl.xfers, e.2.eng = true → e.2.src ≠
      gpUnit (2 * p.val) ∧ e.2.src ≠ gpUnit (2 * p.val + 1)))) ∧
    (∃ (s s1 : State) (n : Fin 8) (rest : List Limbo), Works s (tuUnit n.val) ∧ tgetD s.en.limbo n.val [] ≠ [] ∧ freeLimbo (tgetD s.en.limbo n.val []) s =
      .ok (rest, s1)) ∧
    (∃ (s : State) (c : CoveId) (slot : Idx64) (x : TSlot), tabOf s c.val slot.val = some x ∧ Works s (tuUnit x.eng) ∧ x.folding = none ∧ x.compacting =
      true) ∧
    (∃ (s : State) (c : CoveId) (slot : Idx64) (x : TSlot) (f : Fold) (s1 : State) (y : TSlot), tabOf s c.val slot.val = some x ∧ Works s (tuUnit x.eng) ∧
      x.folding = some f ∧ f.done = true ∧ limboFull s x.eng = false ∧ runWork s (clearFold c.val slot.val x f) = s1 ∧ tabOf s1 c.val slot.val = some
      y) :=
  ⟨⟨sched [] [] [] [], .pf, 15, 63, 4095, 7, by decide +kernel⟩,
   ⟨{ bound (eng true false) tslot with en := { (bound (eng true false) tslot).en with bind := some ⟨3, 15, 63, 4095, 7, 0⟩ } }, okState (bindWork ({ bound (eng true false) tslot with en := { (bound (eng true false) tslot).en with bind := some ⟨3, 15, 63, 4095, 7, 0⟩ } })
      ⟨3, 15, 63, 4095, 7, 0⟩ ({ bound (eng true false) tslot with en := { (bound (eng true false) tslot).en with bind := some ⟨3, 15, 63, 4095, 7, 0⟩ } })),
      (okVal (bindWork ({ bound (eng true false) tslot with en := { (bound (eng true false) tslot).en with bind := some ⟨3, 15, 63, 4095, 7, 0⟩ } })
      ⟨3, 15, 63, 4095, 7, 0⟩ ({ bound (eng true false) tslot with en := { (bound (eng true false) tslot).en with bind := some ⟨3, 15, 63, 4095, 7, 0⟩ } }))).getD
      up, ⟨3, 15, 63, 4095, 7, 0⟩, by refine ⟨?_, ?_, ok_eq ?_⟩ <;> decide +kernel⟩,
   ⟨bound (eng true false) tslot, .pf, 15, 63, tslot, by decide +kernel⟩,
   ⟨{ bound (eng true false) tslot with en := { (bound (eng true false) tslot).en with flips := [(15, flip false)] } }, .pf, 15, 63, tslot, by
      decide +kernel⟩,
   ⟨bound (eng false false) tslot, 7, onTile 3 0x4007 (eng false false), 15, by decide +kernel⟩,
   ⟨{ bound (eng true false) tslot with en := { (bound (eng true false) tslot).en with tu := [(0x4007, delta)] } }, 7, onTile 3 0x4007 (eng true false),
      delta, 15, tslot, by decide +kernel⟩,
   ⟨withFlds (bound (eng true false) tslot) [(F.TU_FLIP_MASK_HI, 2 ^ 31)], .pf, 15, by decide +kernel⟩,
   ⟨up, .pf, 15, 5, by decide +kernel⟩,
   ⟨{ bound (eng true false) tslot with en := { (bound (eng true false) tslot).en with flips := [(15, flip false)] } }, 15, flip false, 7, by
      decide +kernel⟩,
   ⟨{ { bound (eng true false) tslot with en := { (bound (eng true false) tslot).en with flips := [(15, flip true)] } } with tide := { up.tide with reports := [⟨15, .flip 15, .done, 0⟩] } },
      { bound (eng true false) tslot with en := { (bound (eng true false) tslot).en with flips := [(15, flip true)] } }, 15, flip true, ⟨15, .flip 15,
      .done, 0⟩, by decide +kernel⟩,
   ⟨up, 31, by decide +kernel⟩,
   ⟨{ bound (eng true false) tslot with en := { (bound (eng true false) tslot).en with limbo := [(7, [⟨15, 63, 0, 1⟩])] } }, okState (freeLimbo [⟨15, 63,
      0, 1⟩] ({ bound (eng true false) tslot with en := { (bound (eng true false) tslot).en with limbo := [(7, [⟨15, 63, 0, 1⟩])] } })), 7, [⟨15, 63,
      0, 1⟩], by refine ⟨?_, ?_, ok_eq ?_⟩ <;> decide +kernel⟩,
   ⟨bound (eng true false) { tslot with compacting := true }, 15, 63, { tslot with compacting := true }, by decide +kernel⟩,
   ⟨bound (eng true false) ({ tslot with folding := some ⟨0, 0, 0, true⟩, compacting := true }), 15, 63, { tslot with folding := some ⟨0, 0, 0, true⟩, compacting := true },
      ⟨0, 0, 0, true⟩, runWork (bound (eng true false) ({ tslot with folding := some ⟨0, 0, 0, true⟩, compacting := true })) (clearFold 15 63 ({ tslot with folding := some ⟨0, 0, 0, true⟩, compacting := true })
      ⟨0, 0, 0, true⟩), { tslot with compacting := true }, by and_intros <;> first | with_reducible rfl | decide +kernel⟩⟩

theorem witness_MoverCommandsComplete :
    (∃ (s : State) (n : Fin 16) (t : OnTile) (c : Nat), unitOwner s (rmUnit n.val) = some c ∧ Works s (rmUnit n.val) ∧ newTile s (rmUnit n.val) = some t) ∧
    (∃ (s : State) (n : Fin 16) (t : OnTile) (c : Nat) (m : Mover), unitOwner s (rmUnit n.val) = some c ∧ Works s (rmUnit n.val) ∧ liveTile s (rmUnit
      n.val) = some t ∧ tfind s.en.rm (rmUnit n.val) = some m) ∧
    (∃ (s : State) (n : Fin 8) (t : OnTile) (c : Nat), unitOwner s (tkUnit n.val) = some c ∧ Works s (tkUnit n.val) ∧ newTile s (tkUnit n.val) = some t) ∧
    (∃ (s : State) (n : Fin 8) (t : OnTile) (c : Nat) (r : Ranker), unitOwner s (tkUnit n.val) = some c ∧ Works s (tkUnit n.val) ∧ liveTile s (tkUnit
      n.val) = some t ∧ tfind s.en.tk (tkUnit n.val) = some r) ∧
    (∃ (s : State) (q : Requester) (c : CoveId), Reaches s q c.val ∧ fld64 s (F.SW_CV_MV_SRC_LO c.val) (F.SW_CV_MV_SRC_HI c.val) % 64 = 0 ∧ fld64 s
      (F.SW_CV_MV_SRC_LO c.val) (F.SW_CV_MV_SRC_HI c.val) < 2 ^ 48 ∧ fld64 s (F.SW_CV_MV_DST_LO c.val) (F.SW_CV_MV_DST_HI c.val) % 64 = 0 ∧ fld64 s
      (F.SW_CV_MV_DST_LO c.val) (F.SW_CV_MV_DST_HI c.val) < 2 ^ 48 ∧ fld s (F.SW_CV_MV_LEN c.val) % 64 = 0 ∧ 64 ≤ fld s (F.SW_CV_MV_LEN c.val) ∧ fld s
      (F.SW_CV_MV_LEN c.val) ≤ 2 ^ 30 ∧ tenantMoves s c.val < (if flag s (F.SW_CV_MV_ADVICE c.val) then 32 else 64)) ∧
    (∃ (s : State) (q : Requester) (c : CoveId), Reaches s q c.val ∧ fld64 s (F.SW_CV_MV_SRC_LO c.val) (F.SW_CV_MV_SRC_HI c.val) % 64 = 0 ∧ fld64 s
      (F.SW_CV_MV_SRC_LO c.val) (F.SW_CV_MV_SRC_HI c.val) < 2 ^ 48 ∧ fld64 s (F.SW_CV_MV_DST_LO c.val) (F.SW_CV_MV_DST_HI c.val) % 64 = 0 ∧ fld64 s
      (F.SW_CV_MV_DST_LO c.val) (F.SW_CV_MV_DST_HI c.val) < 2 ^ 48 ∧ fld s (F.SW_CV_MV_LEN c.val) % 64 = 0 ∧ 64 ≤ fld s (F.SW_CV_MV_LEN c.val) ∧ fld s
      (F.SW_CV_MV_LEN c.val) ≤ 2 ^ 30 ∧ 64 ≤ tenantMoves s c.val ∧ flag s (F.SW_CV_MV_ADVICE c.val) = false) ∧
    (∃ (s : State) (n : StackId) (m : Move), headMove s n.val = some m ∧ fillWaits s n.val = false ∧ rekeyWaits s n.val = false ∧ verifyWaits s n.val =
      false ∧ Works s (swUnit n.val)) ∧
    (∃ (s : State) (i : Nat) (m : Move) (r d : Nat), s.en.moves.find? (fun m => m.id == i) = some m ∧ running s (unitDomain (swUnit m.sweep)) = true ∧
      m.failed = some (r, d)) ∧
    (∃ (s : State) (i : Nat) (m : Move), s.en.moves.find? (fun m => m.id == i) = some m ∧ running s (unitDomain (swUnit m.sweep)) = true ∧ m.failed = none
      ∧ m.whole = true) :=
  ⟨⟨onUnit 2 0x300F (eng false false), 15, onTile 2 0x300F (eng false false), 15, by decide +kernel⟩,
   ⟨{ onUnit 2 0x300F (eng true false) with en := { area.en with rm := [(0x300F, ⟨0, 4095, 0, 0, 64, 64, 1, 64, 1, false, false, 0⟩)] } }, 15, onTile 2
      0x300F (eng true false), 15, ⟨0, 4095, 0, 0, 64, 64, 1, 64, 1, false, false, 0⟩, by decide +kernel⟩,
   ⟨onUnit 4 0x5007 (eng false false), 7, onTile 4 0x5007 (eng false false), 15, by decide +kernel⟩,
   ⟨{ onUnit 4 0x5007 (eng true false) with en := { area.en with tk := [(0x5007, ⟨0, 4095, 0, 0, 0, [], 1, 0, false, false, 64, 0⟩)] } }, 7, onTile 4
      0x5007 (eng true false), 15, ⟨0, 4095, 0, 0, 0, [], 1, 0, false, false, 64, 0⟩, by decide +kernel⟩,
   ⟨withFlds cove [(F.SW_CV_MV_LEN 15, 2 ^ 30)], .vf 15, 15, by decide +kernel⟩,
   ⟨withFlds (withMoves (List.replicate 64 move)) [(F.SW_CV_MV_LEN 15, 64)], .vf 15, 15, by decide +kernel⟩,
   ⟨withMoves [move], 31, move, by decide +kernel⟩,
   ⟨withMoves [{ move with failed := some (1, 1) }], 0, { move with failed := some (1, 1) }, 1, 1, by decide +kernel⟩,
   ⟨withMoves [{ move with done := 64 }], 0, { move with done := 64 }, by decide +kernel⟩⟩

theorem witness_PortCommandsComplete :
    (∃ (s : State) (p : Fin 128) (t : OnTile) (c : Nat), newTile s p.val = some t ∧ unitOwner s p.val = some c ∧ Works s p.val) ∧
    (∃ (s : State) (p : Fin 128) (o : OnTile) (t : EpTile) (c : Nat), PortRuns s p.val c o t ∧ t.tbReq = false ∧ t.fedAll = false ∧ o.eng.abort = true ∧
      t.fed % (64 * t.lanes) = 0) ∧
    (∃ (s : State) (p : Fin 128) (o : OnTile) (t : EpTile) (c : Nat), PortRuns s p.val c o t ∧ t.tbReq = false ∧ t.fedAll = false ∧ (o.eng.abort = false ∨
      t.fed % (64 * t.lanes) ≠ 0)) ∧
    (∃ (s : State) (p : Fin 128) (o : OnTile) (t : EpTile) (c : Nat) (lane : Bool) (row : BitVec 13) (data : List Byte), PortRuns s p.val c o t ∧ t.obytes
      ≠ 0 ∧ data.length = t.obytes ∧ ((lane = true → t.split = true)) ∧ row.toNat = t.ret lane ∧ row.toNat < t.fedOf lane) ∧
    (∃ (s : State) (p : Fin 128) (o : OnTile) (t : EpTile) (c : Nat), PortRuns s p.val c o t ∧ t.tbReq = true ∧ (t.obytes = 0 ∨ t.arrErr = true ∨ t.ret0 =
      t.fedOf false ∧ (t.split = false ∨ t.ret1 = t.fedOf true))) ∧
    (∃ (s : State) (p : Fin 128) (o : OnTile) (t : EpTile) (c : Nat), PortRuns s p.val c o t ∧ t.arrErr = false) ∧
    (∃ (s : State) (p : Fin 128) (now : Nat) (d : Delivery), running s (unitDomain p.val) = true ∧ s.en.deliver.find? (fun d => d.port s == some p.val) =
      some d ∧ portOut s p.val = false ∧ unitOwner s p.val = (stepOf s d.step).map (·.cove) ∧ ((occupant s p.val = some d.step ∨ occupant s p.val =
      none ∧ fenceOn s (unitKey p.val) = false))) ∧
    (∃ (s : State) (p : Fin 128) (data : Line) (i : Nat) (x : Step) (m : SpillMove) (t : State), Works s p.val ∧ spWork s p.val = some (i, x, m) ∧ engOf s
      p.val = none ∧ workStopped s x.cove = false ∧ spLine s p.val i x m data = some t) ∧
    (∃ (s : State) (p : Fin 128) (data : Line) (i : Nat) (x : Step) (m : SpillMove), Works s p.val ∧ spWork s p.val = some (i, x, m) ∧ engOf s p.val =
      none ∧ workStopped s x.cove = false ∧ spLine s p.val i x m data = none) ∧
    (∃ (s : State) (p : Fin 128), running s (unitDomain p.val) = true ∧ tgetD s.en.clearing p.val 0 = 3) ∧
    (∃ (s : State) (p : Fin 128), running s (unitDomain p.val) = true ∧ tgetD s.en.clearing p.val 0 = 1) :=
  ⟨⟨onUnit 0 127 (eng false false), 127, onTile 0 127 (eng false false), 15, by decide +kernel⟩,
   ⟨porting true ({ epTile with fed := 64 }), 127, onTile 0 127 (eng true true), { epTile with fed := 64 }, 15, by decide +kernel⟩,
   ⟨porting false ({ epTile with fed := 8191 }), 127, onTile 0 127 (eng true false), { epTile with fed := 8191 }, 15, by decide +kernel⟩,
   ⟨porting false ({ epTile with fed := 8192, ret0 := 8191 }), 127, onTile 0 127 (eng true false), { epTile with fed := 8192, ret0 := 8191 }, 15, false,
      8191, [0], by decide +kernel⟩,
   ⟨porting false ({ epTile with fed := 8192, tbReq := true, obytes := 0 }), 127, onTile 0 127 (eng true false), { epTile with fed := 8192, tbReq := true, obytes := 0 },
      15, by decide +kernel⟩,
   ⟨porting false (epTile), 127, onTile 0 127 (eng true false), epTile, 15, by decide +kernel⟩,
   ⟨{ sched [] [] [(0, { aStep with map := [(127, 127)] })] [] with en := { area.en with deliver := [⟨0x103F, 0, 127, 0, []⟩] }, sq := { (sched [] [] [(0, { aStep with map := [(127, 127)] })] []).sq with ports := [(127, (0, 0))] } },
      127, 0, ⟨0x103F, 0, 127, 0, []⟩, by decide +kernel⟩,
   ⟨sched [] [aRun] [(0, { aStep with ph := .saving false, moves := [⟨127, ⟨0, true, 127, 64⟩, 0, 0⟩] })] [], 127, 0, 0, { aStep with ph := .saving false, moves := [⟨127, ⟨0, true, 127, 64⟩, 0, 0⟩] },
      ⟨127, ⟨0, true, 127, 64⟩, 0, 0⟩, got (spLine (sched [] [aRun] [(0, { aStep with ph := .saving false, moves := [⟨127, ⟨0, true, 127, 64⟩, 0, 0⟩] })]
      []) (127 : Fin 128).val 0 ({ aStep with ph := .saving false, moves := [⟨127, ⟨0, true, 127, 64⟩, 0, 0⟩] }) ⟨127, ⟨0, true, 127, 64⟩, 0, 0⟩ 0),
      by and_intros <;> first | exact got_eq (by decide +kernel) | decide +kernel⟩,
   ⟨broke 127 (sched [] [aRun] [(0, { aStep with ph := .saving false, moves := [⟨127, ⟨0, true, 127, 64⟩, 0, 0⟩] })] []), 127, 0, 0, { aStep with ph := .saving false, moves := [⟨127, ⟨0, true, 127, 64⟩, 0, 0⟩] },
      ⟨127, ⟨0, true, 127, 64⟩, 0, 0⟩, by decide +kernel⟩,
   ⟨clearing 3, 127, by decide +kernel⟩,
   ⟨clearing 1, 127, by decide +kernel⟩⟩

theorem witness_StepIdlesOnEmptyQueue :
    (∃ (s : State), s.pending = []) :=
  ⟨up, by exact rfl⟩

theorem witness_StepKeepsTablesCanonical :
    (∃ (s t : State), Memory.wf s.mem = true ∧ Regs.wf s = true ∧ step s = .next t) :=
  ⟨up, up, by exact ⟨by decide +kernel, by decide +kernel, rfl⟩⟩

theorem witness_FusesStayBlown :
    (∃ (t : Nat), t < 16 ∧ t.testBit 3 = true) ∧
    (∃ (t : Nat), t ∈ [2, 4, 5, 6]) ∧
    (∃ (s t : State), step s = .next t) :=
  ⟨⟨15, by decide +kernel⟩,
   ⟨6, by decide +kernel⟩,
   ⟨up, up, by exact rfl⟩⟩

theorem witness_CountersSaturate :
    (∃ (s : State) (k n : Nat) (j : Nat), Regs.wf s = true ∧ j ≠ k) :=
  ⟨{ up with ctrs := [(C.LB_POWERED, 2 ^ 64 - 1)] }, C.LB_POWERED, 1, C.LB_POWERED + 1, by decide +kernel⟩

theorem witness_MisshapenAccesses :
    (∃ (s : State) (off : BitVec 25) (size : Nat) (w : Bool) (q : Requester), hostClosed s = false ∧ ¬ (off.toNat % 4 = 0 ∧ size = 4) ∧ q ≠ .ibpin) ∧
    (∃ (s : State) (off : BitVec 25) (size : Nat) (w : Bool) (q : Requester) (x : WriteData), hostClosed s = false ∧ ¬ (off.toNat % 4 = 0 ∧ size = 4) ∧
      off.toNat % 4 ≠ 0 ∧ q ≠ .ibpin) ∧
    (∃ (s : State) (off : BitVec 25) (size : Nat) (w : Bool) (x : WriteData), hostClosed s = false ∧ ¬ (off.toNat % 4 = 0 ∧ size = 4) ∧ off.toNat % 4 ≠ 0) ∧
    (∃ (s : State) (off : BitVec 25) (size : Nat) (w : Bool) (v : Word), hostClosed s = false ∧ ¬ (off.toNat % 4 = 0 ∧ size = 4) ∧ off.toNat % 4 ≠ 0) :=
  ⟨⟨up, 0x1FFFFFC, 8, true, .vf 15, by decide +kernel⟩,
   ⟨up, 0x1FFFFFF, 4, false, .pf, ⟨0xFFFFFFFF, 0xFFFFFFFF⟩, by decide +kernel⟩,
   ⟨up, 0x1FFFFFE, 8, true, ⟨0xFFFFFFFF, 0xFFFFFFFF⟩, by decide +kernel⟩,
   ⟨up, 0x1FFFFFF, 4, false, 0xFFFFFFFF, by decide +kernel⟩⟩

theorem witness_AccessCodes :
    (∃ (s : State) (off v lo w rst : Nat) (q : Requester) (k : AccCode) (g : Fld), Regs.wf s = true ∧ fieldIgnores s off lo (bits v lo w) = false ∧ fld s
      (rowFld q off (lo, w, rst, k)) < 2 ^ w ∧ g.key ≠ (rowFld q off (lo, w, rst, k)).key) :=
  ⟨withFlds up [(⟨0xE0020, 0, 7, 0, .rw⟩, 127)], 0xE0020, 127, 0, 7, 0, .pf, .rw, ⟨0xE0020, 7, 1, 0, .rw⟩, by decide +kernel⟩

theorem witness_DroppedAccesses :
    (∃ (s : State) (link : Bool) (q : Req) (point tgt gran addr : Nat), Regs.wf s = true ∧ ((16 < q.tag ∧ point = 1 ∧ tgt = targetUnit s q.fpa ∧ gran = 0
      ∧ addr = 0 ∨ q.tag ≤ 16 ∧ decodeFpa s q.fpa = .data gran ∧ (granOf s gran).owner ≠ 31 ∧ flag s (F.SC_STATUS_TRAINED (placeByte (dataPer s) gran
      (granOf s gran).mode (q.fpa % 2 ^ 28)).1) = true ∧ granAdmits (granOf s gran) q.tag q.acc = false ∧ point = 3 ∧ tgt = 0xB000 + (placeByte
      (dataPer s) gran (granOf s gran).mode (q.fpa % 2 ^ 28)).1 ∧ addr = q.fpa ∨ q.tag < 16 ∧ (∃ b o, decodeFpa s q.fpa = .tidepool b o ∧ ownerOf s
      kBank b ≠ some q.tag ∧ tgt = 0xA000 + b) ∧ point = 2 ∧ gran = 0 ∧ addr = q.fpa))) :=
  ⟨up, true, ⟨17, 0, 0, .read, none, .demand⟩, 1, targetUnit up 0, 0, 0, by exact ⟨by decide +kernel, Or.inl (by decide +kernel)⟩⟩

theorem witness_PlacementIsInjective :
    (∃ (d g₁ m₁ o₁ g₂ m₂ o₂ : Nat), 0 < d ∧ g₁ < 32 * d ∧ g₂ < 32 * d ∧ o₁ < 2 ^ 28 ∧ o₂ < 2 ^ 28 ∧ m₁ ≤ 2 ∧ m₂ ≤ 2 ∧ ((g₁ % d = g₂ % d → (m₁ = 0 ↔ m₂ =
      0) ∧ (g₁ / d / 8 = g₂ / d / 8 → m₁ = m₂))) ∧ placeByte d g₁ m₁ o₁ = placeByte d g₂ m₂ o₂) :=
  ⟨85, 2719, 2, 2 ^ 28 - 1, 2719, 2, 2 ^ 28 - 1, by decide +kernel⟩

theorem witness_WordCodeCorrects :
    (∃ (d : Dword) (i : Nat), i < 79) ∧
    (∃ (d : Dword) (i j : Nat), i < j ∧ j < 79) :=
  ⟨⟨0, 78, by decide +kernel⟩,
   ⟨0, 77, 78, by decide +kernel⟩⟩

theorem witness_AtomicMeaning :
    (∃ (l : Line) (op : AtomOp) (wide : Bool) (i : Fin 16) (x y : Dword) (j : Fin 16), (if wide then j.val / 2 ≠ i.val / 2 else j ≠ i)) :=
  ⟨0, .add, true, 15, 1, 0, 13, by decide +kernel⟩

theorem witness_TidepoolWrittenBits :
    (∃ (s : State) (b o : Nat) (q : Req), Memory.wf s.mem = true ∧ (q.tag = 16 ∨ ownerOf s kBank b = some q.tag) ∧ ((q.tag < 16 → fenceOn s (resKey kBank
      b) = false)) ∧ tpWrittenBit s b (o / 64) = false ∧ q.acc = .read) ∧
    (∃ (s : State) (b o : Nat) (q : Req), Memory.wf s.mem = true ∧ (q.tag = 16 ∨ ownerOf s kBank b = some q.tag) ∧ ((q.tag < 16 → fenceOn s (resKey kBank
      b) = false)) ∧ tpWrittenBit s b (o / 64) = false ∧ q.acc ≠ .read) :=
  ⟨⟨up, 511, 2 ^ 18 - 64, ⟨16, 0, 0, .read, none, .demand⟩, by decide +kernel⟩,
   ⟨{ up with plan := { up.plan with owner := [(resKey kBank 511, 15)] } }, 511, 2 ^ 18 - 64, ⟨15, 0, 0, .write 1 0, none, .demand⟩, by decide +kernel⟩⟩

theorem witness_WrackQueueWrites :
    (∃ (s : State) (c : Nat) (r : WrackRec), coveExists s c = true ∧ Regs.wf s = true ∧ wrackFull s c = true) ∧
    (∃ (s : State) (c : Nat) (r : WrackRec), coveExists s c = true ∧ Regs.wf s = true ∧ wrackFull s c = false ∧ s.env.hostWriteFails = true) ∧
    (∃ (s : State) (c : Nat) (r : WrackRec), coveExists s c = true ∧ Regs.wf s = true ∧ wrackFull s c = false ∧ s.env.hostWriteFails = false) ∧
    (∃ (s : State) (c : Nat) (r : WrackRec), coveExists s c = true ∧ Regs.wf s = true ∧ flag s (F.XL_WQ_BASE_LO_EN c) = false) ∧
    (∃ (s : State) (c : Nat) (r : WrackRec), coveExists s c = true ∧ Regs.wf s = true ∧ flag s (F.XL_WQ_BASE_LO_EN c) = true) ∧
    (∃ (s u : State) (id reason level : Nat) (x : Xfer) (q : Requester) (c : CoveId) (ctx : BitVec 12), tfind s.xl.xfers id = some x ∧ writeWrack (incCtr
      (setXfer s id { x with stage := .held reason level }) (C.XL_CV_FAULT x.tag)) x.tag (faultRec x reason level) = (false, u) ∧ x.tag = c.val ∧
      x.ctx = ctx.toNat ∧ Manages u q ∧ coveExists u c.val = true) :=
  ⟨⟨withFlds cove [(F.XL_WQ_BASE_LO_EN 15, 1), (F.XL_WQ_PROD_PROD 15, 256)], 15, ⟨4095, true, true, 0, 1, 1, 0, 0, 0, 7, 0⟩, by decide +kernel⟩,
   ⟨{ (withFlds cove [(F.XL_WQ_BASE_LO_EN 15, 1), (F.XL_WQ_PROD_PROD 15, 255)]) with env := { up.env with hostWriteFails := true } }, 15, ⟨4095, true,
      true, 0, 1, 1, 0, 0, 0, 7, 0⟩, by decide +kernel⟩,
   ⟨withFlds cove [(F.XL_WQ_BASE_LO_EN 15, 1), (F.XL_WQ_PROD_PROD 15, 255)], 15, ⟨4095, true, true, 0, 1, 1, 0, 0, 0, 7, 0⟩, by decide +kernel⟩,
   ⟨cove, 15, ⟨4095, true, true, 0, 1, 1, 0, 0, 0, 7, 0⟩, by decide +kernel⟩,
   ⟨withFlds cove [(F.XL_WQ_BASE_LO_EN 15, 1), (F.XL_WQ_PROD_PROD 15, 256)], 15, ⟨4095, true, true, 0, 1, 1, 0, 0, 0, 7, 0⟩, by decide +kernel⟩,
   ⟨{ cove with xl := { cove.xl with xfers := [(0, { xfer 0 .read .missing with tag := 15, ctx := 4095 })] } }, (writeWrack (incCtr (setXfer ({ cove with xl := { cove.xl with xfers := [(0, { xfer 0 .read .missing with tag := 15, ctx := 4095 })] } })
      0 { { xfer 0 .read .missing with tag := 15, ctx := 4095 } with stage := .held 1 3 }) (C.XL_CV_FAULT 15)) 15 (faultRec { xfer 0 .read .missing with tag := 15, ctx := 4095 }
      1 3)).2, 0, 1, 3, { xfer 0 .read .missing with tag := 15, ctx := 4095 }, .pf, 15, 4095, by decide +kernel⟩⟩

theorem witness_StaleReferencesRefused :
    (∃ (h i : Nat), h < 2 ^ 24 ∧ i < 256) ∧
    (∃ (s s1 : State) (q : Requester) (c : CoveId) (e : ObjEnt), Reaches s q c.val ∧ areaReady s c.val = true ∧ modEnt s c.val (obArg s q c.val 0 % 2 ^
      24) (fun _ => none) = (some e, s1) ∧ e.inc ≠ obArg s q c.val 0 / 2 ^ 24) ∧
    (∃ (s s1 : State) (q : Requester) (c : CoveId) (e : ObjEnt), Reaches s q c.val ∧ areaReady s c.val = true ∧ getEnt s c.val (obArg s q c.val 0 % 2 ^
      24) = (some e, s1) ∧ e.inc ≠ obArg s q c.val 0 / 2 ^ 24) ∧
    (∃ (s s1 : State) (q : Requester) (c : CoveId) (e : ObjEnt), Reaches s q c.val ∧ areaReady s c.val = true ∧ getEnt s c.val (obArg s q c.val 1 % 2 ^
      24) = (some e, s1) ∧ e.inc ≠ obArg s q c.val 1 / 2 ^ 24) ∧
    (∃ (s s1 : State) (q : Requester) (c : CoveId) (e : ObjEnt) (ctx : BitVec 12) (h : Word) (ofs : BitVec 48), Reaches s q c.val ∧ areaReady s c.val =
      true ∧ running s 94 = true ∧ coveSt s c.val ≠ 4 ∧ tgetD s.ob.lookups c.val [] = [] ∧ getEnt s c.val (h.toNat % 2 ^ 24) = (some e, s1) ∧ e.inc ≠
      h.toNat / 2 ^ 24) ∧
    (∃ (s s1 : State) (q : Requester) (c : CoveId) (e : ObjEnt) (ctx r : Nat) (rs : List Nat), Reaches s q c.val ∧ areaReady s c.val = true ∧ getEnt s
      c.val (r % 2 ^ 24) = (some e, s1) ∧ e.inc ≠ r / 2 ^ 24) :=
  ⟨⟨2 ^ 24 - 1, 255, by decide +kernel⟩,
   ⟨(withArgs (withEnt (entity 1 255)) [1023, 1023]), (modEnt (withArgs (withEnt (entity 1 255)) [1023, 1023]) 15 1023 (fun _ => none)).2, .vf 15, 15,
      entity 1 255, by decide +kernel⟩,
   ⟨(withArgs (withEnt (entity 1 255)) [1023, 1023]), (getEnt (withArgs (withEnt (entity 1 255)) [1023, 1023]) 15 1023).2, .vf 15, 15, entity 1 255, by
      decide +kernel⟩,
   ⟨(withArgs (withEnt (entity 1 255)) [1023, 1023]), (getEnt (withArgs (withEnt (entity 1 255)) [1023, 1023]) 15 1023).2, .vf 15, 15, entity 1 255, by
      decide +kernel⟩,
   ⟨withEnt (entity 1 255), (getEnt (withEnt (entity 1 255)) 15 1023).2, .pf, 15, entity 1 255, 4095, 1023, 0xFFFFFFFFFFFF, by decide +kernel⟩,
   ⟨withEnt (entity 1 255), (getEnt (withEnt (entity 1 255)) 15 1023).2, .pf, 15, entity 1 255, 4095, 1023, [], by decide +kernel⟩⟩

theorem witness_VirtualTime :
    (∃ (s : State) (c q ctx ns : Nat), (queueOf s c q).ph ≠ .free ∧ 1 ≤ (queueOf s c q).share) ∧
    (∃ (s : State) (c q : Nat) (f : State → State), hasWork s c q = false ∧ hasWork (f s) c q = true ∧ (queueOf (f s) c q).ph ≠ .free ∧ (∃ j, j < 64 ∧ j ≠
      q ∧ hasWork (f s) c j = true)) :=
  ⟨⟨withQueue { queue [] with share := 1023 }, 15, 63, 4095, 2 ^ 64, by decide +kernel⟩,
   ⟨sched [] [] [(0, { aStep with queue := 62, tiles := [(tile 0, .running)] })] [], 15, 63, fun _ => sched [] [] [(0, { aStep with queue := 62, tiles := [(tile 0, .running)] }),
      (1, { aStep with tiles := [(tile 0, .running)] })] [], by exact ⟨by decide +kernel, by decide +kernel, by decide +kernel, 62, by
      decide +kernel⟩⟩⟩

theorem witness_RaisesMerge :
    (∃ (s : State) (i : Nat), raisable s i = true ∧ (srcOf s i).pending = true) ∧
    (∃ (s : State) (i : Nat), raisable s i = true ∧ (srcOf s i).pending = false ∧ ((srcOf s i).active = true ∨ (srcOf s i).en = false)) :=
  ⟨⟨withSrc 591 ⟨true, false, false, none, 0, 0, true, 0⟩, 591, by decide +kernel⟩,
   ⟨withSrc 591 ⟨false, false, true, none, 63, 0, true, 63⟩, 591, by decide +kernel⟩⟩

theorem witness_ClaimTakesTheBestSource :
    (∃ (s : State) (t : Nat), s.bc.srcs.sorted = true ∧ (∀ i, ¬ ((srcOf s i).pending = true ∧ (srcOf s i).held = false ∧ (srcOf s i).route = some t))) ∧
    (∃ (s : State) (t : Nat) (j : Nat), s.bc.srcs.sorted = true ∧ (srcOf s j).pending = true ∧ (srcOf s j).held = false ∧ (srcOf s j).route = some t) :=
  ⟨⟨up, 63, by exact ⟨by decide, fun i h => absurd h.1 (by show ¬ (false = true); decide)⟩⟩,
   ⟨withSrc 591 ⟨true, false, false, some 63, 0, 15, true, 63⟩, 63, 591, by decide +kernel⟩⟩

theorem witness_VirtualFunctionsLeaveTheDriversRegisters :
    (∃ (s : State) (c : CoveId) (v : Word) (ctx : BitVec 12) (off : BitVec 25) (x : WriteData), hostClosed s = false ∧ off.toNat % 4 = 0 ∧ winBase c.val +
      0x3004 ≤ off.toNat ∧ off.toNat ≤ winBase c.val + 0x3040) :=
  ⟨cove, 15, 0xFFFFFFFF, 4095, 0x1F03004, ⟨0xFFFFFFFF, 0xFFFFFFFF⟩, by decide +kernel⟩

theorem witness_VirtualFunctionsStayInTheirWindow :
    (∃ (s : State) (n : CoveId) (i : Instr), hostClosed s = false ∧ fabricCmd i = some (.vf n)) ∧
    (∃ (s : State) (n : CoveId) (off : BitVec 25) (x : WriteData), hostClosed s = false ∧ inWin off.toNat = false) ∧
    (∃ (s : State) (n : CoveId) (off : BitVec 25), hostClosed s = false ∧ inWin off.toNat = false ∧ isCtrLo off.toNat = true) ∧
    (∃ (s : State) (n : CoveId) (off : BitVec 25) (x : WriteData), hostClosed s = false ∧ inWin off.toNat = true ∧ off.toNat % 4 = 0 ∧ offCove off.toNat ≠
      n) ∧
    (∃ (s : State) (n : CoveId) (off : BitVec 25), hostClosed s = false ∧ inWin off.toNat = true ∧ off.toNat % 4 = 0 ∧ offCove off.toNat ≠ n ∧ isCtrLo
      off.toNat = true) ∧
    (∃ (s : State) (n : CoveId) (c d : CoveId) (w : Bool) (off : Nat) (f : Fld), hostClosed s = false ∧ d ≠ n ∧ f.off / 0x100000 = 16 + d.val ∧ f.lo < 32) :=
  ⟨⟨cove, 15, .lcNext (.vf 15) 1, by decide +kernel⟩,
   ⟨cove, 15, 0xE0020, ⟨0xFFFFFFFF, 0xFFFFFFFF⟩, by decide +kernel⟩,
   ⟨cove, 15, 0x100, by decide +kernel⟩,
   ⟨cove, 15, 0x1E03004, ⟨0xFFFFFFFF, 0xFFFFFFFF⟩, by decide +kernel⟩,
   ⟨cove, 15, 0x1E05018, by decide +kernel⟩,
   ⟨cove, 15, 0, 14, true, 0x1E03004, F.XL_WQ_STATUS_WERR 14, by decide +kernel⟩⟩

theorem witness_LifecycleRequests :
    (∃ (s : State) (q : Requester) (v : Word) (k : Nat), Manages s q ∧ nextRefusal s (v.toNat % 8) = some k) ∧
    (∃ (s : State) (q : Requester) (v : Word), Manages s q ∧ nextRefusal s (v.toNat % 8) = none) ∧
    (∃ (s : State) (q : Requester) (v : Word), Manages s q ∧ v.toNat % 8 = 4 ∧ fld s F.LC_STATE_STATE ≠ 4 ∧ flag s F.LC_STATE_BADFUSE = false) ∧
    (∃ (s : State) (q : Requester) (v : Word), Manages s q ∧ v.toNat % 8 ≠ 4 ∧ flag s F.LC_STATUS_PENDING = false ∧ ¬ (v.toNat % 8 = fld s
      F.LC_STATE_STATE + 1 ∧ fld s F.LC_STATE_STATE < 3)) ∧
    (∃ (s : State) (q : Requester) (v : Word), Manages s q ∧ v.toNat % 8 ≠ 4 ∧ flag s F.LC_STATUS_PENDING = true) :=
  ⟨⟨up, .pf, 7, 1, by decide +kernel⟩,
   ⟨up, .pf, 1, by decide +kernel⟩,
   ⟨withFlds up [(F.LC_STATE_STATE, 3), (F.LC_STATUS_PENDING, 1)], .pf, 4, by decide +kernel⟩,
   ⟨withFlds up [(F.LC_STATE_STATE, 2)], .pf, 2, by decide +kernel⟩,
   ⟨withFlds up [(F.LC_STATUS_PENDING, 1)], .pf, 1, by decide +kernel⟩⟩

theorem witness_ProbeTakesTheNewestPublished :
    (∃ (l : List OvlEnt) (r g : Nat) (e : OvlEnt), probeEnts l r g = some e) :=
  ⟨[⟨0, true, 1, 0⟩, ⟨0, true, 2, 1⟩], 0, 2, ⟨0, true, 2, 1⟩, by decide +kernel⟩

theorem witness_RankingIsBestFirst :
    (∃ (desc : Bool) (k : Nat) (l : List Word) (e : Word × Nat) (i : Nat) (w : Word), e ∈ topScores desc k l ∧ l[i]? = some w ∧ (w, i) ∉ topScores desc k
      l) :=
  ⟨true, 1, [0, 0x3F800000], (0x3F800000, 1), 0, 0, by decide +kernel⟩

theorem witness_CreditIsTakenAtIssue :
    (∃ (s : State) (r : Nat), (regulOf s r).unlimited = false ∧ (regulOf s r).credit = 0) ∧
    (∃ (s : State) (r : Nat), (regulOf s r).unlimited = false ∧ 0 < (regulOf s r).credit ∧ s.bw.sorted = true) ∧
    (∃ (s : State) (r : Nat), (regulOf s r).unlimited = true ∧ s.bw.sorted = true) :=
  ⟨⟨{ up with bw := [(255, ⟨⟨0, false, false, 0, 1, 1⟩, 1, 0, false, 0, 0, 0, false, false, 0, false, none⟩)] }, 255, by decide +kernel⟩,
   ⟨{ up with bw := [(255, ⟨⟨0, false, false, 0, 1, 1⟩, 1, 1, false, 0, 0, 0, false, false, 0, false, none⟩)] }, 255, by decide +kernel⟩,
   ⟨up, 255, by decide +kernel⟩⟩

theorem witness_CommandFrames :
    (∃ (c : Instr) (s t : State), exec c s = .next t) :=
  ⟨.jtagTapReset, up, up, by exact rfl⟩

theorem witness_ReadsGiveWhatWasWritten :
    (∃ (s t : State) (link : Bool) (q : Req) (l : Line) (g n sda : Nat), decodeFpa s q.fpa = .data g ∧ placeByte (dataPer s) g (granOf s g).mode (q.fpa %
      2 ^ 28) = (n, sda) ∧ injects s n q.fpa = false ∧ s.mem.kr.sorted = true ∧ fillOf s g = none ∧ writeKid s g < 64 ∧ ((writeKid s g ≠ 0 → (kidOf s
      (writeKid s g)).st ≠ .free)) ∧ (∀ x ∈ tgetD s.mem.mdc (mdcKey n (metaLine s sda)) [], x.line ≠ sda / 64) ∧ memAccess s link { q with acc := .write (BitVec.allOnes 64) l }
      = (some .done, t)) :=
  ⟨area, (memAccess area false ⟨15, 0x103F, 2 ^ 28 - 64, .write (BitVec.allOnes 64) 1, some (4095, some 0), .demand⟩).2, false, ⟨15, 0x103F, 2 ^ 28 -
      64, .read, some (4095, some 0), .demand⟩, 1, 0, 0, 2 ^ 28 - 64, by decide +kernel⟩

theorem witness_AccessesLeaveOtherLines :
    (∃ (s t : State) (link : Bool) (q : Req) (r : Option Resp) (m line : Nat) (g n sda : Nat), memAccess s link q = (r, t) ∧ decodeFpa s q.fpa = .data g ∧
      placeByte (dataPer s) g (granOf s g).mode (q.fpa % 2 ^ 28) = (n, sda) ∧ lineKey m line ≠ lineKey n (sda / 64) ∧ lineKey m line ≠ lineKey n
      (metaLine s sda) ∧ ((∀ e ∈ s.mem.mdc, ∀ x ∈ e.2, lineKey n x.line ≠ lineKey m line ∧ (tgetD s.env.linkFails n false = true → ∀ w : Nat, w < 8 →
      lineKey n (8 * (x.line - dataPer s * 2 ^ 22) + w) ≠ lineKey m line)))) ∧
    (∃ (s t : State) (link : Bool) (q : Req) (r : Option Resp) (m line : Nat), memAccess s link q = (r, t) ∧ (∀ g : Nat, decodeFpa s q.fpa ≠ .data g)) :=
  ⟨⟨area, (memAccess area false ⟨15, 0x103F, 2 ^ 28 - 64, .write (BitVec.allOnes 64) 1, some (4095, some 0), .demand⟩).2, false, ⟨15, 0x103F, 2 ^ 28 -
      64, .write (BitVec.allOnes 64) 1, some (4095, some 0), .demand⟩, some .done, 31, 0, 0, 0, 2 ^ 28 - 64, by decide +kernel⟩,
   ⟨up, (memAccess up true ⟨16, 0, tpBase, .read, none, .demand⟩).2, true, ⟨16, 0, tpBase, .read, none, .demand⟩, some (.data 0), 31, 0, by exact ⟨by
      decide +kernel, fun g h => nomatch ((show decodeFpa up tpBase = .tidepool 0 0 by decide +kernel).symm.trans h)⟩⟩⟩


/-! ### The other two reasons of DroppedAccesses -/

theorem witness_DroppedAccesses_granule : ∃ (s : State) (q : Req) (gran tgt addr point : Nat), Regs.wf s = true ∧ q.tag ≤ 16 ∧
    decodeFpa s q.fpa = .data gran ∧ (granOf s gran).owner ≠ 31 ∧
    flag s (F.SC_STATUS_TRAINED (placeByte (dataPer s) gran (granOf s gran).mode (q.fpa % 2 ^ 28)).1) = true ∧
    granAdmits (granOf s gran) q.tag q.acc = false ∧ point = 3 ∧
    tgt = 0xB000 + (placeByte (dataPer s) gran (granOf s gran).mode (q.fpa % 2 ^ 28)).1 ∧ addr = q.fpa ∧ flag s F.FAB_BRK_STATUS_DROP = true :=
  ⟨withFlds area [(F.FAB_BRK_STATUS_DROP, 1)], ⟨3, 0x9000, 2 ^ 28 - 64, .read, none, .demand⟩, 0, 0xB000, 2 ^ 28 - 64, 3, by decide +kernel⟩

theorem witness_DroppedAccesses_bank : ∃ (s : State) (q : Req) (point tgt gran addr : Nat), Regs.wf s = true ∧ q.tag < 16 ∧
    (∃ b o, decodeFpa s q.fpa = .tidepool b o ∧ ownerOf s kBank b ≠ some q.tag ∧ tgt = 0xA000 + b) ∧ point = 2 ∧ gran = 0 ∧ addr = q.fpa ∧
    flag s F.FAB_BRK_STATUS_DROP = false :=
  ⟨up, ⟨15, 0x9000, tpBase, .read, none, .demand⟩, 2, 0xA000, 0, tpBase, by decide +kernel, by decide +kernel, ⟨0, 0, by decide +kernel⟩, by decide +kernel⟩

end Sys2Proof.Tests
end

section
/-!
Register accesses: counters, misshapen accesses, access codes, and the answers of the ports while they are open (R7–R13, R378–R381).
-/
namespace Sys2Proof.Machine

/-! ### A counter after an addition (R13) -/

theorem ctr_addCtr_ne (s : State) (n : Nat) {k j : Nat} (h : j ≠ k) : ctr (addCtr s k n) j = ctr s j :=
  tgetD_tsetD_ne _ _ _ _ h

theorem ctr_addCtr_self {s : State} (h : Regs.wf s = true) (k n : Nat) :
    ctr (addCtr s k n) k = min (ctr s k + n) maxCtr := by
  have hs : s.ctrs.sorted = true := ((Tbl.wf_iff _ _).1 ((Regs.wf_iff s).1 h).2.1).1
  have hlt : min (ctr s k + n) maxCtr < 2 ^ 64 := by unfold maxCtr; omega
  calc ctr (addCtr s k n) k = min (ctr s k + n) maxCtr % 2 ^ 64 := tgetD_tsetD_self hs _ _ _
    _ = min (ctr s k + n) maxCtr := Nat.mod_eq_of_lt hlt

/-- An operation that changes no part outside a mask changes none outside the parts of the mask. -/
theorem Ext.onlyChanges {m : Nat} {s t : State} (h : Ext m s t) {ps : List Part}
    (hm : ∀ p : Part, p ∉ ps → m.testBit p.bit = false) : OnlyChanges ps s t :=
  fun p hp => h.same p (hm p hp)

/-- Settles O39: an addition is cut at all ones before it is stored, and a table update leaves the other keys. -/
theorem countersSaturate : Obligations.CountersSaturate := by
  intro s k n h
  refine ⟨ctr_addCtr_self h k n, fun j hj => ctr_addCtr_ne s n hj, (addCtr_ext s k n).onlyChanges ?_⟩
  intro p hp
  cases p <;> simp_all [Part.bit, Nat.testBit]

/-! ### The ports when open -/

theorem hostClosed_eq_false {s : State} : hostClosed s = false ↔ resetting s = false ∧ slackOn s = false := by
  simp [hostClosed]

theorem misshapen_ibpin {s : State} (h : hostClosed s = false) :
    misshapen s .ibpin = emit (setFlag s F.FAB_IB_STATUS_ERROR true) (.ibResult 1 none) := by
  simp [misshapen, h]

theorem misshapen_host {s : State} {q : Requester} (h : hostClosed s = false) (hq : q ≠ .ibpin) :
    misshapen s q = emit s (.unsupported q) := by
  cases q with
  | ibpin => exact absurd rfl hq
  | pf => simp [misshapen, h]
  | vf c => simp [misshapen, h]

theorem regWrite_misaligned (s : State) (q : Requester) {off : BitVec 25} (x : WriteData) (h : off.toNat % 4 ≠ 0) :
    exec (.regWrite q off x) s = .next (misshapen s q) :=
  if_pos (by simpa using h)

theorem counterLoRead_misaligned (s : State) (q : Requester) {off : BitVec 25} (h : off.toNat % 4 ≠ 0) :
    exec (.counterLoRead q off) s = .next (misshapen s q) :=
  congrArg Host.Outcome.next (if_pos (by simpa using h))

theorem regAccessBadSize_misshapen (s : State) (q : Requester) {off : BitVec 25} {size : Nat} (w : Bool)
    (h : ¬ (off.toNat % 4 = 0 ∧ size = 4)) : exec (.regAccessBadSize q off size w) s = .next (misshapen s q) :=
  congrArg Host.Outcome.next (if_neg (by simpa using h))

/-- An Ibpin frame at a misaligned address reaches no register (R380). -/
theorem ibRefused_misaligned {s : State} {a : Nat} (read : Bool) (h : hostClosed s = false) (ha : a % 4 ≠ 0) :
    ibRefused s a read = some (emit (setFlag s F.FAB_IB_STATUS_ERROR true) (.ibResult 1 none)) := by
  obtain ⟨hr, hk⟩ := hostClosed_eq_false.1 h
  simp [ibRefused, hr, hk, ha, ibEnd]

/-- An Ibpin frame at an aligned address of the 32 MiB space reaches its register while the ports are open (R380). -/
theorem ibRefused_aligned {s : State} {a : Nat} (read : Bool) (h : hostClosed s = false) (ha : a % 4 = 0)
    (hlt : a < 0x2000000) : ibRefused s a read = none := by
  obtain ⟨hr, hk⟩ := hostClosed_eq_false.1 h
  simp [ibRefused, hr, hk, ha, hlt]

theorem execIbpinRead_refused {s t : State} {a : Word} (h : ibRefused s a.toNat true = some t) :
    exec (.ibpinRead a) s = .next t := by
  show execIbpinRead a s = _
  simp only [execIbpinRead, h]

theorem execIbpinWrite_refused {s t : State} {a : Word} (v : Word) (h : ibRefused s a.toNat false = some t) :
    exec (.ibpinWrite a v) s = .next t := by
  show execIbpinWrite a v s = _
  simp only [execIbpinWrite, h]

/-- Settles O40: each command that can be misshapen answers `misshapen`, or the refusal of an Ibpin frame. -/
theorem misshapenAccesses : Obligations.MisshapenAccesses := by
  intro s off size w hs hoff
  refine ⟨fun q hq => ?_, ?_, fun ha => ⟨fun q x hq => ⟨?_, ?_⟩, fun x => ⟨?_, ?_⟩⟩, fun ha v => ?_⟩
  · rw [regAccessBadSize_misshapen s q w hoff, misshapen_host hs hq]
  · rw [regAccessBadSize_misshapen s .ibpin w hoff, misshapen_ibpin hs]
  · rw [regWrite_misaligned s q x ha, misshapen_host hs hq]
  · rw [counterLoRead_misaligned s q ha, misshapen_host hs hq]
  · rw [regWrite_misaligned s .ibpin x ha, misshapen_ibpin hs]
  · rw [counterLoRead_misaligned s .ibpin ha, misshapen_ibpin hs]
  · have ha' : (off.setWidth 32).toNat % 4 ≠ 0 := by
      rwa [BitVec.toNat_setWidth, Nat.mod_eq_of_lt (Nat.lt_trans off.isLt (by decide))]
    exact ⟨execIbpinRead_refused (ibRefused_misaligned true hs ha'),
      execIbpinWrite_refused v (ibRefused_misaligned false hs ha')⟩

/-! ### A field after a write of it (R9) -/

theorem fld_setFld_ne (s : State) (v : Nat) {f g : Fld} (h : g.key ≠ f.key) : fld (setFld s f v) g = fld s g :=
  tgetD_tsetD_ne _ _ _ _ h

theorem fld_setFld_self {s : State} (h : Regs.wf s = true) (f : Fld) (v : Nat) : fld (setFld s f v) f = v % 2 ^ f.w :=
  tgetD_tsetD_self ((Regs.wf_iff s).1 h).1 _ _ _

theorem fld_setFld_of_lt {s : State} (h : Regs.wf s = true) (f : Fld) {v : Nat} (hv : v < 2 ^ f.w) :
    fld (setFld s f v) f = v := by rw [fld_setFld_self h, Nat.mod_eq_of_lt hv]

theorem bits_lt (x lo w : Nat) : bits x lo w < 2 ^ w := Nat.mod_lt _ (Nat.two_pow_pos w)

/-- Settles O41: by the access codes; each value that is stored fits the width of its field. -/
theorem accessCodes : Obligations.AccessCodes := by
  intro s off v lo w rst q k h hig hlt
  have hx : bits v lo w < 2 ^ w := bits_lt v lo w
  cases k with
  | rw =>
    have e : fieldWrite off q v s (lo, w, rst, .rw) = setFld s (rowFld q off (lo, w, rst, .rw)) (bits v lo w) := by
      simp only [fieldWrite, hig]; rfl
    rw [e]
    exact ⟨fld_setFld_of_lt h _ hx, fun g hg => fld_setFld_ne _ _ hg⟩
  | rw1c => exact ⟨fld_setFld_of_lt h _ (Nat.lt_of_le_of_lt (Nat.sub_le _ _) hlt), fun g hg => fld_setFld_ne _ _ hg⟩
  | rw1s => exact ⟨fld_setFld_of_lt h _ (Nat.or_lt_two_pow hlt hx), fun g hg => fld_setFld_ne _ _ hg⟩
  | ro | wo | roc => exact ⟨rfl, fun g _ => rfl⟩

/-! ### Register accesses while the ports are open -/

theorem atFabric_manages {s : State} {q : Requester} (h : Manages s q) (t : State) : atFabric s q t = .next t := by
  obtain ⟨hs, hq⟩ := h
  cases q with
  | vf c => exact absurd hq Bool.false_ne_true
  | ibpin | pf => simp only [atFabric, hs]; rfl

/-- A write of the fabric-global space that starts nothing writes the fields of its row (R9). -/
theorem regWrite_plain {s : State} {q : Requester} {off : BitVec 25} {v late : Word} {r : RegRow} (h : Manages s q)
    (ha : off.toNat % 4 = 0) (hw : inWin off.toNat = false)
    (hst : starts q off.toNat (keepLate off.toNat v late) s = none) (hr : rowAt off.toNat = some r) :
    exec (.regWrite q off ⟨v, late⟩) s =
      .next (r.flds.foldl (fieldWrite off.toNat q (keepLate off.toNat v late).toNat) s) := by
  show execRegWrite q off ⟨v, late⟩ s = _
  simp only [execRegWrite, ha, writeReg, hst, plainAt, hw, atFabric_manages h, plainWrite, hr]
  rfl

/-- The physical function reads a counter's low word and latches the high word (R12). -/
theorem counterLoRead_pf {s : State} {off : BitVec 25} (hs : hostClosed s = false) (ha : off.toNat % 4 = 0)
    (hw : inWin off.toNat = false) (hc : isCtrLo off.toNat = true) :
    exec (.counterLoRead .pf off) s = .next (answerRead .pf (ctrLoRead s .pf off.toNat)) := by
  show execCounterLoRead .pf off s = _
  simp [execCounterLoRead, ha, hc, regRead, hs, hw]

theorem tgetD_tsetD_of_ne {α : Type} [DecidableEq α] (t : Tbl α) (k : Nat) {d v : α} (d' : α) (h : v ≠ d) :
    tgetD (tsetD t k d v) k d' = v := by
  simp [tgetD, tsetD, h, tfind_tput_self]

/-- Settles O2: each access by the equation of its command while the ports are open. -/
theorem registerCommandsComplete : Obligations.RegisterCommandsComplete := by
  refine ⟨fun s q off v late r h ha hw hst hr => regWrite_plain h ha hw hst hr, ?_, ?_, ?_, ?_, ?_, ?_, ?_, ?_⟩
  · intro s q off size w hs hq hoff
    rw [regAccessBadSize_misshapen s q w hoff, misshapen_host hs hq]
  · intro s off hs ha hw hc
    refine ⟨_, counterLoRead_pf hs ha hw hc, ?_, fun hne => tgetD_tsetD_of_ne _ _ _ hne, ?_⟩
    · simp [answerRead, ctrLoRead, emit, ← BitVec.toNat_inj]
    · intro p hp
      cases p
      case latches => exact absurd List.mem_cons_self hp
      all_goals rfl
  · intro s a hs ha hlt
    refine ⟨answerRead .ibpin (readReg s .ibpin a.toNat), ?_, rfl⟩
    show execIbpinRead a s = _
    simp only [execIbpinRead, ibRefused_aligned true hs ha hlt]
  · intro s a v t hs ha hlt hwr
    show execIbpinWrite a v s = _
    simp only [execIbpinWrite, ibRefused_aligned false hs ha hlt, ibWrite, hwr, thenAns, ibEnd]
  · intro s op hs h1 h2
    obtain ⟨hr, hk⟩ := hostClosed_eq_false.1 hs
    show execIbpinBadOpcode op s = _
    rw [execIbpinBadOpcode, if_neg (not_or.2 ⟨h1, h2⟩)]
    simp [hr, hk, ibEnd]
  · intro s wr hr
    show execIbpinFrameAbort false wr s = _
    simp [execIbpinFrameAbort, hr]
  · intro s hr hk
    show execIbpinTimeout none s = _
    simp [execIbpinTimeout, hr, hk, begunWrite, thenAns, ibEnd]
  · intro s wr hr hk
    show execIbpinTimeout wr s = _
    simp [execIbpinTimeout, hr, hk, ibEnd]

end Sys2Proof.Machine
end

section
/-!
The shared rules of `Ext`: how a change that is known extends a longer one, what a conditional, a fold and an update of one part of the
state change, and the same for the answer of a command and for an optional state.
-/
namespace Sys2Proof.Machine

variable {m n : Nat} {s0 s t u : State}

/-- A change by an operation after a change that is known. -/
theorem Ext.after (k : Ext n t u) (hn : n &&& m = n) (h : Ext m s t) : Ext m s u := h.step k hn

/-- A smaller mask is a stronger claim. -/
theorem Ext.mono (k : Ext n s u) (hn : n &&& m = n) : Ext m s u := k.after hn (Ext.refl m s)

/-- An operation whose mask lies in `k`, after a change whose mask holds `k`. -/
theorem Ext.within {k : Nat} (h : Ext n t u) (hn : n &&& k = n) (hm : k &&& m = k) (ht : Ext m s t) : Ext m s u :=
  h.after (sub_trans hn hm) ht

theorem Ext.trans (h : Ext m s t) (k : Ext m t u) : Ext m s u := k.after (Nat.and_self m) h

theorem Ext.ite {c : Prop} [Decidable c] (h : Ext m s t) (k : Ext m s u) : Ext m s (if c then t else u) := by
  split
  · exact h
  · exact k

/-- A step taken on a condition. -/
theorem Ext.when {c : Prop} [Decidable c] (h : Ext m s t) (k : Ext m t u) : Ext m s (if c then u else t) := .ite (h.trans k) h

theorem Ext.unless {c : Prop} [Decidable c] (h : Ext m s t) (k : Ext m t u) : Ext m s (if c then t else u) := .ite h (h.trans k)

theorem Ext.ite_fst {α : Type} {c : Prop} [Decidable c] {p q : State × α} (h : Ext m s p.1) (k : Ext m s q.1) :
    Ext m s (if c then p else q).1 := by
  split
  · exact h
  · exact k

theorem Ext.ite_snd {α : Type} {c : Prop} [Decidable c] {p q : α × State} (h : Ext m s p.2) (k : Ext m s q.2) :
    Ext m s (if c then p else q).2 := by
  split
  · exact h
  · exact k

theorem Ext.ite_third {α β : Type} {c : Prop} [Decidable c] {p q : α × β × State} (h : Ext m s p.2.2) (k : Ext m s q.2.2) :
    Ext m s (if c then p else q).2.2 := by
  split
  · exact h
  · exact k

theorem Ext.fold {α : Type} {f : State → α → State} {l : List α} (hf : ∀ s a, Ext m s (f s a)) (h : Ext m s0 s) :
    Ext m s0 (l.foldl f s) := Ext.foldl f hf l s h

theorem Ext.foldr {α : Type} {f : α → State → State} {l : List α} (hf : ∀ s a, Ext m s (f a s)) (h : Ext m s0 s) :
    Ext m s0 (l.foldr f s) := by
  induction l with
  | nil => exact h
  | cons a l ih => exact (hf _ a).after (Nat.and_self m) ih

theorem Ext.fold_fst {α β : Type} {f : State × β → α → State × β} {l : List α} {b : State × β}
    (hf : ∀ b a, Ext m b.1 (f b a).1) (h : Ext m s0 b.1) : Ext m s0 (l.foldl f b).1 := Ext.fold_on Prod.fst f hf l b h

theorem Ext.fold_snd {α β : Type} {f : β × State → α → β × State} {l : List α} {b : β × State}
    (hf : ∀ b a, Ext m b.2 (f b a).2) (h : Ext m s0 b.2) : Ext m s0 (l.foldl f b).2 := Ext.fold_on Prod.snd f hf l b h

theorem Ext.fold_third {α β γ : Type} {f : β × γ × State → α → β × γ × State} {l : List α} {b : β × γ × State}
    (hf : ∀ b a, Ext m b.2.2 (f b a).2.2) (h : Ext m s0 b.2.2) : Ext m s0 (l.foldl f b).2.2 :=
  Ext.fold_on (fun x => x.2.2) f hf l b h

/-! ### An update of one part of the state -/

theorem testBit_of_sub {k : Nat} (h : 2 ^ k &&& m = 2 ^ k) : m.testBit k = true := by
  have hb : (2 ^ k &&& m).testBit k = true := by rw [h]; exact Nat.testBit_two_pow_self
  rw [Nat.testBit_and] at hb
  exact (Bool.and_eq_true_iff.1 hb).2

theorem same_outside {p0 : Part} (hm : 2 ^ p0.bit &&& m = 2 ^ p0.bit) (h : ∀ p, p ≠ p0 → p.same s t) :
    ∀ p : Part, m.testBit p.bit = false → p.same s t := fun p hp =>
  h p fun e => Bool.false_ne_true (hp.symm.trans (testBit_of_sub (e ▸ hm)))

theorem Ext.withLatches {x} (hm : 4 &&& m = 4) (h : Ext m s0 s) : Ext m s0 { s with latches := x } :=
  h.raw rfl rfl rfl rfl rfl (same_outside (p0 := .latches) hm fun p hp => by
    cases p
    case latches => exact absurd rfl hp
    all_goals rfl)

theorem Ext.withPlan {x} (hm : 8 &&& m = 8) (h : Ext m s0 s) : Ext m s0 { s with plan := x } :=
  h.raw rfl rfl rfl rfl rfl (same_outside (p0 := .plan) hm fun p hp => by
    cases p
    case plan => exact absurd rfl hp
    all_goals rfl)

theorem Ext.withTide {x} (hm : 16 &&& m = 16) (h : Ext m s0 s) : Ext m s0 { s with tide := x } :=
  h.raw rfl rfl rfl rfl rfl (same_outside (p0 := .tide) hm fun p hp => by
    cases p
    case tide => exact absurd rfl hp
    all_goals rfl)

theorem Ext.withXl {x} (hm : 64 &&& m = 64) (h : Ext m s0 s) : Ext m s0 { s with xl := x } :=
  h.raw rfl rfl rfl rfl rfl (same_outside (p0 := .xl) hm fun p hp => by
    cases p
    case xl => exact absurd rfl hp
    all_goals rfl)

theorem Ext.withBw {x} (hm : 128 &&& m = 128) (h : Ext m s0 s) : Ext m s0 { s with bw := x } :=
  h.raw rfl rfl rfl rfl rfl (same_outside (p0 := .bw) hm fun p hp => by
    cases p
    case bw => exact absurd rfl hp
    all_goals rfl)

theorem Ext.withBc {x} (hm : 256 &&& m = 256) (h : Ext m s0 s) : Ext m s0 { s with bc := x } :=
  h.raw rfl rfl rfl rfl rfl (same_outside (p0 := .beacon) hm fun p hp => by
    cases p
    case beacon => exact absurd rfl hp
    all_goals rfl)

theorem Ext.withCk {x} (hm : 512 &&& m = 512) (h : Ext m s0 s) : Ext m s0 { s with ck := x } :=
  h.raw rfl rfl rfl rfl rfl (same_outside (p0 := .clocks) hm fun p hp => by
    cases p
    case clocks => exact absurd rfl hp
    all_goals rfl)

theorem Ext.withLb {x} (hm : 1024 &&& m = 1024) (h : Ext m s0 s) : Ext m s0 { s with lb := x } :=
  h.raw rfl rfl rfl rfl rfl (same_outside (p0 := .logbook) hm fun p hp => by
    cases p
    case logbook => exact absurd rfl hp
    all_goals rfl)

theorem Ext.withOb {x} (hm : 4096 &&& m = 4096) (h : Ext m s0 s) : Ext m s0 { s with ob := x } :=
  h.raw rfl rfl rfl rfl rfl (same_outside (p0 := .objects) hm fun p hp => by
    cases p
    case objects => exact absurd rfl hp
    all_goals rfl)

theorem Ext.withSq {x} (hm : 8192 &&& m = 8192) (h : Ext m s0 s) : Ext m s0 { s with sq := x } :=
  h.raw rfl rfl rfl rfl rfl (same_outside (p0 := .sched) hm fun p hp => by
    cases p
    case sched => exact absurd rfl hp
    all_goals rfl)

theorem Ext.withEn {x} (hm : 16384 &&& m = 16384) (h : Ext m s0 s) : Ext m s0 { s with en := x } :=
  h.raw rfl rfl rfl rfl rfl (same_outside (p0 := .engines) hm fun p hp => by
    cases p
    case engines => exact absurd rfl hp
    all_goals rfl)

theorem Ext.withSc {x} (hm : 32768 &&& m = 32768) (h : Ext m s0 s) : Ext m s0 { s with sc := x } :=
  h.raw rfl rfl rfl rfl rfl (same_outside (p0 := .sessions) hm fun p hp => by
    cases p
    case sessions => exact absurd rfl hp
    all_goals rfl)

/-- What memory stores. -/
def MemSt.stored (x : MemSt) : Tbl RawLine × Tbl (List MdcEnt) × Tbl TpWord × Tbl Bool := (x.lines, x.mdc, x.tpw, x.tpWritten)

/-- The memory plane changes, and what it stores does not. -/
theorem Ext.withMem {x : MemSt} (hm : 32 &&& m = 32) (e : x.stored = s.mem.stored) (h : Ext m s0 s) :
    Ext m s0 { s with mem := x } :=
  h.raw (congrArg (·.1) e) (congrArg (·.2.1) e) (congrArg (·.2.2.1) e) (congrArg (·.2.2.2) e) rfl (same_outside (p0 := .mem) hm fun p hp => by
    cases p
    case mem => exact absurd rfl hp
    all_goals rfl)

/-- The lifecycle changes, and its fuses do not. -/
theorem Ext.withLc {x : LcSt} (hm : 2048 &&& m = 2048) (e : x.fuses = s.lc.fuses) (h : Ext m s0 s) : Ext m s0 { s with lc := x } :=
  h.raw rfl rfl rfl rfl e (same_outside (p0 := .life) hm fun p hp => by
    cases p
    case life => exact absurd rfl hp
    all_goals rfl)

/-- What memory stores changes, and stays in canonical form. -/
theorem Ext.withStored {x : MemSt} (hm : 32 &&& m = 32) (h : Ext m s0 s)
    (hx : Memory.wf s.mem = true → Memory.wf x = true) : Ext m s0 { s with mem := x } where
  queue := h.queue
  env := h.env
  free := h.free
  out := h.out
  regs := h.regs
  mem := fun y => hx (h.mem y)
  fuse := h.fuse
  same := fun p hp => Part.same_trans (h.same p hp) (same_outside (p0 := .mem) hm (fun p hp => by
    cases p
    case mem => exact absurd rfl hp
    all_goals rfl) p hp)

/-- The lifecycle changes, and its blown fuses stay blown. -/
theorem Ext.withFuses {x : LcSt} (hm : 2048 &&& m = 2048) (h : Ext m s0 s) (hx : s.lc.fuses.kept x.fuses) :
    Ext m s0 { s with lc := x } where
  queue := h.queue
  env := h.env
  free := h.free
  out := h.out
  regs := h.regs
  mem := h.mem
  fuse := Fuses.kept_trans h.fuse hx
  same := fun p hp => Part.same_trans (h.same p hp) (same_outside (p0 := .life) hm (fun p hp => by
    cases p
    case life => exact absurd rfl hp
    all_goals rfl) p hp)

/-- Entries of the register table are dropped. -/
theorem Ext.dropFlds {l : Tbl Nat} (hm : 1 &&& m = 1) (h : Ext m s0 s) (hl : l.Sublist s.flds) :
    Ext m s0 { s with flds := l } where
  queue := h.queue
  env := h.env
  free := h.free
  out := h.out
  regs := fun y => by
    have k := h.regs y
    rw [Regs.wf_iff] at k ⊢
    exact ⟨sublist_sorted k.1 hl, k.2⟩
  mem := h.mem
  fuse := h.fuse
  same := fun p hp => Part.same_trans (h.same p hp) (same_outside (p0 := .regs) hm (fun p hp => by
    cases p
    case regs => exact absurd rfl hp
    all_goals rfl) p hp)

/-- Entries of the counter table are dropped. -/
theorem Ext.dropCtrs {l : Tbl Nat} (hm : 2 &&& m = 2) (h : Ext m s0 s) (hl : l.Sublist s.ctrs) :
    Ext m s0 { s with ctrs := l } where
  queue := h.queue
  env := h.env
  free := h.free
  out := h.out
  regs := fun y => by
    have k := h.regs y
    rw [Regs.wf_iff] at k ⊢
    exact ⟨k.1, sublist_wf k.2.1 hl, fun e he => k.2.2 e (hl.subset he)⟩
  mem := h.mem
  fuse := h.fuse
  same := fun p hp => Part.same_trans (h.same p hp) (same_outside (p0 := .counters) hm (fun p hp => by
    cases p
    case counters => exact absurd rfl hp
    all_goals rfl) p hp)

theorem tdrop_sublist {α : Type} (t : Tbl α) (p : Nat → Bool) : (tdrop t p).Sublist t := List.filter_sublist

theorem Ext.withPlanMem {x : PlanSt} {y : MemSt} (hm : 40 &&& m = 40) (e : y.stored = s.mem.stored) (h : Ext m s0 s) :
    Ext m s0 { s with plan := x, mem := y } :=
  Ext.withMem (s := { s with plan := x }) (sub_trans rfl hm) e (h.withPlan (sub_trans rfl hm))

theorem Ext.withXlEn {x : XlSt} {y : EnSt} (hm : 16448 &&& m = 16448) (h : Ext m s0 s) : Ext m s0 { s with xl := x, en := y } :=
  Ext.withEn (s := { s with xl := x }) (sub_trans rfl hm) (h.withXl (sub_trans rfl hm))

theorem Ext.withMemSc {x : MemSt} {y : SecSt} (hm : 32800 &&& m = 32800) (e : x.stored = s.mem.stored) (h : Ext m s0 s) :
    Ext m s0 { s with mem := x, sc := y } :=
  Ext.withSc (s := { s with mem := x }) (sub_trans rfl hm) (h.withMem (sub_trans rfl hm) e)

theorem Ext.withCkLb {x : CkSt} {y : LbSt} (hm : 1536 &&& m = 1536) (h : Ext m s0 s) : Ext m s0 { s with ck := x, lb := y } :=
  Ext.withLb (s := { s with ck := x }) (sub_trans rfl hm) (h.withCk (sub_trans rfl hm))

theorem Ext.withObSqEn {x : ObSt} {y : SqSt} {z : EnSt} (hm : 28672 &&& m = 28672) (h : Ext m s0 s) :
    Ext m s0 { s with ob := x, sq := y, en := z } :=
  Ext.withEn (s := { s with ob := x, sq := y }) (sub_trans rfl hm)
    (Ext.withSq (s := { s with ob := x }) (sub_trans rfl hm) (h.withOb (sub_trans rfl hm)))

theorem Ext.withLatchesTideSc {x : Tbl Nat} {y : TideSt} {z : SecSt} (hm : 32788 &&& m = 32788) (h : Ext m s0 s) :
    Ext m s0 { s with latches := x, tide := y, sc := z } :=
  Ext.withSc (s := { s with latches := x, tide := y }) (sub_trans rfl hm)
    (Ext.withTide (s := { s with latches := x }) (sub_trans rfl hm) (h.withLatches (sub_trans rfl hm)))

/-- Every register and counter of a removed cove's window is dropped. -/
theorem dropCove_ext (s : State) (c : Nat) :
    Ext 3 s { s with flds := tdrop s.flds (fun k => coveOffset c (k / 32)), ctrs := tdrop s.ctrs (coveOffset c) } :=
  Ext.dropCtrs (s := { s with flds := tdrop s.flds (fun k => coveOffset c (k / 32)) }) rfl
    (.dropFlds rfl (.refl _ _) (tdrop_sublist ..)) (tdrop_sublist ..)

/-- Lines of the tidepool are dropped from the list of written lines. -/
theorem dropTpWritten_ext (s : State) (p : Nat → Bool) :
    Ext 32 s { s with mem := { s.mem with tpWritten := tdrop s.mem.tpWritten p } } := by
  refine .withStored rfl (.refl _ _) fun h => ?_
  rw [Memory.wf_iff] at h ⊢
  obtain ⟨hl, hd, ht, hw⟩ := h
  exact ⟨hl, hd, ht, sublist_wf hw (tdrop_sublist s.mem.tpWritten p)⟩

/-! ### Optional states and answers -/

/-- Where there is a state, it comes by operations within the mask. -/
structure KeepsSome (m : Nat) (s0 : State) (o : Option State) : Prop where
  of : ∀ t, o = some t → Ext m s0 t

theorem KeepsSome.none : KeepsSome m s0 none := ⟨fun _ e => nomatch e⟩
theorem KeepsSome.some (h : Ext m s0 s) : KeepsSome m s0 (some s) := ⟨fun _ e => Option.some.inj e ▸ h⟩
theorem KeepsSome.ite {c : Prop} [Decidable c] {a b : Option State} (h : KeepsSome m s a) (k : KeepsSome m s b) :
    KeepsSome m s (if c then a else b) := by
  split
  · exact h
  · exact k
theorem KeepsSome.map {α : Type} {o : Option α} {f : α → State} (h : ∀ a, o = .some a → Ext m s (f a)) :
    KeepsSome m s (o.map f) := by
  cases o with
  | none => exact .none
  | some a => exact .some (h a rfl)
theorem KeepsSome.bind {α : Type} {o : Option α} {f : α → Option State} (h : ∀ a, o = .some a → KeepsSome m s (f a)) :
    KeepsSome m s (o.bind f) := by
  cases o with
  | none => exact .none
  | some a => exact h a rfl
theorem KeepsSome.after {o : Option State} (k : KeepsSome n t o) (hn : n &&& m = n) (h : Ext m s t) :
    KeepsSome m s o := ⟨fun u e => (k.of u e).after hn h⟩
theorem KeepsSome.mono {o : Option State} (k : KeepsSome n s o) (hn : n &&& m = n) : KeepsSome m s o :=
  k.after hn (Ext.refl m s)

/-- The command answers a next state, by operations within the mask. -/
structure Keeps (m : Nat) (s0 : State) (a : Ans) : Prop where
  next_of : ∃ t, a = .next t ∧ Ext m s0 t

theorem Keeps.next (h : Ext m s0 s) : Keeps m s0 (.next s) := ⟨⟨s, rfl, h⟩⟩
theorem Keeps.ite {c : Prop} [Decidable c] {a b : Ans} (h : Keeps m s a) (k : Keeps m s b) :
    Keeps m s (if c then a else b) := by
  split
  · exact h
  · exact k
theorem Keeps.after {a : Ans} (k : Keeps n t a) (hn : n &&& m = n) (h : Ext m s t) : Keeps m s a := by
  obtain ⟨u, e, k⟩ := k.next_of
  exact ⟨u, e, k.after hn h⟩
theorem Keeps.mono {a : Ans} (k : Keeps n s a) (hn : n &&& m = n) : Keeps m s a := k.after hn (Ext.refl m s)

/-- What a written register starts, where it starts something, has `P`. -/
structure StartIs (P : Ans → Prop) (x : Starts) : Prop where
  of : ∀ a, x = some a → P a

theorem StartIs.none {P : Ans → Prop} : StartIs P none := ⟨fun _ e => nomatch e⟩
theorem StartIs.ite {P : Ans → Prop} {c : Prop} [Decidable c] {x y : Starts} (h : StartIs P x) (k : StartIs P y) :
    StartIs P (if c then x else y) := by
  split
  · exact h
  · exact k

theorem instAt_some {off base n stride k : Nat} (h : instAt off base n stride = some k) : off = base + stride * k ∧ k < n := by
  unfold instAt at h
  split at h
  · rename_i hc
    cases h
    simp only [Bool.and_eq_true, decide_eq_true_eq, beq_iff_eq] at hc
    obtain ⟨⟨hle, hmod⟩, hlt⟩ := hc
    have := Nat.div_add_mod (off - base) stride
    exact ⟨by omega, hlt⟩
  · exact nomatch h

/-- At the register's own offset. -/
theorem StartIs.oneAt {P : Ans → Prop} {off base : Nat} {a : Ans} (h : off = base → P a) : StartIs P (wOne off base a) := by
  unfold wOne
  split
  · exact ⟨fun _ e => Option.some.inj e ▸ h ‹_›⟩
  · exact .none
theorem StartIs.one {P : Ans → Prop} {off base : Nat} {a : Ans} (h : P a) : StartIs P (wOne off base a) := .oneAt fun _ => h

/-- At the offset of an instance of the register. -/
theorem StartIs.atInst {P : Ans → Prop} {off base n stride : Nat} {f : Nat → Ans} (h : ∀ k, k < n → off = base + stride * k → P (f k)) :
    StartIs P (wAt off base n stride f) := ⟨fun a e => by
  obtain ⟨k, hk, rfl⟩ := Option.map_eq_some_iff.1 e
  obtain ⟨ho, hn⟩ := instAt_some hk
  exact h k hn ho⟩
theorem StartIs.at {P : Ans → Prop} {off base n stride : Nat} {f : Nat → Ans} (h : ∀ k, P (f k)) :
    StartIs P (wAt off base n stride f) := .atInst fun k _ _ => h k

/-- Whatever a list of starts starts has `P`. -/
structure StartsAre (P : Ans → Prop) (l : List Starts) : Prop where
  of : ∀ x ∈ l, StartIs P x

theorem StartsAre.nil {P : Ans → Prop} : StartsAre P [] := ⟨fun _ h => nomatch h⟩
theorem StartsAre.cons {P : Ans → Prop} {x : Starts} {l : List Starts} (h : StartIs P x) (k : StartsAre P l) : StartsAre P (x :: l) :=
  ⟨List.forall_mem_cons.2 ⟨h, k.of⟩⟩
theorem StartsAre.append {P : Ans → Prop} {l k : List Starts} (h : StartsAre P l) (h2 : StartsAre P k) : StartsAre P (l ++ k) :=
  ⟨fun x hx => (List.mem_append.1 hx).elim (h.of x) (h2.of x)⟩
/-- The first of the starts that starts something. -/
theorem StartsAre.first {P : Ans → Prop} {l : List Starts} (h : StartsAre P l) : StartIs P (l.find? Option.isSome).join :=
  ⟨fun a e => (h.of _ (List.mem_of_find?_eq_some (Option.join_eq_some_iff.1 e))).of a rfl⟩

/-- What a write starts, in a window and in the fabric-global space. -/
theorem starts_are {P : Ans → Prop} {q : Requester} {off : Nat} {w : Word} {s : State}
    (hw : inWin off = true → StartsAre P (startWindowRegs q off w s))
    (hf : inWin off = false → StartsAre P (startFabric q off w s ++ startPlane q off w s ++ startWork q off w s ++ startManager q off w s)) :
    StartIs P (starts q off w s) := by
  unfold starts
  cases h : inWin off with
  | true => exact (hw h).first
  | false => exact (hf h).first

/-- A write acts as what it starts, or as a plain write. -/
theorem writeReg_is {P : Ans → Prop} {q : Requester} {off : Nat} {w : Word} {s : State} (h : StartIs P (starts q off w s))
    (hp : P (plainAt s q off w.toNat)) : P (writeReg q off w s) := by
  unfold writeReg
  split
  · exact h.of _ ‹_›
  · exact hp

/-- What is started keeps within the mask. -/
abbrev KeepsStart (m : Nat) (s0 : State) (x : Starts) : Prop := StartIs (Keeps m s0) x

/-- Whatever a list of starts starts keeps within the mask. -/
abbrev KeepsAll (m : Nat) (s0 : State) (l : List Starts) : Prop := StartsAre (Keeps m s0) l

theorem KeepsStart.mono {x : Starts} (k : KeepsStart n s x) (hn : n &&& m = n) : KeepsStart m s x :=
  ⟨fun a e => (k.of a e).mono hn⟩
theorem KeepsAll.mono {l : List Starts} (k : KeepsAll n s l) (hn : n &&& m = n) : KeepsAll m s l :=
  ⟨fun x hx => KeepsStart.mono (k.of x hx) hn⟩

end Sys2Proof.Machine
end

section
/-!
Engine work: what a part of it makes of the state it has reached, and of the state that a failed check leaves (R121).
-/
namespace Sys2Proof.Machine

variable {m n : Nat} {s0 s t : State} {α β : Type}

/-- The outcome of a part of the work: a value with `Q` and a state, or a stalled access that keeps a state only after a failed check. -/
def OutcomeKeeps (m : Nat) (s0 : State) (Q : α → Prop) : Except Stall (α × State) → Prop
  | .ok (a, t) => Q a ∧ Ext m s0 t
  | .error x => ∀ t, x.why = .halted t → Ext m s0 t

/-- Run from a state that operations within the mask have reached, the work reaches such states only, and its value has `Q`. -/
structure WorkKeeps (m : Nat) (s0 : State) (Q : α → Prop) (w : Work α) : Prop where
  of : ∀ s, Ext m s0 s → OutcomeKeeps m s0 Q (w s)

/-- Work whose value is a state that operations within the mask reach. -/
abbrev WorkMakes (m : Nat) (s0 : State) (w : Work State) : Prop := WorkKeeps m s0 (Ext m s0) w

/-- Work whose value is no state. -/
abbrev WorkReads (m : Nat) (s0 : State) (w : Work α) : Prop := WorkKeeps m s0 (fun _ => True) w

theorem WorkKeeps.pure {Q : α → Prop} {a : α} (h : Q a) : WorkKeeps m s0 Q (pure a) := ⟨fun _ hs => ⟨h, hs⟩⟩

theorem WorkKeeps.bind {P : α → Prop} {Q : β → Prop} {w : Work α} {f : α → Work β} (h : WorkKeeps m s0 P w)
    (k : ∀ a, P a → WorkKeeps m s0 Q (f a)) : WorkKeeps m s0 Q (w >>= f) := by
  refine ⟨fun s hs => ?_⟩
  have hw := h.of s hs
  show OutcomeKeeps m s0 Q (Except.bind (w s) fun p => f p.1 p.2)
  cases e : w s with
  | error x => rw [e] at hw; exact hw
  | ok p =>
    rw [e] at hw
    exact (k p.1 hw.1).of p.2 hw.2

/-- Work whose value is no state, and what follows it. -/
theorem WorkKeeps.seq {Q : β → Prop} {w : Work α} {f : α → Work β} (h : WorkReads m s0 w)
    (k : ∀ a, WorkKeeps m s0 Q (f a)) : WorkKeeps m s0 Q (w >>= f) := h.bind fun a _ => k a

theorem WorkKeeps.val {a : α} : WorkReads m s0 (Pure.pure a : Work α) := .pure trivial

theorem WorkKeeps.foldlM {f : β → α → Work β} {l : List α} (h : ∀ b a, WorkReads m s0 (f b a)) :
    ∀ b, WorkReads m s0 (l.foldlM f b) := by
  induction l with
  | nil => exact fun _ => .val
  | cons a l ih => exact fun b => .seq (h b a) ih

theorem WorkKeeps.ite {Q : α → Prop} {c : Prop} [Decidable c] {v w : Work α} (h : WorkKeeps m s0 Q v) (k : WorkKeeps m s0 Q w) :
    WorkKeeps m s0 Q (if c then v else w) := by
  split
  · exact h
  · exact k

theorem getSt_keeps : WorkMakes m s0 getSt := ⟨fun _ hs => ⟨hs, hs⟩⟩

theorem putSt_keeps (h : Ext m s0 t) : WorkReads m s0 (putSt t) := ⟨fun _ _ => ⟨trivial, h⟩⟩

theorem OutcomeKeeps.stall {Q : α → Prop} {x : Stall} (h : ∀ t, x.why ≠ .halted t) : OutcomeKeeps m s0 Q (.error x) :=
  fun t e => absurd e (h t)

end Sys2Proof.Machine
end

section
/-!
What each operation of the machine can change, one rule for each function, in the order of the model's files: `f_ext` for a state, `f_keeps` for
an answer, an optional state, engine work or a list of starts. The number is the sum of `2 ^ p.bit` over the parts `p` that may change:
regs 1, counters 2, latches 4, plan 8, tide 16, mem 32, xl 64, bw 128, beacon 256, clocks 512, logbook 1024, life 2048, objects 4096, sched 8192,
engines 16384, sessions 32768. A function of functions takes any mask `m` that holds its own parts.
-/
namespace Sys2Proof.Machine

/-! ### Ops -/

theorem lbAdd_ext (s : State) (i n : Nat) : Ext 1026 s (lbAdd s i n) :=
  .when ((addCtr_ext ..).mono rfl) (.withLb rfl (.refl _ _))

theorem hostWrite_ext (s : State) (addr : Nat) (bytes : List Byte) : Ext 0 s (hostWrite s addr bytes).2 :=
  .ite (.refl _ _) ((emit_ext ..).mono rfl)

theorem hostRead_ext (s : State) (addr len : Nat) : Ext 0 s (hostRead s addr len) :=
  .fold (fun _ _ => (emit_ext ..).mono rfl) (.refl _ _)

theorem atDomain_keeps {m : Nat} {s t : State} {d : Nat} (h : Ext m s t) : Keeps m s (atDomain s d t) :=
  .next (.ite h (.refl _ _))

theorem closedAccess_ext (s : State) (q : Requester) : Ext 0 s (closedAccess s q) :=
  .ite ((emit_ext ..).mono rfl) (.ite ((emit_ext ..).mono rfl) (.refl _ _))

theorem atHost_keeps {m : Nat} {s t : State} {q : Requester} (h : Ext m s t) : Keeps m s (atHost s q t) :=
  .next (.ite ((closedAccess_ext ..).mono (Nat.zero_and m)) h)

theorem atLink_keeps {m : Nat} {s t : State} (h : Ext m s t) : Keeps m s (atLink s t) :=
  .next (.ite (.refl _ _) h)

/-! ### Beacon -/

theorem sendUnsent_ext (s : State) : Ext 256 s (sendUnsent s) :=
  .fold (fun _ _ => (sendLine_ext ..).mono rfl) (.withBc rfl (.refl _ _))

theorem beaconStep_ext {m : Nat} {s : State} {f : State → State × Bool} (h : Ext m s (f s).1)
    (hm : 257 &&& m = 257) : Ext m s (beaconStep s f) := by
  unfold beaconStep
  dsimp only
  refine deliver_ext (.ite ?_ h) (sub_trans rfl hm)
  exact (raiseCore_ext ..).after hm h

theorem eachSrc_ext {m : Nat} {s : State} {f : State → Nat → State × Bool} {l : List Nat} (hf : ∀ s i, Ext m s (f s i).1) :
    Ext m s (eachSrc f l s).1 := by
  unfold eachSrc
  exact .fold_fst (fun a i => hf a.1 i) (.refl _ _)

theorem retryRoute_ext (s : State) (i : Nat) : Ext 257 s (retryRoute s i).1 := by
  unfold retryRoute
  refine .ite_fst ?_ (.ite_fst ((setSrc_ext ..).mono rfl) (.ite_fst ((fallBack_ext ..).mono rfl) (.refl _ _)))
  dsimp only
  split
  · exact (setFld_ext ..).after rfl <| (setSrc_ext ..).mono rfl
  · exact .refl _ _

theorem retryAll_ext (s : State) : Ext 257 s (retryAll s).1 :=
  eachSrc_ext (fun _ _ => (retryRoute_ext ..).mono rfl)

theorem endService_ext (s : State) (i : Nat) : Ext 257 s (endService s i).1 :=
  .ite_fst ((holdoff_ext ..).after rfl <| (setSrc_ext ..).mono rfl) ((setSrc_ext ..).mono rfl)

theorem unroute_ext (s : State) (i : Nat) : Ext 257 s (unroute s i).1 :=
  .ite_fst ((setSrc_ext ..).mono rfl) (.ite_fst ((routeSrc_ext ..).after rfl <| (setSrc_ext ..).mono rfl)
    ((fallBack_ext ..).after rfl <| (setSrc_ext ..).mono rfl))

theorem withdrawTgt_ext (s : State) (t : Nat) (byEn : Bool) : Ext 257 s (withdrawTgt s t byEn).1 := by
  unfold withdrawTgt
  dsimp only
  exact .trans (eachSrc_ext (fun _ _ => (unroute_ext ..).mono rfl)) (eachSrc_ext (fun _ i => (endService_ext ..).mono rfl))

theorem claimTgt_ext (s : State) (t : Nat) : Ext 256 s (claimTgt s t).2 := by
  unfold claimTgt
  dsimp only
  split
  · exact (setSrc_ext ..).mono rfl
  · exact .refl _ _

theorem eoiTgt_ext (s : State) (t i : Nat) : Ext 257 s (eoiTgt s t i) := by
  unfold eoiTgt
  refine .ite (.when (beaconStep_ext ((endService_ext ..).mono rfl) rfl) ((sendLine_ext ..).mono rfl)) ?_
  split
  · exact (setFlag_ext ..).mono rfl
  · exact (raiseSrc_ext ..).after rfl <| (setFlag_ext ..).mono rfl

theorem expireHoldoff_ext (s : State) (g : Nat) : Ext 257 s (expireHoldoff s g) :=
  .ite (.refl _ _) (beaconStep_ext (.trans (.withBc rfl (.fold (fun _ _ => (setSrc_ext ..).mono rfl) (.refl _ _)))
    (eachSrc_ext (fun _ _ => (routeSrc_ext ..).mono rfl))) rfl)

theorem cfgSrc_ext (s : State) (i prio : Nat) (en : Bool) (target : Nat) : Ext 257 s (cfgSrc s i prio en target) :=
  .ite (beaconStep_ext ((holdoff_ext ..).after rfl <| (setSrc_ext ..).mono rfl) rfl) ((setSrc_ext ..).mono rfl)

theorem cfgTgt_ext (s : State) (t mode : Nat) (en : Bool) (vector : Nat) : Ext 257 s (cfgTgt s t mode en vector) := by
  unfold cfgTgt
  refine .ite (beaconStep_ext ?_ rfl) (beaconStep_ext ((retryAll_ext ..).after rfl <| (setTgt_ext ..).mono rfl) rfl)
  dsimp only
  exact (retryAll_ext ..).after rfl <| (withdrawTgt_ext ..).after rfl <| (setTgt_ext ..).mono rfl

theorem resetTgt_ext (s : State) (t : Nat) : Ext 256 s (resetTgt s t) :=
  (setTgt_ext ..).mono rfl

theorem clearCoveSrcs_ext (s : State) (c : Nat) (removal : Bool) : Ext 257 s (clearCoveSrcs s c removal) :=
  .fold (fun _ _ => (setSrc_ext ..).mono rfl) ((setFld_ext ..).mono rfl)

/-! ### Wrack -/

theorem wrackLost_ext (s : State) (c : Nat) : Ext 1026 s (wrackLost s c) :=
  (lbAdd_ext ..).after rfl <| (incCtr_ext ..).mono rfl

theorem writeWrack_ext (s : State) (c : Nat) (r : WrackRec) : Ext 1347 s (writeWrack s c r).2 := by
  unfold writeWrack
  refine .ite_snd (.refl _ _) (.ite_snd ((wrackLost_ext ..).mono rfl) ?_)
  dsimp only
  exact .ite_snd ((raiseSrc_ext ..).after rfl <| .withXl rfl ((setFld_ext ..).after rfl <| (hostWrite_ext ..).mono rfl))
    ((wrackLost_ext ..).after rfl <| (setFlag_ext ..).after rfl <| (hostWrite_ext ..).mono rfl)

theorem report_ext (s : State) (c : Nat) (r : WrackRec) : Ext 1347 s (report s c r) :=
  (writeWrack_ext ..).mono rfl

/-! ### Stack -/

theorem setKr_ext (s : State) (r : Nat) (k : KeyRange) : Ext 32 s (setKr s r k) :=
  .withMem rfl rfl (.refl _ _)

theorem setKid_ext (s : State) (k : Nat) (v : Kid) : Ext 32 s (setKid s k v) :=
  .withMem rfl rfl (.refl _ _)

theorem loadKey_ext (s : State) (kid : Nat) : Ext 32 s (loadKey s kid) := by
  unfold loadKey
  dsimp only
  exact (setKid_ext ..).after rfl <| .withMem rfl rfl ((drawFree_ext ..).mono rfl)

theorem drainKid_ext (s : State) (kid r : Nat) (places : List Place) : Ext 32 s (drainKid s kid r places) :=
  .ite (.refl _ _) ((setKid_ext ..).mono rfl)

theorem takeKid_ext (s : State) (r kid : Nat) : Ext 40 s (takeKid s r kid) := by
  unfold takeKid
  dsimp only
  split
  · exact .refl _ _
  · exact (setKr_ext ..).after rfl <| .withPlanMem rfl rfl ((drainKid_ext ..).after rfl <| (loadKey_ext ..).mono rfl)

theorem startRekey_ext (s : State) (r : Nat) : Ext 40 s (startRekey s r) := by
  unfold startRekey
  dsimp only
  split
  · exact .refl _ _
  · refine .ite (.refl _ _) (.ite ((setKr_ext ..).mono rfl) ?_)
    split
    · exact (takeKid_ext ..).mono rfl
    · exact .withMem rfl rfl ((setKr_ext ..).mono rfl)

theorem countUse_ext (s : State) (g : Nat) : Ext 40 s (countUse s g) := by
  unfold countUse
  dsimp only
  split
  · exact .refl _ _
  · exact .when ((setKr_ext ..).mono rfl) ((startRekey_ext ..).mono rfl)

theorem raiseMem_ext (s : State) (n : Nat) : Ext 257 s (raiseMem s n) :=
  (raiseSrc_ext ..).mono rfl

theorem incCove_ext (s : State) (c : Option Nat) (cn : Nat → Nat) : Ext 2 s (incCove s c cn) := by
  unfold incCove
  split
  · exact (incCtr_ext ..).mono rfl
  · exact .refl _ _

theorem countOnDie_ext (s : State) (n : Nat) : Ext 32 s (countOnDie s n) :=
  .ite (.withMem rfl rfl (.refl _ _)) (.refl _ _)

theorem poisonBits_ext (s : State) (n d kid : Nat) : Ext 32 s (poisonBits s n d kid).1 :=
  (setRaw_ext ..).mono rfl

theorem readMeta_ext (s : State) (n sda : Nat) : Ext 291 s (readMeta s n sda).2 := by
  unfold readMeta
  dsimp only
  split
  · exact .when ((mdcFetch_ext ..).mono rfl) ((mdcWrite_ext ..).mono rfl)
  · exact (mdcFetch_ext ..).mono rfl

theorem storeRaw_ext (s : State) (n sda : Nat) (data : Line) (codes : List Nat) (tag : Nat) : Ext 291 s (storeRaw s n sda data codes tag) :=
  (mdcWrite_ext ..).after rfl <| (setRaw_ext ..).mono rfl

theorem countCE_ext (s : State) (n w flips s1 s3 pp : Nat) (cove : Option Nat) (q : Req) :
    Ext 1283 s (countCE s n w flips s1 s3 pp cove q) :=
  .when ((logErr_ext ..).after rfl <| (incCove_ext ..).after rfl <| .when ((lbAdd_ext ..).after rfl <| (incCtr_ext ..).mono rfl)
    ((incCtr_ext ..).mono rfl)) ((raiseMem_ext ..).mono rfl)

theorem readWords_ext (s : State) (n : Nat) (raw : RawLine) (inl : Nat) (cove : Option Nat) (q : Req) :
    Ext 1283 s (readWords s n raw inl cove q).st := by
  unfold readWords
  refine Ext.fold_on WordsRead.st _ (fun a w => ?_) _ _ (.refl _ _)
  dsimp only
  split
  · exact .refl _ _
  · exact (countCE_ext ..).mono rfl
  · exact (raiseMem_ext ..).after rfl <| (logErr_ext ..).after rfl <| (lbAdd_ext ..).after rfl ((incCtr_ext ..).mono rfl)

theorem poisonLine_ext (s : State) (n sda kid : Nat) (words : List Dword) (cove : Option Nat) :
    Ext 291 s (poisonLine s n sda kid words cove) :=
  (countPoison_ext ..).after rfl <| (storeRaw_ext ..).mono rfl

theorem failCheck_ext (s : State) (n found : Nat) (e : Expect) (q : Req) : Ext 1 s (failCheck s n found e q) :=
  (setFlag_ext ..).after rfl <| (setFlag_ext ..).after rfl <| .ite ((setFlag_ext ..).mono rfl)
    ((setFld_ext ..).after rfl <| (setFld_ext ..).after rfl <| (setFlag_ext ..).after rfl <| (setFld_ext ..).after rfl <|
    (setFlag_ext ..).after rfl <| (setFld_ext ..).after rfl <| (setFld_ext ..).after rfl <| (setFld_ext ..).after rfl <|
    (setFld_ext ..).after rfl <| (setFld_ext ..).after rfl <| (setFld_ext ..).after rfl <| (setFld_ext ..).after rfl <|
    (setFld_ext ..).after rfl <| (setFlag_ext ..).mono rfl)

theorem linkLost_ext (s : State) (n sda kid : Nat) (cove : Option Nat) (q : Req) : Ext 1315 s (linkLost s n sda kid cove q) :=
  (poisonLine_ext ..).after rfl <| (raiseMem_ext ..).after rfl <| (logErr_ext ..).after rfl <| (lbAdd_ext ..).after rfl <|
    (addCtr_ext ..).mono rfl

theorem metaLost_ext (s : State) (n sda : Nat) (cove : Option Nat) (q : Req) : Ext 291 s (metaLost s n sda cove q) :=
  (poisonLine_ext ..).after rfl <| (countLostMeta_ext ..).mono rfl

theorem checkLine_ext (s : State) (n sda : Nat) (e : Expect) (cove : Option Nat) (link : Bool) (q : Req) :
    Ext 1315 s (checkLine s n sda e cove link q).2 := by
  unfold checkLine
  dsimp only
  split
  · exact (metaLost_ext ..).after rfl <| (readMeta_ext ..).after rfl <| (countOnDie_ext ..).mono rfl
  · split
    · exact (logErr_ext ..).after rfl <| (incCtr_ext ..).after rfl <| (readMeta_ext ..).after rfl <| (countOnDie_ext ..).mono rfl
    · exact (poisonLine_ext ..).after rfl <| (readWords_ext ..).after rfl <| (raiseMem_ext ..).after rfl <| (logErr_ext ..).after rfl <|
        (incCtr_ext ..).after rfl <| (readMeta_ext ..).after rfl <| (countOnDie_ext ..).mono rfl
    · exact .ite_snd ((failCheck_ext ..).after rfl <| (readMeta_ext ..).after rfl <| (countOnDie_ext ..).mono rfl)
        (.ite_snd ((linkLost_ext ..).after rfl <| (readMeta_ext ..).after rfl <| (countOnDie_ext ..).mono rfl)
        (.ite_snd ((poisonLine_ext ..).after rfl <| (readWords_ext ..).after rfl <| (readMeta_ext ..).after rfl <| (countOnDie_ext ..).mono
        rfl) (.when ((readWords_ext ..).after rfl <| (readMeta_ext ..).after rfl <| (countOnDie_ext ..).mono rfl)
        ((storeRaw_ext ..).mono rfl))))

theorem writeLine_ext (s : State) (n sda fpa kid : Nat) (l : Line) : Ext 291 s (writeLine s n sda fpa kid l) := by
  unfold writeLine
  refine .ite (.ite ((storeRaw_ext ..).after rfl <| (setFlag_ext ..).mono rfl) ?_) ((storeRaw_ext ..).mono rfl)
  dsimp only
  exact (storeRaw_ext ..).after rfl <| (setFlag_ext ..).mono rfl

theorem sendLineTo_ext (s : State) (n sda kid : Nat) (l : Line) (cove : Option Nat) (link : Bool) (q : Req) :
    Ext 1315 s (sendLineTo s n sda kid l cove link q).2 :=
  .ite_snd ((linkLost_ext ..).mono rfl) ((writeLine_ext ..).mono rfl)

theorem refuse_ext (s : State) (q : Req) (reason detail : Nat) : Ext 1347 s (refuse s q reason detail) :=
  .ite ((report_ext ..).mono rfl) (.refl _ _)

theorem brkDrop_ext (s : State) (tag point acc src tgt gran addr : Nat) (r : WrackRec) :
    Ext 1347 s (brkDrop s tag point acc src tgt gran addr r) :=
  .when ((raiseSrc_ext ..).after rfl <| .ite ((setFlag_ext ..).after rfl <| (lbAdd_ext ..).after rfl <| (incCtr_ext ..).mono rfl)
    ((setFlag_ext ..).after rfl <| (setFld_ext ..).after rfl <| (setFld_ext ..).after rfl <| (setFld_ext ..).after rfl <|
    (setFld_ext ..).after rfl <| (setFld_ext ..).after rfl <| (setFld_ext ..).after rfl <| (setFld_ext ..).after rfl <|
    (setFld_ext ..).after rfl <| (lbAdd_ext ..).after rfl <| (incCtr_ext ..).mono rfl)) ((report_ext ..).mono rfl)

theorem dropReq_ext (s : State) (q : Req) (point tgt gran : Nat) : Ext 1347 s (dropReq s q point tgt gran) :=
  (brkDrop_ext ..).mono rfl

theorem refusePoison_ext (s : State) (q : Req) : Ext 1347 s (refusePoison s q) :=
  (refuse_ext ..).after rfl <| .ite ((incCtr_ext ..).mono rfl) (.refl _ _)

theorem performLine_ext (s : State) (n sda g : Nat) (link : Bool) (q : Req) (op : LineOp) :
    Ext 1387 s (performLine s n sda g link q op).2 := by
  unfold performLine
  refine .ite_snd ((refuse_ext ..).after rfl <| .ite ((incCtr_ext ..).mono rfl) (.refl _ _)) (.ite_snd ?_ ?_)
  · split
    · rename_i e1
      exact (countUse_ext ..).after rfl <| .of_snd e1 ((sendLineTo_ext ..).mono rfl)
    · rename_i e1
      exact (refusePoison_ext ..).after rfl <| .of_snd e1 ((sendLineTo_ext ..).mono rfl)
  · dsimp only
    split
    · exact (checkLine_ext ..).mono rfl
    · exact (refusePoison_ext ..).after rfl <| (checkLine_ext ..).mono rfl
    · exact (refusePoison_ext ..).after rfl <| (checkLine_ext ..).mono rfl
    · split
      · exact (checkLine_ext ..).mono rfl
      · exact (countUse_ext ..).after rfl <| (writeLine_ext ..).after rfl <| (checkLine_ext ..).mono rfl

theorem scAccess_ext (s : State) (g : Nat) (link : Bool) (q : Req) (op : LineOp) : Ext 1387 s (scAccess s g link q op).2 := by
  unfold scAccess
  dsimp only
  exact .ite_snd ((refuse_ext ..).mono rfl) (.ite_snd ((dropReq_ext ..).mono rfl)
    (.ite_snd ((refuse_ext ..).mono rfl) ((performLine_ext ..).mono rfl)))

theorem tpCheck_ext (s : State) (bank w : Nat) : Ext 1058 s (tpCheck s bank w).2 := by
  unfold tpCheck
  refine .ite_snd (.refl _ _) ?_
  split
  · exact .refl _ _
  · exact (setTp_ext ..).after rfl <| (incCove_ext ..).after rfl <| (lbAdd_ext ..).after rfl <| (incCtr_ext ..).mono rfl
  · exact (setTp_ext ..).after rfl <| (incCove_ext ..).after rfl <| (lbAdd_ext ..).after rfl <| (incCtr_ext ..).mono rfl

theorem tpReadWords_ext (s : State) (bank line : Nat) (need : Nat → Bool) : Ext 1058 s (tpReadWords s bank line need).2.2 := by
  unfold tpReadWords
  refine .fold_third (fun a k => .ite_third ?_ (.refl _ _)) (.refl _ _)
  split
  · rename_i e1
    exact .of_snd e1 ((tpCheck_ext ..).mono rfl)
  · rename_i e1
    exact .of_snd e1 ((tpCheck_ext ..).mono rfl)

theorem tpStore_ext (s : State) (bank line : Nat) (l : Line) (p : Nat → Bool) : Ext 32 s (tpStore s bank line l p) :=
  .fold (fun _ _ => .ite ((setTp_ext ..).mono rfl) (.refl _ _)) (.refl _ _)

theorem tpAccess_ext (s : State) (bank byte : Nat) (q : Req) : Ext 1379 s (tpAccess s bank byte q).2 := by
  unfold tpAccess
  refine .ite_snd ((dropReq_ext ..).mono rfl) (.ite_snd ((refuse_ext ..).mono rfl) (.ite_snd ?_ ?_))
  · dsimp only
    split
    · exact .refl _ _
    · exact (setTpWritten_ext ..).after rfl <| (tpStore_ext ..).mono rfl
  · dsimp only
    exact .ite_snd ((refusePoison_ext ..).after rfl <| (tpReadWords_ext ..).mono rfl)
      ((tpStore_ext ..).after rfl <| (tpReadWords_ext ..).mono rfl)

theorem memAccess_ext (s : State) (link : Bool) (q : Req) : Ext 1387 s (memAccess s link q).2 := by
  unfold memAccess
  refine .ite_snd ((dropReq_ext ..).mono rfl) ?_
  split
  · exact (scAccess_ext ..).mono rfl
  · exact (tpAccess_ext ..).mono rfl
  · exact (refuse_ext ..).mono rfl

/-! ### Access -/

theorem winDrop_ext (s : State) (v c : Nat) (write : Bool) (off : Nat) : Ext 1347 s (winDrop s v c write off) :=
  (brkDrop_ext ..).mono rfl

theorem atWindow_keeps {m : Nat} {s t : State} {q : Requester} {c off : Nat} (h : Ext m s t)
    (hm : 1347 &&& m = 1347) : Keeps m s (atWindow s q c off t) := by
  unfold atWindow
  refine .ite (.next ((closedAccess_ext ..).mono (Nat.zero_and m))) ?_
  split
  · exact .ite (.next ((winDrop_ext ..).mono hm)) (.ite (.next h) (.next (.refl _ _)))
  · exact .ite (.next h) (.next (.refl _ _))

theorem atFabric_keeps {m : Nat} {s t : State} {q : Requester} (h : Ext m s t) : Keeps m s (atFabric s q t) := by
  unfold atFabric
  refine .ite (.next ((closedAccess_ext ..).mono (Nat.zero_and m))) ?_
  split
  · exact .next ((emit_ext ..).mono (Nat.zero_and m))
  · exact .next h

theorem unclean_ext (s : State) (c : Nat) : Ext 1 s (unclean s c) :=
  (setFlag_ext ..).mono rfl

/-! ### Traffic -/

theorem setRegul_ext (s : State) (r : Nat) (v : Regul) : Ext 128 s (setRegul s r v) :=
  .withBw rfl (.refl _ _)

theorem countBytes_ext (s : State) (r cls n : Nat) : Ext 2 s (countBytes s r cls n) :=
  .ite ((addCtr_ext ..).mono rfl) (.ite ((addCtr_ext ..).mono rfl) (.refl _ _))

theorem takeUnits_ext (s : State) (r n : Nat) : Ext 130 s (takeUnits s r n) :=
  (countBytes_ext ..).after rfl <| .when ((setRegul_ext ..).mono rfl) ((incCtr_ext ..).mono rfl)

theorem charge_keeps (s : State) (r : Nat) : KeepsSome 130 s (charge s r) :=
  .ite (.some ((takeUnits_ext ..).mono rfl)) .none

theorem chargeUnit_keeps (s : State) (src : Nat) : KeepsSome 130 s (chargeUnit s src) := by
  unfold chargeUnit
  split
  · exact (charge_keeps ..).mono rfl
  · exact .some ((addCtr_ext ..).mono rfl)

theorem setIssued_ext (s : State) (u n : Nat) : Ext 16384 s (setIssued s u n) :=
  .withEn rfl (.refl _ _)

theorem chargeLine_keeps (s : State) (src fpa : Nat) : KeepsSome 16514 s (chargeLine s src fpa) :=
  .ite (.some (.refl _ _)) (.ite (.some ((setIssued_ext ..).mono rfl)) ((chargeUnit_keeps ..).mono rfl))

theorem chargeWork_keeps (s : State) (src fpa : Nat) : KeepsSome 16514 s (chargeWork s src fpa) :=
  .ite .none ((chargeLine_keeps ..).mono rfl)

theorem issueRest_ext (s : State) (src : Nat) : Ext 16514 s (issueRest s src) := by
  unfold issueRest
  dsimp only
  split
  · exact .ite (.refl _ _) ((setIssued_ext ..).after rfl <| (takeUnits_ext ..).mono rfl)
  · exact .refl _ _

theorem paidOr_ext {m : Nat} {s : State} {src : Nat} {o : Option State} (h : KeepsSome m s o)
    (hm : 16514 &&& m = 16514) : Ext m s (paidOr s src o) := by
  cases o with
  | none => exact (issueRest_ext s src).mono hm
  | some t => exact h.of t rfl

theorem setXfer_ext (s : State) (id : Nat) (x : Xfer) : Ext 64 s (setXfer s id x) :=
  .withXl rfl (.refl _ _)

theorem delXfer_ext (s : State) (id : Nat) : Ext 64 s (delXfer s id) :=
  .withXl rfl (.refl _ _)

theorem addXfer_ext (s : State) (x : Xfer) : Ext 64 s (addXfer s x) :=
  .withXl rfl (.refl _ _)

theorem arrive_ext (s : State) (id : Nat) (x : Xfer) (cls urg : Nat) : Ext 64 s (arrive s id x cls urg) :=
  (setXfer_ext ..).after rfl <| .withXl rfl (.refl _ _)

theorem issueXfer_ext (s : State) (mesh : Bool) (id : Nat) (x : Xfer) : Ext 195 s (issueXfer s mesh id x) := by
  unfold issueXfer
  dsimp only
  split
  · exact .ite ((arrive_ext ..).mono rfl) (.refl _ _)
  · refine .ite ?_ ?_
    · split
      · exact .ite (.refl _ _) ((setXfer_ext ..).after rfl <| (setRegul_ext ..).mono rfl)
      · exact .refl _ _
    · split
      · exact .refl _ _
      · rename_i e2
        split
        · exact .when ((arrive_ext ..).after rfl <| ((chargeUnit_keeps ..).of _ e2).mono rfl) ((setFld_ext ..).mono rfl)
        · exact (arrive_ext ..).after rfl <| ((chargeUnit_keeps ..).of _ e2).mono rfl

theorem execTransferIssue_keeps (iss : Issue) (s : State) : Keeps 195 s (execTransferIssue iss s) := by
  unfold execTransferIssue
  dsimp only
  split
  · split
    · exact .ite (atDomain_keeps ((issueXfer_ext ..).mono rfl)) (.next (.refl _ _))
    · exact .next (.refl _ _)
  · split
    · exact .next (.refl _ _)
    · exact atDomain_keeps ((issueXfer_ext ..).after rfl <| (addXfer_ext ..).mono rfl)

theorem countSlot_ext (s : State) (x : Xfer) : Ext 32 s (countSlot s x) := by
  unfold countSlot
  dsimp only
  split
  · exact .refl _ _
  · exact .withMem rfl rfl (.refl _ _)

theorem serveXfer_ext (s : State) (link : Bool) (id : Nat) (x : Xfer) : Ext 1387 s (serveXfer s link id x) := by
  unfold serveXfer
  dsimp only
  exact (setXfer_ext ..).after rfl <| (memAccess_ext ..).after rfl <| (countSlot_ext ..).mono rfl

theorem performXfer_keeps (s : State) (id : Nat) (link : Bool) (kind : Access → Bool) (tp : Bool) :
    Keeps 1387 s (performXfer s id link kind tp) := by
  unfold performXfer
  dsimp only
  split
  · exact .next (.refl _ _)
  · exact .ite (atDomain_keeps ((serveXfer_ext ..).mono rfl)) (.next (.refl _ _))

theorem serveBefore_ext (k : Nat) (x : Xfer) : ∀ s : State, Ext 1387 s (serveBefore k x s) := by
  induction k with
  | zero => exact fun s => .refl _ s
  | succ k ih =>
    intro s
    unfold serveBefore
    split
    · exact .refl _ _
    · exact .trans (serveXfer_ext ..) (ih _)

theorem takeTurn_ext (s : State) (q : Req) : Ext 1387 s (takeTurn s q) := by
  unfold takeTurn
  dsimp only
  exact (countSlot_ext ..).after rfl <| (serveBefore_ext ..).mono rfl

theorem accessNow_ext (s : State) (q : Req) : Ext 1387 s (accessNow s q).2 :=
  (memAccess_ext ..).after rfl <| (takeTurn_ext ..).mono rfl

theorem mgmtCharge_ext (s : State) (fpa : Nat) : Ext 2 s (mgmtCharge s fpa) :=
  .ite ((addCtr_ext ..).mono rfl) (.refl _ _)

theorem mgmtModify_ext (s : State) (fpa : Nat) (f : Line → Option Line) : Ext 1387 s (mgmtModify s fpa f).2 := by
  unfold mgmtModify
  dsimp only
  split
  · split
    · rename_i e2
      exact .of_snd e2 ((scAccess_ext ..).after rfl <| (takeTurn_ext ..).after rfl <| (mgmtCharge_ext ..).mono rfl)
    · rename_i e3
      exact .of_snd e3 ((scAccess_ext ..).after rfl <| (takeTurn_ext ..).after rfl <| (mgmtCharge_ext ..).mono rfl)
  · exact (takeTurn_ext ..).after rfl <| (mgmtCharge_ext ..).mono rfl

theorem mgmtAccess_ext (s : State) (fpa : Nat) (acc : Access) : Ext 1387 s (mgmtAccess s fpa acc).2 :=
  (accessNow_ext ..).after rfl <| (mgmtCharge_ext ..).mono rfl

theorem execScRead_keeps (id : Nat) (linkBad : Bool) (s : State) : Keeps 1387 s (execScRead id linkBad s) :=
  (performXfer_keeps ..).mono rfl

theorem execScFullWrite_keeps (id : Nat) (s : State) : Keeps 1387 s (execScFullWrite id s) :=
  (performXfer_keeps ..).mono rfl

theorem execScPartialWrite_keeps (id : Nat) (linkBad : Bool) (s : State) : Keeps 1387 s (execScPartialWrite id linkBad s) :=
  (performXfer_keeps ..).mono rfl

theorem execAtomicAdd_keeps (id : Nat) (s : State) : Keeps 1387 s (execAtomicAdd id s) :=
  (performXfer_keeps ..).mono rfl

theorem execAtomicSwap_keeps (id : Nat) (s : State) : Keeps 1387 s (execAtomicSwap id s) :=
  (performXfer_keeps ..).mono rfl

theorem execAtomicCas_keeps (id : Nat) (s : State) : Keeps 1387 s (execAtomicCas id s) :=
  (performXfer_keeps ..).mono rfl

theorem execAtomicUmin_keeps (id : Nat) (s : State) : Keeps 1387 s (execAtomicUmin id s) :=
  (performXfer_keeps ..).mono rfl

theorem execAtomicUmax_keeps (id : Nat) (s : State) : Keeps 1387 s (execAtomicUmax id s) :=
  (performXfer_keeps ..).mono rfl

theorem execAtomicAnd_keeps (id : Nat) (s : State) : Keeps 1387 s (execAtomicAnd id s) :=
  (performXfer_keeps ..).mono rfl

theorem execAtomicOr_keeps (id : Nat) (s : State) : Keeps 1387 s (execAtomicOr id s) :=
  (performXfer_keeps ..).mono rfl

theorem execAtomicXor_keeps (id : Nat) (s : State) : Keeps 1387 s (execAtomicXor id s) :=
  (performXfer_keeps ..).mono rfl

theorem execTidepoolRead_keeps (id : Nat) (s : State) : Keeps 1387 s (execTidepoolRead id s) :=
  (performXfer_keeps ..).mono rfl

theorem execTidepoolWrite_keeps (id : Nat) (s : State) : Keeps 1387 s (execTidepoolWrite id s) :=
  (performXfer_keeps ..).mono rfl

theorem execTidepoolScrubVisit_keeps (bank : Fin 512) (word : BitVec 15) (s : State) : Keeps 1058 s (execTidepoolScrubVisit bank word s) :=
  atDomain_keeps ((tpCheck_ext ..).mono rfl)

/-! ### Regul -/

theorem startWindow_ext (s : State) (r : Nat) : Ext 192 s (startWindow s r) :=
  .withXl rfl ((setRegul_ext ..).mono rfl)

theorem enterMissing_ext (s : State) (r : Nat) (ien : Bool) : Ext 257 s (enterMissing s r ien) :=
  .when ((setFld_ext ..).mono rfl) (.when ((setFlag_ext ..).after rfl <| (setFld_ext ..).mono rfl) ((raiseSrc_ext ..).mono rfl))

theorem judgeWindow_ext (s : State) (r : Nat) : Ext 387 s (judgeWindow s r) :=
  .ite (.refl _ _) (.ite ((enterMissing_ext ..).after rfl <| (setRegul_ext ..).after rfl <| .ite
    ((incCtr_ext ..).after rfl <| .ite ((incCtr_ext ..).mono rfl) (.refl _ _)) (.refl _ _))
    (.ite ((setRegul_ext ..).after rfl <| .ite ((incCtr_ext ..).after rfl <| .ite ((incCtr_ext ..).mono rfl) (.refl _ _)) (.refl _ _))
    ((setRegul_ext ..).after rfl <| .ite ((incCtr_ext ..).after rfl <| .ite ((incCtr_ext ..).mono rfl) (.refl _ _)) (.refl _ _))))

theorem execRegWindowEnd_keeps (r : Fin 256) (s : State) : Keeps 451 s (execRegWindowEnd r s) :=
  atDomain_keeps ((startWindow_ext ..).after rfl <| (judgeWindow_ext ..).mono rfl)

theorem presentUrg_ext (s : State) (r urg : Nat) : Ext 192 s (presentUrg s r urg) :=
  .when ((setRegul_ext ..).mono rfl) (.withXl rfl (.refl _ _))

theorem execUrgUpgrade_keeps (r : Fin 256) (b : ReadBuffer) (s : State) : Keeps 192 s (execUrgUpgrade r b s) :=
  atDomain_keeps ((presentUrg_ext ..).mono rfl)

/-! ### Events -/

theorem setRingWait_ext (s : State) (c : Nat) (l : List RingRec) : Ext 4096 s (setRingWait s c l) :=
  .withOb rfl (.refl _ _)

theorem putRing_ext (s : State) (c : Nat) (r : RingRec) : Ext 257 s (putRing s c r).2 := by
  unfold putRing
  refine .ite_snd ((setFlag_ext ..).mono rfl) ?_
  dsimp only
  exact .ite_snd ((raiseSrc_ext ..).after rfl <| (setFld_ext ..).after rfl <| (hostWrite_ext ..).mono rfl)
    ((setFlag_ext ..).after rfl <| (setFlag_ext ..).after rfl <| (hostWrite_ext ..).mono rfl)

theorem flushRing_ext (k : Nat) : ∀ (s : State) (c : Nat), Ext 4353 s (flushRing k s c) := by
  induction k with
  | zero => exact fun s _ => .refl _ s
  | succ k ih =>
    intro s c
    unfold flushRing
    split
    · exact .refl _ _
    · exact .ite (.trans ((setRingWait_ext ..).after rfl ((putRing_ext ..).mono rfl)) (ih _ _)) ((putRing_ext ..).mono rfl)

theorem sendRing_ext (s : State) (c : Nat) (r : RingRec) : Ext 4355 s (sendRing s c r) := by
  unfold sendRing
  refine .ite ?_ (.ite ((incCtr_ext ..).mono rfl) ((setRingWait_ext ..).after rfl <| (setFlag_ext ..).mono rfl))
  dsimp only
  exact .unless ((putRing_ext ..).mono rfl) ((setRingWait_ext ..).mono rfl)

theorem setWaits_ext (s : State) (c : Nat) (l : List EvWait) : Ext 4096 s (setWaits s c l) :=
  .withOb rfl (.refl _ _)

theorem finishWait_ext (s : State) (c : Nat) (w : EvWait) (kind value : Nat) : Ext 4355 s (finishWait s c w kind value) :=
  .ite ((emit_ext ..).mono rfl) ((sendRing_ext ..).mono rfl)

theorem finishWaits_ext (s : State) (c e kind value : Nat) (p : EvWait → Bool) : Ext 4355 s (finishWaits s c e kind value p) :=
  .fold (fun _ _ => (finishWait_ext ..).mono rfl) ((setWaits_ext ..).mono rfl)

theorem evAccess_ext (s : State) (c e : Nat) (acc : Access) : Ext 1387 s (evAccess s c e acc).2 :=
  (mgmtAccess_ext ..).mono rfl

theorem evValue_ext (s : State) (c e : Nat) : Ext 1387 s (evValue s c e).2 := by
  unfold evValue
  split
  · rename_i e1
    exact .of_snd e1 ((evAccess_ext ..).mono rfl)
  · rename_i e2
    exact .of_snd e2 ((evAccess_ext ..).mono rfl)

theorem applySignal_ext (s : State) (c e v src : Nat) : Ext 5483 s (applySignal s c e v src) := by
  unfold applySignal
  dsimp only
  split
  · rename_i e1
    exact .ite (.ite ((finishWaits_ext ..).after rfl <| .of_snd e1 ((evAccess_ext ..).mono rfl))
      ((finishWaits_ext ..).after rfl <| (setFld_ext ..).after rfl <| (setFlag_ext ..).after rfl <| .of_snd e1
      ((evAccess_ext ..).mono rfl))) ((setFld_ext ..).after rfl <| (setFld_ext ..).after rfl <| (incCtr_ext ..).after rfl <|
      (setFlag_ext ..).after rfl <| .of_snd e1 ((evAccess_ext ..).mono rfl))
  · rename_i e2
    exact (setFlag_ext ..).after rfl <| (incCtr_ext ..).after rfl <| .of_snd e2 ((evAccess_ext ..).mono rfl)

theorem signalEvent_ext (s : State) (c e v src : Nat) : Ext 5483 s (signalEvent s c e v src) :=
  .ite (.refl _ _) (.ite ((applySignal_ext ..).mono rfl) ((incCtr_ext ..).mono rfl))

theorem execEventSignal_keeps (c : CoveId) (e : BitVec 16) (v : Dword) (s : State) : Keeps 5483 s (execEventSignal c e v s) :=
  atDomain_keeps ((signalEvent_ext ..).mono rfl)

theorem installWait_ext (s : State) (c : Nat) (w : EvWait) : Ext 5483 s (installWait s c w) := by
  unfold installWait
  dsimp only
  split
  · rename_i e1
    exact (finishWaits_ext ..).after rfl <| .of_snd e1 ((evValue_ext ..).after rfl <| (setWaits_ext ..).mono rfl)
  · rename_i e1
    exact .of_snd e1 ((evValue_ext ..).after rfl <| (setWaits_ext ..).mono rfl)

theorem resetEvent_ext (s : State) (c e : Nat) : Ext 5483 s (resetEvent s c e) := by
  unfold resetEvent
  dsimp only
  exact (finishWaits_ext ..).after rfl <| (evAccess_ext ..).mono rfl

theorem evOp_keeps {m : Nat} {s : State} {q : Requester} {c : Nat} {f : State → State} (h : Ext m s (f s))
    (hm : 1347 &&& m = 1347) : Keeps m s (evOp s q c f) :=
  atWindow_keeps (.ite h ((setFlag_ext ..).mono (sub_trans rfl hm))) hm

theorem execEvOpSignal_keeps (q : Requester) (c : CoveId) (s : State) : Keeps 5483 s (execEvOpSignal q c s) :=
  evOp_keeps ((applySignal_ext ..).mono rfl) rfl

theorem execEvOpWait_keeps (q : Requester) (c : CoveId) (s : State) : Keeps 5483 s (execEvOpWait q c s) :=
  evOp_keeps (.ite ((installWait_ext ..).mono rfl) ((setFlag_ext ..).mono rfl)) rfl

theorem execEvOpReset_keeps (q : Requester) (c : CoveId) (s : State) : Keeps 5483 s (execEvOpReset q c s) :=
  evOp_keeps ((resetEvent_ext ..).mono rfl) rfl

theorem execEvOpRead_keeps (q : Requester) (c : CoveId) (s : State) : Keeps 1387 s (execEvOpRead q c s) := by
  unfold execEvOpRead
  refine evOp_keeps ?_ rfl
  dsimp only
  exact (setFld64_ext ..).after rfl <| (evValue_ext ..).mono rfl

theorem execEvCringCons_keeps (q : Requester) (c : CoveId) (v : Word) (s : State) : Keeps 5443 s (execEvCringCons q c v s) :=
  atWindow_keeps ((flushRing_ext ..).after rfl <| .ite ((setFld_ext ..).after rfl <| .when
    (.when (.ite ((setFlag_ext ..).mono rfl) (.refl _ _)) ((setFlag_ext ..).mono rfl)) ((setFlag_ext ..).mono rfl))
    ((setFlag_ext ..).after rfl <| .when (.when (.ite ((setFlag_ext ..).mono rfl) (.refl _ _)) ((setFlag_ext ..).mono rfl))
    ((setFlag_ext ..).mono rfl))) rfl

theorem execEvCringBase_keeps (q : Requester) (c : CoveId) (v : Word) (s : State) : Keeps 4353 s (execEvCringBase q c v s) :=
  atFabric_keeps ((flushRing_ext ..).after rfl <| (setFld_ext ..).after rfl <| (setFlag_ext ..).mono rfl)

theorem execCpEventSignal_keeps (c : CoveId) (e : BitVec 16) (v : Dword) (tag : BitVec 22) (s : State) :
    Keeps 5483 s (execCpEventSignal c e v tag s) :=
  .ite (.next (.refl _ _)) (.ite (atDomain_keeps ((emit_ext ..).after rfl <| (applySignal_ext ..).mono rfl))
    (atDomain_keeps ((emit_ext ..).mono rfl)))

theorem execCpEventWait_keeps (c : CoveId) (e : BitVec 16) (v : Dword) (tag : BitVec 22) (s : State) :
    Keeps 5483 s (execCpEventWait c e v tag s) :=
  .ite (.next (.refl _ _)) (.ite (atDomain_keeps ((installWait_ext ..).after rfl <| (emit_ext ..).mono rfl))
    (atDomain_keeps ((emit_ext ..).mono rfl)))

/-! ### Objects -/

theorem getEnt_ext (s : State) (c h : Nat) : Ext 1387 s (getEnt s c h).2 := by
  unfold getEnt
  refine .ite_snd (.refl _ _) ?_
  dsimp only
  split
  · rename_i e1
    exact .of_snd e1 ((mgmtAccess_ext ..).mono rfl)
  · rename_i e2
    exact .of_snd e2 ((mgmtAccess_ext ..).mono rfl)

theorem modEnt_ext (s : State) (c h : Nat) (f : ObjEnt → Option ObjEnt) : Ext 1387 s (modEnt s c h f).2 := by
  unfold modEnt
  refine .ite_snd (.refl _ _) ?_
  dsimp only
  exact (mgmtModify_ext ..).mono rfl

theorem modRef_ext (s : State) (c r : Nat) (f : ObjEnt → Option ObjEnt) : Ext 1387 s (modRef s c r f).2 := by
  unfold modRef
  dsimp only
  exact (modEnt_ext ..).mono rfl

theorem setHeads_ext (s : State) (c : Nat) (h : ObHeads) : Ext 4096 s (setHeads s c h) :=
  .withOb rfl (.refl _ _)

theorem dropLookup_ext (s : State) (c h : Nat) : Ext 4096 s (dropLookup s c h) :=
  .withOb rfl (.refl _ _)

theorem refEnt_ext (s : State) (c r : Nat) : Ext 1387 s (refEnt s c r).2 := by
  unfold refEnt
  split
  · rename_i e1
    exact .of_snd e1 ((getEnt_ext ..).mono rfl)
  · rename_i e1
    exact .of_snd e1 ((getEnt_ext ..).mono rfl)

theorem countLive_ext (s : State) (c : Nat) (live zombie : ℤ) : Ext 1 s (countLive s c live zombie) :=
  (setFld_ext ..).after rfl <| (setFld_ext ..).mono rfl

theorem reclaimed_ext (s : State) (c h : Nat) (e : ObjEnt) : Ext 5483 s (reclaimed s c h e) :=
  .ite (.refl _ _) (.when ((countLive_ext ..).after rfl <| .ite ((setHeads_ext ..).after rfl <| (dropLookup_ext ..).mono rfl)
    ((setHeads_ext ..).after rfl <| (modEnt_ext ..).after rfl <| (dropLookup_ext ..).mono rfl)) ((signalEvent_ext ..).mono rfl))

theorem incDev_ext (s : State) (c h : Nat) : Ext 1387 s (incDev s c h).2 := by
  unfold incDev
  split
  · rename_i e1
    exact .ite ((incCtr_ext ..).after rfl <| .of_snd e1 ((modEnt_ext ..).mono rfl)) (.of_snd e1 ((modEnt_ext ..).mono rfl))
  · rename_i e1
    exact .of_snd e1 ((modEnt_ext ..).mono rfl)

theorem decDev_ext (s : State) (c h : Nat) : Ext 5483 s (decDev s c h) := by
  unfold decDev
  split
  · rename_i e1
    exact .ite (.of_snd e1 ((modEnt_ext ..).mono rfl)) ((reclaimed_ext ..).after rfl <| .of_snd e1 ((modEnt_ext ..).mono rfl))
  · rename_i e1
    exact .of_snd e1 ((modEnt_ext ..).mono rfl)

theorem incAll_ext (s : State) (c : Nat) (hs : List Nat) : Ext 5483 s (incAll s c hs).2 := by
  unfold incAll
  dsimp only
  refine .fold_snd (fun a h => ?_) (.refl _ _)
  split
  · exact .refl _ _
  · dsimp only
    split
    · rename_i e1
      exact .of_snd e1 ((incDev_ext ..).mono rfl)
    · rename_i e1
      exact .fold (fun _ _ => (decDev_ext ..).mono rfl) (.of_snd e1 ((incDev_ext ..).mono rfl))

theorem obAnswer_ext (s : State) (q : Requester) (c : Nat) (a : ObAns) : Ext 1 s (obAnswer s q c a) :=
  .when ((setFld_ext ..).after rfl <| (setFld_ext ..).after rfl <| (setFld_ext ..).after rfl <| (setFlag_ext ..).mono rfl)
    ((unclean_ext ..).mono rfl)

theorem obCmd_keeps {m : Nat} {s : State} {q : Requester} {c : Nat} {f : State → ObAns × State} (h : Ext m s (f s).2)
    (hm : 1347 &&& m = 1347) : Keeps m s (obCmd s q c f) := by
  unfold obCmd
  dsimp only
  exact atWindow_keeps ((obAnswer_ext ..).after (sub_trans rfl hm) (.ite_snd h (.refl _ _))) hm

theorem create_ext (s : State) (c base ctx : Nat) (anyctx : Bool) (size : Nat) : Ext 5483 s (create s c base ctx anyctx size).2 := by
  unfold create
  refine .ite_snd (.refl _ _) (.ite_snd ((incCtr_ext ..).mono rfl) ?_)
  dsimp only
  split
  · rename_i e1
    exact (countLive_ext ..).after rfl <| (setHeads_ext ..).after rfl <| .of_snd e1 ((modEnt_ext ..).mono rfl)
  · rename_i e1
    exact .of_snd e1 ((modEnt_ext ..).mono rfl)

theorem execObCreate_keeps (q : Requester) (c : CoveId) (s : State) : Keeps 5483 s (execObCreate q c s) :=
  obCmd_keeps ((create_ext ..).mono rfl) rfl

theorem execObHold_keeps (q : Requester) (c : CoveId) (s : State) : Keeps 1387 s (execObHold q c s) := by
  unfold execObHold
  refine obCmd_keeps ?_ rfl
  split
  · rename_i e1
    exact .ite_snd (.of_snd e1 ((modRef_ext ..).mono rfl)) (.ite ((incCtr_ext ..).after rfl <| .of_snd e1 ((modRef_ext ..).mono rfl))
      (.of_snd e1 ((modRef_ext ..).mono rfl)))
  · rename_i e1
    exact .of_snd e1 ((modRef_ext ..).mono rfl)

theorem execObDrop_keeps (q : Requester) (c : CoveId) (s : State) : Keeps 5483 s (execObDrop q c s) := by
  unfold execObDrop
  refine obCmd_keeps ?_ rfl
  dsimp only
  split
  · rename_i e1
    exact .ite_snd (.of_snd e1 ((modRef_ext ..).mono rfl)) (.ite_snd (.of_snd e1 ((modRef_ext ..).mono rfl))
      (.ite_snd (.of_snd e1 ((modRef_ext ..).mono rfl)) ((reclaimed_ext ..).after rfl <| .of_snd e1 ((modRef_ext ..).mono rfl))))
  · rename_i e1
    exact .of_snd e1 ((modRef_ext ..).mono rfl)

theorem execObFree_keeps (q : Requester) (c : CoveId) (s : State) : Keeps 5483 s (execObFree q c s) := by
  unfold execObFree
  refine obCmd_keeps ?_ rfl
  dsimp only
  split
  · rename_i e1
    exact .ite_snd (.of_snd e1 ((modRef_ext ..).mono rfl)) (.ite_snd (.of_snd e1 ((modRef_ext ..).mono rfl))
      ((reclaimed_ext ..).after rfl <| (countLive_ext ..).after rfl <| (dropLookup_ext ..).after rfl <| .of_snd e1
      ((modRef_ext ..).mono rfl)))
  · rename_i e1
    exact .of_snd e1 ((modRef_ext ..).mono rfl)

theorem execObQuery_keeps (q : Requester) (c : CoveId) (s : State) : Keeps 1387 s (execObQuery q c s) := by
  unfold execObQuery
  refine obCmd_keeps ?_ rfl
  split
  · rename_i e1
    exact .of_snd e1 ((refEnt_ext ..).mono rfl)
  · rename_i e1
    exact .of_snd e1 ((refEnt_ext ..).mono rfl)

theorem setGraph_ext (s : State) (c i : Nat) (g : GraphSlot) : Ext 4096 s (setGraph s c i g) :=
  .withOb rfl (.refl _ _)

theorem execGSet_keeps (q : Requester) (c : CoveId) (s : State) : Keeps 5483 s (execGSet q c s) := by
  unfold execGSet
  refine obCmd_keeps ?_ rfl
  dsimp only
  split
  · rename_i e1
    refine .ite_snd (.of_snd e1 ((refEnt_ext ..).mono rfl)) (.ite_snd (.of_snd e1 ((refEnt_ext ..).mono rfl)) ?_)
    split
    · rename_i e2
      exact .of_snd e2 ((incDev_ext ..).after rfl <| .of_snd e1 ((refEnt_ext ..).mono rfl))
    · rename_i e2
      refine (setGraph_ext ..).after rfl ?_
      split
      · exact (decDev_ext ..).after rfl <| .of_snd e2 ((incDev_ext ..).after rfl <| .of_snd e1 ((refEnt_ext ..).mono rfl))
      · exact .of_snd e2 ((incDev_ext ..).after rfl <| .of_snd e1 ((refEnt_ext ..).mono rfl))
  · rename_i e1
    exact .of_snd e1 ((refEnt_ext ..).mono rfl)

theorem execGClear_keeps (q : Requester) (c : CoveId) (s : State) : Keeps 5483 s (execGClear q c s) := by
  unfold execGClear
  refine obCmd_keeps ((setGraph_ext ..).after rfl ?_) rfl
  split
  · exact (decDev_ext ..).mono rfl
  · exact .refl _ _

theorem execObAreaEnable_keeps (q : Requester) (c : CoveId) (v : Word) (s : State) : Keeps 1 s (execObAreaEnable q c v s) :=
  atFabric_keeps (.ite (.refl _ _) (.ite ((setFlag_ext ..).after rfl <| (setFlag_ext ..).after rfl <| (setFld_ext ..).after rfl <|
    (setFld_ext ..).mono rfl) ((setFlag_ext ..).after rfl <| (setFld_ext ..).after rfl <| (setFld_ext ..).mono rfl)))

theorem initLine_ext (s : State) (fpa : Nat) (l : Line) : Ext 1387 s (initLine s fpa l) := by
  unfold initLine
  dsimp only
  split
  · exact .when ((takeTurn_ext ..).after rfl <| (mgmtCharge_ext ..).mono rfl) ((sendLineTo_ext ..).mono rfl)
  · exact (takeTurn_ext ..).after rfl <| (mgmtCharge_ext ..).mono rfl

theorem zeroArea_ext (s : State) (c off n : Nat) : Ext 1387 s (zeroArea s c off n) :=
  .fold (fun _ _ => (initLine_ext ..).mono rfl) (.refl _ _)

theorem chainArea_ext (s : State) (c : Nat) : Ext 1387 s (chainArea s c) :=
  .fold (fun _ _ => (initLine_ext ..).mono rfl) (.refl _ _)

theorem execObAreaInitDone_keeps (c : CoveId) (s : State) : Keeps 5483 s (execObAreaInitDone c s) :=
  .ite (.next (.refl _ _)) (atDomain_keeps ((setFlag_ext ..).after rfl <| (setFlag_ext ..).after rfl <| (setHeads_ext ..).after rfl <|
    (chainArea_ext ..).after rfl <| (zeroArea_ext ..).mono rfl))

theorem lookupPort_ext (s : State) (c ctx r ofs : Nat) : Ext 5483 s (lookupPort s c ctx r ofs) := by
  unfold lookupPort
  dsimp only
  split
  · refine .ite ((emit_ext ..).after rfl ?_) (.ite ((emit_ext ..).after rfl <| .withOb rfl ?_)
      (.ite ((emit_ext ..).after rfl <| .withOb rfl ?_) ((emit_ext ..).after rfl <| .withOb rfl ?_)))
    · split
      · exact .refl _ _
      · exact (getEnt_ext ..).mono rfl
    · split
      · exact .refl _ _
      · exact (getEnt_ext ..).mono rfl
    · split
      · exact .refl _ _
      · exact (getEnt_ext ..).mono rfl
    · split
      · exact .refl _ _
      · exact (getEnt_ext ..).mono rfl
  · refine (emit_ext ..).after rfl ?_
    split
    · exact .refl _ _
    · exact (getEnt_ext ..).mono rfl

theorem execCpLookup_keeps (c : CoveId) (ctx : BitVec 12) (href : Word) (ofs : BitVec 48) (s : State) :
    Keeps 5483 s (execCpLookup c ctx href ofs s) :=
  .ite (.next (.refl _ _)) (.ite (atDomain_keeps ((lookupPort_ext ..).mono rfl)) (atDomain_keeps ((emit_ext ..).mono rfl)))

theorem setQueue_ext (s : State) (c q : Nat) (v : Queue) : Ext 4096 s (setQueue s c q v) :=
  .withOb rfl (.refl _ _)

theorem execQCreate_keeps (q : Requester) (c : CoveId) (s : State) : Keeps 5443 s (execQCreate q c s) :=
  obCmd_keeps (.ite_snd (.refl _ _) (.ite_snd (.refl _ _) (.ite_snd (.refl _ _)
    (.ite_snd (.refl _ _) ((setFlag_ext ..).after rfl <| (setQueue_ext ..).mono rfl))))) rfl

theorem checkRef_ext (s : State) (c ctx r : Nat) : Ext 1387 s (checkRef s c ctx r).2 := by
  unfold checkRef
  split
  · rename_i e1
    exact .of_snd e1 ((refEnt_ext ..).mono rfl)
  · rename_i e1
    exact .of_snd e1 ((refEnt_ext ..).mono rfl)

theorem checkRefs_ext (c ctx : Nat) (l : List Nat) : ∀ s : State, Ext 1387 s (checkRefs s c ctx l).2 := by
  induction l with
  | nil => exact fun s => .refl _ s
  | cons r rs ih =>
    intro s
    unfold checkRefs
    split
    · rename_i e
      exact .trans (.of_snd e (checkRef_ext ..)) (ih _)
    · rename_i e
      exact .of_snd e (checkRef_ext ..)

theorem imageOf_ext (s : State) (c i : Nat) : Ext 1387 s (imageOf s c i).2 := by
  unfold imageOf
  dsimp only
  split
  · exact .refl _ _
  · split
    · rename_i e2
      exact .of_snd e2 ((getEnt_ext ..).mono rfl)
    · rename_i e2
      exact .of_snd e2 ((getEnt_ext ..).mono rfl)

theorem subStatus_ext (s : State) (c : Nat) (e : Sub) : Ext 1387 s (subStatus s c e).2 := by
  unfold subStatus
  refine .ite_snd (.refl _ _) (.ite_snd (.refl _ _) (.ite_snd (.refl _ _)
    (.ite_snd (.refl _ _) (.ite_snd (.refl _ _) (.ite_snd (.refl _ _) ?_)))))
  split
  · rename_i e1
    exact .ite_snd (.of_snd e1 ((checkRefs_ext ..).mono rfl)) (.of_snd e1 ((checkRefs_ext ..).mono rfl))
  · rename_i e2
    exact .of_snd e2 ((checkRefs_ext ..).mono rfl)

theorem acceptSub_ext (s : State) (c : Nat) (e : Sub) (l : Line) (now : Nat) : Ext 5483 s (acceptSub s c e l now).2 := by
  unfold acceptSub
  dsimp only
  split
  · rename_i e1
    exact .of_snd e1 ((incAll_ext ..).after rfl <| .ite_snd ((imageOf_ext ..).mono rfl) (.refl _ _))
  · rename_i e1
    exact (unclean_ext ..).after rfl <| (setQueue_ext ..).after rfl <| .withOb rfl
      ((mgmtAccess_ext ..).after rfl <| .of_snd e1 ((incAll_ext ..).after rfl <| .ite_snd ((imageOf_ext ..).mono rfl) (.refl _ _)))

theorem execCpSubmit_keeps (c : CoveId) (entry : Line) (now : Nat) (s : State) : Keeps 5483 s (execCpSubmit c entry now s) := by
  unfold execCpSubmit
  refine .ite (.next (.refl _ _)) ?_
  dsimp only
  refine atDomain_keeps ((emit_ext ..).after rfl ?_)
  split
  · rename_i e1
    exact (acceptSub_ext ..).after rfl <| .of_snd e1 ((subStatus_ext ..).mono rfl)
  · exact (subStatus_ext ..).mono rfl

theorem execDoorbellWrite_keeps (q : Requester) (c : CoveId) (queue : Idx64) (v : Word) (s : State) :
    Keeps 1347 s (execDoorbellWrite q c queue v s) :=
  atWindow_keeps (.ite (.refl _ _) ((emit_ext ..).mono rfl)) rfl

theorem dropRefs_ext (s : State) (c : Nat) (e : QEntry) : Ext 5483 s (dropRefs s c e) :=
  .fold (fun _ _ => (decDev_ext ..).mono rfl) (.refl _ _)

theorem takeSlot_keeps (s : State) (c ctx : Nat) : KeepsSome 4096 s (takeSlot s c ctx) := by
  unfold takeSlot
  refine .ite (.some (.withOb rfl (.refl _ _))) ?_
  dsimp only
  split
  · exact .some (.withOb rfl (.refl _ _))
  · exact .none

theorem serveWaiters_ext (k : Nat) : ∀ s : State, Ext 4096 s (serveWaiters k s) := by
  induction k with
  | zero => exact fun s => .refl _ s
  | succ k ih =>
    intro s
    unfold serveWaiters
    split
    · exact .refl _ _
    · split
      · rename_i e
        exact .trans (.withOb rfl ((takeSlot_keeps ..).of _ e)) (ih _)
      · exact .refl _ _

theorem retrySlots_ext (s : State) : Ext 4096 s (retrySlots s) :=
  (serveWaiters_ext ..).mono rfl

theorem execSlotRequest_keeps (c : CoveId) (ctx : BitVec 12) (s : State) : Keeps 4096 s (execSlotRequest c ctx s) :=
  .ite (.next (.refl _ _)) (atDomain_keeps ((retrySlots_ext ..).after rfl <| .withOb rfl (.refl _ _)))

theorem saveRecord_ext (s : State) (c ctx : Nat) : Ext 1387 s (saveRecord s c ctx) := by
  unfold saveRecord
  refine .ite (.fold (fun s1 i => ?_) (.refl _ _)) (.refl _ _)
  dsimp only
  exact (mgmtAccess_ext ..).after rfl <| (drawFree_ext ..).mono rfl

theorem loadRecord_ext (s : State) (c ctx : Nat) : Ext 1387 s (loadRecord s c ctx) :=
  .ite (.fold (fun _ _ => (mgmtAccess_ext ..).mono rfl) (.refl _ _)) (.refl _ _)

theorem passSlot_ext (s : State) (x : CtxSlot) (new : List CtxSlot) : Ext 4096 s (passSlot s x new) :=
  .withOb rfl (.refl _ _)

theorem execCtxEvictDone_keeps (c : CoveId) (ctx : BitVec 12) (s : State) : Keeps 5483 s (execCtxEvictDone c ctx s) := by
  unfold execCtxEvictDone
  dsimp only
  split
  · split
    · exact atDomain_keeps ((retrySlots_ext ..).after rfl <| (passSlot_ext ..).after rfl <| (incCtr_ext ..).after rfl <|
        (incCtr_ext ..).after rfl <| (saveRecord_ext ..).mono rfl)
    · exact .next (.refl _ _)
  · exact .next (.refl _ _)

theorem execCtxLoadDone_keeps (c : CoveId) (ctx : BitVec 12) (s : State) : Keeps 5483 s (execCtxLoadDone c ctx s) := by
  unfold execCtxLoadDone
  dsimp only
  split
  · exact .ite (atDomain_keeps ((retrySlots_ext ..).after rfl <| .withOb rfl ((loadRecord_ext ..).mono rfl))) (.next (.refl _ _))
  · exact .next (.refl _ _)

theorem useSlot_ext (s : State) (c ctx : Nat) : Ext 4096 s (useSlot s c ctx) := by
  unfold useSlot
  dsimp only
  split
  · exact .withOb rfl (.refl _ _)
  · exact .refl _ _

theorem leaveSlots_ext (s : State) (p : Nat → Nat → Bool) : Ext 4096 s (leaveSlots s p) :=
  .withOb rfl (.refl _ _)

theorem freeSlot_ext (s : State) (c ctx : Nat) : Ext 4096 s (freeSlot s c ctx) :=
  (retrySlots_ext ..).after rfl <| (leaveSlots_ext ..).mono rfl

/-! ### Xlate -/

theorem setTlb_ext (s : State) (client : Nat) (l : List Leaf) : Ext 64 s (setTlb s client l) :=
  .withXl rfl (.refl _ _)

theorem setL2_ext (s : State) (k : Nat) (l : List Leaf) : Ext 64 s (setL2 s k l) :=
  .withXl rfl (.refl _ _)

theorem l2Put_ext (s : State) (l : Leaf) (dva : Nat) : Ext 64 s (l2Put s l dva) :=
  (setL2_ext ..).mono rfl

theorem wcPut_ext (s : State) (e : WalkEnt) : Ext 64 s (wcPut s e) :=
  .withXl rfl (.refl _ _)

theorem lookup_ext (s : State) (client cove ctx dva len : Nat) (acc : Access) : Ext 66 s (lookup s client cove ctx dva len acc).2 := by
  unfold lookup
  refine .ite_snd (.refl _ _) (.ite_snd (.refl _ _) ?_)
  dsimp only
  split
  · exact (setTlb_ext ..).mono rfl
  · split
    · exact .when ((l2Put_ext ..).mono rfl) ((setTlb_ext ..).mono rfl)
    · exact (incCtr_ext ..).mono rfl

theorem forget_ext (s : State) (client cove ctx dva : Nat) : Ext 64 s (forget s client cove ctx dva) :=
  .fold (fun _ _ => (setL2_ext ..).mono rfl) (.ite ((setTlb_ext ..).mono rfl) (.refl _ _))

theorem queueMiss_keeps (s : State) (m : Miss) : KeepsSome 64 s (queueMiss s m) :=
  .ite (.some (.withXl rfl (.refl _ _))) .none

theorem missXfer_ext (s : State) (id : Nat) (x : Xfer) : Ext 64 s (missXfer s id x) := by
  unfold missXfer
  split
  · rename_i e1
    exact (setXfer_ext ..).after rfl <| ((queueMiss_keeps ..).of _ e1).mono rfl
  · exact (setXfer_ext ..).mono rfl

theorem admitMisses_ext (s : State) : Ext 64 s (admitMisses s) :=
  .fold (fun _ _ => .ite ((missXfer_ext ..).mono rfl) (.refl _ _)) (.refl _ _)

theorem setWalk_ext (s : State) (id : Nat) (w : Walk) : Ext 64 s (setWalk s id w) :=
  .withXl rfl (.refl _ _)

theorem delWalk_ext (s : State) (id : Nat) : Ext 64 s (delWalk s id) :=
  .withXl rfl (.refl _ _)

theorem execWalkStart_keeps (s : State) : Keeps 66 s (execWalkStart s) := by
  unfold execWalkStart
  dsimp only
  split
  · exact .next (.refl _ _)
  · exact .ite (.next (.refl _ _)) (.ite (.next ((admitMisses_ext ..).after rfl <| .withXl rfl (.refl _ _)))
      (.next ((emit_ext ..).after rfl <| .withXl rfl ((setWalk_ext ..).after rfl <| (incCtr_ext ..).after rfl <| (incCtr_ext ..).after rfl
      <| (admitMisses_ext ..).after rfl <| .withXl rfl (.refl _ _)))))

theorem dlDrop_ext (s : State) (p : DirtyLine → Bool) : Ext 64 s (dlDrop s p) :=
  .withXl rfl (.refl _ _)

theorem dlFail_ext (s : State) (c : Nat) : Ext 321 s (dlFail s c) :=
  (raiseSrc_ext ..).after rfl <| (setFld_ext ..).after rfl <| (setFld_ext ..).after rfl <| (setFlag_ext ..).after rfl <|
    (setFlag_ext ..).after rfl <| (setFlag_ext ..).after rfl <| (dlDrop_ext ..).mono rfl

theorem dlWriteBack_ext (s : State) (d : DirtyLine) : Ext 321 s (dlWriteBack s d) := by
  unfold dlWriteBack
  dsimp only
  exact .unless ((hostWrite_ext ..).mono rfl) ((dlFail_ext ..).mono rfl)

theorem dlPut_ext (s : State) (d : DirtyLine) : Ext 321 s (dlPut s d) := by
  unfold dlPut
  refine .ite (.withXl rfl (.refl _ _)) (.ite (.ite ((emit_ext ..).after rfl <| .withXl rfl (.refl _ _)) (.refl _ _)) ?_)
  dsimp only
  split
  · exact .when ((dlWriteBack_ext ..).after rfl <| .withXl rfl (.refl _ _)) ((emit_ext ..).after rfl <| .withXl rfl (.refl _ _))
  · exact .withXl rfl (.refl _ _)

theorem dlMark_ext (s : State) (c page : Nat) : Ext 321 s (dlMark s c page) := by
  unfold dlMark
  dsimp only
  exact (dlPut_ext ..).mono rfl

theorem dlAdmit_ext (s : State) : Ext 321 s (dlAdmit s) :=
  .fold (fun _ _ => (dlPut_ext ..).mono rfl) (.withXl rfl (.refl _ _))

theorem markDirty_ext (s : State) (client cove ctx dva fpa : Nat) (dl : Bool) (acc : Access) (r : Resp) :
    Ext 321 s (markDirty s client cove ctx dva fpa dl acc r) :=
  .ite (.refl _ _) (.ite (.refl _ _) ((dlMark_ext ..).after rfl <| (setTlb_ext ..).mono rfl))

theorem markXfer_ext (s : State) (x : Xfer) (r : Resp) : Ext 321 s (markXfer s x r) := by
  unfold markXfer
  split
  · exact .ite ((markDirty_ext ..).mono rfl) (.refl _ _)
  · exact .refl _ _

theorem execTransferComplete_keeps (id : Nat) (s : State) : Keeps 321 s (execTransferComplete id s) := by
  unfold execTransferComplete
  split
  · split
    · exact atDomain_keeps ((emit_ext ..).after rfl <| (delXfer_ext ..).after rfl <| (markXfer_ext ..).mono rfl)
    · exact .next (.refl _ _)
  · exact .next (.refl _ _)

theorem markPerformed_ext (s : State) (c : Nat) : Ext 321 s (markPerformed s c) := by
  unfold markPerformed
  refine .fold (fun s1 e => ?_) (.refl _ _)
  dsimp only
  split
  · exact .ite ((setXfer_ext ..).after rfl <| (markXfer_ext ..).mono rfl) (.refl _ _)
  · exact .refl _ _

theorem dlToggle_ext (s : State) (c : Nat) (on : Bool) (base : Nat) : Ext 321 s (dlToggle s c on base) :=
  .withXl rfl ((setFld_ext ..).after rfl <| (setFld_ext ..).after rfl <| (setFlag_ext ..).after rfl <| (setFlag_ext ..).after rfl <|
    (setFlag_ext ..).after rfl <| (markPerformed_ext ..).mono rfl)

theorem execXlDlSwap_keeps (q : Requester) (c : CoveId) (s : State) : Keeps 321 s (execXlDlSwap q c s) :=
  atFabric_keeps (.ite (.refl _ _) ((dlToggle_ext ..).mono rfl))

theorem execXlDlStop_keeps (q : Requester) (c : CoveId) (s : State) : Keeps 321 s (execXlDlStop q c s) :=
  atFabric_keeps (.ite (.refl _ _) ((dlToggle_ext ..).mono rfl))

theorem execDirtyLogLineFill_keeps (c : CoveId) (addr : BitVec 64) (data : Line) (s : State) :
    Keeps 321 s (execDirtyLogLineFill c addr data s) :=
  atDomain_keeps ((dlAdmit_ext ..).after rfl <| .withXl rfl (.refl _ _))

theorem execDirtyLogSwapDone_keeps (c : CoveId) (s : State) : Keeps 321 s (execDirtyLogSwapDone c s) :=
  .ite (.next (.refl _ _)) (atDomain_keeps (.when ((dlAdmit_ext ..).after rfl <| .fold
    (fun _ _ => .ite ((dlWriteBack_ext ..).mono rfl) (.refl _ _)) ((dlDrop_ext ..).mono rfl))
    ((raiseSrc_ext ..).after rfl <| (setFlag_ext ..).after rfl <| (setFlag_ext ..).mono rfl)))

theorem execDirtyLogHostError_keeps (c : CoveId) (s : State) : Keeps 321 s (execDirtyLogHostError c s) :=
  .ite (.next (.refl _ _)) (atDomain_keeps ((dlFail_ext ..).mono rfl))

theorem dropCoveXlate_ext (s : State) (c : Nat) : Ext 64 s (dropCoveXlate s c) :=
  .withXl rfl (.refl _ _)

/-! ### Tide -/

theorem setTap_ext (s : State) (t : Nat) (v : Tap) : Ext 16 s (setTap s t v) :=
  .withTide rfl (.refl _ _)

theorem setMaster_ext (s : State) (m : Nat) (v : Master) : Ext 16 s (setMaster s m v) :=
  .withTide rfl (.refl _ _)

theorem loadLag_ext (s : State) (t ofs : Nat) : Ext 17 s (loadLag s t ofs) :=
  .when ((setTap_ext ..).mono rfl) ((setFlag_ext ..).mono rfl)

theorem retune_ext (s : State) (m : Nat) : Ext 17 s (retune s m) := by
  unfold retune
  dsimp only
  exact .fold (fun _ t => (loadLag_ext ..).mono rfl) ((setMaster_ext ..).mono rfl)

theorem countGap_ext (s : State) (m : Nat) : Ext 259 s (countGap s m) :=
  (raiseSrc_ext ..).after rfl <| (setFlag_ext ..).after rfl <| .when ((incCtr_ext ..).mono rfl) ((incCtr_ext ..).mono rfl)

theorem missEdge_ext (s : State) (t : Nat) : Ext 275 s (missEdge s t) :=
  (setTap_ext ..).after rfl <| (countGap_ext ..).mono rfl

theorem armEntry_ext (s : State) (r : ArmReq) : Ext 17 s (armEntry s r) := by
  unfold armEntry
  dsimp only
  split
  · exact (setMaster_ext ..).mono rfl
  · exact (emit_ext ..).after rfl <| .withTide rfl (.ite ((setFlag_ext ..).mono rfl) (.refl _ _))

theorem execSlateArm_keeps (m : TideId) (s : State) : Keeps 17 s (execSlateArm m s) := by
  unfold execSlateArm
  dsimp only
  split
  · exact .next (.refl _ _)
  · exact atDomain_keeps ((armEntry_ext ..).after rfl <| .withTide rfl (.refl _ _))

theorem execTapArmAction_keeps (t : TapId) (e : Idx64) (s : State) : Keeps 16 s (execTapArmAction t e s) := by
  unfold execTapArmAction
  dsimp only
  split
  · exact .ite (atDomain_keeps ((setTap_ext ..).after rfl <| (setMaster_ext ..).mono rfl)) (.next (.refl _ _))
  · exact .next (.refl _ _)

theorem freeEnded_ext (s : State) (m : Nat) : Ext 273 s (freeEnded s m).2 :=
  .when ((setMaster_ext ..).mono rfl) ((raiseSrc_ext ..).after rfl <| (setFlag_ext ..).mono rfl)

theorem markMissed_ext (s : State) (m t : Nat) : Ext 16 s (markMissed s m t) :=
  (setMaster_ext ..).mono rfl

theorem missAck_ext (s : State) (m t : Nat) : Ext 275 s (missAck s m t) :=
  (markMissed_ext ..).after rfl <| .ite (.refl _ _) ((countGap_ext ..).mono rfl)

theorem takeOutcome_ext (s : State) (r : SlateReport) : Ext 18 s (takeOutcome s r) := by
  unfold takeOutcome
  dsimp only
  split
  · exact .withTide rfl (.refl _ _)
  · exact .withTide rfl (.refl _ _)
  · exact .ite ((incCtr_ext ..).mono rfl) (.refl _ _)
  · exact .ite ((incCtr_ext ..).mono rfl) (.refl _ _)
  · exact .refl _ _

theorem cancelSlate_ext (s : State) (m : Nat) : Ext 18 s (cancelSlate s m) :=
  .fold (fun _ _ => (takeOutcome_ext ..).mono rfl) (.withTide rfl (.ite ((setMaster_ext ..).mono rfl) (.refl _ _)))

theorem emitEdge_ext (s : State) (m now : Nat) : Ext 18 s (emitEdge s m now) := by
  unfold emitEdge
  dsimp only
  exact .fold (fun _ t => (setTap_ext ..).mono rfl) (.when ((setMaster_ext ..).mono rfl) ((addCtr_ext ..).mono rfl))

theorem execTapEdgeReceive_keeps (t : TapId) (flips : BitVec 84) (s : State) : Keeps 275 s (execTapEdgeReceive t flips s) := by
  unfold execTapEdgeReceive
  dsimp only
  split
  · exact .next (.refl _ _)
  · exact .ite (.next ((setTap_ext ..).mono rfl)) (.ite (.next ((missEdge_ext ..).mono rfl))
      (.ite (.next ((setTap_ext ..).mono rfl)) (.ite (.next ((missEdge_ext ..).mono rfl)) (.next ((setTap_ext ..).mono rfl)))))

theorem resumeTides_ext (s : State) : Ext 17 s (resumeTides s) :=
  .ite (.refl _ _) ((setFlag_ext ..).after rfl <| (setFlag_ext ..).after rfl <| .withTide rfl (.refl _ _))

theorem execTdResume_keeps (q : Requester) (s : State) : Keeps 17 s (execTdResume q s) :=
  atFabric_keeps ((resumeTides_ext ..).mono rfl)

theorem startCal_ext (s : State) : Ext 1 s (startCal s) :=
  .ite (.refl _ _) ((setFlag_ext ..).mono rfl)

theorem execTdCal_keeps (q : Requester) (s : State) : Keeps 1 s (execTdCal q s) :=
  atFabric_keeps ((startCal_ext ..).mono rfl)

theorem storeCal_ext (s : State) (meas : List CalMeas) : Ext 16 s (storeCal s meas) :=
  .withTide rfl (.refl _ _)

theorem endCal_ext (s : State) (meas : List CalMeas) : Ext 17 s (endCal s meas) :=
  .fold (fun _ _ => .ite ((retune_ext ..).mono rfl) (.refl _ _))
    ((setFlag_ext ..).after rfl <| (setFlag_ext ..).after rfl <| (storeCal_ext ..).mono rfl)

theorem tapTake_ext (s : State) (t src : Nat) : Ext 275 s (tapTake s t src) :=
  .unless ((setTap_ext ..).mono rfl) ((missEdge_ext ..).mono rfl)

theorem startMaster_ext (s : State) (m period : Nat) : Ext 18 s (startMaster s m period) :=
  (setMaster_ext ..).after rfl <| (cancelSlate_ext ..).mono rfl

/-! ### Sched -/

theorem setStep_ext (s : State) (i : Nat) (x : Step) : Ext 8192 s (setStep s i x) :=
  .withSq rfl (.refl _ _)

theorem modStep_ext (s : State) (i : Nat) (f : Step → Step) : Ext 8192 s (modStep s i f) :=
  .withSq rfl (.refl _ _)

theorem delStep_ext (s : State) (i : Nat) : Ext 8192 s (delStep s i) :=
  .withSq rfl (.refl _ _)

theorem setEng_ext (s : State) (u : Nat) (e : Eng) : Ext 8192 s (setEng s u e) :=
  .withSq rfl (.refl _ _)

theorem calm_ext (s : State) (u : Nat) : Ext 128 s (calm s u) := by
  unfold calm
  dsimp only
  split
  · exact (setRegul_ext ..).mono rfl
  · exact .refl _ _

theorem delEng_ext (s : State) (u : Nat) : Ext 8320 s (delEng s u) :=
  (calm_ext ..).after rfl <| .withSq rfl (.refl _ _)

theorem freePort_ext (s : State) (u : Nat) : Ext 8192 s (freePort s u) :=
  .withSq rfl (.refl _ _)

theorem freePorts_ext (s : State) (i : Nat) : Ext 8192 s (freePorts s i) :=
  .withSq rfl (.refl _ _)

theorem chargeCtx_ext (s : State) (c ctx ns : Nat) : Ext 2 s (chargeCtx s c ctx ns) :=
  (addCtr_ext ..).mono rfl

theorem chargeTime_ext (s : State) (c q ctx ns : Nat) : Ext 4098 s (chargeTime s c q ctx ns) :=
  (chargeCtx_ext ..).after rfl <| (addCtr_ext ..).after rfl <| .ite (.refl _ _) ((setQueue_ext ..).mono rfl)

theorem joinVt_ext (s : State) (c q : Nat) : Ext 4096 s (joinVt s c q) := by
  unfold joinVt
  dsimp only
  split
  · exact .refl _ _
  · exact (setQueue_ext ..).mono rfl

theorem gaining_ext {m : Nat} {s : State} {c q : Nat} {f : State → State} (h : Ext m s (f s))
    (hm : 4096 &&& m = 4096) : Ext m s (gaining s c q f) := by
  unfold gaining
  exact .ite h ((joinVt_ext ..).after hm h)

theorem remapSteps_ext (s : State) (c : Nat) (p : Nat → Nat → Bool) : Ext 8192 s (remapSteps s c p) :=
  .fold (fun _ _ => .ite ((modStep_ext ..).mono rfl) (.refl _ _)) (.refl _ _)

theorem rehome_ext (s : State) (c : Nat) : Ext 8192 s (rehome s c) :=
  (remapSteps_ext ..).mono rfl

theorem extendTaps_ext (s : State) (m : Nat) (a : SlateAct) (taps : List Nat) : Ext 16 s (extendTaps s m a taps) :=
  .withTide rfl ((setMaster_ext ..).mono rfl)

theorem joinStart_ext (s : State) (c i : Nat) (far : Bool) : Ext 8209 s (joinStart s c i far) :=
  .ite ((armEntry_ext ..).after rfl <| .withSq rfl (.withSq rfl (.refl _ _)))
    (.ite ((extendTaps_ext ..).after rfl <| .withSq rfl (.refl _ _)) (.withSq rfl (.refl _ _)))

theorem nextStart_ext (s : State) (c : Nat) : Ext 8209 s (nextStart s c) :=
  .unless (.withSq rfl (.refl _ _)) ((armEntry_ext ..).mono rfl)

theorem joinPreempt_ext (s : State) (c i : Nat) (far : Bool) : Ext 8209 s (joinPreempt s c i far) :=
  .ite (.refl _ _) (.ite ((armEntry_ext ..).after rfl <| .withSq rfl (.withSq rfl (.refl _ _)))
    (.ite ((extendTaps_ext ..).after rfl <| .withSq rfl (.refl _ _)) (.withSq rfl (.refl _ _))))

theorem nextPreempt_ext (s : State) (c : Nat) : Ext 8209 s (nextPreempt s c) :=
  .unless (.withSq rfl (.refl _ _)) ((armEntry_ext ..).mono rfl)

theorem leaveGroups_ext (s : State) (i : Nat) : Ext 8192 s (leaveGroups s i) :=
  .withSq rfl (.refl _ _)

theorem sqNote_ext (s : State) (i reason detail src : Nat) : Ext 9539 s (sqNote s i reason detail src) := by
  unfold sqNote
  split
  · exact .refl _ _
  · exact .ite (.refl _ _) ((report_ext ..).after rfl <| (setStep_ext ..).mono rfl)

theorem clearWork_ext (s : State) (u : Nat) : Ext 16448 s (clearWork s u) :=
  .withXlEn rfl (.refl _ _)

theorem endTile_ext (s : State) (u : Nat) (f : TileEnd) : Ext 8192 s (endTile s u f) := by
  unfold endTile
  split
  · exact (setEng_ext ..).mono rfl
  · exact .refl _ _

theorem leavePort_ext (s : State) (i u : Nat) : Ext 8192 s (leavePort s i u) := by
  unfold leavePort
  split
  · exact .refl _ _
  · exact .ite ((freePort_ext ..).mono rfl) (.refl _ _)

theorem chargeOpen_ext (s : State) (u : Nat) : Ext 4098 s (chargeOpen s u) := by
  unfold chargeOpen
  dsimp only
  split
  · exact .refl _ _
  · exact (chargeTime_ext ..).after rfl <| (drawFree_ext ..).mono rfl

theorem dropTile_ext (s : State) (u : Nat) (bad : Bool) : Ext 24768 s (dropTile s u bad) := by
  unfold dropTile
  dsimp only
  split
  · exact .refl _ _
  · split
    · exact (clearWork_ext ..).after rfl <| (delEng_ext ..).mono rfl
    · exact (leavePort_ext ..).after rfl <| (setStep_ext ..).after rfl <| (clearWork_ext ..).after rfl <| (delEng_ext ..).mono rfl

theorem discardStep_ext (s : State) (i : Nat) : Ext 28866 s (discardStep s i) :=
  (delStep_ext ..).after rfl <| (freePorts_ext ..).after rfl <| (leaveGroups_ext ..).after rfl <| .fold
    (fun _ _ => (clearWork_ext ..).after rfl <| (delEng_ext ..).after rfl <| (chargeOpen_ext ..).mono rfl) (.refl _ _)

theorem modRun_ext (s : State) (id : Nat) (f : Run → Run) : Ext 8192 s (modRun s id f) :=
  .withSq rfl (.refl _ _)

theorem delRun_ext (s : State) (id : Nat) : Ext 8192 s (delRun s id) :=
  .withSq rfl (.refl _ _)

theorem stepComplete_ext (s : State) (i : Nat) : Ext 8194 s (stepComplete s i) := by
  unfold stepComplete
  dsimp only
  split
  · exact .refl _ _
  · refine .ite (.refl _ _) ?_
    split
    · exact (delStep_ext ..).after rfl <| (freePorts_ext ..).after rfl <| (leaveGroups_ext ..).mono rfl
    · exact .ite ((modRun_ext ..).after rfl <| (freePorts_ext ..).after rfl <| (leaveGroups_ext ..).mono rfl)
        ((delStep_ext ..).after rfl <| .when ((incCtr_ext ..).after rfl <| (freePorts_ext ..).after rfl <| (leaveGroups_ext ..).mono rfl)
        ((incCtr_ext ..).mono rfl))

theorem settleStep_ext (s : State) (i : Nat) : Ext 8194 s (settleStep s i) :=
  (stepComplete_ext ..).after rfl <| (modStep_ext ..).mono rfl

theorem discardRun_ext (s : State) (r : Run) : Ext 30187 s (discardRun s r) :=
  (dropRefs_ext ..).after rfl <| (delRun_ext ..).after rfl <| .fold (fun _ _ => (discardStep_ext ..).mono rfl) (.refl _ _)

theorem discardFifo_ext (s : State) (c q : Nat) (p : QEntry → Bool) : Ext 5483 s (discardFifo s c q p) :=
  .fold (fun _ _ => (dropRefs_ext ..).mono rfl) ((setQueue_ext ..).mono rfl)

theorem failHeld_ext (s : State) (c : Nat) (p : Xfer → Bool) : Ext 64 s (failHeld s c p) :=
  .withXl rfl (.refl _ _)

theorem dropLanes_ext (s : State) (c ctx : Nat) : Ext 28866 s (dropLanes s c ctx) := by
  unfold dropLanes
  refine .fold (fun s1 e => ?_) (.refl _ _)
  split
  · exact (settleStep_ext ..).after rfl <| (dropTile_ext ..).after rfl <| (chargeOpen_ext ..).mono rfl
  · exact .refl _ _

theorem killCtx_ext (s : State) (c ctx : Nat) : Ext 30187 s (killCtx s c ctx) :=
  .ite (.refl _ _) (.ite ((failHeld_ext ..).mono rfl) ((freeSlot_ext ..).after rfl <| (sendRing_ext ..).after rfl <| .fold
    (fun _ _ => (discardFifo_ext ..).mono rfl) ((dropLanes_ext ..).after rfl <| .fold (fun _ _ => (discardRun_ext ..).mono rfl)
    ((failHeld_ext ..).after rfl <| .withOb rfl (.refl _ _)))))

/-! ### Freq -/

theorem setDom_ext (s : State) (d : Nat) (x : DomNow) : Ext 512 s (setDom s d x) :=
  .withCk rfl (.refl _ _)

theorem setIsl_ext (s : State) (i : Nat) (x : Isl) : Ext 512 s (setIsl s i x) :=
  .withCk rfl (.refl _ _)

theorem retarget_ext (s : State) (i : Nat) : Ext 513 s (retarget s i) := by
  unfold retarget
  refine .ite (.refl _ _) ((setFld_ext ..).after rfl <| (setFld_ext ..).after rfl ?_)
  split
  · exact .ite (.refl _ _) ((emit_ext ..).after rfl <| (setIsl_ext ..).mono rfl)
  · exact .refl _ _

theorem retargetAll_ext (s : State) : Ext 513 s (retargetAll s) :=
  .fold (fun _ _ => (retarget_ext ..).mono rfl) (.refl _ _)

theorem showCeil_ext (s : State) (i : Nat) : Ext 1 s (showCeil s i) :=
  (setFld_ext ..).mono rfl

/-! ### Faults -/

theorem abortHeld_ext (s : State) (id : Nat) (x : Xfer) : Ext 24640 s (abortHeld s id x) :=
  .ite (.refl _ _) (.ite ((setXfer_ext ..).mono rfl) (.ite ((endTile_ext ..).after rfl <| (clearWork_ext ..).mono rfl)
    ((delXfer_ext ..).mono rfl)))

theorem holdXfer_ext (s : State) (id reason level : Nat) : Ext 30187 s (holdXfer s id reason level) := by
  unfold holdXfer
  dsimp only
  split
  · exact .refl _ _
  · exact .ite ((abortHeld_ext ..).after rfl <| (writeWrack_ext ..).after rfl <| (incCtr_ext ..).after rfl <| (setXfer_ext ..).mono rfl)
      ((killCtx_ext ..).after rfl <| (setFlag_ext ..).after rfl <| (writeWrack_ext ..).after rfl <| (incCtr_ext ..).after rfl <|
      (setXfer_ext ..).mono rfl)

theorem faultLane_ext (s : State) (u : Nat) (lane : Bool) (acc dva ctx reason level : Nat) :
    Ext 17731 s (faultLane s u lane acc dva ctx reason level) := by
  unfold faultLane
  dsimp only
  split
  · exact .ite (.refl _ _) ((report_ext ..).after rfl <| .withEn rfl (.refl _ _))
  · exact .refl _ _

theorem modMove_ext (s : State) (id : Nat) (f : Move → Move) : Ext 16384 s (modMove s id f) :=
  .withEn rfl (.refl _ _)

theorem faultXfer_ext (s : State) (id reason level : Nat) : Ext 30187 s (faultXfer s id reason level) := by
  unfold faultXfer
  dsimp only
  split
  · exact .refl _ _
  · refine .ite ((faultLane_ext ..).after rfl <| (incCtr_ext ..).after rfl <| (delXfer_ext ..).mono rfl)
      (.ite ?_ ((holdXfer_ext ..).mono rfl))
    split
    · exact (modMove_ext ..).after rfl <| (incCtr_ext ..).after rfl <| (delXfer_ext ..).mono rfl
    · exact (incCtr_ext ..).after rfl <| (delXfer_ext ..).mono rfl

theorem lineWork_keeps {m : Nat} {s0 : State} {w : Who} {dva : Nat} {acc : Access}
    (hm : 17899 &&& m = 17899) :
    WorkReads m s0 (lineWork w dva acc) := by
  refine ⟨fun s hs => ?_⟩
  unfold lineWork
  dsimp only
  split
  · exact .stall fun _ => nofun
  · split
    · exact .stall fun _ => nofun
    · exact .stall fun _ => nofun
    · split
      · exact .stall fun _ => nofun
      · rename_i e
        have hc := ((chargeWork_keeps ..).of _ e).within rfl hm ((lookup_ext ..).within rfl hm hs)
        split
        · exact fun t e => Why.halted.inj e ▸ (accessNow_ext ..).within rfl hm hc
        · exact ⟨trivial, (markDirty_ext ..).within rfl hm ((accessNow_ext ..).within rfl hm hc)⟩

theorem readLines_keeps {m : Nat} {s0 : State} {w : Who} {l : List Nat} (hm : 17899 &&& m = 17899) :
    WorkReads m s0 (readLines w l) := by
  induction l with
  | nil => exact .val
  | cons d ds ih =>
    refine .bind (lineWork_keeps hm) fun r _ => ?_
    split
    · exact .val
    · exact .bind ih fun _ _ => .val

theorem readWork_keeps {m : Nat} {s0 : State} {w : Who} {dva len : Nat} (hm : 17899 &&& m = 17899) : WorkReads m s0 (readWork w dva len) :=
  .seq (readLines_keeps (sub_trans rfl hm)) fun _ => .val

theorem readLinesAt_keeps {m : Nat} {s0 : State} {w : Who} {l : List Nat} (hm : 17899 &&& m = 17899) :
    WorkReads m s0 (readLinesAt w l) := by
  induction l with
  | nil => exact .val
  | cons d ds ih =>
    refine .bind (lineWork_keeps hm) fun r _ => ?_
    split
    · exact .val
    · exact .bind ih fun _ _ => .val

theorem readAt_keeps {m : Nat} {s0 : State} {w : Who} {dva len : Nat} (hm : 17899 &&& m = 17899) : WorkReads m s0 (readAt w dva len) :=
  .seq (readLinesAt_keeps (sub_trans rfl hm)) fun _ => .val

theorem writeLines_keeps {m : Nat} {s0 : State} {w : Who} {dva : Nat} {data : List Byte} {l : List Nat}
    (hm : 17899 &&& m = 17899) : WorkReads m s0 (writeLines w dva data l) := by
  induction l with
  | nil => exact .val
  | cons d ds ih => exact .bind (lineWork_keeps hm) fun _ _ => .ite ih (.val)

theorem writeWork_keeps {m : Nat} {s0 : State} {w : Who} {dva : Nat} {data : List Byte} (hm : 17899 &&& m = 17899) :
    WorkReads m s0 (writeWork w dva data) :=
  writeLines_keeps (sub_trans rfl hm)

theorem keepStall_ext {m : Nat} {s0 s : State} {x : Stall} (hs : Ext m s0 s) (h : ∀ t, x.why = .halted t → Ext m s0 t)
    (hm : 30187 &&& m = 30187) : Ext m s0 (keepStall s x) := by
  unfold keepStall
  dsimp only
  split
  · exact hs
  · exact (issueRest_ext ..).within rfl hm hs
  · rename_i e
    exact (addXfer_ext ..).within rfl hm (h _ e)
  · exact .ite hs ((missXfer_ext ..).within rfl hm ((addXfer_ext ..).within rfl hm ((incCtr_ext ..).within rfl hm hs)))
  · exact .ite hs ((faultXfer_ext ..).within rfl hm ((addXfer_ext ..).within rfl hm hs))

/-- Work that is run changes what the work changes and what a stalled access changes. -/
theorem runWork_ext {m : Nat} {s : State} {w : Work State} (h : WorkMakes m s w)
    (hm : 30187 &&& m = 30187) : Ext m s (runWork s w) := by
  unfold runWork
  have hw := h.of s (.refl m s)
  split
  · rename_i e
    rw [e] at hw
    exact hw.1
  · rename_i e
    rw [e] at hw
    exact keepStall_ext (.refl m s) hw hm

theorem atEngine_keeps {m : Nat} {s t : State} {u : Nat} (h : Ext m s t) : Keeps m s (atEngine s u t) := atDomain_keeps h

theorem addLooked_ext (s : State) (x : Xfer) (r : XRes) : Ext 30187 s (addLooked s x r) := by
  unfold addLooked
  split
  · exact (addXfer_ext ..).mono rfl
  · exact (missXfer_ext ..).after rfl <| (addXfer_ext ..).mono rfl
  · exact (faultXfer_ext ..).after rfl <| (addXfer_ext ..).mono rfl

theorem requestLine_ext (u c cl ctx : Nat) (acc : Access) (s : State) (x : Nat × Nat) : Ext 30187 s (requestLine u c cl ctx acc s x) := by
  unfold requestLine
  dsimp only
  exact (addLooked_ext ..).after rfl <| (lookup_ext ..).mono rfl

theorem execTranslateRequest_keeps (src : BitVec 16) (cove : CoveId) (ctx : BitVec 12) (dva : BitVec 64) (len : Nat) (acc : Access)
    (s : State) : Keeps 30187 s (execTranslateRequest src cove ctx dva len acc s) := by
  unfold execTranslateRequest
  dsimp only
  split
  · exact .ite (.next (.refl _ _)) (atDomain_keeps (.fold (fun _ _ => (requestLine_ext ..).mono rfl) (.refl _ _)))
  · exact .next (.refl _ _)

theorem meetLeaf_ext (l : Leaf) (s : State) (id : Nat) : Ext 30187 s (meetLeaf l s id) := by
  unfold meetLeaf
  dsimp only
  split
  · exact .refl _ _
  · split
    · refine .ite ((delXfer_ext ..).after rfl ?_) ((setXfer_ext ..).after rfl ?_)
      · split
        · exact .ite ((setTlb_ext ..).mono rfl) (.refl _ _)
        · exact .refl _ _
      · split
        · exact .ite ((setTlb_ext ..).mono rfl) (.refl _ _)
        · exact .refl _ _
    · refine (faultXfer_ext ..).after rfl ?_
      split
      · exact .ite ((setTlb_ext ..).mono rfl) (.refl _ _)
      · exact .refl _ _
    · split
      · exact .ite ((setTlb_ext ..).mono rfl) (.refl _ _)
      · exact .refl _ _

theorem endWalk_ext (s : State) (w reason : Nat) : Ext 30187 s (endWalk s w reason) := by
  unfold endWalk
  dsimp only
  split
  · exact .refl _ _
  · exact .fold (fun _ _ => (faultXfer_ext ..).mono rfl) ((delWalk_ext ..).mono rfl)

theorem failWalk_ext (s : State) (w : Nat) : Ext 30187 s (failWalk s w) :=
  (endWalk_ext ..).after rfl <| (incCtr_ext ..).mono rfl

theorem stepWalk_ext (s : State) (w : Nat) (k : Walk) (e : Nat) : Ext 30187 s (stepWalk s w k e) := by
  unfold stepWalk
  refine .ite ((emit_ext ..).after rfl <| (setWalk_ext ..).mono rfl) ?_
  dsimp only
  split
  · exact (endWalk_ext ..).mono rfl
  · exact (emit_ext ..).after rfl <| (setWalk_ext ..).after rfl <| (wcPut_ext ..).mono rfl
  · exact .fold (fun _ a => (meetLeaf_ext ..).mono rfl) ((l2Put_ext ..).after rfl <| (delWalk_ext ..).mono rfl)

theorem execWalkReadDone_keeps (w : Nat) (data : Option Dword) (s : State) : Keeps 30187 s (execWalkReadDone w data s) := by
  unfold execWalkReadDone
  split
  · exact .next (.refl _ _)
  · refine atDomain_keeps ?_
    split
    · exact (stepWalk_ext ..).mono rfl
    · exact (failWalk_ext ..).mono rfl

theorem execWalkTimeout_keeps (w : Nat) (s : State) : Keeps 30187 s (execWalkTimeout w s) :=
  .ite (atDomain_keeps ((failWalk_ext ..).mono rfl)) (.next (.refl _ _))

theorem dropInv_ext (s : State) (c : Nat) (i : Inv) : Ext 64 s (dropInv s c i) :=
  .withXl rfl (.refl _ _)

theorem setInvs_ext (s : State) (c : Nat) (l : List Inv) : Ext 64 s (setInvs s c l) :=
  .withXl rfl (.refl _ _)

theorem atDriver_keeps {m : Nat} {s t : State} {q : Requester} {c off : Nat} (h : Ext m s t)
    (hm : 1347 &&& m = 1347) : Keeps m s (atDriver s q c off t) := by
  unfold atDriver
  split
  · exact atWindow_keeps (.refl _ _) hm
  · exact atWindow_keeps h hm

theorem execXlInvGo_keeps (q : Requester) (c : CoveId) (s : State) : Keeps 1347 s (execXlInvGo q c s) :=
  atDriver_keeps (.ite ((setFlag_ext ..).mono rfl) ((setInvs_ext ..).after rfl <| (dropInv_ext ..).mono rfl)) rfl

theorem finishInvs_ext (k : Nat) : ∀ (s : State) (c : Nat), Ext 5483 s (finishInvs k s c) := by
  induction k with
  | zero => exact fun s _ => .refl _ s
  | succ k ih =>
    intro s c
    unfold finishInvs
    split
    · exact .refl _ _
    · exact .ite (.trans ((signalEvent_ext ..).after rfl <| (setInvs_ext ..).mono rfl) (ih _ _)) (.refl _ _)

theorem execInvAck_keeps (c : CoveId) (client : Fin 228) (s : State) : Keeps 5483 s (execInvAck c client s) :=
  .ite (atDomain_keeps ((finishInvs_ext ..).after rfl <| (setInvs_ext ..).mono rfl)) (.next (.refl _ _))

theorem execInvSlow_keeps (c : CoveId) (s : State) : Keeps 321 s (execInvSlow c s) :=
  .ite (atDomain_keeps ((raiseSrc_ext ..).after rfl <| (setFlag_ext ..).after rfl <| (setInvs_ext ..).mono rfl)) (.next (.refl _ _))

theorem execXlWqCons_keeps (q : Requester) (c : CoveId) (v : Word) (s : State) : Keeps 1347 s (execXlWqCons q c v s) :=
  atDriver_keeps (.ite ((setFld_ext ..).mono rfl) ((setFlag_ext ..).mono rfl)) rfl

theorem replayXfer_ext (s : State) (id : Nat) : Ext 30187 s (replayXfer s id) := by
  unfold replayXfer
  dsimp only
  split
  · exact .refl _ _
  · split
    · split
      · exact .ite ((delXfer_ext ..).after rfl <| (lookup_ext ..).mono rfl) ((setXfer_ext ..).after rfl <| (lookup_ext ..).mono rfl)
      · exact (missXfer_ext ..).after rfl <| (lookup_ext ..).mono rfl
      · exact .ite ((missXfer_ext ..).after rfl <| (incCtr_ext ..).after rfl <| (forget_ext ..).after rfl <| (lookup_ext ..).mono rfl)
          ((holdXfer_ext ..).after rfl <| (lookup_ext ..).mono rfl)
    · exact .refl _ _

theorem execXlWqReplay_keeps (q : Requester) (c : CoveId) (ctx : BitVec 12) (s : State) : Keeps 30187 s (execXlWqReplay q c ctx s) :=
  atDriver_keeps (.fold (fun _ _ => (replayXfer_ext ..).mono rfl) (.refl _ _)) rfl

theorem execXlWqKill_keeps (q : Requester) (c : CoveId) (ctx : BitVec 12) (s : State) : Keeps 30187 s (execXlWqKill q c ctx s) :=
  atDriver_keeps ((killCtx_ext ..).mono rfl) rfl

theorem execObCtxKill_keeps (q : Requester) (c : CoveId) (ctx : BitVec 12) (s : State) : Keeps 30187 s (execObCtxKill q c ctx s) :=
  atFabric_keeps (.ite ((killCtx_ext ..).mono rfl) (.refl _ _))

theorem execObCtxRevive_keeps (q : Requester) (c : CoveId) (ctx : BitVec 12) (s : State) : Keeps 4098 s (execObCtxRevive q c ctx s) :=
  atFabric_keeps (.ite ((setCtr_ext ..).after rfl <| (setCtr_ext ..).after rfl <| (setCtr_ext ..).after rfl <| .withOb rfl (.refl _ _))
    (.refl _ _))

/-! ### Tiles -/

theorem beginTile_ext (s : State) (u : Nat) : Ext 8192 s (beginTile s u) := by
  unfold beginTile
  split
  · exact (setEng_ext ..).mono rfl
  · exact .refl _ _

theorem sendDelivery_ext (s : State) (d : Delivery) : Ext 16384 s (sendDelivery s d) :=
  .withEn rfl (.refl _ _)

/-! ### Gather -/

theorem setGather_ext (s : State) (n : Nat) (g : Gather) : Ext 16384 s (setGather s n g) :=
  .withEn rfl (.refl _ _)

theorem captureNote_ext (s : State) (c n : Nat) (x : GpNote) : Ext 1 s (captureNote s c n x) :=
  .ite ((setFlag_ext ..).mono rfl) ((setFlag_ext ..).after rfl <| (setFld_ext ..).after rfl <| (setFld_ext ..).after rfl <|
    (setFld_ext ..).after rfl <| (setFld_ext ..).after rfl <| (setFld_ext ..).after rfl <| (setFld_ext ..).after rfl <|
    (setFld_ext ..).after rfl <| (setFld_ext ..).mono rfl)

theorem gpNote_ext (s : State) (c n : Nat) (x : GpNote) : Ext 1347 s (gpNote s c n x) :=
  (report_ext ..).after rfl <| (captureNote_ext ..).mono rfl

theorem tileNote_ext (s : State) (c n : Nat) (g : Gather) (src reason detail addr row : Nat) :
    Ext 17731 s (tileNote s c n g src reason detail addr row) :=
  .ite (.refl _ _) ((gpNote_ext ..).after rfl <| (setGather_ext ..).mono rfl)

theorem failStart_ext (s : State) (c n : Nat) (t : OnTile) (k : GatherCmd) (reason detail addr : Nat) :
    Ext 9539 s (failStart s c n t k reason detail addr) :=
  (gpNote_ext ..).after rfl <| (endTile_ext ..).mono rfl

theorem beginGather_keeps {m : Nat} {s0 s : State} {c n : Nat} {t : OnTile} {k : GatherCmd} {d : TableDesc} {o : Option OvlDesc}
    (h : Ext m s0 s) (hm : 26091 &&& m = 26091) : WorkMakes m s0 (beginGather s c n t k d o) := by
  unfold beginGather
  refine .seq (putSt_keeps h) fun __r => .seq (readAt_keeps (sub_trans rfl hm)) fun _ => .bind getSt_keeps fun s1 hs1 => ?_
  dsimp only
  split
  · exact .pure ((failStart_ext ..).within rfl hm hs1)
  · split
    · exact .pure ((failStart_ext ..).within rfl hm hs1)
    · exact .pure ((setGather_ext ..).within rfl hm ((beginTile_ext ..).within rfl hm hs1))

theorem startGather_keeps {m : Nat} {s0 : State} {c n : Nat} {t : OnTile} (hm : 26091 &&& m = 26091) :
    WorkMakes m s0 (startGather c n t) := by
  unfold startGather
  refine .seq (readWork_keeps (sub_trans rfl hm)) fun _ => ?_
  dsimp only
  refine .ite (.seq .val fun tb => .bind getSt_keeps fun s hs => .ite (.pure ((failStart_ext ..).within rfl hm hs)) ?_)
    (.seq (readWork_keeps (sub_trans rfl hm)) fun _ => .bind getSt_keeps fun s hs => .ite (.pure ((failStart_ext ..).within rfl hm hs)) ?_)
  · split
    · exact .pure ((failStart_ext ..).within rfl hm hs)
    · refine .ite (beginGather_keeps hs (sub_trans rfl hm)) (.seq (readWork_keeps (sub_trans rfl hm)) fun ob => .bind getSt_keeps fun s1
        hs1 => ?_)
      split
      · exact .pure ((failStart_ext ..).within rfl hm hs1)
      · exact beginGather_keeps hs1 (sub_trans rfl hm)
  · split
    · exact .pure ((failStart_ext ..).within rfl hm hs)
    · refine .ite (beginGather_keeps hs (sub_trans rfl hm)) (.seq (readWork_keeps (sub_trans rfl hm)) fun _ => .bind getSt_keeps fun s1
        hs1 => ?_)
      split
      · exact .pure ((failStart_ext ..).within rfl hm hs1)
      · exact beginGather_keeps hs1 (sub_trans rfl hm)

theorem execGatherTileStart_keeps (gp : Idx64) (s : State) : Keeps 30187 s (execGatherTileStart gp s) := by
  unfold execGatherTileStart
  dsimp only
  split
  · exact .ite (atDomain_keeps ((endTile_ext ..).mono rfl)) (atEngine_keeps (runWork_ext (startGather_keeps rfl) rfl))
  · exact .next (.refl _ _)

theorem failGather_ext (s : State) (c n : Nat) (g : Gather) (detail addr : Nat) : Ext 25923 s (failGather s c n g detail addr) :=
  (endTile_ext ..).after rfl <| (tileNote_ext ..).mono rfl

theorem atGather_keeps {m : Nat} {s : State} {n : Nat} {f : Nat → OnTile → Gather → Option State}
    (hf : ∀ c t g, KeepsSome m s (f c t g)) : Keeps m s (atGather s n f) := by
  unfold atGather
  dsimp only
  split
  · split
    · rename_i e
      exact atEngine_keeps ((hf _ _ _).of _ e)
    · exact .next (.refl _ _)
  · exact .next (.refl _ _)

theorem readPass_keeps {m : Nat} {s0 : State} {w : Who} {g : Gather} (hm : 17899 &&& m = 17899) (k : Nat) :
    ∀ p : Pass, WorkReads m s0 (readPass w g k p) := by
  induction k with
  | zero => exact fun p => .val
  | succ k ih =>
    intro p
    unfold readPass
    refine .ite .val (.seq (readAt_keeps (sub_trans rfl hm)) fun _ => ?_)
    split
    · exact .val
    · exact ih _

theorem setFill_ext (s : State) (n : Nat) (g : Gather) : Ext 16576 s (setFill s n g) :=
  (presentUrg_ext ..).after rfl <| (setGather_ext ..).mono rfl

theorem countPass_ext (s : State) (c n : Nat) (g : Gather) (p : Pass) : Ext 2 s (countPass s c n g p) :=
  (addCtr_ext ..).after rfl <| .unless (.when ((addCtr_ext ..).after rfl <| (addCtr_ext ..).after rfl <| (addCtr_ext ..).mono rfl)
    ((addCtr_ext ..).mono rfl)) ((incCtr_ext ..).after rfl <| (incCtr_ext ..).mono rfl)

theorem dedupPass_keeps {m : Nat} {s0 : State} {c n : Nat} {g : Gather} (hm : 26091 &&& m = 26091) : WorkMakes m s0 (dedupPass c n g) := by
  unfold dedupPass
  refine .seq (readPass_keeps (sub_trans rfl hm) _ _) fun _ => .bind getSt_keeps fun s hs => ?_
  dsimp only
  split
  · exact .pure ((failGather_ext ..).within rfl hm hs)
  · refine .pure ?_
    split
    · exact (tileNote_ext ..).within rfl hm ((countPass_ext ..).within rfl hm ((setFill_ext ..).within rfl hm hs))
    · exact (countPass_ext ..).within rfl hm ((setFill_ext ..).within rfl hm hs)

theorem execDedupPass_keeps (gp : Idx64) (s : State) : Keeps 30187 s (execDedupPass gp s) :=
  atGather_keeps (fun _ _ _ => .ite (.some (runWork_ext (dedupPass_keeps rfl) rfl)) .none)

theorem pt2Row_keeps {m : Nat} {s0 : State} {w : Who} {t : TableDesc} {b : List Byte} (hm : 17899 &&& m = 17899) :
    WorkReads m s0 (pt2Row w t b) := by
  unfold pt2Row
  refine .ite .val (.ite .val (.seq (readWork_keeps (sub_trans rfl hm)) fun _ => ?_))
  split
  · exact .val
  · exact .ite .val .val

theorem dequant_keeps {m : Nat} {s0 : State} {w : Who} {t : TableDesc} {b : List Byte} (hm : 17899 &&& m = 17899) :
    WorkReads m s0 (dequant w t b) :=
  .ite .val (.ite .val (.ite .val (.ite .val (.ite .val (.ite .val (.ite .val (pt2Row_keeps (sub_trans rfl hm))))))))

theorem probeOvl_keeps {m : Nat} {s0 : State} {w : Who} {g : Gather} {r : Nat} (hm : 17899 &&& m = 17899) :
    WorkReads m s0 (probeOvl w g r) := by
  unfold probeOvl
  dsimp only
  split
  · exact .val
  · refine .seq (readWork_keeps (sub_trans rfl hm)) fun _ => .seq (readWork_keeps (sub_trans rfl hm)) fun _ => ?_
    split
    · exact .val
    · exact .val

theorem fetchEsc_keeps {m : Nat} {s0 : State} {w : Who} {t : TableDesc} {idx : Nat} (hm : 17899 &&& m = 17899) :
    WorkReads m s0 (fetchEsc w t idx) :=
  .seq (readWork_keeps (sub_trans rfl hm)) fun _ => .val

theorem fetchRow_keeps {m : Nat} {s0 : State} {w : Who} {g : Gather} {r : Nat} (hm : 17899 &&& m = 17899) :
    WorkReads m s0 (fetchRow w g r) := by
  unfold fetchRow
  refine .seq (probeOvl_keeps (sub_trans rfl hm)) fun _ => ?_
  dsimp only
  split
  · exact .val
  · refine .seq (readWork_keeps (sub_trans rfl hm)) fun _ => ?_
    split
    · exact .val
    · exact .ite (.ite .val (.seq (fetchEsc_keeps (sub_trans rfl hm)) fun _ => .val))
        (.seq (dequant_keeps (sub_trans rfl hm)) fun _ => .val)

theorem countFetch_ext (s : State) (c n : Nat) (f : Fetched) : Ext 2 s (countFetch s c n f) :=
  (addCtr_ext ..).after rfl <| .when (.when (.when ((addCtr_ext ..).mono rfl) ((incCtr_ext ..).mono rfl)) ((incCtr_ext ..).mono rfl))
    ((incCtr_ext ..).mono rfl)

theorem arriveRow_ext (s : State) (c n : Nat) (g : Gather) (r : Nat) (f : Fetched) : Ext 17859 s (arriveRow s c n g r f) := by
  unfold arriveRow
  dsimp only
  split
  · exact (setFill_ext ..).after rfl <| (countFetch_ext ..).mono rfl
  · exact (tileNote_ext ..).after rfl <| (addCtr_ext ..).after rfl <| (addCtr_ext ..).after rfl <| (setFill_ext ..).after rfl <|
      (countFetch_ext ..).mono rfl
  · exact (addCtr_ext ..).after rfl <| (setFill_ext ..).after rfl <| (countFetch_ext ..).mono rfl

theorem execRowFetchDone_keeps (gp : Idx64) (row : BitVec 40) (s : State) : Keeps 30187 s (execRowFetchDone gp row s) :=
  atGather_keeps (fun _ _ _ => .ite (.some (runWork_ext (.seq (fetchRow_keeps rfl) fun _ => .bind getSt_keeps fun _ hs1 => .pure
    ((arriveRow_ext ..).after rfl hs1)) rfl)) .none)

theorem readWeight_keeps {m : Nat} {s0 : State} {w : Who} {g : Gather} {pos : Nat} (hm : 17899 &&& m = 17899) :
    WorkReads m s0 (readWeight w g pos) :=
  .ite (.seq (readAt_keeps (sub_trans rfl hm)) fun _ => .val) .val

theorem poolAt_keeps {m : Nat} {s0 : State} {c n : Nat} {g : Gather} {pos b : Nat} {row : Option Nat} {l : List Word}
    (hm : 26091 &&& m = 26091) : WorkMakes m s0 (poolAt c n g pos b row l) := by
  unfold poolAt
  refine .seq (readWeight_keeps (sub_trans rfl hm)) fun _ => .bind getSt_keeps fun s hs => ?_
  dsimp only
  split
  · exact .pure ((failGather_ext ..).within rfl hm hs)
  · exact .pure ((incCtr_ext ..).within rfl hm ((incCtr_ext ..).within rfl hm ((setFill_ext ..).within rfl hm hs)))

theorem execRowPool_keeps (gp : Idx64) (pos : BitVec 17) (s : State) : Keeps 30187 s (execRowPool gp pos s) := by
  unfold execRowPool
  refine atGather_keeps (fun _ _ g => ?_)
  split
  · exact .ite .none (.map fun l e => runWork_ext (poolAt_keeps rfl) rfl)
  · exact .none

theorem execBagEnd_keeps (gp : Idx64) (bag : BitVec 12) (s : State) : Keeps 24576 s (execBagEnd gp bag s) :=
  atGather_keeps (fun _ _ _ => .ite .none (.ite (.some ((endTile_ext ..).mono rfl)) (.some ((setGather_ext ..).mono rfl))))

theorem refetchRows_keeps {m : Nat} {s0 : State} {w : Who} {g : Gather} {l : List Nat} (hm : 17899 &&& m = 17899) :
    WorkReads m s0 (refetchRows w g l) := by
  induction l with
  | nil => exact .val
  | cons r rs ih => exact .bind (fetchRow_keeps hm) fun _ _ => .bind ih fun _ _ => .val

theorem lostAgain_ext (c n : Nat) (x : Bag) (s : State) (e : Nat × Fetched) : Ext 17731 s (lostAgain c n x s e) := by
  unfold lostAgain
  refine .ite (.refl _ _) ?_
  dsimp only
  split
  · exact .refl _ _
  · split
    · exact (tileNote_ext ..).after rfl <| (addCtr_ext ..).after rfl <| (addCtr_ext ..).mono rfl
    · exact (addCtr_ext ..).after rfl <| (addCtr_ext ..).mono rfl
  · exact (addCtr_ext ..).mono rfl

theorem replayBag_keeps {m : Nat} {s0 : State} {c n : Nat} {g : Gather} {b : Nat} {x : Bag} (hm : 17899 &&& m = 17899) :
    WorkMakes m s0 (replayBag c n g b x) :=
  .ite (.seq .val fun _ => .bind getSt_keeps fun _ hs => .pure ((incCtr_ext ..).within rfl hm
    ((incCtr_ext ..).within rfl hm (.fold (fun _ _ => (lostAgain_ext ..).within rfl hm ((countFetch_ext ..).within rfl hm (.refl _ _)))
    ((setGather_ext ..).within rfl hm hs))))) (.seq (refetchRows_keeps (sub_trans rfl hm)) fun _ => .bind getSt_keeps fun _ hs => .pure
    ((incCtr_ext ..).within rfl hm ((incCtr_ext ..).within rfl hm
    (.fold (fun _ _ => (lostAgain_ext ..).within rfl hm ((countFetch_ext ..).within rfl hm (.refl _ _)))
    ((setGather_ext ..).within rfl hm hs)))))

theorem execBagReplayDone_keeps (gp : Idx64) (bag : BitVec 12) (s : State) : Keeps 30187 s (execBagReplayDone gp bag s) := by
  unfold execBagReplayDone
  refine atGather_keeps (fun _ _ g => ?_)
  split
  · exact .ite (.some (runWork_ext (replayBag_keeps rfl) rfl)) .none
  · exact .none

theorem out16_ext (f : Fmt) (s : State) (x : Fp) : Ext 0 s (out16 f s x).2.2 := by
  cases x with
  | nan => exact drawFree_ext s 16
  | inf n | fin n m e => exact .refl _ _

theorem outRow16_ext (f : Fmt) (l : List Fp) : ∀ s : State, Ext 0 s (outRow16 f s l).2.2 := by
  induction l with
  | nil => exact fun s => .refl _ s
  | cons x xs ih => exact fun s => .trans (out16_ext f s x) (ih _)

theorem outBlock_ext (f : Fmt) (top largest : Nat) (s : State) (l : List Fp) : Ext 0 s (outBlock f top largest s l).2.2 := by
  unfold outBlock
  refine .ite_third (.refl _ _) (.ite_third ?_ ?_)
  · dsimp only
    exact (drawFree_ext ..).mono rfl
  · dsimp only
    exact .refl _ _

theorem outBlocks_ext (f : Fmt) (top largest : Nat) (l : List Fp) (js : List Nat) :
    ∀ s : State, Ext 0 s (outBlocks f top largest l js s).2.2 := by
  induction js with
  | nil => exact fun s => .refl _ s
  | cons j js ih => exact fun _ => .trans (outBlock_ext ..) (ih _)

theorem outBytes_ext (s : State) (g : Gather) (l : List Fp) : Ext 0 s (outBytes s g l).2.2 := by
  unfold outBytes
  refine .ite_third ((outRow16_ext ..).mono rfl) (.ite_third ((outRow16_ext ..).mono rfl) ?_)
  dsimp only
  exact .ite_third ((outBlocks_ext ..).mono rfl) ((outBlocks_ext ..).mono rfl)

theorem emitted_ext (s : State) (n : Nat) (g : Gather) : Ext 24576 s (emitted s n g) :=
  .when ((setGather_ext ..).mono rfl) ((endTile_ext ..).mono rfl)

theorem emitBag_keeps {m : Nat} {s0 : State} {c n : Nat} {t : OnTile} {g : Gather} {x : Bag} (hm : 26091 &&& m = 26091) :
    WorkMakes m s0 (emitBag c n t g x) := by
  unfold emitBag
  refine .bind getSt_keeps fun s hs => ?_
  dsimp only
  exact .seq (putSt_keeps ((outBytes_ext ..).within rfl hm hs)) fun _ => .ite
    (.seq .val fun _ => .bind getSt_keeps fun s1 hs1 => .ite (.pure ((failGather_ext ..).within rfl hm hs1))
    (.pure ((emitted_ext ..).within rfl hm (.when (.when (.when ((incCtr_ext ..).within rfl hm hs1)
    ((incCtr_ext ..).within rfl hm (.refl _ _))) ((incCtr_ext ..).within rfl hm (.refl _ _)))
    ((sendDelivery_ext ..).within rfl hm (.refl _ _)))))) (.seq (writeWork_keeps (sub_trans rfl hm)) fun _ => .bind getSt_keeps fun s1
    hs1 => .ite (.pure ((failGather_ext ..).within rfl hm hs1)) (.pure
    ((emitted_ext ..).within rfl hm (.when (.when (.when ((incCtr_ext ..).within rfl hm hs1) ((incCtr_ext ..).within rfl hm (.refl _ _)))
    ((incCtr_ext ..).within rfl hm (.refl _ _))) ((sendDelivery_ext ..).within rfl hm (.refl _ _))))))

theorem execBagOutput_keeps (gp : Idx64) (s : State) : Keeps 30187 s (execBagOutput gp s) := by
  unfold execBagOutput
  refine atGather_keeps (fun _ _ g => ?_)
  split
  · exact .ite .none (.ite (.some ((endTile_ext ..).mono rfl)) (.some (runWork_ext (emitBag_keeps rfl) rfl)))
  · exact .none

theorem execHdCtlArb_keeps (q : Requester) (k : Fin 16) (on : Bool) (s : State) : Keeps 1 s (execHdCtlArb q k on s) :=
  atFabric_keeps (.ite ((setFlag_ext ..).mono rfl) (.ite ((setFlag_ext ..).mono rfl) ((setFlag_ext ..).mono rfl)))

/-! ### Tables -/

theorem setTab_ext (s : State) (c i : Nat) (x : TSlot) : Ext 16384 s (setTab s c i x) :=
  .withEn rfl (.refl _ _)

theorem modTab_ext (s : State) (c i : Nat) (f : TSlot → TSlot) : Ext 16384 s (modTab s c i f) :=
  .withEn rfl (.refl _ _)

theorem bindEnd_ext (s : State) (code : Nat) : Ext 16385 s (bindEnd s code) :=
  .ite ((setFld_ext ..).after rfl <| (setFlag_ext ..).after rfl <| (setFlag_ext ..).after rfl <| .withEn rfl (.refl _ _))
    ((setFld_ext ..).after rfl <| (setFlag_ext ..).after rfl <| (setFlag_ext ..).after rfl <| .withEn rfl (.refl _ _))

theorem slotOp_keeps {m : Nat} {s : State} {q : Requester} {f : State → State} (h : Ext m s (f s)) :
    Keeps m s (slotOp s q f) := atFabric_keeps (.ite (.refl _ _) h)

theorem execTuBind_keeps (q : Requester) (c : CoveId) (slot : Idx64) (ctx : BitVec 12) (eng : Fin 8) (s : State) :
    Keeps 16385 s (execTuBind q c slot ctx eng s) :=
  slotOp_keeps (.ite ((bindEnd_ext ..).mono rfl) (.ite ((bindEnd_ext ..).mono rfl) ((setFlag_ext ..).after rfl <| .withEn rfl (.refl _ _))))

theorem zeroBytes_keeps {m : Nat} {s0 : State} {w : Who} (hm : 17899 &&& m = 17899) (k : Nat) :
    ∀ dva n : Nat, WorkReads m s0 (zeroBytes w dva k n) := by
  induction k with
  | zero => exact fun _ _ => .val
  | succ k ih =>
    intro dva n
    unfold zeroBytes
    exact .ite .val (.seq (writeWork_keeps (sub_trans rfl hm)) fun _ => .ite (ih _ _) .val)

theorem doBind_keeps {m : Nat} {s0 : State} {b : Bind} (hm : 17899 &&& m = 17899) : WorkMakes m s0 (doBind b) := by
  unfold doBind
  refine .seq (readWork_keeps (sub_trans rfl hm)) fun _ => ?_
  dsimp only
  exact .ite (.seq (readWork_keeps (sub_trans rfl hm)) fun _ => .ite
    (.bind getSt_keeps fun s hs => .pure ((bindEnd_ext ..).within rfl hm hs))
    (.seq (zeroBytes_keeps (sub_trans rfl hm) _ _ _) fun _ => .seq (zeroBytes_keeps (sub_trans rfl hm) _ _ _) fun _ => .bind getSt_keeps
    fun s hs => .ite (.pure ((bindEnd_ext ..).within rfl hm hs))
    (.pure ((bindEnd_ext ..).within rfl hm ((setTab_ext ..).within rfl hm hs)))))
    (.seq .val fun _ => .ite (.bind getSt_keeps fun s hs => .pure ((bindEnd_ext ..).within rfl hm hs))
    (.seq (zeroBytes_keeps (sub_trans rfl hm) _ _ _) fun _ => .seq (zeroBytes_keeps (sub_trans rfl hm) _ _ _) fun _ => .bind getSt_keeps
    fun s hs => .ite (.pure ((bindEnd_ext ..).within rfl hm hs))
    (.pure ((bindEnd_ext ..).within rfl hm ((setTab_ext ..).within rfl hm hs)))))

theorem dropSlot_ext (s : State) (c i : Nat) : Ext 16384 s (dropSlot s c i) :=
  .withEn rfl (.refl _ _)

theorem execTuUnbind_keeps (q : Requester) (c : CoveId) (slot : Idx64) (s : State) : Keeps 16385 s (execTuUnbind q c slot s) := by
  unfold execTuUnbind
  refine slotOp_keeps ?_
  split
  · exact (bindEnd_ext ..).mono rfl
  · exact .ite ((bindEnd_ext ..).mono rfl) ((bindEnd_ext ..).after rfl <| (dropSlot_ext ..).mono rfl)

theorem toLimbo_ext (s : State) (c i eng arena : Nat) : Ext 16384 s (toLimbo s c i eng arena) :=
  .withEn rfl (.refl _ _)

theorem getBucket_keeps {m : Nat} {s0 : State} {w : Who} {o : OvlDesc} {b : Nat} (hm : 17899 &&& m = 17899) :
    WorkReads m s0 (getBucket w o b) :=
  .seq (readWork_keeps (sub_trans rfl hm)) fun _ => .val

theorem rowEnts_keeps {m : Nat} {s0 : State} {w : Who} {o : OvlDesc} {b : Nat} {ents : List OvlEnt} {r : Nat} (hm : 17899 &&& m = 17899) :
    WorkReads m s0 (rowEnts w o b ents r) := by
  unfold rowEnts
  dsimp only
  exact .ite (.seq .val fun a => .ite (.seq .val fun _ => .val) (.seq (getBucket_keeps (sub_trans rfl hm)) fun _ => .val))
    (.seq (getBucket_keeps (sub_trans rfl hm)) fun _ => .ite (.seq .val fun _ => .val)
    (.seq (getBucket_keeps (sub_trans rfl hm)) fun _ => .val))

theorem reclaimEnts_keeps {m : Nat} {s0 : State} {w : Who} {o : OvlDesc} {oldest b : Nat} {all l : List OvlEnt}
    (hm : 17899 &&& m = 17899) : WorkReads m s0 (reclaimEnts w o oldest b all l) := by
  induction l with
  | nil => exact .val
  | cons e es ih =>
    unfold reclaimEnts
    refine .seq ih fun _ => ?_
    dsimp only
    exact .ite .val (.seq (rowEnts_keeps (sub_trans rfl hm)) fun _ => .val)

theorem freedBucket_keeps {m : Nat} {s0 : State} {c i : Nat} {x : TSlot} {extra b : Nat} (hm : 17899 &&& m = 17899) :
    WorkReads m s0 (freedBucket c i x extra b) := by
  unfold freedBucket
  refine .seq (getBucket_keeps (sub_trans rfl hm)) fun _ => .bind getSt_keeps fun s hs => ?_
  split
  · exact .val
  · exact .ite .val (.seq (reclaimEnts_keeps (sub_trans rfl hm)) fun _ => .val)

theorem putBucket_keeps {m : Nat} {s0 : State} {c i : Nat} {x : TSlot} {b : Nat} {ents : List OvlEnt} {gone : List Nat}
    (hm : 17899 &&& m = 17899) : WorkReads m s0 (putBucket c i x b ents gone) :=
  .seq (writeWork_keeps (sub_trans rfl hm)) fun _ => .ite .val (.bind getSt_keeps fun _ hs => .seq
    (putSt_keeps ((addCtr_ext ..).within rfl hm ((modTab_ext ..).within rfl hm
    (.fold (fun _ _ => (toLimbo_ext ..).within rfl hm (.refl _ _)) hs)))) fun _ => .val)

theorem lookWay_keeps {m : Nat} {s0 : State} {c i : Nat} {x : TSlot} {r b : Nat} {path : List (Nat × Nat)} {e : OvlEnt} {way : Nat}
    {z : Search} (hm : 17899 &&& m = 17899) : WorkReads m s0 (lookWay c i x r b path e way z) :=
  .ite .val (.ite .val (.seq (freedBucket_keeps (sub_trans rfl hm)) fun _ => .val))

theorem lookAll_keeps {m : Nat} {s0 : State} {c i : Nat} {x : TSlot} {r : Nat} (hm : 17899 &&& m = 17899)
    (l : List (Nat × List (Nat × Nat))) : ∀ z : Search, WorkReads m s0 (lookAll c i x r l z) := by
  induction l with
  | nil => exact fun _ => .val
  | cons p rest ih =>
    intro z
    unfold lookAll
    exact .seq (getBucket_keeps (sub_trans rfl hm)) fun _ => .seq (.foldlM (fun _ e => lookWay_keeps (sub_trans rfl hm)) _) fun _ => .ite
      .val (ih _)

theorem findChain_keeps {m : Nat} {s0 : State} {c i : Nat} {x : TSlot} {r : Nat} (hm : 17899 &&& m = 17899) (k : Nat) :
    ∀ z : Search, WorkReads m s0 (findChain c i x r k z) := by
  induction k with
  | zero => exact fun _ => .val
  | succ k ih =>
    intro z
    unfold findChain
    exact .seq (lookAll_keeps (sub_trans rfl hm) _ _) fun _ => .ite .val (ih _)

theorem placeEnt_keeps {m : Nat} {s0 : State} {c i : Nat} {x : TSlot} {b : Nat} {e : OvlEnt} (hm : 17899 &&& m = 17899) :
    WorkReads m s0 (placeEnt c i x b e) := by
  unfold placeEnt
  refine .seq (freedBucket_keeps (sub_trans rfl hm)) fun _ => ?_
  split
  · exact .val
  · split
    · exact .val
    · exact putBucket_keeps (sub_trans rfl hm)

theorem clearWay_keeps {m : Nat} {s0 : State} {c i : Nat} {x : TSlot} {extra b : Nat} {e : OvlEnt} (hm : 17899 &&& m = 17899) :
    WorkReads m s0 (clearWay c i x extra b e) := by
  unfold clearWay
  refine .seq (freedBucket_keeps (sub_trans rfl hm)) fun _ => ?_
  split
  · exact .val
  · exact putBucket_keeps (sub_trans rfl hm)

theorem moveEnt_keeps {m : Nat} {s0 : State} {c i : Nat} {x : TSlot} {b way dst : Nat} (hm : 17899 &&& m = 17899) :
    WorkReads m s0 (moveEnt c i x b way dst) := by
  unfold moveEnt
  refine .seq (getBucket_keeps (sub_trans rfl hm)) fun _ => ?_
  split
  · exact .val
  · exact .seq (placeEnt_keeps (sub_trans rfl hm)) fun _ => .ite (clearWay_keeps (sub_trans rfl hm)) .val

theorem runChain_keeps {m : Nat} {s0 : State} {c i : Nat} {x : TSlot} (hm : 17899 &&& m = 17899) (l : List (Nat × Nat)) :
    ∀ dst : Nat, WorkReads m s0 (runChain c i x l dst) := by
  induction l with
  | nil => exact fun _ => .val
  | cons p rest ih =>
    intro dst
    unfold runChain
    exact .seq (moveEnt_keeps (sub_trans rfl hm)) fun _ => .ite (ih _) .val

theorem insertEnt_keeps {m : Nat} {s0 : State} {c i : Nat} {x : TSlot} {e : OvlEnt} (hm : 17899 &&& m = 17899) :
    WorkReads m s0 (insertEnt c i x e) := by
  unfold insertEnt
  dsimp only
  refine .seq (freedBucket_keeps (sub_trans rfl hm)) fun _ => .seq (freedBucket_keeps (sub_trans rfl hm)) fun _ => ?_
  split
  · split
    · refine .seq .val fun at' => ?_
      split
      · exact .val
      · exact .val
      · exact .seq (placeEnt_keeps (sub_trans rfl hm)) fun _ => .val
    · refine .seq (findChain_keeps (sub_trans rfl hm) _ _) fun _ => ?_
      split
      · refine .seq .val fun at' => ?_
        split
        · exact .val
        · exact .val
        · exact .seq (placeEnt_keeps (sub_trans rfl hm)) fun _ => .val
      · refine .seq (runChain_keeps (sub_trans rfl hm) _ _) fun _ => .seq .val fun at' => ?_
        split
        · exact .val
        · exact .val
        · exact .seq (placeEnt_keeps (sub_trans rfl hm)) fun _ => .val
  · exact .val

theorem findArena_keeps {m : Nat} {s0 : State} {w : Who} {o : OvlDesc} (hm : 17899 &&& m = 17899) (k : Nat) :
    ∀ a : Nat, WorkReads m s0 (findArena w o k a) := by
  induction k with
  | zero => exact fun _ => .val
  | succ k ih =>
    intro a
    unfold findArena
    refine .ite .val (.seq (readWork_keeps (sub_trans rfl hm)) fun _ => ?_)
    split
    · exact .val
    · split
      · exact .val
      · exact ih _

theorem markArena_keeps {m : Nat} {s0 : State} {w : Who} {o : OvlDesc} {a : Nat} {used : Bool} (hm : 17899 &&& m = 17899) :
    WorkReads m s0 (markArena w o a used) := by
  unfold markArena
  refine .seq (readWork_keeps (sub_trans rfl hm)) fun _ => ?_
  split
  · exact .val
  · exact writeWork_keeps (sub_trans rfl hm)

theorem setDelta_ext (s : State) (n : Nat) (d : Delta) : Ext 16384 s (setDelta s n d) :=
  .withEn rfl (.refl _ _)

theorem unitNote_ext (s : State) (c src reason detail addr : Nat) : Ext 1347 s (unitNote s c src reason detail addr) :=
  (report_ext ..).mono rfl

theorem failTile_ext (s : State) (c u reason detail addr : Nat) : Ext 9539 s (failTile s c u reason detail addr) :=
  (unitNote_ext ..).after rfl <| (endTile_ext ..).mono rfl

theorem failSlot_ext (s : State) (c n slot reason detail addr : Nat) : Ext 25923 s (failSlot s c n slot reason detail addr) :=
  (failTile_ext ..).after rfl <| (modTab_ext ..).mono rfl

theorem startDelta_keeps {m : Nat} {s0 : State} {c n : Nat} {t : OnTile} (hm : 26091 &&& m = 26091) :
    WorkMakes m s0 (startDelta c n t) := by
  unfold startDelta
  refine .seq (readWork_keeps (sub_trans rfl hm)) fun _ => .bind getSt_keeps fun s hs => ?_
  dsimp only
  split
  · exact .pure ((failSlot_ext ..).within rfl hm hs)
  · refine .ite (.pure ((failSlot_ext ..).within rfl hm hs)) (.ite (.pure ((failSlot_ext ..).within rfl hm hs)) ?_)
    split
    · exact .ite (.pure ((failSlot_ext ..).within rfl hm hs)) (.ite (.pure hs)
        (.pure ((setDelta_ext ..).within rfl hm ((beginTile_ext ..).within rfl hm hs))))
    · exact .pure ((failTile_ext ..).within rfl hm hs)

theorem execDeltaTileStart_keeps (tu : Fin 8) (s : State) : Keeps 30187 s (execDeltaTileStart tu s) := by
  unfold execDeltaTileStart
  dsimp only
  split
  · exact atEngine_keeps (runWork_ext (startDelta_keeps rfl) rfl)
  · exact .next (.refl _ _)

theorem failDelta_ext (s : State) (c n : Nat) (d : Delta) (reason detail addr : Nat) : Ext 25923 s (failDelta s c n d reason detail addr) :=
  (failSlot_ext ..).mono rfl

theorem nextRecord_ext (s : State) (c n : Nat) (d : Delta) : Ext 24578 s (nextRecord s c n d) :=
  .when ((incCtr_ext ..).after rfl <| (setDelta_ext ..).mono rfl) ((endTile_ext ..).mono rfl)

theorem addRow_keeps {m : Nat} {s0 : State} {c n : Nat} {d : Delta} {x : TSlot} {w : Who} {key r : Nat} {row : List Byte}
    (hm : 26091 &&& m = 26091) : WorkMakes m s0 (addRow c n d x w key r row) := by
  unfold addRow
  refine .seq (findArena_keeps (sub_trans rfl hm) _ _) fun _ => .bind getSt_keeps fun s hs => ?_
  dsimp only
  split
  · exact .pure ((failDelta_ext ..).within rfl hm hs)
  · exact .pure ((failDelta_ext ..).within rfl hm hs)
  · refine .seq (writeWork_keeps (sub_trans rfl hm)) fun _ => .bind getSt_keeps fun s1 hs1 => .ite
      (.pure ((failDelta_ext ..).within rfl hm hs1)) (.seq (insertEnt_keeps (sub_trans rfl hm)) fun _ => .bind getSt_keeps fun s2 hs2 => ?_)
    split
    · exact .pure ((failDelta_ext ..).within rfl hm hs2)
    · exact .pure ((failDelta_ext ..).within rfl hm hs2)
    · exact .seq (markArena_keeps (sub_trans rfl hm)) fun _ => .bind getSt_keeps fun s3 hs3 => .pure
        (.ite ((nextRecord_ext ..).within rfl hm ((modTab_ext ..).within rfl hm hs3))
        ((failDelta_ext ..).within rfl hm ((modTab_ext ..).within rfl hm hs3)))

theorem applyRecord_keeps {m : Nat} {s0 : State} {c n : Nat} {d : Delta} {x : TSlot} (hm : 26091 &&& m = 26091) :
    WorkMakes m s0 (applyRecord c n d x) := by
  unfold applyRecord
  refine .seq (readWork_keeps (sub_trans rfl hm)) fun _ => .bind getSt_keeps fun s hs => ?_
  dsimp only
  split
  · exact .pure ((failDelta_ext ..).within rfl hm hs)
  · refine .ite (.pure ((failDelta_ext ..).within rfl hm hs)) (.seq (readWork_keeps (sub_trans rfl hm)) fun _ => .seq
      (getBucket_keeps (sub_trans rfl hm)) fun _ => .seq (getBucket_keeps (sub_trans rfl hm)) fun _ => .bind getSt_keeps fun s1 hs1 => ?_)
    split
    · exact .pure ((failDelta_ext ..).within rfl hm hs1)
    · split
      · exact addRow_keeps (sub_trans rfl hm)
      · exact .seq (writeWork_keeps (sub_trans rfl hm)) fun _ => .bind getSt_keeps fun s2 hs2 => .pure
          (.ite ((nextRecord_ext ..).within rfl hm hs2) ((failDelta_ext ..).within rfl hm hs2))
    · exact .pure ((failDelta_ext ..).within rfl hm hs1)

theorem execDeltaRecord_keeps (tu : Fin 8) (s : State) : Keeps 30187 s (execDeltaRecord tu s) := by
  unfold execDeltaRecord
  dsimp only
  split
  · split
    · exact atEngine_keeps (runWork_ext (applyRecord_keeps rfl) rfl)
    · exact atDomain_keeps ((failTile_ext ..).mono rfl)
  · exact .next (.refl _ _)

theorem discardBucket_keeps {m : Nat} {s0 : State} {c i : Nat} {x : TSlot} {b : Nat} (hm : 17899 &&& m = 17899) :
    WorkReads m s0 (discardBucket c i x b) := by
  unfold discardBucket
  refine .seq (getBucket_keeps (sub_trans rfl hm)) fun _ => ?_
  dsimp only
  split
  · exact .val
  · exact .bind getSt_keeps fun s hs => .ite .val (.ite .val (.seq (freedBucket_keeps (sub_trans rfl hm)) fun _ => .seq
      (putBucket_keeps (sub_trans rfl hm)) fun _ => .ite .val (.bind getSt_keeps fun s1 hs1 => .seq
      (putSt_keeps ((modTab_ext ..).within rfl hm (.fold (fun _ _ => (toLimbo_ext ..).within rfl hm (.refl _ _)) hs1))) fun _ => .val)))

theorem discardBuckets_keeps {m : Nat} {s0 : State} {c i : Nat} {x : TSlot} (hm : 17899 &&& m = 17899)
    (k : Nat) : ∀ b : Nat, WorkReads m s0 (discardBuckets c i x k b) := by
  induction k with
  | zero => exact fun _ => .val
  | succ k ih =>
    intro b
    unfold discardBuckets
    exact .seq (discardBucket_keeps (sub_trans rfl hm)) fun _ => .ite .val (.seq (ih _) fun _ => .val)

theorem doDiscard_keeps {m : Nat} {s0 : State} {c i : Nat} {x : TSlot} (hm : 17899 &&& m = 17899) : WorkMakes m s0 (doDiscard c i x) := by
  unfold doDiscard
  refine .seq (discardBuckets_keeps (sub_trans rfl hm) _ _) fun _ => .bind getSt_keeps fun s hs => .pure ?_
  dsimp only
  split
  · exact (setFlag_ext ..).within rfl hm (.withEn (sub_trans rfl hm) hs)
  · exact (bindEnd_ext ..).within rfl hm hs
  · exact (bindEnd_ext ..).within rfl hm ((modTab_ext ..).within rfl hm hs)

/-- The work of a bind that stalls leaves the bind waiting. -/
theorem slotWork_ext {m : Nat} {s : State} {b : Bind} {w : Work State} (h : WorkMakes m s w)
    (hm : 30187 &&& m = 30187) : Ext m s (slotWork s b w) := by
  unfold slotWork
  have hw := h.of s (.refl m s)
  split
  · rename_i e
    rw [e] at hw
    exact hw.1
  · rename_i e
    rw [e] at hw
    exact keepStall_ext ((setFlag_ext ..).within rfl hm (.withEn (sub_trans rfl hm) (.refl _ _))) hw (sub_trans rfl hm)

theorem bindWork_keeps {m : Nat} {s0 s : State} {b : Bind} (h : Ext m s0 s) (hm : 17899 &&& m = 17899) : WorkMakes m s0 (bindWork s b) := by
  unfold bindWork
  refine .ite (doBind_keeps (sub_trans rfl hm)) ?_
  split
  · exact doDiscard_keeps (sub_trans rfl hm)
  · exact .pure ((bindEnd_ext ..).within rfl hm h)

theorem execTuBindDone_keeps (s : State) : Keeps 30187 s (execTuBindDone s) := by
  unfold execTuBindDone
  split
  · exact .next (.refl _ _)
  · exact atEngine_keeps (slotWork_ext (bindWork_keeps (.refl _ _) rfl) rfl)

theorem execTuDiscardPending_keeps (q : Requester) (c : CoveId) (slot : Idx64) (s : State) :
    Keeps 30187 s (execTuDiscardPending q c slot s) := by
  unfold execTuDiscardPending
  refine slotOp_keeps ?_
  split
  · exact (bindEnd_ext ..).mono rfl
  · exact .ite ((bindEnd_ext ..).mono rfl) (slotWork_ext (doDiscard_keeps rfl) rfl)

theorem addMove_ext (s : State) (c ctx src dst len : Nat) (kind : MoveKind) (ev : Option (Nat × Nat)) :
    Ext 16384 s (addMove s c ctx src dst len kind ev) :=
  .withEn rfl (.refl _ _)

theorem findFold_keeps {m : Nat} {s0 : State} {c : Nat} {x : TSlot} {oldest : Nat} (hm : 17899 &&& m = 17899)
    (k : Nat) : ∀ (b : Nat) (best : Option OvlEnt), WorkReads m s0 (findFold c x oldest k b best) := by
  induction k with
  | zero => exact fun _ _ => .val
  | succ k ih =>
    intro b best
    unfold findFold
    exact .seq (getBucket_keeps (sub_trans rfl hm)) fun _ => .seq
      (.foldlM (fun _ e => .ite .val (.seq (rowEnts_keeps (sub_trans rfl hm)) fun _ => .val)) _) fun _ => ih _ _

theorem askFold_keeps {m : Nat} {s0 : State} {c i : Nat} {x : TSlot} (hm : 17899 &&& m = 17899) : WorkMakes m s0 (askFold c i x) := by
  unfold askFold
  refine .bind getSt_keeps fun s hs => .ite (.pure ((modTab_ext ..).within rfl hm hs))
    (.ite (.pure hs) (.seq (findFold_keeps (sub_trans rfl hm) _ _ _) fun _ => .bind getSt_keeps fun s1 hs1 => ?_))
  dsimp only
  split
  · exact .pure (.ite ((modTab_ext ..).within rfl hm hs1) hs1)
  · exact .pure ((addMove_ext ..).within rfl hm ((modTab_ext ..).within rfl hm hs1))

theorem startFold_ext (s : State) (c i : Nat) (auto : Bool) : Ext 30187 s (startFold s c i auto) := by
  unfold startFold
  dsimp only
  split
  · exact .refl _ _
  · exact .unless ((setTab_ext ..).mono rfl) (runWork_ext (askFold_keeps rfl) rfl)

theorem execTuCompactNow_keeps (q : Requester) (c : CoveId) (slot : Idx64) (s : State) : Keeps 30187 s (execTuCompactNow q c slot s) := by
  unfold execTuCompactNow
  refine slotOp_keeps ?_
  split
  · exact (bindEnd_ext ..).mono rfl
  · exact (bindEnd_ext ..).after rfl <| (startFold_ext ..).mono rfl

theorem autoFold_ext (s : State) (c i : Nat) : Ext 30187 s (autoFold s c i) := by
  unfold autoFold
  split
  · exact .ite ((startFold_ext ..).mono rfl) (.refl _ _)
  · exact .refl _ _

theorem clearFold_keeps {m : Nat} {s0 : State} {c i : Nat} {x : TSlot} {f : Fold} (hm : 17899 &&& m = 17899) :
    WorkMakes m s0 (clearFold c i x f) := by
  unfold clearFold
  dsimp only
  exact .seq (getBucket_keeps (sub_trans rfl hm)) fun _ => .seq (getBucket_keeps (sub_trans rfl hm)) fun _ => .ite
    (.bind getSt_keeps fun s hs => .pure ((modTab_ext ..).within rfl hm hs))
    (.seq (clearWay_keeps (sub_trans rfl hm)) fun _ => .bind getSt_keeps fun s hs => .ite (.pure ((modTab_ext ..).within rfl hm hs))
    (.pure ((modTab_ext ..).within rfl hm ((incCtr_ext ..).within rfl hm ((toLimbo_ext ..).within rfl hm hs)))))

theorem execCompactionMoveDone_keeps (c : CoveId) (slot : Idx64) (s : State) : Keeps 30187 s (execCompactionMoveDone c slot s) := by
  unfold execCompactionMoveDone
  dsimp only
  split
  · exact .next (.refl _ _)
  · split
    · refine .ite (atEngine_keeps ?_) (.next (.refl _ _))
      split
      · exact .when (runWork_ext (clearFold_keeps rfl) rfl) (runWork_ext (askFold_keeps rfl) rfl)
      · exact runWork_ext (clearFold_keeps rfl) rfl
    · exact .ite (atEngine_keeps (runWork_ext (askFold_keeps rfl) rfl)) (.next (.refl _ _))

theorem execTuFlipGo_keeps (q : Requester) (c : CoveId) (s : State) : Keeps 16385 s (execTuFlipGo q c s) := by
  unfold execTuFlipGo
  refine atFabric_keeps ?_
  dsimp only
  split
  · exact (setFld_ext ..).after rfl <| (setFlag_ext ..).mono rfl
  · exact .withEn rfl (.refl _ _)

theorem execFlipArm_keeps (c : CoveId) (s : State) : Keeps 16401 s (execFlipArm c s) := by
  unfold execFlipArm
  dsimp only
  split
  · exact .next (.refl _ _)
  · split
    · exact .next (.refl _ _)
    · exact .ite (.next (.refl _ _)) (atDomain_keeps ((armEntry_ext ..).after rfl <| .withEn rfl (.refl _ _)))

theorem publish_ext (s : State) (c : Nat) : Ext 16384 s (publish s c) := by
  unfold publish
  split
  · exact .refl _ _
  · exact .fold (fun _ _ => (modTab_ext ..).mono rfl) (.refl _ _)

theorem takeReport_ext {s t : State} {p : SlateAct → Bool} {r : SlateReport} (e : takeReport s p = some (r, t)) : Ext 16 s t := by
  unfold takeReport at e
  split at e
  · exact nomatch e
  · cases e
    exact .withTide rfl (.refl _ _)

theorem flipEnd_ext (s : State) (c : Nat) (f : Flip) (r : SlateReport) : Ext 30187 s (flipEnd s c f r) := by
  unfold flipEnd
  dsimp only
  split
  · exact (setFld_ext ..).after rfl <| .withEn rfl (.refl _ _)
  · exact .fold (fun _ _ => (autoFold_ext ..).mono rfl) ((signalEvent_ext ..).after rfl <| (setFld64_ext ..).after rfl <|
      (setFlag_ext ..).after rfl <| (setFld_ext ..).after rfl <| .withEn rfl (.refl _ _))

theorem execFlipOutcome_keeps (c : CoveId) (s : State) : Keeps 30203 s (execFlipOutcome c s) := by
  unfold execFlipOutcome
  split
  · rename_i e2
    exact atDomain_keeps ((flipEnd_ext ..).after rfl <| (takeReport_ext e2).mono rfl)
  · exact .next (.refl _ _)

theorem execPairDrainAck_keeps (pair : Fin 32) (s : State) : Keeps 16384 s (execPairDrainAck pair s) :=
  .ite (.next (.refl _ _)) (atDomain_keeps (.withEn rfl (.refl _ _)))

theorem freeLimbo_keeps {m : Nat} {s0 : State} {l : List Limbo} (hm : 17899 &&& m = 17899) :
    WorkReads m s0 (freeLimbo l) := by
  induction l with
  | nil => exact .val
  | cons l ls ih =>
    unfold freeLimbo
    refine .bind getSt_keeps fun s hs => .seq ih fun _ => ?_
    split
    · exact .val
    · exact .ite .val (.seq (markArena_keeps (sub_trans rfl hm)) fun _ => .val)

theorem execLimboRelease_keeps (tu : Fin 8) (s : State) : Keeps 30187 s (execLimboRelease tu s) := by
  unfold execLimboRelease
  dsimp only
  split
  · exact .next (.refl _ _)
  · exact atEngine_keeps (runWork_ext (.seq (freeLimbo_keeps rfl) fun _ => .bind getSt_keeps fun s1 hs1 => .pure (.withEn rfl hs1)) rfl)

/-! ### Capacity -/

theorem rescale_ext (s : State) (c k : Nat) : Ext 17 s (rescale s c k) :=
  (armEntry_ext ..).after rfl <| (setFld_ext ..).mono rfl

theorem showRtbw_ext (s : State) (c : Nat) : Ext 1 s (showRtbw s c) :=
  (setFld_ext ..).mono rfl

theorem showScale_ext (s : State) (c : Nat) : Ext 257 s (showScale s c) :=
  .unless ((showRtbw_ext ..).mono rfl) (.when ((raiseSrc_ext ..).after rfl <| (setFlag_ext ..).after rfl <| (setFlag_ext ..).after rfl <|
    (setFld_ext ..).mono rfl) ((raiseSrc_ext ..).after rfl <| (setFlag_ext ..).mono rfl))

theorem applyBudgets_ext (s : State) (c : Nat) : Ext 385 s (applyBudgets s c) :=
  (showScale_ext ..).after rfl <| .fold (fun _ _ => (setRegul_ext ..).mono rfl) (.refl _ _)

theorem recompute_ext (s : State) : Ext 17 s (recompute s) :=
  .fold (fun _ _ => .ite (.refl _ _) ((rescale_ext ..).mono rfl))
    (.when ((setFlag_ext ..).after rfl <| (setFlag_ext ..).after rfl <| .fold (fun _ _ => (setFld_ext ..).mono rfl)
    (.fold (fun _ _ => (setFld_ext ..).mono rfl) (.refl _ _))) ((setFlag_ext ..).mono rfl))

theorem execDbRecompute_keeps (s : State) : Keeps 17 s (execDbRecompute s) :=
  atDomain_keeps ((recompute_ext ..).mono rfl)

theorem takeDesc_ext (s : State) (c : Nat) : Ext 8 s (takeDesc s c) :=
  .withPlan rfl (.refl _ _)

/-! ### Sweep -/

theorem execRefresh_keeps (n : StackId) (s : State) : Keeps 0 s (execRefresh n s) :=
  atDomain_keeps ((emit_ext ..).mono rfl)

theorem execScTempRead_keeps (n : StackId) (temp : Byte) (rate : Fin 3) (s : State) : Keeps 1 s (execScTempRead n temp rate s) :=
  .ite (.next (.refl _ _)) (atDomain_keeps ((setFld_ext ..).after rfl <| (setFld_ext ..).mono rfl))

theorem execScMdcFlush_keeps (q : Requester) (n : StackId) (s : State) : Keeps 291 s (execScMdcFlush q n s) :=
  atFabric_keeps ((mdcFlush_ext ..).mono rfl)

theorem execScPeakClr_keeps (q : Requester) (n : StackId) (s : State) : Keeps 1 s (execScPeakClr q n s) :=
  atFabric_keeps ((setFld_ext ..).mono rfl)

theorem execPhyUpdateRequest_keeps (n : StackId) (s : State) : Keeps 0 s (execPhyUpdateRequest n s) :=
  atDomain_keeps ((emit_ext ..).mono rfl)

theorem sweepTurn_keeps (s : State) (q : Req) : KeepsSome 17899 s (sweepTurn s q) :=
  .map fun _ e => (takeTurn_ext ..).after rfl <| ((chargeWork_keeps ..).of _ e).mono rfl

theorem sweepWrite_keeps (s : State) (n sda kid : Nat) (l : Line) (g : Option Nat) (q : Req) :
    KeepsSome 17899 s (sweepWrite s n sda kid l g q) :=
  .map fun _ e => (sendLineTo_ext ..).after rfl <| ((sweepTurn_keeps ..).of _ e).mono rfl

theorem fillLine_keeps (s : State) (n line : Nat) (f : ZFill) : KeepsSome 17899 s (fillLine s n line f) := by
  unfold fillLine
  have k : KeepsSome 17899 s (if lineTaken s n (placedAt s f.place line).2 f then some s
      else (sweepWrite s n (placedAt s f.place line).2 f.kid 0 (some f.place.gran)
        (sweepReq n (2 ^ 28 * f.place.gran + line * 64) .demand)).map (fun s => incCtr s (C.SW_ZFILL n))) :=
    .ite (.some (.refl _ _)) (.map fun t e => (incCtr_ext ..).after rfl (((sweepWrite_keeps ..).of _ e).mono rfl))
  exact .map fun t e => .withPlan rfl ((k.of t e).mono rfl)

theorem execZeroFillLine_keeps (n : StackId) (g : BitVec 13) (line : BitVec 22) (s : State) :
    Keeps 17899 s (execZeroFillLine n g line s) := by
  unfold execZeroFillLine
  split
  · exact .ite (.next (.refl _ _)) (atEngine_keeps (paidOr_ext ((fillLine_keeps ..).mono rfl) rfl))
  · exact .next (.refl _ _)

theorem clearUse_ext (s : State) (r : Nat) : Ext 32 s (clearUse s r) :=
  .withMem rfl rfl (.refl _ _)

theorem endRekey_ext (s : State) (r : Nat) (k : KeyRange) : Ext 1066 s (endRekey s r k) :=
  .when ((lbAdd_ext ..).after rfl <| (setKr_ext ..).after rfl <| .withMem rfl rfl (.refl _ _)) ((startRekey_ext ..).mono rfl)

theorem leaveDraining_ext (s : State) (k : Nat) : Ext 1066 s (leaveDraining s k) := by
  unfold leaveDraining
  dsimp only
  split
  · refine (endRekey_ext ..).after rfl ?_
    split
    · exact (clearUse_ext ..).after rfl <| (setKid_ext ..).mono rfl
    · exact (setKid_ext ..).mono rfl
  · split
    · exact (clearUse_ext ..).after rfl <| (setKid_ext ..).mono rfl
    · exact (setKid_ext ..).mono rfl

theorem flushDrained_ext (s : State) : Ext 1066 s (flushDrained s) :=
  .fold (fun _ _ => .ite ((leaveDraining_ext ..).mono rfl) (.refl _ _)) (.refl _ _)

theorem sweptBy_ext (s : State) (g : Nat) : Ext 32 s (sweptBy s g) := by
  unfold sweptBy
  split
  · exact .ite ((setKr_ext ..).mono rfl) (.refl _ _)
  · exact .refl _ _

theorem endFills_ext (s : State) (g : Nat) : Ext 40 s (endFills s g) :=
  .withPlan rfl ((sweptBy_ext ..).mono rfl)

theorem execZeroFillDone_keeps (g : BitVec 13) (s : State) : Keeps 1066 s (execZeroFillDone g s) :=
  .ite (atDomain_keeps ((flushDrained_ext ..).after rfl <| (endFills_ext ..).mono rfl)) (.next (.refl _ _))

theorem execKidRetire_keeps (k : Fin 64) (s : State) : Keeps 32 s (execKidRetire k s) :=
  .ite (.next (.refl _ _)) (atDomain_keeps (.withMem rfl rfl ((setKid_ext ..).mono rfl)))

theorem execScKrCmdRekey_keeps (q : Requester) (r : Idx64) (s : State) : Keeps 40 s (execScKrCmdRekey q r s) :=
  atFabric_keeps ((startRekey_ext ..).mono rfl)

theorem scrubFills_ext (s : State) (c kid : Nat) (p : Nat → Bool) : Ext 8 s (scrubFills s c kid p) :=
  .withPlan rfl (.refl _ _)

theorem takeScrub_ext (s : State) (r kid : Nat) : Ext 1066 s (takeScrub s r kid) := by
  unfold takeScrub
  dsimp only
  split
  · exact .refl _ _
  · exact (flushDrained_ext ..).after rfl <| (scrubFills_ext ..).after rfl <| (setKr_ext ..).after rfl <| .withMem rfl rfl
      ((drainKid_ext ..).after rfl <| (loadKey_ext ..).mono rfl)

theorem takeWaiting_ext (s : State) (r kid : Nat) : Ext 33834 s (takeWaiting s r kid) :=
  .ite ((takeScrub_ext ..).after rfl <| .withSc rfl (.refl _ _)) ((takeKid_ext ..).mono rfl)

theorem execRekeyKidTake_keeps (s : State) : Keeps 33834 s (execRekeyKidTake s) := by
  unfold execRekeyKidTake
  dsimp only
  split
  · exact atDomain_keeps ((takeWaiting_ext ..).after rfl <| .withMem rfl rfl (.refl _ _))
  · exact .next (.refl _ _)

theorem sweepRead_ext {s : State} {n sda : Nat} {e : Expect} {g : Option Nat} {q : Req} {r : Finding × State}
    (h : sweepRead s n sda e g q = some r) : Ext 17899 s r.2 := by
  unfold sweepRead at h
  rw [Option.map_eq_some_iff] at h
  obtain ⟨t, ht, rfl⟩ := h
  have k : KeepsSome 17899 s (if g.isSome then sweepTurn s q else chargeWork s q.src q.fpa) :=
    .ite ((sweepTurn_keeps ..).mono rfl) ((chargeWork_keeps ..).mono rfl)
  exact (checkLine_ext ..).after rfl ((k.of t ht).mono rfl)

theorem rekeyLine_keeps (s : State) (n r g line : Nat) (k : KeyRange) : KeepsSome 17899 s (rekeyLine s n r g line k) := by
  unfold rekeyLine
  dsimp only
  split
  · exact .none
  · rename_i e1
    exact .ite (.some ((sweepRead_ext e1).after rfl ((setKr_ext ..).mono rfl)))
      ((sweepWrite_keeps ..).after rfl <| (sweepRead_ext e1).after rfl ((setKr_ext ..).mono rfl))
  · rename_i e2
    exact .some ((sweepRead_ext e2).after rfl ((setKr_ext ..).mono rfl))

theorem execRekeySweepLine_keeps (n : StackId) (g : BitVec 13) (line : BitVec 22) (s : State) :
    Keeps 17899 s (execRekeySweepLine n g line s) := by
  unfold execRekeySweepLine
  dsimp only
  split
  · exact .ite (.next (.refl _ _)) (atEngine_keeps (paidOr_ext ((rekeyLine_keeps ..).mono rfl) rfl))
  · exact .next (.refl _ _)

theorem execRekeySweepDone_keeps (r : Idx64) (s : State) : Keeps 1066 s (execRekeySweepDone r s) := by
  unfold execRekeySweepDone
  split
  · exact .ite (.next (.refl _ _)) (atDomain_keeps ((flushDrained_ext ..).after rfl <| (setKr_ext ..).mono rfl))
  · exact .next (.refl _ _)

theorem verifyLine_keeps (s : State) (n k i sda line : Nat) : KeepsSome 17899 s (verifyLine s n k i sda line) := by
  unfold verifyLine
  dsimp only
  refine .map fun r e => ?_
  split
  · exact (sweepRead_ext e).mono rfl
  · exact (setKid_ext ..).after rfl <| (sweepRead_ext e).mono rfl

theorem execVerifyLine_keeps (n : StackId) (k : Fin 64) (j : Nat) (line : BitVec 22) (s : State) :
    Keeps 17899 s (execVerifyLine n k j line s) := by
  unfold execVerifyLine
  dsimp only
  split
  · exact .ite (.next (.refl _ _)) (atEngine_keeps (paidOr_ext ((verifyLine_keeps ..).mono rfl) rfl))
  · exact .next (.refl _ _)

theorem execKidVerifyDone_keeps (k : Fin 64) (s : State) : Keeps 32 s (execKidVerifyDone k s) :=
  .ite (atDomain_keeps ((setKid_ext ..).after rfl <| .withMem rfl rfl (.refl _ _))) (.next (.refl _ _))

theorem putMeta_ext (s : State) (n line : Nat) (r : RawLine) : Ext 291 s (putMeta s n line r) :=
  .ite ((setMdc_ext ..).mono rfl) ((writeMeta_ext ..).mono rfl)

theorem patrolWord_ext (n line : Nat) (s : State) (w : Nat) : Ext 291 s (patrolWord n line s w) := by
  unfold patrolWord
  dsimp only
  split
  · exact (putMeta_ext ..).mono rfl
  · exact .refl _ _
  · exact .ite (.refl _ _) ((metaLost_ext ..).mono rfl)

theorem patrolLine_keeps (s : State) (n line : Nat) : KeepsSome 17899 s (patrolLine s n line) := by
  unfold patrolLine
  refine .ite (.map fun _ e => .fold (fun _ a => (patrolWord_ext ..).mono rfl)
    ((countOnDie_ext ..).after rfl <| ((chargeWork_keeps ..).of _ e).mono rfl)) ?_
  dsimp only
  exact .map fun a e => (sweepRead_ext e).mono rfl

theorem execPatrolVisit_keeps (t : SweepTurn) (s : State) : Keeps 17899 s (execPatrolVisit t s) :=
  .ite (.next (.refl _ _)) (atEngine_keeps (paidOr_ext (.map fun _ e => (setFld_ext ..).after rfl <| ((patrolLine_keeps ..).of _ e).mono
    rfl) rfl))

theorem execPatrolPassEnd_keeps (n : StackId) (late : Bool) (s : State) : Keeps 1027 s (execPatrolPassEnd n late s) :=
  .ite (.next (.refl _ _)) (atDomain_keeps (.when ((lbAdd_ext ..).after rfl <| (incCtr_ext ..).after rfl <| (setFld_ext ..).mono rfl)
    ((setFlag_ext ..).mono rfl)))

/-! ### Movers -/

theorem setMover_ext (s : State) (n : Nat) (m : Mover) : Ext 16384 s (setMover s n m) :=
  .withEn rfl (.refl _ _)

theorem setRanker_ext (s : State) (n : Nat) (r : Ranker) : Ext 16384 s (setRanker s n r) :=
  .withEn rfl (.refl _ _)

theorem startMover_keeps {m : Nat} {s0 : State} {c n : Nat} {t : OnTile} (hm : 26091 &&& m = 26091) :
    WorkMakes m s0 (startMover c n t) := by
  unfold startMover
  refine .seq (readWork_keeps (sub_trans rfl hm)) fun _ => .bind getSt_keeps fun s hs => ?_
  dsimp only
  split
  · exact .pure ((failTile_ext ..).within rfl hm hs)
  · split
    · exact .pure ((failTile_ext ..).within rfl hm hs)
    · exact .pure ((setMover_ext ..).within rfl hm ((beginTile_ext ..).within rfl hm hs))

theorem execMoverTileStart_keeps (rm : Fin 16) (s : State) : Keeps 30187 s (execMoverTileStart rm s) := by
  unfold execMoverTileStart
  dsimp only
  split
  · exact .ite (atDomain_keeps ((endTile_ext ..).mono rfl)) (atEngine_keeps (runWork_ext (startMover_keeps rfl) rfl))
  · exact .next (.refl _ _)

theorem readBlock_keeps {m : Nat} {s0 : State} {w : Who} {mv : Mover} {j cols : Nat} {l : List Nat}
    (hm : 17899 &&& m = 17899) : WorkReads m s0 (readBlock w mv j cols l) := by
  induction l with
  | nil => exact .val
  | cons i is ih =>
    unfold readBlock
    refine .seq (readAt_keeps (sub_trans rfl hm)) fun _ => ?_
    split
    · exact .val
    · exact .seq ih fun _ => .val

theorem writeRuns_keeps {m : Nat} {s0 : State} {w : Who} {dst : Nat} {l : List (Nat × List Byte)}
    (hm : 17899 &&& m = 17899) : WorkReads m s0 (writeRuns w dst l) := by
  induction l with
  | nil => exact .val
  | cons r rs ih => exact .seq (writeWork_keeps hm) fun _ => .ite ih .val

theorem undoWrites_ext {m : Nat} {s0 s old : State} (h : Ext m s0 s) (ho : Ext m s0 old) (hm : 32 &&& m = 32) :
    Ext m s0 (undoWrites s old) where
  queue := h.queue
  env := h.env
  free := h.free
  out := h.out
  regs := h.regs
  mem := ho.mem
  fuse := h.fuse
  same := fun p hp => Part.same_trans (h.same p hp) (same_outside (p0 := .mem) hm (fun p hp => by
    cases p
    case mem => exact absurd rfl hp
    all_goals rfl) p hp)

theorem nextBlock_ext (s : State) (c n : Nat) (m : Mover) (bytes : Nat) : Ext 24578 s (nextBlock s c n m bytes) :=
  .when ((addCtr_ext ..).after rfl <| (setMover_ext ..).mono rfl) ((endTile_ext ..).mono rfl)

theorem moveBlock_keeps {m : Nat} {s0 : State} {c n : Nat} {t : OnTile} {m1 : Mover} (hm : 26091 &&& m = 26091) :
    WorkMakes m s0 (moveBlock c n t m1) := by
  unfold moveBlock
  dsimp only
  refine .seq (readBlock_keeps (sub_trans rfl hm)) fun _ => .bind getSt_keeps fun s hs => ?_
  split
  · exact .pure ((failTile_ext ..).within rfl hm hs)
  · refine .ite (.pure ((nextBlock_ext ..).within rfl hm (.fold (fun _ r => (sendDelivery_ext ..).within rfl hm (.refl _ _)) hs)))
      (.seq (writeRuns_keeps (sub_trans rfl hm)) fun _ => .bind getSt_keeps fun s' hs' => .pure ?_)
    split
    · exact (failTile_ext ..).within rfl hm (undoWrites_ext hs' hs (sub_trans rfl hm))
    · exact (nextBlock_ext ..).within rfl hm hs'

theorem execMoverBlock_keeps (rm : Fin 16) (s : State) : Keeps 30187 s (execMoverBlock rm s) := by
  unfold execMoverBlock
  dsimp only
  split
  · exact .ite (atDomain_keeps ((endTile_ext ..).mono rfl)) (atEngine_keeps (runWork_ext (moveBlock_keeps rfl) rfl))
  · exact .next (.refl _ _)

theorem beginRank_ext (s : State) (c n : Nat) (k : RankCmd) (offs : List Nat) : Ext 25923 s (beginRank s c n k offs) := by
  unfold beginRank
  dsimp only
  split
  · exact (failTile_ext ..).mono rfl
  · exact (setRanker_ext ..).after rfl <| (beginTile_ext ..).mono rfl

theorem startRank_keeps {m : Nat} {s0 : State} {c n : Nat} {t : OnTile} (hm : 26091 &&& m = 26091) : WorkMakes m s0 (startRank c n t) := by
  unfold startRank
  refine .seq (readWork_keeps (sub_trans rfl hm)) fun _ => .bind getSt_keeps fun s hs => ?_
  dsimp only
  split
  · exact .pure ((failTile_ext ..).within rfl hm hs)
  · refine .ite (.pure ((failTile_ext ..).within rfl hm hs)) (.ite (.pure ((failTile_ext ..).within rfl hm hs))
      (.ite (.ite (.pure ((beginRank_ext ..).within rfl hm hs)) (.pure ((failTile_ext ..).within rfl hm hs)))
      (.seq (readAt_keeps (sub_trans rfl hm)) fun _ => .bind getSt_keeps fun s1 hs1 => .pure ?_)))
    split
    · exact (failTile_ext ..).within rfl hm hs1
    · exact (beginRank_ext ..).within rfl hm hs1

theorem execRankerTileStart_keeps (tk : Fin 8) (s : State) : Keeps 30187 s (execRankerTileStart tk s) := by
  unfold execRankerTileStart
  dsimp only
  split
  · exact .ite (atDomain_keeps ((endTile_ext ..).mono rfl)) (atEngine_keeps (runWork_ext (startRank_keeps rfl) rfl))
  · exact .next (.refl _ _)

theorem readIds_keeps {m : Nat} {s0 : State} {w : Who} {r : Ranker} {first : Nat} {l : List Nat}
    (hm : 17899 &&& m = 17899) : WorkReads m s0 (readIds w r first l) := by
  induction l with
  | nil => exact .val
  | cons p ps ih =>
    unfold readIds
    refine .ite (.seq .val fun a => ?_) (.seq (readAt_keeps (sub_trans rfl hm)) fun _ => ?_)
    · dsimp only
      split
      · exact .val
      · exact .seq ih fun _ => .val
    · dsimp only
      split
      · exact .val
      · exact .seq ih fun _ => .val

theorem nextSegment_ext (s : State) (c n : Nat) (r : Ranker) (len : Nat) : Ext 24578 s (nextSegment s c n r len) :=
  .when ((incCtr_ext ..).after rfl <| (addCtr_ext ..).after rfl <| (setRanker_ext ..).mono rfl) ((endTile_ext ..).mono rfl)

theorem rankSegment_keeps {m : Nat} {s0 : State} {c n : Nat} {r : Ranker} (hm : 26091 &&& m = 26091) :
    WorkMakes m s0 (rankSegment c n r) := by
  unfold rankSegment
  refine .seq (readAt_keeps (sub_trans rfl hm)) fun _ => .bind getSt_keeps fun s hs => ?_
  dsimp only
  split
  · exact .pure ((failTile_ext ..).within rfl hm hs)
  · refine .seq (readIds_keeps (sub_trans rfl hm)) fun _ => .bind getSt_keeps fun s1 hs1 => ?_
    split
    · exact .pure ((failTile_ext ..).within rfl hm hs1)
    · exact .seq (writeWork_keeps (sub_trans rfl hm)) fun _ => .bind getSt_keeps fun s2 hs2 => .pure
        (.ite ((nextSegment_ext ..).within rfl hm hs2) ((failTile_ext ..).within rfl hm hs2))

theorem execRankerSegment_keeps (tk : Fin 8) (s : State) : Keeps 30187 s (execRankerSegment tk s) := by
  unfold execRankerSegment
  dsimp only
  split
  · exact .ite (atDomain_keeps ((endTile_ext ..).mono rfl)) (atEngine_keeps (runWork_ext (rankSegment_keeps rfl) rfl))
  · exact .next (.refl _ _)

theorem moveEvent_ext (s : State) (c : Nat) (e : Option (Nat × Nat)) : Ext 5483 s (moveEvent s c e) := by
  unfold moveEvent
  split
  · exact (signalEvent_ext ..).mono rfl
  · exact .refl _ _

theorem moveGo_ext (s : State) (c : Nat) : Ext 21867 s (moveGo s c) :=
  .ite ((setFlag_ext ..).mono rfl) (.ite ((setFlag_ext ..).mono rfl)
    (.ite ((moveEvent_ext ..).after rfl <| (incCtr_ext ..).mono rfl) ((addMove_ext ..).mono rfl)))

theorem execSwCvMvGo_keeps (q : Requester) (c : CoveId) (s : State) : Keeps 21867 s (execSwCvMvGo q c s) :=
  atWindow_keeps ((moveGo_ext ..).mono rfl) rfl

theorem writeLinesErr_keeps {m : Nat} {s0 : State} {w : Who} {dva : Nat} {data : List Byte} {l : List Nat}
    (hm : 17899 &&& m = 17899) : WorkReads m s0 (writeLinesErr w dva data l) := by
  induction l with
  | nil => exact .val
  | cons d ds ih => exact .seq (lineWork_keeps hm) fun _ => .ite ih .val

theorem moveLine_keeps {m : Nat} {s0 s : State} {m1 : Move} (h : Ext m s0 s) (hm : 17899 &&& m = 17899) :
    WorkMakes m s0 (moveLine s m1) := by
  unfold moveLine
  dsimp only
  refine .ite (.pure h) (.seq (lineWork_keeps (sub_trans rfl hm)) fun _ => .bind getSt_keeps fun s1 hs1 => ?_)
  split
  · exact .pure ((modMove_ext ..).within rfl hm hs1)
  · refine .seq (writeLinesErr_keeps (sub_trans rfl hm)) fun _ => .bind getSt_keeps fun s2 hs2 => .pure ?_
    split
    · exact (modMove_ext ..).within rfl hm hs2
    · exact (addCtr_ext ..).within rfl hm ((modMove_ext ..).within rfl hm hs2)

theorem execMoveLine_keeps (t : SweepTurn) (s : State) : Keeps 30187 s (execMoveLine t s) := by
  unfold execMoveLine
  split
  · exact .ite (.next (.refl _ _)) (atEngine_keeps (runWork_ext (moveLine_keeps (.refl _ _) rfl) rfl))
  · exact .next (.refl _ _)

theorem dropMove_ext (s : State) (id : Nat) : Ext 16384 s (dropMove s id) :=
  .withEn rfl (.refl _ _)

theorem endFold_ext (s : State) (m : Move) (ok : Bool) : Ext 16384 s (endFold s m ok) := by
  unfold endFold
  split
  · exact (modTab_ext ..).mono rfl
  · exact .refl _ _

theorem endFailed_ext (s : State) (m : Move) (reason dva : Nat) : Ext 21867 s (endFailed s m reason dva) :=
  .ite ((moveEvent_ext ..).after rfl <| .when ((endFold_ext ..).mono rfl) ((setFlag_ext ..).mono rfl))
    (.ite ((moveEvent_ext ..).after rfl <| (incCtr_ext ..).after rfl <| (endFold_ext ..).mono rfl)
    ((moveEvent_ext ..).after rfl <| (unitNote_ext ..).after rfl <| .when ((endFold_ext ..).mono rfl) ((setFlag_ext ..).mono rfl)))

theorem execMoveEnd_keeps (id : Nat) (s : State) : Keeps 21867 s (execMoveEnd id s) := by
  unfold execMoveEnd
  dsimp only
  split
  · exact .next (.refl _ _)
  · split
    · exact atDomain_keeps ((endFailed_ext ..).after rfl <| (dropMove_ext ..).mono rfl)
    · exact .ite (atDomain_keeps ((moveEvent_ext ..).after rfl <| (endFold_ext ..).after rfl <| (incCtr_ext ..).after rfl <|
        (dropMove_ext ..).mono rfl)) (.next (.refl _ _))

/-! ### Steps -/

theorem readDesc_keeps {m : Nat} {s0 : State} {w : Who} {desc : Nat} {isFallback : Bool} (hm : 17899 &&& m = 17899) :
    WorkReads m s0 (readDesc w desc isFallback) := by
  unfold readDesc
  refine .seq (readWork_keeps (sub_trans rfl hm)) fun _ => ?_
  dsimp only
  split
  · exact .val
  · refine .ite .val (.ite .val (.seq (readWork_keeps (sub_trans rfl hm)) fun _ => ?_))
    split
    · exact .val
    · refine .ite .val (.ite .val (.seq (readWork_keeps (sub_trans rfl hm)) fun _ => ?_))
      split
      · exact .val
      · exact .ite .val (.ite .val (.ite .val .val))

theorem readRanges_keeps {m : Nat} {s0 : State} {w : Who} {spMib : Nat} {l : LiveEnt} (hm : 17899 &&& m = 17899) :
    WorkReads m s0 (readRanges w spMib l) := by
  unfold readRanges
  refine .seq (readWork_keeps (sub_trans rfl hm)) fun _ => ?_
  dsimp only
  split
  · exact .val
  · exact .ite .val .val

theorem execQueueHeadRelease_keeps (c : CoveId) (queue : Idx64) (s : State) : Keeps 13675 s (execQueueHeadRelease c queue s) := by
  unfold execQueueHeadRelease
  dsimp only
  split
  · exact .next (.refl _ _)
  · refine .ite (.next (.refl _ _)) (.ite (atDomain_keeps (.withSq rfl ((setQueue_ext ..).after rfl ?_))) (atDomain_keeps ?_))
    · split
      · exact .refl _ _
      · split
        · rename_i e3
          exact .of_snd e3 ((evValue_ext ..).mono rfl)
        · rename_i e3
          exact .of_snd e3 ((evValue_ext ..).mono rfl)
    · split
      · exact .refl _ _
      · split
        · rename_i e3
          exact .of_snd e3 ((evValue_ext ..).mono rfl)
        · rename_i e3
          exact .of_snd e3 ((evValue_ext ..).mono rfl)

theorem endRun_ext (s : State) (id : Nat) : Ext 8192 s (endRun s id) :=
  (modRun_ext ..).mono rfl

theorem readImage_keeps {m : Nat} {s0 : State} {w : Who} {base size : Nat} (hm : 17899 &&& m = 17899) :
    WorkReads m s0 (readImage w base size) := by
  unfold readImage
  refine .seq (readWork_keeps (sub_trans rfl hm)) fun _ => ?_
  dsimp only
  split
  · exact .val
  · refine .ite .val (.seq (readWork_keeps (sub_trans rfl hm)) fun _ => ?_)
    split
    · exact .val
    · exact .ite .val .val

theorem readEsts_keeps {m : Nat} {s0 : State} {w : Who} {l : List Nat} (hm : 17899 &&& m = 17899) :
    WorkReads m s0 (readEsts w l) := by
  induction l with
  | nil => exact .val
  | cons d ds ih => exact .seq (readWork_keeps hm) fun _ => .seq ih fun _ => .val

theorem judge_ext (s : State) (c q : Nat) (r : Run) (now : Nat) (ests : List (Nat × Nat)) : Ext 12290 s (judge s c q r now ests) :=
  (modRun_ext ..).after rfl <| .when ((setQueue_ext ..).mono rfl) ((incCtr_ext ..).mono rfl)

theorem readSlots_keeps {m : Nat} {s0 : State} {w : Who} {l : List TileEnt} (hm : 17899 &&& m = 17899) :
    WorkReads m s0 (readSlots w l) := by
  induction l with
  | nil => exact .val
  | cons t ts ih => exact .seq ih fun _ => .ite (.seq (readWork_keeps hm) fun _ => .val) .val

theorem preemptFor_ext (s : State) (c i : Nat) (vs : List Nat) (far : Bool) : Ext 8209 s (preemptFor s c i vs far) :=
  .withSq rfl (.fold (fun _ _ => (joinPreempt_ext ..).mono rfl) (.refl _ _))

theorem triggerPreempt_ext (s : State) (c i : Nat) (vs : List Nat) (far : Bool) : Ext 8209 s (triggerPreempt s c i vs far) :=
  .ite (.refl _ _) ((preemptFor_ext ..).after rfl <| .fold (fun _ _ => (modStep_ext ..).mono rfl) (.refl _ _))

theorem placeStep_ext (s : State) (c i : Nat) (far : Bool) : Ext 8209 s (placeStep s c i far) := by
  unfold placeStep
  dsimp only
  split
  · exact .refl _ _
  · split
    · exact .refl _ _
    · exact (triggerPreempt_ext ..).after rfl <| (joinStart_ext ..).after rfl <| (setStep_ext ..).mono rfl

theorem takePath_keeps {m : Nat} {s0 : State} {w : Who} {fb : Bool} {d : Nat} {x : Except Nat StepDesc} (hm : 17899 &&& m = 17899) :
    WorkReads m s0 (takePath w fb d x) := by
  unfold takePath
  split
  · exact .val
  · exact .ite (.seq (readDesc_keeps (sub_trans rfl hm)) fun _ => .val) .val

theorem releaseNext_keeps {m : Nat} {s0 s : State} {c q : Nat} {r : Run} {now : Nat} {far : Bool} (h : Ext m s0 s)
    (hm : 30203 &&& m = 30203) : WorkMakes m s0 (releaseNext s c q r now far) := by
  unfold releaseNext
  dsimp only
  split
  · exact .pure ((endRun_ext ..).within rfl hm h)
  · refine .ite (.seq (readEsts_keeps (sub_trans rfl hm)) fun ests => .bind getSt_keeps fun s1 hs1 => .bind
      (.pure (.ite ((judge_ext ..).within rfl hm hs1) hs1)) fun s2 hs2 => .seq (putSt_keeps hs2) fun __r => .seq
      (readDesc_keeps (sub_trans rfl hm)) fun d1 => .seq (takePath_keeps (sub_trans rfl hm)) fun r => ?_)
      (.seq .val fun _ => .bind getSt_keeps fun s1 hs1 => .bind (.pure (.ite ((judge_ext ..).within rfl hm hs1) hs1)) fun s2 hs2 => .seq
      (putSt_keeps hs2) fun __r => .seq (readDesc_keeps (sub_trans rfl hm)) fun _ => .seq (takePath_keeps (sub_trans rfl hm)) fun _ => ?_)
    · split
      · exact .bind getSt_keeps fun s3 hs3 => .pure ((endRun_ext ..).within rfl hm ((report_ext ..).within rfl hm hs3))
      · exact .bind getSt_keeps fun s3 hs3 => .seq (putSt_keeps hs3) fun _ => .seq (readSlots_keeps (sub_trans rfl hm)) fun _ => .bind
          getSt_keeps fun s4 hs4 => .pure ((placeStep_ext ..).within rfl hm
          ((modRun_ext ..).within rfl hm ((setStep_ext ..).within rfl hm (.withSq (sub_trans rfl hm) hs4))))
    · split
      · exact .bind getSt_keeps fun s3 hs3 => .pure ((endRun_ext ..).within rfl hm ((report_ext ..).within rfl hm hs3))
      · exact .bind getSt_keeps fun s3 hs3 => .seq (putSt_keeps hs3) fun _ => .seq (readSlots_keeps (sub_trans rfl hm)) fun _ => .bind
          getSt_keeps fun s4 hs4 => .pure ((placeStep_ext ..).within rfl hm
          ((modRun_ext ..).within rfl hm ((setStep_ext ..).within rfl hm (.withSq (sub_trans rfl hm) hs4))))

theorem openRun_keeps {m : Nat} {s0 : State} {c : Nat} {r : Run} (hm : 26091 &&& m = 26091) : WorkMakes m s0 (openRun c r) := by
  unfold openRun
  refine .seq (readImage_keeps (sub_trans rfl hm)) fun _ => .bind getSt_keeps fun s' hs' => ?_
  split
  · exact .pure ((modRun_ext ..).within rfl hm hs')
  · exact .pure ((endRun_ext ..).within rfl hm ((report_ext ..).within rfl hm hs'))

theorem execStepRelease_keeps (c : CoveId) (queue : Idx64) (now : Nat) (far : Bool) (s : State) :
    Keeps 30203 s (execStepRelease c queue now far s) := by
  unfold execStepRelease
  refine .ite (.next (.refl _ _)) ?_
  split
  · exact atDomain_keeps ((placeStep_ext ..).mono rfl)
  · split
    · exact .next (.refl _ _)
    · exact .ite (.next (.refl _ _)) (atDomain_keeps (runWork_ext (.ite (releaseNext_keeps (.refl _ _) rfl) (openRun_keeps rfl)) rfl))

theorem retireRun_ext (s : State) (c q : Nat) (r : Run) (now : Nat) : Ext 13675 s (retireRun s c q r now) := by
  unfold retireRun
  refine (dropRefs_ext ..).after rfl ?_
  dsimp only
  split
  · refine (signalEvent_ext ..).after rfl ?_
    split
    · refine .when ?_ ((incCtr_ext ..).mono rfl)
      split
      · exact .when ((delRun_ext ..).after rfl <| .fold (fun _ e => (delStep_ext ..).after rfl <| (freePorts_ext ..).after rfl <| .when
          ((incCtr_ext ..).mono rfl) ((incCtr_ext ..).mono rfl)) (.refl _ _)) ((setQueue_ext ..).mono rfl)
      · exact (delRun_ext ..).after rfl <| .fold (fun _ e => (delStep_ext ..).after rfl <| (freePorts_ext ..).after rfl <| .when
          ((incCtr_ext ..).mono rfl) ((incCtr_ext ..).mono rfl)) (.refl _ _)
    · split
      · exact .when ((delRun_ext ..).after rfl <| .fold (fun _ e => (delStep_ext ..).after rfl <| (freePorts_ext ..).after rfl <| .when
          ((incCtr_ext ..).mono rfl) ((incCtr_ext ..).mono rfl)) (.refl _ _)) ((setQueue_ext ..).mono rfl)
      · exact (delRun_ext ..).after rfl <| .fold (fun _ e => (delStep_ext ..).after rfl <| (freePorts_ext ..).after rfl <| .when
          ((incCtr_ext ..).mono rfl) ((incCtr_ext ..).mono rfl)) (.refl _ _)
  · split
    · refine .when ?_ ((incCtr_ext ..).mono rfl)
      split
      · exact .when ((delRun_ext ..).after rfl <| .fold (fun _ e => (delStep_ext ..).after rfl <| (freePorts_ext ..).after rfl <| .when
          ((incCtr_ext ..).mono rfl) ((incCtr_ext ..).mono rfl)) (.refl _ _)) ((setQueue_ext ..).mono rfl)
      · exact (delRun_ext ..).after rfl <| .fold (fun _ e => (delStep_ext ..).after rfl <| (freePorts_ext ..).after rfl <| .when
          ((incCtr_ext ..).mono rfl) ((incCtr_ext ..).mono rfl)) (.refl _ _)
    · split
      · exact .when ((delRun_ext ..).after rfl <| .fold (fun _ e => (delStep_ext ..).after rfl <| (freePorts_ext ..).after rfl <| .when
          ((incCtr_ext ..).mono rfl) ((incCtr_ext ..).mono rfl)) (.refl _ _)) ((setQueue_ext ..).mono rfl)
      · exact (delRun_ext ..).after rfl <| .fold (fun _ e => (delStep_ext ..).after rfl <| (freePorts_ext ..).after rfl <| .when
          ((incCtr_ext ..).mono rfl) ((incCtr_ext ..).mono rfl)) (.refl _ _)

theorem execEntryRetire_keeps (c : CoveId) (queue : Idx64) (now : Nat) (s : State) : Keeps 13675 s (execEntryRetire c queue now s) := by
  unfold execEntryRetire
  split
  · exact .ite (atDomain_keeps ((retrySlots_ext ..).after rfl <| (retireRun_ext ..).mono rfl)) (.next (.refl _ _))
  · exact .next (.refl _ _)

theorem recordSwitch_ext (s : State) (c now t0 : Nat) : Ext 1 s (recordSwitch s c now t0) :=
  (setFld_ext ..).after rfl <| (setFld_ext ..).mono rfl

theorem noteSwitch_ext (s : State) (u i now : Nat) : Ext 8193 s (noteSwitch s u i now) := by
  unfold noteSwitch
  dsimp only
  split
  · refine .ite (.refl _ _) (.ite (.withSq rfl (.refl _ _)) ?_)
    split
    · exact (recordSwitch_ext ..).after rfl <| .withSq rfl (.refl _ _)
    · exact .withSq rfl (.refl _ _)
  · exact .refl _ _

theorem takePort_ext (s : State) (u i now : Nat) : Ext 8193 s (takePort s u i now) :=
  (noteSwitch_ext ..).after rfl <| .ite (.withSq rfl (.refl _ _)) (.refl _ _)

theorem startTile_ext (s : State) (c u : Nat) (k : Cand) (now : Nat) : Ext 12289 s (startTile s c u k now) :=
  .when ((useSlot_ext ..).after rfl <| (setEng_ext ..).after rfl <| (setStep_ext ..).mono rfl) ((takePort_ext ..).mono rfl)

theorem execEngineTileBoundary_keeps (unit : BitVec 16) (now : Nat) (s : State) : Keeps 12289 s (execEngineTileBoundary unit now s) := by
  unfold execEngineTileBoundary
  dsimp only
  split
  · exact .next (.refl _ _)
  · refine .ite (.next (.refl _ _)) ?_
    split
    · exact atDomain_keeps ((startTile_ext ..).mono rfl)
    · exact .next (.refl _ _)

theorem execTileComplete_keeps (unit : BitVec 16) (ns : Nat) (s : State) : Keeps 28866 s (execTileComplete unit ns s) := by
  unfold execTileComplete
  dsimp only
  split
  · exact .next (.refl _ _)
  · split
    · exact .ite (.next (.refl _ _)) (atDomain_keeps ((retrySlots_ext ..).after rfl <| (settleStep_ext ..).after rfl <|
        (dropTile_ext ..).after rfl <| (chargeTime_ext ..).mono rfl))
    · exact .next (.refl _ _)

theorem execTileWatchdog_keeps (unit : BitVec 16) (s : State) : Keeps 9539 s (execTileWatchdog unit s) := by
  unfold execTileWatchdog
  dsimp only
  split
  · exact .next (.refl _ _)
  · split
    · exact .next (.refl _ _)
    · exact .ite (.next (.refl _ _)) (atDomain_keeps ((sqNote_ext ..).after rfl <| (incCtr_ext ..).after rfl <| (incCtr_ext ..).after rfl <|
        (setEng_ext ..).mono rfl))

theorem dueClear_ext (s : State) (p : Nat) : Ext 16384 s (dueClear s p) :=
  .withEn rfl (.refl _ _)

theorem loseOccupant_ext (s : State) (i u : Nat) : Ext 9539 s (loseOccupant s i u) := by
  unfold loseOccupant
  dsimp only
  split
  · exact .refl _ _
  · exact .ite ((settleStep_ext ..).after rfl <| (sqNote_ext ..).after rfl <| (setStep_ext ..).mono rfl) (.refl _ _)

theorem losePort_ext (s : State) (i u : Nat) : Ext 9539 s (losePort s i u) := by
  unfold losePort
  dsimp only
  split
  · exact .refl _ _
  · exact (sqNote_ext ..).after rfl <| (setStep_ext ..).mono rfl

theorem resetTile_ext {m : Nat} {s : State} {u : Nat} {charge : State → State} (hc : ∀ s, Ext m s (charge s))
    (hm : 26051 &&& m = 26051) :
    Ext m s (resetTile s u charge) := by
  unfold resetTile
  refine .ite ((emit_ext ..).within rfl hm ((dueClear_ext ..).within rfl hm ?_)) ?_
  · dsimp only
    split
    · refine (settleStep_ext ..).within rfl hm ((freePort_ext ..).within rfl hm ?_)
      dsimp only
      split
      · exact (settleStep_ext ..).within rfl hm ((dropTile_ext ..).within rfl hm
          (.trans ((sqNote_ext ..).within rfl hm ((losePort_ext ..).within rfl hm (.refl _ _))) (hc _)))
      · exact (losePort_ext ..).within rfl hm (.refl _ _)
    · refine (freePort_ext ..).within rfl hm ?_
      dsimp only
      split
      · exact (settleStep_ext ..).within rfl hm ((dropTile_ext ..).within rfl hm
          (.trans ((sqNote_ext ..).within rfl hm (.refl _ _)) (hc _)))
      · exact .refl _ _
  · split
    · refine (settleStep_ext ..).within rfl hm ((dropTile_ext ..).within rfl hm (.trans ((sqNote_ext ..).within rfl hm ?_) (hc _)))
      split
      · exact (losePort_ext ..).within rfl hm (.refl _ _)
      · exact .refl _ _
    · split
      · exact (losePort_ext ..).within rfl hm (.refl _ _)
      · exact .refl _ _

theorem remapUnit_ext (s : State) (c u : Nat) : Ext 8192 s (remapUnit s c u) :=
  (remapSteps_ext ..).mono rfl

theorem resetEngine_ext (s : State) (u : Nat) (x : Step) (ns : Nat) : Ext 30147 s (resetEngine s u x ns) :=
  resetTile_ext (fun _ => (chargeTime_ext ..).mono rfl) rfl

theorem execTileWatchdogLimit2_keeps (w : UnitTime) (s : State) : Keeps 30147 s (execTileWatchdogLimit2 w s) := by
  unfold execTileWatchdogLimit2
  dsimp only
  split
  · exact .next (.refl _ _)
  · split
    · exact .next (.refl _ _)
    · exact .ite (.next (.refl _ _)) (atDomain_keeps ((retrySlots_ext ..).after rfl <| (remapUnit_ext ..).after rfl <|
        (resetEngine_ext ..).mono rfl))

theorem execSliceExpiry_keeps (port : Fin 128) (now : Nat) (far : Bool) (s : State) : Keeps 8209 s (execSliceExpiry port now far s) := by
  unfold execSliceExpiry
  dsimp only
  split
  · exact .next (.refl _ _)
  · split
    · exact .next (.refl _ _)
    · refine .ite ?_ (.next (.refl _ _))
      split
      · exact atDomain_keeps ((preemptFor_ext ..).after rfl <| (setStep_ext ..).mono rfl)
      · exact .next (.refl _ _)

theorem saved_ext (s : State) (i : Nat) (x : Step) (yielding : Bool) (now : Nat) : Ext 8194 s (saved s i x yielding now) :=
  .unless ((setStep_ext ..).mono rfl) (.fold (fun _ _ => (incCtr_ext ..).mono rfl) ((incCtr_ext ..).after rfl <| (incCtr_ext ..).mono rfl))

theorem beginSave_ext (s : State) (i : Nat) (x : Step) (rs : List LiveRange) (units : List Nat) (yielding : Bool) (now : Nat) :
    Ext 8194 s (beginSave s i x rs units yielding now) :=
  .when (.withSq rfl ((setStep_ext ..).mono rfl)) ((saved_ext ..).mono rfl)

theorem goOn_ext (s : State) (c q i : Nat) (f : Step → Step) : Ext 12290 s (goOn s c q i f) :=
  (retrySlots_ext ..).after rfl <| gaining_ext ((stepComplete_ext ..).after rfl <| (modStep_ext ..).mono rfl) rfl

theorem execPreemptStopPoint_keeps (b : StepTime) (s : State) : Keeps 30187 s (execPreemptStopPoint b s) := by
  unfold execPreemptStopPoint
  split
  · exact .next (.refl _ _)
  · split
    · exact .next (.refl _ _)
    · refine .ite (.next (.refl _ _)) (atDomain_keeps (runWork_ext (.seq (readRanges_keeps rfl) fun _ => .bind getSt_keeps fun s1 hs1 => ?_)
        rfl))
      split
      · exact .pure ((goOn_ext ..).after rfl <| (sqNote_ext ..).after rfl hs1)
      · split
        · exact .pure ((beginSave_ext ..).after rfl hs1)
        · exact .pure ((goOn_ext ..).after rfl <| (incCtr_ext ..).after rfl hs1)

theorem spillLine_keeps {m : Nat} {s0 : State} {x : Step} {mv : SpillMove} {out : Bool} {k : Nat}
    (hm : 17899 &&& m = 17899) : WorkReads m s0 (spillLine x mv out k) := by
  unfold spillLine
  refine .bind getSt_keeps fun s hs => .ite (.seq (lineWork_keeps (sub_trans rfl hm)) fun r =>
    .bind getSt_keeps fun s1 hs1 => .seq ⟨fun _ _ => ?_⟩ fun _ => .val)
    (.seq ⟨fun _ _ => ?_⟩ fun _ => .seq (lineWork_keeps (sub_trans rfl hm)) fun _ => .val)
  all_goals
    beta_reduce
    extract_lets stall
    split
    · exact .stall fun _ => nofun
    · rename_i e
      have hc := ((chargeWork_keeps ..).of _ e).within rfl hm (by assumption)
      split
      · rename_i e
        exact ⟨trivial, .of_snd e ((accessNow_ext ..).within rfl hm hc)⟩
      · rename_i e
        exact fun t h => Why.halted.inj h ▸ .of_snd e ((accessNow_ext ..).within rfl hm hc)

theorem spillMoves_keeps {m : Nat} {s0 : State} {x : Step} {out : Bool} {l : List SpillMove}
    (hm : 17899 &&& m = 17899) : WorkReads m s0 (spillMoves x out l) := by
  induction l with
  | nil => exact .val
  | cons mv ms ih =>
    unfold spillMoves
    exact .ite ih (.seq (.foldlM (fun _ k => spillLine_keeps (sub_trans rfl hm)) _) fun _ => ih)

theorem execSaveDone_keeps (step : Nat) (w : PortTime) (now : Nat) (s : State) : Keeps 30187 s (execSaveDone step w now s) := by
  unfold execSaveDone
  dsimp only
  split
  · exact .next (.refl _ _)
  · split
    · exact .ite (.next (.refl _ _)) (atEngine_keeps (runWork_ext
        (.seq (spillMoves_keeps rfl) fun _ => .bind getSt_keeps fun s1 hs1 => .pure
        (.when ((freePort_ext ..).after rfl <| (setStep_ext ..).after rfl <| (chargeCtx_ext ..).after rfl hs1) ((saved_ext ..).mono rfl)))
        rfl))
    · exact .next (.refl _ _)

theorem execChunkEnd_keeps (b : StepTime) (s : State) : Keeps 30187 s (execChunkEnd b s) := by
  unfold execChunkEnd
  dsimp only
  split
  · exact .next (.refl _ _)
  · refine .ite (.next (.refl _ _)) ?_
    split
    · exact atDomain_keeps ((goOn_ext ..).mono rfl)
    · refine .ite (atDomain_keeps ((goOn_ext ..).mono rfl)) (atDomain_keeps
        (runWork_ext (.seq (readRanges_keeps rfl) fun _ => .bind getSt_keeps fun s1 hs1 => ?_) rfl))
      split
      · exact .pure ((goOn_ext ..).after rfl <| (sqNote_ext ..).after rfl hs1)
      · split
        · exact .pure ((beginSave_ext ..).after rfl <| (incCtr_ext ..).after rfl hs1)
        · exact .pure ((goOn_ext ..).after rfl hs1)

theorem resumeStep_ext (s : State) (step : Nat) (x : Step) (m : List (Nat × Nat)) (now : Nat) : Ext 12290 s (resumeStep s step x m now) :=
  (retrySlots_ext ..).after rfl <| (useSlot_ext ..).after rfl <| (addCtr_ext ..).after rfl <| gaining_ext
    ((stepComplete_ext ..).after rfl <| .withSq rfl ((setStep_ext ..).mono rfl)) rfl

theorem execStepResume_keeps (step now : Nat) (s : State) : Keeps 12290 s (execStepResume step now s) := by
  unfold execStepResume
  split
  · exact .next (.refl _ _)
  · refine .ite (.next (.refl _ _)) ?_
    split
    · exact .next (.refl _ _)
    · exact atDomain_keeps ((resumeStep_ext ..).mono rfl)

theorem execRestoreDone_keeps (step : Nat) (w : PortTime) (s : State) : Keeps 30187 s (execRestoreDone step w s) := by
  unfold execRestoreDone
  dsimp only
  split
  · exact .next (.refl _ _)
  · exact .ite (.next (.refl _ _)) (atEngine_keeps (runWork_ext (.seq (spillMoves_keeps rfl) fun _ => .bind getSt_keeps fun s1 hs1 => .pure
      (.when ((leavePort_ext ..).after rfl <| (setStep_ext ..).after rfl <| (chargeCtx_ext ..).after rfl hs1)
      ((retrySlots_ext ..).after rfl <| (settleStep_ext ..).mono rfl))) rfl))

theorem execSqSpillEnable_keeps (q : Requester) (c : CoveId) (v : Word) (s : State) : Keeps 1 s (execSqSpillEnable q c v s) :=
  atFabric_keeps (.ite (.refl _ _) (.ite ((setFlag_ext ..).after rfl <| (setFlag_ext ..).after rfl <| (setFld_ext ..).after rfl <|
    (setFld_ext ..).mono rfl) ((setFlag_ext ..).after rfl <| (setFld_ext ..).after rfl <| (setFld_ext ..).mono rfl)))

theorem abortTiles_ext (s : State) (p : Step → Bool) : Ext 8192 s (abortTiles s p) :=
  .withSq rfl (.refl _ _)

theorem finishDestroy_ext (s : State) (c q : Nat) : Ext 30187 s (finishDestroy s c q) := by
  unfold finishDestroy
  refine (retrySlots_ext ..).after rfl ?_
  split
  · exact (signalEvent_ext ..).after rfl <| (setQueue_ext ..).after rfl <| .fold (fun _ a => (discardRun_ext ..).mono rfl) (.refl _ _)
  · exact (setQueue_ext ..).after rfl <| .fold (fun _ a => (discardRun_ext ..).mono rfl) (.refl _ _)

theorem tryDestroy_ext (s : State) (c q : Nat) : Ext 30187 s (tryDestroy s c q) :=
  .ite ((finishDestroy_ext ..).mono rfl) (.refl _ _)

theorem beginDestroy_ext (s : State) (c q : Nat) (abort : Bool) (ev : Option (Nat × Nat)) : Ext 30187 s (beginDestroy s c q abort ev) :=
  (retrySlots_ext ..).after rfl <| (tryDestroy_ext ..).after rfl <| (setQueue_ext ..).after rfl <| .when
    (.fold (fun _ _ => (leaveGroups_ext ..).mono rfl) (.fold (fun _ _ => (discardStep_ext ..).mono rfl) ((discardFifo_ext ..).mono rfl)))
    ((abortTiles_ext ..).mono rfl)

theorem execQDestroy_keeps (q : Requester) (c : CoveId) (s : State) : Keeps 30187 s (execQDestroy q c s) :=
  obCmd_keeps (.ite_snd (.refl _ _) ((beginDestroy_ext ..).mono rfl)) rfl

theorem execQdestroyEngineAck_keeps (c : CoveId) (queue : Idx64) (unit : BitVec 16) (s : State) :
    Keeps 30187 s (execQdestroyEngineAck c queue unit s) :=
  .ite (.next (.refl _ _)) (atDomain_keeps ((tryDestroy_ext ..).after rfl <| (setQueue_ext ..).mono rfl))

theorem execQdestroyStuck_keeps (c : CoveId) (queue : Idx64) (s : State) : Keeps 257 s (execQdestroyStuck c queue s) :=
  .ite (.next (.refl _ _)) (atDomain_keeps ((raiseSrc_ext ..).after rfl <| (setFlag_ext ..).mono rfl))

/-! ### Ports -/

theorem writeInbuf_ext (s : State) (p off : Nat) (data : List Byte) : Ext 16384 s (writeInbuf s p off data) := by
  unfold writeInbuf
  refine .fold (fun s1 a => ?_) (.refl _ _)
  dsimp only
  split
  · exact .withEn rfl (.refl _ _)
  · exact .refl _ _

theorem execEpDelivery_keeps (port : Fin 128) (now : Nat) (s : State) : Keeps 24577 s (execEpDelivery port now s) := by
  unfold execEpDelivery
  dsimp only
  split
  · exact .next (.refl _ _)
  · exact .ite (.next (.refl _ _)) (atDomain_keeps ((takePort_ext ..).after rfl <| (writeInbuf_ext ..).after rfl <| .withEn rfl
      (.refl _ _)))

theorem setEp_ext (s : State) (p : Nat) (t : EpTile) : Ext 16384 s (setEp s p t) :=
  .withEn rfl (.refl _ _)

theorem noteLane_ext (s : State) (p : Nat) (t : EpTile) : Ext 8192 s (noteLane s p t) := by
  unfold noteLane
  split
  · exact .ite ((modStep_ext ..).mono rfl) (.refl _ _)
  · exact .refl _ _

theorem beginEp_ext (s : State) (c p : Nat) (t : EpTile) (aop : Nat) : Ext 25923 s (beginEp s c p t aop) :=
  .when ((emit_ext ..).after rfl <| (setEp_ext ..).after rfl <| (noteLane_ext ..).after rfl <| (beginTile_ext ..).mono rfl)
    ((faultLane_ext ..).mono rfl)

theorem startEp_keeps {m : Nat} {s0 : State} {c p : Nat} {t : OnTile} (hm : 26091 &&& m = 26091) : WorkMakes m s0 (startEp c p t) := by
  unfold startEp
  refine .seq (readWork_keeps (sub_trans rfl hm)) fun _ => .bind getSt_keeps fun s hs => ?_
  dsimp only
  split
  · exact .pure ((failTile_ext ..).within rfl hm hs)
  · split
    · exact .pure ((failTile_ext ..).within rfl hm hs)
    · refine .ite (.pure ((beginEp_ext ..).within rfl hm hs)) (.seq (readWork_keeps (sub_trans rfl hm)) fun _ => .bind getSt_keeps fun s1
        hs1 => .pure ?_)
      split
      · exact (failTile_ext ..).within rfl hm hs1
      · exact (beginEp_ext ..).within rfl hm hs1

theorem execEpTileStart_keeps (port : Fin 128) (s : State) : Keeps 30187 s (execEpTileStart port s) := by
  unfold execEpTileStart
  dsimp only
  split
  · exact .ite (atDomain_keeps ((endTile_ext ..).mono rfl)) (atEngine_keeps (runWork_ext (startEp_keeps rfl) rfl))
  · exact .next (.refl _ _)

theorem endFeed_ext (s : State) (p : Nat) (t : EpTile) : Ext 16576 s (endFeed s p t) :=
  (emit_ext ..).after rfl <| (presentUrg_ext ..).after rfl <| (setEp_ext ..).mono rfl

theorem fedRow_ext (s : State) (p : Nat) (t : EpTile) (zero : Bool) (bytes : List Byte) : Ext 16576 s (fedRow s p t zero bytes) := by
  unfold fedRow
  dsimp only
  exact .when ((emit_ext ..).after rfl <| (setEp_ext ..).mono rfl) ((endFeed_ext ..).mono rfl)

theorem feedRow_keeps {m : Nat} {s0 : State} {c p : Nat} {t : EpTile} (hm : 17899 &&& m = 17899) : WorkMakes m s0 (feedRow c p t) := by
  unfold feedRow
  dsimp only
  refine .bind getSt_keeps fun s hs => .ite (.pure ((fedRow_ext ..).within rfl hm hs))
    (.ite (.pure ((fedRow_ext ..).within rfl hm hs)) (.seq (readLinesAt_keeps (sub_trans rfl hm)) fun _ => .bind getSt_keeps fun s1 hs1 =>
    ?_))
  split
  · exact .pure ((fedRow_ext ..).within rfl hm hs1)
  · refine .ite (.pure ?_) (.pure ((fedRow_ext ..).within rfl hm hs1))
    split
    · exact (fedRow_ext ..).within rfl hm ((faultLane_ext ..).within rfl hm hs1)
    · exact (faultLane_ext ..).within rfl hm hs1

theorem execEpFeedRow_keeps (port : Fin 128) (s : State) : Keeps 30187 s (execEpFeedRow port s) := by
  unfold execEpFeedRow
  dsimp only
  split
  · exact .ite (.next (.refl _ _)) (.ite (atDomain_keeps ((endFeed_ext ..).mono rfl))
      (atEngine_keeps (runWork_ext (feedRow_keeps rfl) rfl)))
  · exact .next (.refl _ _)

theorem writeBack_keeps {m : Nat} {s0 : State} {c p : Nat} {t : EpTile} {lane : Bool} {row : Nat} {data : List Byte}
    (hm : 17899 &&& m = 17899) : WorkMakes m s0 (writeBack c p t lane row data) := by
  unfold writeBack
  refine .bind getSt_keeps fun s hs => .ite (.pure ((setEp_ext ..).within rfl hm hs))
    (.seq (writeLinesErr_keeps (sub_trans rfl hm)) fun _ => .bind getSt_keeps fun s1 hs1 => .pure ?_)
  split
  · exact (setEp_ext ..).within rfl hm hs1
  · exact .ite ((faultLane_ext ..).within rfl hm ((setEp_ext ..).within rfl hm hs1)) ((setEp_ext ..).within rfl hm hs1)

theorem execArrOutputRow_keeps (port : Fin 128) (lane : Bool) (row : BitVec 13) (data : List Byte) (s : State) :
    Keeps 30187 s (execArrOutputRow port lane row data s) := by
  unfold execArrOutputRow
  dsimp only
  split
  · exact .ite (.next (.refl _ _)) (atEngine_keeps (runWork_ext (writeBack_keeps rfl) rfl))
  · exact .next (.refl _ _)

theorem execArrTbAck_keeps (port : Fin 128) (s : State) : Keeps 8192 s (execArrTbAck port s) := by
  unfold execArrTbAck
  dsimp only
  split
  · exact .ite (atDomain_keeps ((endTile_ext ..).mono rfl)) (.next (.refl _ _))
  · exact .next (.refl _ _)

theorem execArrErr_keeps (port : Fin 128) (s : State) : Keeps 17859 s (execArrErr port s) := by
  unfold execArrErr
  dsimp only
  split
  · exact .ite (.next (.refl _ _)) (atDomain_keeps ((unitNote_ext ..).after rfl <| .ite ((setEp_ext ..).mono rfl)
      ((endFeed_ext ..).mono rfl)))
  · exact .next (.refl _ _)

theorem spLine_keeps (s : State) (p i : Nat) (x : Step) (m : SpillMove) (data : Line) :
    KeepsSome 26091 s (spLine s p i x m data) := by
  unfold spLine
  refine .map fun t e => ?_
  have ht : Ext 26091 s t := ((chargeWork_keeps ..).of _ e).after rfl ((setStep_ext ..).mono rfl)
  extract_lets q
  split
  · exact (accessNow_ext ..).after rfl (.ite ht ((emit_ext ..).after rfl ht))
  · have h : Ext 26091 s (accessNow t (q .read)).2 := (accessNow_ext ..).after rfl ht
    generalize accessNow t (q .read) = a at h
    obtain ⟨r, u⟩ := a
    exact .ite ((writeInbuf_ext ..).after rfl h) ((emit_ext ..).after rfl h)

theorem execEpScratchpadAccess_keeps (port : Fin 128) (data : Line) (s : State) : Keeps 26091 s (execEpScratchpadAccess port data s) := by
  unfold execEpScratchpadAccess
  dsimp only
  split
  · exact .ite (.next (.refl _ _)) (atEngine_keeps (paidOr_ext ((spLine_keeps ..).mono rfl) rfl))
  · exact .next (.refl _ _)

theorem execArrayClear_keeps (port : Fin 128) (s : State) : Keeps 16384 s (execArrayClear port s) :=
  .ite (.next (.refl _ _)) (atDomain_keeps ((emit_ext ..).after rfl <| .withEn rfl (.refl _ _)))

theorem portIn_ext (s : State) (p : Nat) : Ext 24576 s (portIn s p) := by
  unfold portIn
  dsimp only
  split
  · exact (rehome_ext ..).after rfl <| .withEn rfl (.refl _ _)
  · exact .withEn rfl (.refl _ _)

theorem execArrClrDone_keeps (port : Fin 128) (s : State) : Keeps 24576 s (execArrClrDone port s) :=
  .ite (atDomain_keeps ((portIn_ext ..).mono rfl)) (.next (.refl _ _))

theorem execArrayClearTimeout_keeps (port : Fin 128) (s : State) : Keeps 16641 s (execArrayClearTimeout port s) := by
  unfold execArrayClearTimeout
  refine .ite (.next (.refl _ _)) (atDomain_keeps ?_)
  dsimp only
  split
  · exact (raiseSrc_ext ..).after rfl <| (setFld_ext ..).after rfl <| .withEn rfl (.refl _ _)
  · exact (raiseSrc_ext ..).after rfl <| (setFlag_ext ..).after rfl <| (setFld_ext ..).after rfl <| .withEn rfl (.refl _ _)

/-! ### Tenancy -/

theorem setCoveSt_ext (s : State) (c v : Nat) : Ext 1 s (setCoveSt s c v) :=
  (setFld_ext ..).after rfl <| (setFld_ext ..).mono rfl

theorem badSeq_ext (s : State) (c : Nat) : Ext 1 s (badSeq s c) :=
  (setFlag_ext ..).mono rfl

theorem setCopies_ext (s : State) (l : List BxCopy) : Ext 32768 s (setCopies s l) :=
  .withSc rfl (.refl _ _)

theorem showCopies_ext (s : State) (c : Nat) : Ext 1 s (showCopies s c) :=
  (setFld_ext ..).mono rfl

theorem assignCopies_ext (s : State) : Ext 32768 s (assignCopies s) :=
  (setCopies_ext ..).mono rfl

theorem endSession_ext (s : State) (c : Nat) : Ext 32769 s (endSession s c) :=
  (setFlag_ext ..).after rfl <| .withSc rfl (.refl _ _)

theorem cancelStarts_ext (s : State) (c : Nat) : Ext 8208 s (cancelStarts s c) :=
  .unless (.withTide rfl ((setMaster_ext ..).mono rfl)) (.withSq rfl (.refl _ _))

theorem abortWork_ext (s : State) (c : Nat) : Ext 24640 s (abortWork s c) :=
  .withEn rfl (.withXl rfl (.fold (fun _ _ => (endTile_ext ..).after rfl <| (clearWork_ext ..).mono rfl)
    ((failHeld_ext ..).after rfl <| (abortTiles_ext ..).mono rfl)))

theorem beginQuiesce_ext (s : State) (c : Nat) (abort : Bool) : Ext 24657 s (beginQuiesce s c abort) :=
  .when ((cancelStarts_ext ..).after rfl <| (setFlag_ext ..).after rfl <| (setCoveSt_ext ..).mono rfl) ((abortWork_ext ..).mono rfl)

theorem releaseCove_ext (s : State) (c : Nat) : Ext 40977 s (releaseCove s c) :=
  (assignCopies_ext ..).after rfl <| .unless ((setCoveSt_ext ..).mono rfl) ((nextStart_ext ..).mono rfl)

theorem quiesceWrite_ext (s : State) (c v : Nat) : Ext 57425 s (quiesceWrite s c v) :=
  .ite (.refl _ _) (.ite ((badSeq_ext ..).mono rfl) (.ite (.ite ((beginQuiesce_ext ..).mono rfl)
    (.ite ((beginQuiesce_ext ..).mono rfl) ((badSeq_ext ..).mono rfl))) (.ite ((releaseCove_ext ..).mono rfl) ((badSeq_ext ..).mono rfl))))

theorem execCvQuiesceReq_keeps (q : Requester) (c : CoveId) (v : Word) (s : State) : Keeps 57425 s (execCvQuiesceReq q c v s) :=
  atFabric_keeps ((quiesceWrite_ext ..).mono rfl)

theorem execCvQuiesceRelease_keeps (q : Requester) (c : CoveId) (v : Word) (s : State) : Keeps 57425 s (execCvQuiesceRelease q c v s) :=
  atFabric_keeps ((quiesceWrite_ext ..).mono rfl)

theorem execQuiesceStuck_keeps (c : CoveId) (s : State) : Keeps 257 s (execQuiesceStuck c s) :=
  .ite (.next (.refl _ _)) (atDomain_keeps ((raiseSrc_ext ..).after rfl <| (setFlag_ext ..).mono rfl))

theorem resetFlip_ext (s : State) (c : Nat) : Ext 17 s (resetFlip s c) := by
  unfold resetFlip
  dsimp only
  split
  · exact .refl _ _
  · split
    · rename_i e2
      split
      · exact (setFld_ext ..).after rfl <| (takeReport_ext e2).mono rfl
      · exact (setFld64_ext ..).after rfl <| (setFlag_ext ..).after rfl <| (setFld_ext ..).after rfl <| (takeReport_ext e2).mono rfl
    · exact (setFld_ext ..).mono rfl

theorem resetTide_ext (s : State) (c : Nat) : Ext 19 s (resetTide s c) :=
  .withTide rfl (.fold (fun _ _ => (setTap_ext ..).mono rfl) (.when ((resetFlip_ext ..).after rfl <| (cancelSlate_ext ..).mono rfl)
    ((setMaster_ext ..).mono rfl)))

theorem resetWork_ext (s : State) (c : Nat) : Ext 28866 s (resetWork s c) :=
  .fold (fun _ _ => .ite ((dueClear_ext ..).mono rfl) (.refl _ _))
    (.withEn rfl (.withSq rfl (.fold (fun _ _ => (discardStep_ext ..).mono rfl) (.refl _ _))))

theorem resetObjects_ext (s : State) (c : Nat) : Ext 4097 s (resetObjects s c) :=
  (setFlag_ext ..).after rfl <| (setFlag_ext ..).after rfl <| (setFlag_ext ..).after rfl <| (setFld_ext ..).after rfl <|
    (setFld_ext ..).after rfl <| (setFld_ext ..).after rfl <| (setFld_ext ..).after rfl <| (setFlag_ext ..).after rfl <|
    (setFlag_ext ..).after rfl <| (setFlag_ext ..).after rfl <| (setFlag_ext ..).after rfl <| (setFlag_ext ..).after rfl <| .withOb rfl
    (.refl _ _)

theorem resetXlate_ext (s : State) (c : Nat) : Ext 321 s (resetXlate s c) :=
  .when ((setFld_ext ..).after rfl <| (setFld_ext ..).after rfl <| .withXl rfl ((dropCoveXlate_ext ..).mono rfl))
    ((dlToggle_ext ..).mono rfl)

theorem resetSecurity_ext (s : State) (c : Nat) : Ext 32769 s (resetSecurity s c) :=
  (assignCopies_ext ..).after rfl <| (showCopies_ext ..).after rfl <| (setFlag_ext ..).after rfl <| (setFlag_ext ..).after rfl <|
    (setFlag_ext ..).after rfl <| (setFlag_ext ..).after rfl <| (setCopies_ext ..).after rfl <| (endSession_ext ..).mono rfl

theorem resetBeacon_ext (s : State) (c : Nat) (removal : Bool) : Ext 257 s (resetBeacon s c removal) := by
  unfold resetBeacon
  generalize List.range 64 = l
  refine beaconStep_ext ?_ rfl
  exact .fold (fun _ _ => .ite ((resetTgt_ext ..).mono rfl) (.refl _ _)) (clearCoveSrcs_ext ..)

theorem resetRegul_ext (s : State) (c r : Nat) : Ext 192 s (resetRegul s c r) :=
  (startWindow_ext ..).after rfl <| (setRegul_ext ..).mono rfl

theorem resetReguls_ext (s : State) (c : Nat) : Ext 200 s (resetReguls s c) :=
  (takeDesc_ext ..).after rfl <| .fold (fun _ _ => .ite ((resetRegul_ext ..).mono rfl) (.refl _ _)) (.refl _ _)

theorem clearBanks_ext (s : State) (c : Nat) : Ext 32 s (clearBanks s c) := dropTpWritten_ext ..

theorem clearCounters_ext (s : State) (c : Nat) : Ext 2 s (clearCounters s c) :=
  .dropCtrs rfl (.refl _ _) (tdrop_sublist ..)

theorem clearRequests_ext (s : State) (c : Nat) : Ext 513 s (clearRequests s c) :=
  (retargetAll_ext ..).after rfl <| .fold (fun _ _ => (setFlag_ext ..).mono rfl) (.refl _ _)

theorem scrubCove_ext (s : State) (c : Nat) : Ext 33834 s (scrubCove s c) := by
  unfold scrubCove
  refine .fold (fun s1 e => ?_) ((scrubFills_ext ..).mono rfl)
  dsimp only
  split
  · exact (takeScrub_ext ..).after rfl <| .withMem rfl rfl (.refl _ _)
  · exact .withMemSc rfl rfl ((setKr_ext ..).after rfl <| .withMem rfl rfl (.refl _ _))

theorem resetParts_ext (s : State) (c : Nat) (removal : Bool) : Ext 62459 s (resetParts s c removal) :=
  (retrySlots_ext ..).after rfl <| (emit_ext ..).after rfl <| .withSc rfl
    (.unless ((clearRequests_ext ..).after rfl <| (clearCounters_ext ..).after rfl <| (clearBanks_ext ..).after rfl <|
    (resetReguls_ext ..).after rfl <| (resetBeacon_ext ..).after rfl <| (resetSecurity_ext ..).after rfl <| (resetXlate_ext ..).after rfl <|
    (resetObjects_ext ..).after rfl <| (resetWork_ext ..).after rfl <| (resetTide_ext ..).mono rfl) ((showScale_ext ..).mono rfl))

theorem endMigration_ext (s : State) (c code : Nat) : Ext 32769 s (endMigration s c code) :=
  (setFld_ext ..).after rfl <| (setFlag_ext ..).after rfl <| (setFlag_ext ..).after rfl <| .withSc rfl (.refl _ _)

theorem beginReset_ext (s : State) (c : Nat) (scrub : Bool) : Ext 63483 s (beginReset s c scrub) :=
  .when ((resetParts_ext ..).after rfl <| (setCoveSt_ext ..).after rfl <| .ite ((endMigration_ext ..).mono rfl) (.refl _ _))
    ((scrubCove_ext ..).mono rfl)

theorem execCvResetGo_keeps (q : Requester) (c : CoveId) (v : Word) (s : State) : Keeps 63483 s (execCvResetGo q c v s) :=
  atFabric_keeps (.ite (.refl _ _) (.ite ((beginReset_ext ..).mono rfl) ((badSeq_ext ..).mono rfl)))

theorem execQuiesceAck_keeps (c : CoveId) (s : State) : Keeps 63483 s (execQuiesceAck c s) :=
  .ite (.next (.refl _ _)) (atDomain_keeps (.when ((raiseSrc_ext ..).after rfl <| (setFlag_ext ..).after rfl <| (setCoveSt_ext ..).mono rfl)
    ((beginReset_ext ..).mono rfl)))

theorem restartTide_ext (s : State) (c : Nat) : Ext 275 s (restartTide s c) :=
  .ite (.refl _ _) (.fold (fun _ _ => (missEdge_ext ..).after rfl <| (setTap_ext ..).mono rfl) ((setMaster_ext ..).mono rfl))

theorem endFlr_ext (s : State) (c : Nat) : Ext 32768 s (endFlr s c) :=
  .ite ((emit_ext ..).after rfl <| .withSc rfl (.refl _ _)) (.refl _ _)

theorem execCoveResetDone_keeps (c : CoveId) (s : State) : Keeps 34067 s (execCoveResetDone c s) :=
  .ite (.next (.refl _ _)) (atDomain_keeps ((endFlr_ext ..).after rfl <| (raiseSrc_ext ..).after rfl <| (restartTide_ext ..).after rfl <|
    (lbAdd_ext ..).after rfl <| (setFld_ext ..).after rfl <| (setFlag_ext ..).after rfl <| (setCoveSt_ext ..).mono rfl))

theorem forceReset_ext (s : State) (c : Nat) : Ext 63483 s (forceReset s c) :=
  .ite ((beginReset_ext ..).mono rfl) (.ite (.refl _ _) (.when (.withSc rfl (.refl _ _)) ((beginQuiesce_ext ..).mono rfl)))

theorem actFlr_ext (s : State) (c : Nat) : Ext 63483 s (actFlr s c) :=
  .ite ((emit_ext ..).after rfl <| .withSc rfl (.refl _ _)) ((forceReset_ext ..).after rfl <| .unless (.withSc rfl (.refl _ _))
    ((setFlag_ext ..).mono rfl))

theorem heldFlrs_ext (s : State) : Ext 63483 s (heldFlrs s) :=
  .fold (fun _ _ => (actFlr_ext ..).mono rfl) (.refl _ _)

theorem execVfFlr_keeps (c : CoveId) (s : State) : Keeps 63483 s (execVfFlr c s) :=
  .next (.ite (.withSc rfl (.refl _ _)) ((actFlr_ext ..).mono rfl))

theorem execFlrResetStuck_keeps (c : CoveId) (s : State) : Keeps 1 s (execFlrResetStuck c s) :=
  .ite (.next (.refl _ _)) (atDomain_keeps ((setFlag_ext ..).mono rfl))

theorem hangReset_ext (s : State) (c : Nat) : Ext 63483 s (hangReset s c) :=
  .when (.withSc rfl (.refl _ _)) ((forceReset_ext ..).mono rfl)

theorem serveHangs_ext (s : State) : Ext 63483 s (serveHangs s) :=
  .fold (fun _ _ => (hangReset_ext ..).mono rfl) (.refl _ _)

theorem ownHang_ext (s : State) (c : Nat) : Ext 63483 s (ownHang s c) :=
  .unless (.withSc rfl ((raiseSrc_ext ..).after rfl <| (setFld_ext ..).mono rfl)) ((hangReset_ext ..).mono rfl)

theorem askReset_ext (s : State) (r : RstCause) : Ext 2048 s (askReset s r) :=
  .withLc rfl rfl (.refl _ _)

theorem actHang_ext (s : State) (c : Nat) (shared : Bool) : Ext 65531 s (actHang s c shared) :=
  .ite (.refl _ _) (.ite ((askReset_ext ..).mono rfl) ((ownHang_ext ..).mono rfl))

theorem slackHangs_ext (s : State) : Ext 65531 s (slackHangs s) :=
  .fold (fun _ _ => (actHang_ext ..).mono rfl) (.withSc rfl (.refl _ _))

theorem execCpHang_keeps (c : CoveId) (shared : Bool) (s : State) : Keeps 65531 s (execCpHang c shared s) :=
  .ite (.next (.refl _ _)) (.ite (.next (.withSc rfl (.refl _ _))) (.next ((actHang_ext ..).mono rfl)))

/-! ### Secure -/

theorem spdm_keeps {m : Nat} {s : State} {c : Nat} {f : State → SpdmResp × State} (hf : Ext m s (f s).2) : Keeps m s (spdm s c f) :=
  atLink_keeps (.ite ((emit_ext ..).after (Nat.zero_and m) hf) ((emit_ext ..).mono (Nat.zero_and m)))

theorem execSpdmGetMeasurements_keeps (c : CoveId) (index : Byte) (s : State) : Keeps 0 s (execSpdmGetMeasurements c index s) := by
  unfold execSpdmGetMeasurements
  refine spdm_keeps ?_
  dsimp only
  exact (drawFree_ext ..).mono rfl

theorem spdmAnswer_ext (s : State) (r : SpdmReq) : Ext 0 s (spdmAnswer s r).2 := by
  unfold spdmAnswer
  split
  case h_6 => exact .ite_snd (drawFree_ext s 768) (.refl _ _)
  all_goals exact .refl _ _

theorem execSpdmOtherRequest_keeps (c : CoveId) (req : SpdmReq) (s : State) : Keeps 0 s (execSpdmOtherRequest c req s) :=
  spdm_keeps ((spdmAnswer_ext ..).mono rfl)

theorem setSession_ext (s : State) (c : Nat) (x : Session) : Ext 32768 s (setSession s c x) :=
  .withSc rfl (.refl _ _)

theorem openExchange_ext (s : State) (c : Nat) : Ext 32768 s (openExchange s c) := by
  unfold openExchange
  dsimp only
  exact (setSession_ext ..).after rfl <| (drawFree_ext ..).mono rfl

theorem execSpdmKeyExchange_keeps (c : CoveId) (s : State) : Keeps 32768 s (execSpdmKeyExchange c s) :=
  spdm_keeps (.ite_snd (.refl _ _) (.ite_snd (.refl _ _) ((openExchange_ext ..).mono rfl)))

theorem freshCounter_ext (s : State) (c : Nat) (toHost : Bool) : Ext 3 s (freshCounter s c toHost) :=
  .ite ((setFlag_ext ..).after rfl <| (setFlag_ext ..).after rfl <| (setCtr_ext ..).mono rfl)
    ((setFlag_ext ..).after rfl <| (setFlag_ext ..).after rfl <| (setCtr_ext ..).mono rfl)

theorem establish_ext (s : State) (c : Nat) : Ext 32771 s (establish s c) := by
  unfold establish
  dsimp only
  exact (setFlag_ext ..).after rfl <| (freshCounter_ext ..).after rfl <| (freshCounter_ext ..).after rfl <| (setSession_ext ..).after rfl <|
    (drawFree_ext ..).after rfl <| (drawFree_ext ..).mono rfl

theorem execSpdmFinish_keeps (c : CoveId) (good : Bool) (s : State) : Keeps 32771 s (execSpdmFinish c good s) := by
  unfold execSpdmFinish
  refine spdm_keeps ?_
  split
  · exact .ite_snd (.refl _ _) (.ite_snd ((establish_ext ..).mono rfl) ((endSession_ext ..).mono rfl))
  · exact .refl _ _

theorem updateKey_ext (s : State) (c : Nat) (toHost : Bool) : Ext 32771 s (updateKey s c toHost) := by
  unfold updateKey
  dsimp only
  split
  · exact .refl _ _
  · exact (freshCounter_ext ..).after rfl <| (setSession_ext ..).after rfl <| (drawFree_ext ..).mono rfl

theorem execSpdmKeyUpdate_keeps (c : CoveId) (h2d d2h : Bool) (s : State) : Keeps 32771 s (execSpdmKeyUpdate c h2d d2h s) :=
  spdm_keeps (.ite_snd (.refl _ _) (.when (.ite ((updateKey_ext ..).mono rfl) (.refl _ _)) ((updateKey_ext ..).mono rfl)))

theorem execSpdmHeartbeat_keeps (c : CoveId) (s : State) : Keeps 0 s (execSpdmHeartbeat c s) :=
  spdm_keeps (.ite_snd (.refl _ _) (.refl _ _))

theorem execSpdmEndSession_keeps (c : CoveId) (s : State) : Keeps 32769 s (execSpdmEndSession c s) :=
  spdm_keeps (.ite_snd ((endSession_ext ..).mono rfl) (.refl _ _))

theorem execHeartbeatLoss_keeps (c : CoveId) (s : State) : Keeps 32769 s (execHeartbeatLoss c s) :=
  .ite (atDomain_keeps ((endSession_ext ..).mono rfl)) (.next (.refl _ _))

theorem takeCounter_ext (s : State) (c : Nat) (toHost : Bool) (v : Nat) : Ext 3 s (takeCounter s c toHost v) :=
  .ite (.when (.when ((setCtr_ext ..).mono rfl) ((setFlag_ext ..).mono rfl)) ((setFlag_ext ..).mono rfl))
    (.when (.when ((setCtr_ext ..).mono rfl) ((setFlag_ext ..).mono rfl)) ((setFlag_ext ..).mono rfl))

theorem acceptChunk_ext (s : State) (x : Session) (c addr kind : Nat) (ct : List Byte) (entry : BitVec 256) :
    Ext 3 s (acceptChunk s x c addr kind ct entry).2 := by
  unfold acceptChunk
  split
  · exact (incCtr_ext ..).mono rfl
  · refine .ite_snd ?_ ?_
    · exact (incCtr_ext ..).mono rfl
    · exact takeCounter_ext s c false _

theorem hostData_ext (s : State) (fn addr : Nat) (bytes : List Byte) : Ext 0 s (hostData s fn addr bytes).2 :=
  .ite_snd (.refl _ _) (.fold (fun _ _ => (emit_ext ..).mono rfl) (.refl _ _))

theorem sendChunk_ext (s : State) (x : Session) (fn c addr kind host tag : Nat) (data : List Byte) :
    Ext 3 s (sendChunk s x fn c addr kind host tag data).2 := by
  unfold sendChunk
  dsimp only
  split
  · rename_i e1
    exact (hostData_ext ..).after rfl <| .of_snd e1 ((hostData_ext ..).after rfl <| (takeCounter_ext ..).mono rfl)
  · exact (hostData_ext ..).after rfl <| (takeCounter_ext ..).mono rfl

theorem bxGo_ext (s : State) (c : Nat) : Ext 32769 s (bxGo s c) := by
  unfold bxGo
  refine .ite ((setFlag_ext ..).after rfl <| (setFld_ext ..).mono rfl) (.ite ((setFlag_ext ..).mono rfl) ?_)
  split
  · exact (assignCopies_ext ..).after rfl <| (showCopies_ext ..).after rfl <| (setCopies_ext ..).after rfl <| (unclean_ext ..).mono rfl
  · exact .refl _ _

theorem execCvBxGo_keeps (q : Requester) (c : CoveId) (s : State) : Keeps 34115 s (execCvBxGo q c s) :=
  atWindow_keeps ((bxGo_ext ..).mono rfl) rfl

theorem endCopy_ext (s : State) (b : Nat) (x : BxCopy) (code : Nat) : Ext 38251 s (endCopy s b x code) := by
  unfold endCopy
  refine (assignCopies_ext ..).after rfl ?_
  dsimp only
  split
  · exact (signalEvent_ext ..).after rfl <| .unless (.withXl rfl
      ((showCopies_ext ..).after rfl <| (setFld_ext ..).after rfl <| (setCopies_ext ..).mono rfl))
      ((report_ext ..).after rfl <| (setFlag_ext ..).mono rfl)
  · exact .unless (.withXl rfl ((showCopies_ext ..).after rfl <| (setFld_ext ..).after rfl <| (setCopies_ext ..).mono rfl))
      ((report_ext ..).after rfl <| (setFlag_ext ..).mono rfl)

theorem nextChunk_ext (s : State) (b : Nat) (x : BxCopy) : Ext 38251 s (nextChunk s b x) :=
  .ite ((endCopy_ext ..).mono rfl) ((setCopies_ext ..).mono rfl)

theorem chunkReads_ext (s : State) (x : BxCopy) : Ext 0 s (chunkReads s x) :=
  .ite (.refl _ _) ((emit_ext ..).after rfl <| (emit_ext ..).mono rfl)

theorem moveChunk_keeps {m : Nat} {s0 : State} {b : Nat} {x : BxCopy} {k : Session} {data : List Byte} {entry : BitVec 256}
    (hm : 54763 &&& m = 54763) : WorkMakes m s0 (moveChunk b x k data entry) := by
  unfold moveChunk
  refine .bind getSt_keeps fun s hs => .ite (.seq (readWork_keeps (sub_trans rfl hm)) fun _ => .bind getSt_keeps fun s1 hs1 => ?_) ?_
  · dsimp only
    split
    · exact .pure ((endCopy_ext ..).within rfl hm hs1)
    · exact .pure (.ite ((nextChunk_ext ..).within rfl hm ((sendChunk_ext ..).within rfl hm hs1))
        ((endCopy_ext ..).within rfl hm ((sendChunk_ext ..).within rfl hm hs1)))
  · split
    · rename_i e1
      exact .pure ((endCopy_ext ..).within rfl hm (.of_snd e1 ((acceptChunk_ext ..).within rfl hm ((chunkReads_ext ..).within rfl hm hs))))
    · rename_i e1
      exact .pure ((endCopy_ext ..).within rfl hm (.of_snd e1 ((acceptChunk_ext ..).within rfl hm ((chunkReads_ext ..).within rfl hm hs))))
    · rename_i e1
      exact .seq (putSt_keeps (.of_snd e1 ((acceptChunk_ext ..).within rfl hm ((chunkReads_ext ..).within rfl hm hs)))) fun _ => .seq
        (writeWork_keeps (sub_trans rfl hm)) fun _ => .bind getSt_keeps fun s1 hs1 => .pure
        (.ite ((nextChunk_ext ..).within rfl hm hs1) ((endCopy_ext ..).within rfl hm hs1))

theorem bounceChunk_ext (s : State) (b : Nat) (x : BxCopy) (data : List Byte) (entry : BitVec 256) (hostErr : Bool) :
    Ext 62955 s (bounceChunk s b x data entry hostErr) := by
  unfold bounceChunk
  refine .ite ((endCopy_ext ..).mono rfl) (.ite ((endCopy_ext ..).mono rfl) (.ite (.refl _ _) ?_))
  split
  · exact (endCopy_ext ..).mono rfl
  · exact .ite ((endCopy_ext ..).mono rfl) (.ite ((endCopy_ext ..).mono rfl)
      (.ite ((endCopy_ext ..).after rfl <| (chunkReads_ext ..).mono rfl) (runWork_ext (moveChunk_keeps rfl) rfl)))

theorem execBounceChunk_keeps (b : Fin 4) (data : List Byte) (entry : BitVec 256) (hostErr : Bool) (s : State) :
    Keeps 62955 s (execBounceChunk b data entry hostErr s) := by
  unfold execBounceChunk
  split
  · exact .next (.refl _ _)
  · exact .ite (.next (.refl _ _)) (atDomain_keeps ((bounceChunk_ext ..).mono rfl))

theorem execBounceHostTimeout_keeps (b : Fin 4) (s : State) : Keeps 38251 s (execBounceHostTimeout b s) := by
  unfold execBounceHostTimeout
  split
  · exact .next (.refl _ _)
  · exact atDomain_keeps ((endCopy_ext ..).mono rfl)

theorem fwCommit_ext (s : State) (v : Nat) : Ext 32769 s (fwCommit s v) :=
  .ite ((setFlag_ext ..).mono rfl) (.ite (.refl _ _) ((setFlag_ext ..).after rfl <| .withSc rfl (.refl _ _)))

theorem execFabFwCommit_keeps (q : Requester) (v : Word) (s : State) : Keeps 32769 s (execFabFwCommit q v s) :=
  atFabric_keeps ((fwCommit_ext ..).mono rfl)

theorem execFwCommitDone_keeps (s : State) : Keeps 32769 s (execFwCommitDone s) := by
  unfold execFwCommitDone
  dsimp only
  split
  · exact .next (.refl _ _)
  · exact .next ((setFlag_ext ..).after rfl <| (setFld_ext ..).after rfl <| .withSc rfl (.refl _ _))

theorem execTrngHealthChange_keeps (failing : Bool) (s : State) : Keeps 1027 s (execTrngHealthChange failing s) :=
  .ite (.next (.refl _ _)) (atDomain_keeps ((setFlag_ext ..).after rfl <| .ite ((lbAdd_ext ..).mono rfl) (.refl _ _)))

/-! ### Clocks -/

theorem forceUnit_ext (s : State) (u : Nat) : Ext 62955 s (forceUnit s u) := by
  unfold forceUnit
  dsimp only
  split
  · refine (remapUnit_ext ..).after rfl <| .withXl rfl ?_
    split
    · exact (endCopy_ext ..).after rfl <| resetTile_ext (fun _ => (chargeOpen_ext ..).mono rfl) rfl
    · exact resetTile_ext (fun _ => (chargeOpen_ext ..).mono rfl) rfl
  · refine .withXl rfl ?_
    split
    · exact (endCopy_ext ..).after rfl <| resetTile_ext (fun _ => (chargeOpen_ext ..).mono rfl) rfl
    · exact resetTile_ext (fun _ => (chargeOpen_ext ..).mono rfl) rfl

theorem clockHalt_ext (s : State) (d : Nat) : Ext 513 s (clockHalt s d) :=
  .when ((setFlag_ext ..).after rfl <| (setFlag_ext ..).mono rfl) (.withCk rfl (.refl _ _))

theorem dropScans_ext (s : State) : Ext 2048 s (dropScans s) :=
  .withLc rfl rfl (.refl _ _)

theorem loseDebug_ext (s : State) : Ext 2048 s (loseDebug s) :=
  (dropScans_ext ..).after rfl <| .withLc rfl rfl (.refl _ _)

theorem loseTelemetry_ext (s : State) : Ext 513 s (loseTelemetry s) :=
  .withCk rfl (.fold (fun _ _ => (setFld_ext ..).after rfl <| (setFlag_ext ..).after rfl <| (setFld_ext ..).after rfl <|
    (setFld_ext ..).mono rfl) (.refl _ _))

theorem forceOutcome_ext (s : State) (d : Nat) : Ext 65515 s (forceOutcome s d) :=
  .ite (.fold (fun _ _ => (forceUnit_ext ..).mono rfl) (.refl _ _))
    (.ite ((loseDebug_ext ..).mono rfl) (.ite (.refl _ _) (.ite ((loseTelemetry_ext ..).mono rfl) ((clockHalt_ext ..).mono rfl))))

theorem missDomain_ext (s : State) (d : Nat) : Ext 275 s (missDomain s d) :=
  .fold (fun _ _ => .ite ((missEdge_ext ..).mono rfl) (.refl _ _)) (.refl _ _)

theorem forceDom_ext (s : State) (m : Nat) : Ext 65531 s (forceDom s m) :=
  (forceOutcome_ext ..).after rfl <| (missDomain_ext ..).after rfl <| .when
    ((lbAdd_ext ..).after rfl <| (setFld_ext ..).after rfl <| (setDom_ext ..).mono rfl) (.withLc rfl rfl (.refl _ _))

theorem holdTides_ext (s : State) : Ext 17 s (holdTides s) :=
  (setFlag_ext ..).after rfl <| .withTide rfl (.refl _ _)

theorem srcDown_ext (s : State) (k : Nat) : Ext 513 s (srcDown s k) :=
  .ite ((setFlag_ext ..).after rfl <| (setFlag_ext ..).mono rfl)
    (.ite ((setFlag_ext ..).after rfl <| (setFlag_ext ..).mono rfl)
    (.ite ((setFlag_ext ..).after rfl <| (setFlag_ext ..).mono rfl)
    (.ite ((setFlag_ext ..).after rfl <| (setFlag_ext ..).mono rfl) ((setFld_ext ..).after rfl <| .withCk rfl ((setFld_ext ..).mono rfl)))))

theorem failOne_ext (s : State) (k : Nat) : Ext 65531 s (failOne s k) :=
  .fold (fun _ _ => (forceDom_ext ..).mono rfl) (.when ((raiseSrc_ext ..).after rfl <| (setFlag_ext ..).after rfl <| .withCk rfl
    ((lbAdd_ext ..).after rfl <| (incCtr_ext ..).after rfl <| (srcDown_ext ..).mono rfl)) ((holdTides_ext ..).mono rfl))

theorem failSource_ext (s : State) (k : Nat) : Ext 65531 s (failSource s k) :=
  .fold (fun _ _ => (failOne_ext ..).mono rfl) ((failOne_ext ..).mono rfl)

theorem execClockMonitorGate_keeps (src : Fin 10) (inside : Bool) (s : State) : Keeps 65531 s (execClockMonitorGate src inside s) :=
  .ite (.next (.refl _ _)) (.ite (.next (.withCk rfl (.refl _ _)))
    (.ite (.next (.withCk rfl (.refl _ _))) (.ite (.next ((failSource_ext ..).mono rfl)) (.next (.withCk rfl (.refl _ _))))))

theorem execLoopLockLoss_keeps (p : Fin 6) (s : State) : Keeps 65531 s (execLoopLockLoss p s) :=
  .ite (.next ((failSource_ext ..).mono rfl)) (.next (.refl _ _))

theorem execLoopLocked_keeps (p : Fin 6) (s : State) : Keeps 1 s (execLoopLocked p s) :=
  .ite (.next (.refl _ _)) (.next ((setFld_ext ..).after rfl <| (setFld_ext ..).mono rfl))

theorem execMuxSwitchDone_keeps (d : DomainId) (tidepool : Bool) (s : State) : Keeps 512 s (execMuxSwitchDone d tidepool s) := by
  unfold execMuxSwitchDone
  dsimp only
  split
  · exact .ite (.next ((setDom_ext ..).mono rfl)) (.next (.refl _ _))
  · exact .next (.refl _ _)

theorem execMuxSwitchTimeout_keeps (d : DomainId) (tidepool : Bool) (s : State) : Keeps 65531 s (execMuxSwitchTimeout d tidepool s) :=
  .ite (.next (.refl _ _)) (.next ((failSource_ext ..).mono rfl))

theorem armFreq_ext (s : State) (i : Nat) (up : Bool) : Ext 529 s (armFreq s i up) :=
  (armEntry_ext ..).after rfl <| (setIsl_ext ..).mono rfl

theorem writeMv_ext (s : State) (i mv : Nat) : Ext 1 s (writeMv s i mv) :=
  (emit_ext ..).after rfl <| (setFld_ext ..).mono rfl

theorem startTransition_ext (s : State) (i b : Nat) : Ext 1555 s (startTransition s i b) :=
  .ite ((writeMv_ext ..).after rfl <| (setIsl_ext ..).after rfl <| (lbAdd_ext ..).after rfl <| (incCtr_ext ..).after rfl <|
    (setFlag_ext ..).mono rfl) (.ite (.unless ((recompute_ext ..).after rfl <| (setIsl_ext ..).after rfl <| (lbAdd_ext ..).after rfl <|
    (incCtr_ext ..).after rfl <| (setFlag_ext ..).mono rfl) ((armFreq_ext ..).mono rfl))
    ((armFreq_ext ..).after rfl <| (setIsl_ext ..).after rfl <| (lbAdd_ext ..).after rfl <| (incCtr_ext ..).after rfl <|
    (setFlag_ext ..).mono rfl))

theorem execIslandTransitionStart_keeps (isl : IslandId) (s : State) : Keeps 1555 s (execIslandTransitionStart isl s) := by
  unfold execIslandTransitionStart
  dsimp only
  split
  · exact .ite (.next (.refl _ _)) (atDomain_keeps ((startTransition_ext ..).mono rfl))
  · exact .ite (.next (.refl _ _)) (atDomain_keeps ((armFreq_ext ..).mono rfl))
  · exact .next (.refl _ _)

theorem stackRests_ext (s : State) (n : Nat) : Ext 513 s (stackRests s n) :=
  .ite ((setFlag_ext ..).after rfl <| .withCk rfl (.refl _ _)) (.refl _ _)

theorem stackWakes_ext (s : State) (n : Nat) : Ext 513 s (stackWakes s n) :=
  .ite ((emit_ext ..).after rfl <| (setFlag_ext ..).after rfl <| .withCk rfl (.refl _ _)) (.refl _ _)

theorem slewTo_ext (s : State) (i m : Nat) : Ext 512 s (slewTo s i m) :=
  .ite (.withCk rfl (.refl _ _)) (.refl _ _)

theorem launchFreq_ext (s : State) (i t : Nat) : Ext 513 s (launchFreq s i t) := by
  unfold launchFreq
  refine (slewTo_ext ..).after rfl ?_
  dsimp only
  split
  · exact (stackRests_ext ..).after rfl <| .fold (fun _ m => (setDom_ext ..).mono rfl) (.refl _ _)
  · exact .fold (fun _ m => (setDom_ext ..).mono rfl) (.refl _ _)

theorem execLoopSlewStep_keeps (p : Fin 6) (s : State) : Keeps 513 s (execLoopSlewStep p s) := by
  unfold execLoopSlewStep
  dsimp only
  split
  · exact .next (.refl _ _)
  · exact .next (.when ((setFld_ext ..).mono rfl) (.withCk rfl (.refl _ _)))

theorem addMv_ext (s : State) (i : Nat) : Ext 1 s (addMv s i) :=
  .ite (.refl _ _) ((writeMv_ext ..).mono rfl)

theorem endTransition_ext (s : State) (i : Nat) : Ext 513 s (endTransition s i) :=
  (addMv_ext ..).after rfl <| (setFlag_ext ..).after rfl <| (setFld_ext ..).after rfl <| (setIsl_ext ..).mono rfl

theorem freqOutcome_ext (s : State) (i : Nat) (up : Bool) (r : SlateEnd) : Ext 529 s (freqOutcome s i up r) := by
  unfold freqOutcome
  dsimp only
  split
  · exact .ite ((recompute_ext ..).after rfl <| (endTransition_ext ..).mono rfl) ((writeMv_ext ..).after rfl <| (setIsl_ext ..).mono rfl)
  · exact (armEntry_ext ..).mono rfl
  · exact (armEntry_ext ..).mono rfl

theorem execFreqChangeDone_keeps (isl : IslandId) (s : State) : Keeps 529 s (execFreqChangeDone isl s) := by
  unfold execFreqChangeDone
  dsimp only
  split
  · rename_i e2
    exact atDomain_keeps ((freqOutcome_ext ..).after rfl <| (takeReport_ext e2).mono rfl)
  · exact .next (.refl _ _)

theorem avsFail_ext (s : State) (i : Nat) (up : Bool) : Ext 1795 s (avsFail s i up) :=
  (raiseSrc_ext ..).after rfl <| (setFlag_ext ..).after rfl <| (lbAdd_ext ..).after rfl <| (setIsl_ext ..).mono rfl

theorem settled_ext (s : State) (i : Nat) (up : Bool) (mv : Nat) : Ext 1811 s (settled s i up mv) :=
  .ite (.ite ((armFreq_ext ..).mono rfl) ((endTransition_ext ..).mono rfl))
    (.ite ((avsFail_ext ..).mono rfl) ((writeMv_ext ..).after rfl <| (setIsl_ext ..).mono rfl))

theorem execVoltageSettled_keeps (isl : IslandId) (readback : Nat) (s : State) : Keeps 1811 s (execVoltageSettled isl readback s) := by
  unfold execVoltageSettled
  split
  · exact atDomain_keeps ((settled_ext ..).mono rfl)
  · exact atDomain_keeps ((settled_ext ..).mono rfl)
  · exact .next (.refl _ _)

theorem retryIsl_ext (s : State) (i : Nat) : Ext 513 s (retryIsl s i) := by
  unfold retryIsl
  dsimp only
  split
  · exact (writeMv_ext ..).after rfl <| (setIsl_ext ..).mono rfl
  · exact .refl _ _

theorem execVsAvsRetry_keeps (q : Requester) (s : State) : Keeps 513 s (execVsAvsRetry q s) :=
  atFabric_keeps (.fold (fun _ _ => (retryIsl_ext ..).mono rfl) ((setFlag_ext ..).mono rfl))

theorem execVsCoveReq_keeps (q : Requester) (isl : IslandId) (c : CoveId) (v : Word) (s : State) :
    Keeps 513 s (execVsCoveReq q isl c v s) :=
  atFabric_keeps ((retarget_ext ..).after rfl <| (setFld_ext ..).after rfl <| (setFld_ext ..).mono rfl)

theorem execVsIslReq_keeps (q : Requester) (isl : IslandId) (v : Word) (s : State) : Keeps 513 s (execVsIslReq q isl v s) :=
  atFabric_keeps ((retarget_ext ..).after rfl <| (setFld_ext ..).after rfl <| (setFld_ext ..).mono rfl)

theorem execVsIslCap_keeps (q : Requester) (isl : IslandId) (v : Word) (s : State) : Keeps 513 s (execVsIslCap q isl v s) :=
  atFabric_keeps ((retarget_ext ..).after rfl <| (setFld_ext ..).mono rfl)

theorem execTjSample_keeps (temps : List Byte) (s : State) : Keeps 3 s (execTjSample temps s) :=
  atDomain_keeps ((setCtr_ext ..).after rfl <| .fold (fun _ _ => (setFld_ext ..).mono rfl) (.refl _ _))

theorem stepThermal_ext (s : State) (i : Nat) (down : Bool) : Ext 513 s (stepThermal s i down) :=
  (retarget_ext ..).after rfl <| (setIsl_ext ..).mono rfl

theorem execThermalCeilingStep_keeps (isl : IslandId) (s : State) : Keeps 513 s (execThermalCeilingStep isl s) :=
  .ite (atDomain_keeps ((stepThermal_ext ..).mono rfl)) (.ite (atDomain_keeps ((stepThermal_ext ..).mono rfl)) (.next (.refl _ _)))

theorem execThrottleSample_keeps (s : State) : Keeps 1027 s (execThrottleSample s) :=
  atDomain_keeps (.when (.fold (fun _ _ => .when ((setFlag_ext ..).mono rfl) ((setFld_ext ..).mono rfl)) (.refl _ _))
    ((lbAdd_ext ..).mono rfl))

theorem readPower_ext (s : State) (watts : List (Option Nat)) : Ext 1 s (readPower s watts) := by
  unfold readPower
  refine .fold (fun s1 i => ?_) (.refl _ _)
  dsimp only
  split
  · exact (setFld_ext ..).after rfl <| (emit_ext ..).mono rfl
  · exact (setFlag_ext ..).after rfl <| (emit_ext ..).mono rfl

theorem execPowerRead_keeps (watts : List (Option Nat)) (s : State) : Keeps 1 s (execPowerRead watts s) :=
  atDomain_keeps ((readPower_ext ..).mono rfl)

theorem execPmbAlert_keeps (watts : List (Option Nat)) (s : State) : Keeps 1 s (execPmbAlert watts s) :=
  atDomain_keeps ((readPower_ext ..).mono rfl)

/-! ### Logbook -/

theorem setSector_ext (s : State) (n : Nat) (x : Sector) : Ext 1024 s (setSector s n x) :=
  .withLb rfl (.refl _ _)

theorem programEntry_ext (s : State) (kind : Nat) : Ext 1024 s (programEntry s kind) :=
  (emit_ext ..).after rfl <| (emit_ext ..).after rfl <| .withLb rfl (.refl _ _)

theorem lbWorn_ext (s : State) : Ext 1281 s (lbWorn s) :=
  (raiseSrc_ext ..).after rfl <| (setFlag_ext ..).after rfl <| (setFlag_ext ..).after rfl <| .withLb rfl (.refl _ _)

theorem eraseNext_ext (s : State) (kind : Nat) : Ext 1281 s (eraseNext s kind) := by
  unfold eraseNext
  dsimp only
  split
  · exact (emit_ext ..).after rfl <| .withLb rfl (.refl _ _)
  · exact (lbWorn_ext ..).mono rfl

theorem lbStart_ext (s : State) : Ext 1281 s (lbStart s) := by
  unfold lbStart
  dsimp only
  split
  · exact .ite (.refl _ _) (.ite ((programEntry_ext ..).after rfl <| (setFlag_ext ..).after rfl <| .withLb rfl (.refl _ _))
      (.ite ((eraseNext_ext ..).after rfl <| (emit_ext ..).after rfl <| (setSector_ext ..).after rfl <| (setFlag_ext ..).after rfl <|
      .withLb rfl (.refl _ _)) ((eraseNext_ext ..).after rfl <| (setFlag_ext ..).after rfl <| .withLb rfl (.refl _ _))))
  · exact .refl _ _

theorem lbRequest_ext (s : State) (kind : Nat) : Ext 1281 s (lbRequest s kind) :=
  .ite (.refl _ _) ((lbStart_ext ..).after rfl <| .withLb rfl (.refl _ _))

theorem retireSector_ext (s : State) (n : Nat) (failed : Bool) : Ext 1283 s (retireSector s n failed) :=
  .when ((lbAdd_ext ..).after rfl <| (setFld_ext ..).after rfl <| (emit_ext ..).after rfl <| (setSector_ext ..).mono rfl)
    ((raiseSrc_ext ..).after rfl <| (setFlag_ext ..).mono rfl)

theorem eraseEnd_ext (s : State) (n kind : Nat) (ok : Bool) : Ext 1283 s (eraseEnd s n kind ok) :=
  .ite ((eraseNext_ext ..).after rfl <| (retireSector_ext ..).after rfl <| (setFld_ext ..).after rfl <| (setSector_ext ..).mono rfl)
    ((programEntry_ext ..).after rfl <| .withLb rfl ((emit_ext ..).after rfl <| (setFld_ext ..).after rfl <| (setSector_ext ..).mono rfl))

theorem entryEnd_ext (s : State) (kind : Nat) (ok : Bool) : Ext 1283 s (entryEnd s kind ok) :=
  .ite ((eraseNext_ext ..).after rfl <| (retireSector_ext ..).mono rfl)
    ((lbStart_ext ..).after rfl <| .withLb rfl ((setFlag_ext ..).after rfl <| (setFlag_ext ..).after rfl <| (setFld_ext ..).mono rfl))

theorem execLogbookWriteDone_keeps (ok : Bool) (s : State) : Keeps 1283 s (execLogbookWriteDone ok s) := by
  unfold execLogbookWriteDone
  split
  · exact .next (.refl _ _)
  · exact atDomain_keeps ((eraseEnd_ext ..).mono rfl)
  · exact atDomain_keeps ((entryEnd_ext ..).mono rfl)

theorem execLogbookPeriodic_keeps (s : State) : Keeps 1281 s (execLogbookPeriodic s) :=
  .ite (.next (.refl _ _)) (atDomain_keeps ((lbRequest_ext ..).after rfl <| .withLb rfl (.refl _ _)))

theorem execLbShutdown_keeps (q : Requester) (s : State) : Keeps 1281 s (execLbShutdown q s) :=
  atFabric_keeps ((lbRequest_ext ..).mono rfl)

theorem execLbWrite_keeps (q : Requester) (s : State) : Keeps 1281 s (execLbWrite q s) :=
  atFabric_keeps ((lbRequest_ext ..).mono rfl)

theorem execLbHosttime_keeps (q : Requester) (v : Word) (s : State) : Keeps 1025 s (execLbHosttime q v s) :=
  atFabric_keeps ((setFlag_ext ..).after rfl <| .withLb rfl ((setFld_ext ..).mono rfl))

theorem execSecondTick_keeps (s : State) : Keeps 1026 s (execSecondTick s) :=
  atDomain_keeps (.when ((incCtr_ext ..).mono rfl) (.withLb rfl (.refl _ _)))

theorem goFrom_ext (s : State) (c v : Nat) : Ext 2 s (goFrom s c v) :=
  (setCtr_ext ..).mono rfl

theorem restoreEntry_ext (s : State) (sector place : Nat) (b : List Byte) : Ext 1027 s (restoreEntry s sector place b) :=
  .withLb rfl ((setFld_ext ..).after rfl <| (setFld_ext ..).after rfl <| (goFrom_ext ..).after rfl <| .fold
    (fun _ _ => .ite ((setCtr_ext ..).mono rfl) ((goFrom_ext ..).mono rfl)) (.refl _ _))

theorem openLogbook_ext (s : State) (headers : List (List Byte)) (entries : List (Nat × Nat × List Byte)) :
    Ext 1027 s (openLogbook s headers entries) := by
  unfold openLogbook
  refine (setFlag_ext ..).after rfl <| (setFld_ext ..).after rfl ?_
  dsimp only
  split
  · exact (restoreEntry_ext ..).after rfl <| .withLb rfl (.refl _ _)
  · exact (setFld_ext ..).after rfl <| .withLb rfl (.refl _ _)

theorem setSchedules_ext (s : State) : Ext 1537 s (setSchedules s) :=
  (setFld64_ext ..).after rfl <| .withCkLb rfl (.refl _ _)

theorem storeRatios_ext (s : State) (ratios : List Nat) : Ext 512 s (storeRatios s ratios) :=
  .withCk rfl (.refl _ _)

theorem execScarpMeasure_keeps (ratios : List Nat) (s : State) : Keeps 512 s (execScarpMeasure ratios s) :=
  .ite (.next (.refl _ _)) (atDomain_keeps (.withCk rfl ((storeRatios_ext ..).mono rfl)))

theorem askReplan_ext (s : State) : Ext 512 s (askReplan s) :=
  .withCk rfl (.refl _ _)

theorem execReplanPeriodic_keeps (s : State) : Keeps 512 s (execReplanPeriodic s) :=
  .ite (.next (.refl _ _)) (atDomain_keeps ((askReplan_ext ..).mono rfl))

theorem execFbReplan_keeps (q : Requester) (s : State) : Keeps 512 s (execFbReplan q s) :=
  atFabric_keeps ((askReplan_ext ..).mono rfl)

theorem replanIsl_ext (s : State) (i : Nat) : Ext 1283 s (replanIsl s i) := by
  unfold replanIsl
  dsimp only
  exact .when ((showCeil_ext ..).after rfl <| (lbAdd_ext ..).after rfl <| (setFld_ext ..).after rfl <| (setFld_ext ..).after rfl <|
    (setFld_ext ..).after rfl <| (setFld_ext ..).mono rfl) ((raiseSrc_ext ..).after rfl <| (setFlag_ext ..).mono rfl)

theorem replan_ext (s : State) : Ext 1811 s (replan s) :=
  (lbRequest_ext ..).after rfl <| (setFlag_ext ..).after rfl <| (setFlag_ext ..).after rfl <| (lbAdd_ext ..).after rfl <|
    (setFld64_ext ..).after rfl <| (startCal_ext ..).after rfl <| .withCkLb rfl
    (.fold (fun _ _ => (addMv_ext ..).mono rfl) (.unless (.fold (fun _ _ => (replanIsl_ext ..).mono rfl) (.refl _ _))
    ((raiseSrc_ext ..).after rfl <| (setFlag_ext ..).after rfl <| (retargetAll_ext ..).after rfl <| (recompute_ext ..).mono rfl)))

/-- A step of the start-up. -/
theorem withBoot_ext (s : State) (b : Nat) : Ext 2048 s { s with lc := { s.lc with boot := b } } := .withLc rfl rfl (.refl _ _)

theorem execFreeboardReplan_keeps (ratios : List Nat) (s : State) :
    Keeps 3859 s (execFreeboardReplan ratios s) := by
  have h : Ext 3859 s (replan (storeRatios s ratios)) := (replan_ext ..).after rfl ((storeRatios_ext ..).mono rfl)
  exact .ite (.next (.refl _ _)) (.ite (atDomain_keeps ((setFlag_ext ..).mono rfl))
    (atDomain_keeps (.ite ((withBoot_ext _ 10).after rfl h) h)))

/-! ### Launch -/

theorem applyParams_ext (s : State) (c : Nat) : Ext 665 s (applyParams s c) := by
  unfold applyParams
  refine (retargetAll_ext ..).after rfl <| (recompute_ext ..).after rfl <| (showRtbw_ext ..).after rfl <| (takeDesc_ext ..).after rfl <|
    .fold (fun s1 r => ?_) (.refl _ _)
  dsimp only
  split
  · exact .ite ((setRegul_ext ..).mono rfl) (.refl _ _)
  · exact .refl _ _

theorem startStep_ext (now : Nat) (s : State) (i : Nat) : Ext 12290 s (startStep now s i) := by
  unfold startStep
  dsimp only
  split
  · exact .refl _ _
  · exact .ite (.refl _ _) (.unless ((modRun_ext ..).after rfl <| (addCtr_ext ..).after rfl <| (incCtr_ext ..).after rfl <| .trans
      (.withSq rfl (.refl _ _)) (gaining_ext ((settleStep_ext ..).after rfl <| (setStep_ext ..).mono rfl) rfl)) (.withSq rfl (.refl _ _)))

theorem startGroup_ext (s : State) (c id now : Nat) : Ext 12307 s (startGroup s c id now) :=
  .ite ((nextStart_ext ..).after rfl <| .fold (fun _ _ => (startStep_ext ..).mono rfl) (.refl _ _)) (.refl _ _)

theorem stopVictims_ext (s : State) (c id now : Nat) : Ext 8211 s (stopVictims s c id now) :=
  .ite ((nextPreempt_ext ..).after rfl <| .withSq rfl (.fold (fun _ _ => (settleStep_ext ..).after rfl <| (modStep_ext ..).mono rfl)
    (.refl _ _))) (.refl _ _)

theorem applyAct_ext (now : Nat) (s : State) (x : SlateAct) : Ext 29595 s (applyAct now s x) := by
  unfold applyAct
  split
  · exact (applyParams_ext ..).mono rfl
  · exact (applyBudgets_ext ..).mono rfl
  · exact (publish_ext ..).mono rfl
  · exact (stopVictims_ext ..).mono rfl
  · exact (startGroup_ext ..).mono rfl
  · exact .refl _ _

theorem markApplied_ext (s : State) (m e : Nat) : Ext 16 s (markApplied s m e) :=
  (setMaster_ext ..).mono rfl

theorem applyDue_ext (s : State) (m : Nat) (now : Option Nat) (p : Nat → Slate → Bool) : Ext 29595 s (applyDue s m now p) :=
  .fold (fun _ _ => (applyAct_ext ..).after rfl <| (markApplied_ext ..).mono rfl) (.refl _ _)

theorem endEntries_ext (s : State) (m : Nat) : Ext 275 s (endEntries s m) := by
  unfold endEntries
  dsimp only
  exact .fold (fun _ a => (takeOutcome_ext ..).mono rfl) ((freeEnded_ext ..).mono rfl)

theorem missAwaited_ext (s : State) (m : Nat) : Ext 275 s (missAwaited s m) :=
  .fold (fun _ _ => (missAck_ext ..).mono rfl) (.refl _ _)

theorem entitle_ext (s : State) (c : Nat) : Ext 4096 s (entitle s c) :=
  .withOb rfl (.refl _ _)

theorem execTideEdge_keeps (m : TideId) (now : Nat) (s : State) : Keeps 29595 s (execTideEdge m now s) :=
  .ite (.next (.refl _ _)) (atDomain_keeps (.when (.when ((emitEdge_ext ..).after rfl <| (endEntries_ext ..).after rfl <|
    (missAwaited_ext ..).after rfl <| (applyDue_ext ..).mono rfl) ((endEntries_ext ..).after rfl <| (applyDue_ext ..).mono rfl))
    ((entitle_ext ..).mono rfl)))

theorem launchTap_ext (s : State) (t now : Nat) (e : RecvEdge) : Ext 29659 s (launchTap s t now e) :=
  .fold (fun _ _ => (launchFreq_ext ..).mono rfl) ((applyDue_ext ..).after rfl <| .fold (fun _ _ => (startWindow_ext ..).mono rfl)
    ((applyDue_ext ..).after rfl <| (setTap_ext ..).mono rfl))

theorem execTapLaunch_keeps (t : TapId) (now : Nat) (s : State) : Keeps 29659 s (execTapLaunch t now s) := by
  unfold execTapLaunch
  dsimp only
  split
  · exact .next (.refl _ _)
  · exact .ite (.next (.refl _ _)) (atDomain_keeps ((launchTap_ext ..).mono rfl))

theorem countLate_ext (s : State) (m : Nat) : Ext 259 s (countLate s m) :=
  (raiseSrc_ext ..).after rfl <| (setFlag_ext ..).after rfl <| .when ((incCtr_ext ..).mono rfl) ((incCtr_ext ..).mono rfl)

theorem execTapAck_keeps (t : TapId) (ns : Nat) (s : State) : Keeps 787 s (execTapAck t ns s) := by
  unfold execTapAck
  dsimp only
  split
  · exact .next (.refl _ _)
  · refine .ite (.next (.refl _ _)) (atDomain_keeps ((endEntries_ext ..).after rfl <| (setMaster_ext ..).after rfl <| .when ?_
      ((countLate_ext ..).mono rfl)))
    split
    · exact (stackWakes_ext ..).after rfl <| (setTap_ext ..).mono rfl
    · exact (setTap_ext ..).mono rfl

theorem execTapResyncRequest_keeps (t : TapId) (s : State) : Keeps 16 s (execTapResyncRequest t s) :=
  .ite (.next (.refl _ _)) (atDomain_keeps ((setTap_ext ..).mono rfl))

theorem execTapResyncLoad_keeps (t : TapId) (s : State) : Keeps 29595 s (execTapResyncLoad t s) := by
  unfold execTapResyncLoad
  refine .ite (.next (.refl _ _)) (atDomain_keeps ((setTap_ext ..).after rfl <| (markMissed_ext ..).after rfl <| (applyDue_ext ..).after rfl
    ?_))
  split
  · exact (stackWakes_ext ..).mono rfl
  · exact .refl _ _

theorem execCalibrationDone_keeps (meas : List CalMeas) (s : State) : Keeps 2065 s (execCalibrationDone meas s) := by
  have h : Ext 2065 s (endCal s meas) := (endCal_ext ..).mono rfl
  exact .ite (.next (.refl _ _)) (atDomain_keeps (.ite ((withBoot_ext _ 9).after rfl h) h))

/-! ### Sounding -/

theorem after_ext (s : State) (i : Image) : Ext 680 s (after s i) :=
  (Ext.refl 680 s).raw rfl rfl rfl rfl rfl (fun p hp => by
    cases p
    case plan | mem | bw | clocks => exact absurd hp (by decide)
    all_goals rfl)

/-! ### Fences -/

theorem showPending_ext (s s' : State) : Ext 257 s' (showPending s s') :=
  .when ((setFld_ext ..).mono rfl) ((raiseSrc_ext ..).mono rfl)

theorem setFence_ext (s : State) (k : Nat) (f : Fence) : Ext 8 s (setFence s k f) :=
  .withPlan rfl (.refl _ _)

theorem emptyTlb_ext (s : State) (u : Nat) : Ext 64 s (emptyTlb s u) := by
  unfold emptyTlb
  split
  · exact (setTlb_ext ..).mono rfl
  · exact .refl _ _

theorem startFence_ext (s : State) (k : Nat) : Ext 8521 s (startFence s k) := by
  unfold startFence
  refine .ite (.refl _ _) (.ite (beaconStep_ext ((withdrawTgt_ext ..).after rfl <| (setFence_ext ..).mono rfl) rfl) ?_)
  split
  · exact .fold (fun _ _ => (emptyTlb_ext ..).mono rfl) ((rehome_ext ..).after rfl <| (setFence_ext ..).mono rfl)
  · exact (setFence_ext ..).mono rfl

theorem liftFence_ext (s : State) (k : Nat) : Ext 8457 s (liftFence s k) := by
  unfold liftFence
  refine .ite (beaconStep_ext ((retryAll_ext ..).after rfl <| .withPlan rfl (.refl _ _)) rfl) ?_
  dsimp only
  split
  · exact (rehome_ext ..).after rfl <| .withPlan rfl (.refl _ _)
  · exact .withPlan rfl (.refl _ _)

theorem ownedKeys_ext (s : State) (ks : List Nat) : Ext 1 s (ownedKeys s ks).2 :=
  .ite ((setFlag_ext ..).mono rfl) (.refl _ _)

theorem fenceWrite_ext (s : State) (v : Nat) : Ext 8521 s (fenceWrite s v) := by
  unfold fenceWrite
  split
  · exact (setFlag_ext ..).mono rfl
  · refine .ite ((setFlag_ext ..).mono rfl) ((showPending_ext ..).after rfl (.fold (fun t k => ?_) ((ownedKeys_ext ..).mono rfl)))
    split
    · exact (liftFence_ext ..).mono rfl
    · exact (startFence_ext ..).mono rfl

theorem execChFence_keeps (q : Requester) (v : Word) (s : State) : Keeps 8521 s (execChFence q v s) :=
  atFabric_keeps ((fenceWrite_ext ..).mono rfl)

theorem execChUnfence_keeps (q : Requester) (v : Word) (s : State) : Keeps 8521 s (execChUnfence q v s) :=
  atFabric_keeps ((fenceWrite_ext ..).mono rfl)

theorem releasePort_ext (s : State) (i u : Nat) (elsewhere : Bool) : Ext 9539 s (releasePort s i u elsewhere) := by
  unfold releasePort
  dsimp only
  split
  · exact .ite ((remapSteps_ext ..).after rfl <| (freePort_ext ..).mono rfl) ((loseOccupant_ext ..).after rfl <| (freePort_ext ..).mono rfl)
  · exact (freePort_ext ..).mono rfl

theorem vacatePort_ext {m : Nat} {s : State} {u : Nat} {finish : State → State} (hf : ∀ t, Ext m t (finish t))
    (hm : 30187 &&& m = 30187) : Ext m s (vacatePort s u finish) := by
  unfold vacatePort
  split
  · exact hf s
  · split
    · exact .trans ((freePort_ext ..).within rfl hm (.refl _ _)) (hf _)
    · split
      · exact .ite (.trans ((releasePort_ext ..).within rfl hm (.refl _ _)) (hf _))
          (runWork_ext (.seq (readRanges_keeps (sub_trans rfl hm)) fun _ => .bind getSt_keeps fun _ ht =>
            .pure (.trans ((releasePort_ext ..).within rfl hm ht) (hf _))) (sub_trans rfl hm))
      · exact .trans ((releasePort_ext ..).within rfl hm (.refl _ _)) (hf _)

theorem execFenceDone_keeps (space : Fin 3) (id : BitVec 16) (s : State) :
    Keeps 30187 s (execFenceDone space id s) := by
  unfold execFenceDone
  have fin (k : Nat) (t : State) : Ext 30187 t (showPending t (setFence ((keyUnits k).foldl emptyTlb t) k .fenced)) :=
    (showPending_ext ..).after rfl <| (setFence_ext ..).after rfl <| .fold (fun _ _ => (emptyTlb_ext ..).mono rfl) (.refl _ _)
  exact .ite (.next (.refl _ _)) (atDomain_keeps (.ite (vacatePort_ext (fin _) rfl) (fin _ s)))

/-! ### Apply -/

theorem chGuard_ext {m : Nat} {s : State} {q : Requester} {f : State → State} (h : Ext m s (f s)) (hm : 1 &&& m = 1) :
    Ext m s (chGuard s q f) := .ite ((setFlag_ext ..).mono hm) h

theorem verdict_ext (s : State) (f : Fail) : Ext 265 s (verdict s f) :=
  (raiseSrc_ext ..).after rfl <| .withPlan rfl ((setFld_ext ..).after rfl <| (setFld_ext ..).after rfl <| (setFld_ext ..).after rfl <|
    (setFlag_ext ..).after rfl <| (setFld_ext ..).after rfl <| (setFld_ext ..).after rfl <| (setFlag_ext ..).mono rfl)

theorem refuseImage_ext (s : State) (f : Fail) : Ext 1291 s (refuseImage s f) :=
  (verdict_ext ..).after rfl <| (lbAdd_ext ..).mono rfl

theorem beginSounding_ext (s : State) : Ext 9 s (beginSounding s) :=
  .withPlan rfl ((setFld_ext ..).mono rfl)

theorem enableImage_ext (s : State) : Ext 1291 s (enableImage s) :=
  .ite ((refuseImage_ext ..).mono rfl) (.ite ((refuseImage_ext ..).mono rfl)
    (.ite ((refuseImage_ext ..).mono rfl) (.ite ((hostRead_ext ..).after rfl <| (setFld_ext ..).mono rfl)
    ((beginSounding_ext ..).mono rfl))))

theorem chCtlWrite_ext (s : State) (q : Requester) (v : Nat) : Ext 1291 s (chCtlWrite s q v) :=
  chGuard_ext (.ite (.withPlan rfl ((setFlag_ext ..).after rfl <| (setFld_ext ..).after rfl <| (setFld_ext ..).after rfl <|
    (setFld_ext ..).mono rfl)) (.ite (.ite ((enableImage_ext ..).after rfl <| (setFld_ext ..).mono rfl)
    (.when ((setFld_ext ..).mono rfl) ((setFld_ext ..).after rfl <| (setFld_ext ..).mono rfl))) (.refl _ _))) rfl

theorem execChClaim_keeps (q : Requester) (v : Word) (s : State) : Keeps 1291 s (execChClaim q v s) :=
  atFabric_keeps ((chCtlWrite_ext ..).mono rfl)

theorem execChRelease_keeps (q : Requester) (v : Word) (s : State) : Keeps 1291 s (execChRelease q v s) :=
  atFabric_keeps ((chCtlWrite_ext ..).mono rfl)

theorem execChEn_keeps (q : Requester) (v : Word) (s : State) : Keeps 1291 s (execChEn q v s) :=
  atFabric_keeps ((chCtlWrite_ext ..).mono rfl)

theorem wdataWrite_ext (s : State) (q : Requester) (v : Nat) : Ext 9 s (wdataWrite s q v) :=
  chGuard_ext (.ite (.refl _ _) (.withPlan rfl ((setFld_ext ..).mono rfl))) rfl

theorem execChWdata_keeps (q : Requester) (v : Word) (s : State) : Keeps 9 s (execChWdata q v s) :=
  atFabric_keeps ((wdataWrite_ext ..).mono rfl)

theorem execChartFetchDone_keeps (image : List Byte) (s : State) : Keeps 9 s (execChartFetchDone image s) :=
  .ite (.next (.refl _ _)) (atDomain_keeps ((beginSounding_ext ..).after rfl <| .withPlan rfl (.refl _ _)))

theorem execChartFetchFail_keeps (s : State) : Keeps 1291 s (execChartFetchFail s) :=
  .ite (.next (.refl _ _)) (atDomain_keeps ((refuseImage_ext ..).mono rfl))

theorem execSoundingStart_keeps (s : State) : Keeps 8 s (execSoundingStart s) :=
  .ite (.next (.refl _ _)) (atDomain_keeps (.withPlan rfl (.refl _ _)))

theorem acceptImage_ext (s : State) (m : Image) : Ext 1067 s (acceptImage s m) :=
  (setFld_ext ..).after rfl <| .withPlan rfl (.when ((lbAdd_ext ..).after rfl <| .fold (fun _ _ => (setKid_ext ..).mono rfl) (.refl _ _))
    ((lbAdd_ext ..).mono rfl))

theorem soundImage_ext (s : State) (bad : Bool) : Ext 1323 s (soundImage s bad) := by
  unfold soundImage
  split
  · exact (refuseImage_ext ..).mono rfl
  · split
    · exact (refuseImage_ext ..).mono rfl
    · exact .ite ((refuseImage_ext ..).mono rfl) ((acceptImage_ext ..).mono rfl)

theorem execSoundingDone_keeps (stagingBad : Bool) (s : State) : Keeps 1323 s (execSoundingDone stagingBad s) :=
  .ite (.next (.refl _ _)) (atDomain_keeps ((soundImage_ext ..).mono rfl))

theorem execSoundingTimeout_keeps (s : State) : Keeps 1291 s (execSoundingTimeout s) :=
  .ite (.next (.refl _ _)) (atDomain_keeps ((refuseImage_ext ..).mono rfl))

theorem endDirtyLog_ext (s : State) (c : Nat) : Ext 321 s (endDirtyLog s c) :=
  .fold (fun _ _ => (dlWriteBack_ext ..).mono rfl) ((dlDrop_ext ..).mono rfl)

theorem removeCove_ext (s : State) (c : Nat) :
    Ext 62463 s (removeCove s c) := by
  unfold removeCove
  exact (endFlr_ext ..).after rfl <| .withLatchesTideSc rfl <| .withPlan rfl <| (dropCove_ext ..).after rfl <| (endDirtyLog_ext ..).after
    rfl <|
    (resetParts_ext ..).after rfl <| .ite ((endMigration_ext ..).mono rfl) (.refl _ _)

theorem coverKid_ext (s : State) (kid : Nat) (places : List Place) : Ext 32 s (coverKid s kid places) :=
  .ite (.refl _ _) ((setKid_ext ..).mono rfl)

theorem leaveRange_ext (p : State) (gone : List Nat) (s : State) (e : Nat × KeyRange) : Ext 32800 s (leaveRange p gone s e) :=
  .when (.fold (fun _ _ => (coverKid_ext ..).mono rfl) ((coverKid_ext ..).mono rfl))
    (.ite ((setKr_ext ..).after rfl <| (drainKid_ext ..).after rfl <| .withMemSc rfl rfl (.refl _ _))
    (.when (.withMemSc rfl rfl (.refl _ _)) ((setKr_ext ..).mono rfl)))

theorem leaveSlate_ext (s : State) (t : Nat) : Ext 16 s (leaveSlate s t) :=
  .ite (.refl _ _) ((setMaster_ext ..).mono rfl)

theorem moveRegul_ext (p s : State) (r : Nat) : Ext 192 s (moveRegul p s r) :=
  (startWindow_ext ..).after rfl <| (setRegul_ext ..).mono rfl

theorem endEmptyFlips_ext (s : State) : Ext 16385 s (endEmptyFlips s) :=
  .fold (fun _ _ => .ite (.refl _ _) ((setFld_ext ..).after rfl <| .withEn rfl (.refl _ _))) (.refl _ _)

theorem unbindAll_ext (s : State) (n : Nat) : Ext 16385 s (unbindAll s n) := by
  unfold unbindAll
  refine (endEmptyFlips_ext ..).after rfl <| .fold (fun _ e => (dropSlot_ext ..).mono rfl) ?_
  split
  · exact .ite ((bindEnd_ext ..).mono rfl) (.refl _ _)
  · exact .refl _ _

theorem undrain_ext (s : State) (pair : Nat) : Ext 16384 s (undrain s pair) :=
  .withEn rfl (.refl _ _)

theorem moveUnit_ext (p s : State) (k : Nat) : Ext 25939 s (moveUnit p s k) := by
  unfold moveUnit
  dsimp only
  split
  · exact .refl _ _
  · refine .when ?_ ((dueClear_ext ..).mono rfl)
    split
    · refine (tapTake_ext ..).after rfl <| (leaveSlate_ext ..).after rfl ?_
      split
      · exact (releasePort_ext ..).after rfl <| .ite ((unbindAll_ext ..).after rfl <| .fold (fun _ _ => (emptyTlb_ext ..).mono rfl)
          (.refl _ _)) (.when (.fold (fun _ _ => (emptyTlb_ext ..).mono rfl) (.refl _ _)) ((undrain_ext ..).mono rfl))
      · exact .ite ((unbindAll_ext ..).after rfl <| .fold (fun _ _ => (emptyTlb_ext ..).mono rfl) (.refl _ _))
          (.when (.fold (fun _ _ => (emptyTlb_ext ..).mono rfl) (.refl _ _)) ((undrain_ext ..).mono rfl))
    · split
      · exact (releasePort_ext ..).after rfl <| .ite ((unbindAll_ext ..).after rfl <| .fold (fun _ _ => (emptyTlb_ext ..).mono rfl)
          (.refl _ _)) (.when (.fold (fun _ _ => (emptyTlb_ext ..).mono rfl) (.refl _ _)) ((undrain_ext ..).mono rfl))
      · exact .ite ((unbindAll_ext ..).after rfl <| .fold (fun _ _ => (emptyTlb_ext ..).mono rfl) (.refl _ _))
          (.when (.fold (fun _ _ => (emptyTlb_ext ..).mono rfl) (.refl _ _)) ((undrain_ext ..).mono rfl))

theorem moveTargets_ext (s : State) (ts : List Nat) : Ext 257 s (moveTargets s ts) := by
  unfold moveTargets
  refine beaconStep_ext ?_ rfl
  dsimp only
  exact (retryAll_ext ..).after rfl <| .fold_fst (fun a t => (withdrawTgt_ext ..).mono rfl)
    (.fold (fun _ _ => (resetTgt_ext ..).mono rfl) (.refl _ _))

theorem moveBank_ext (s : State) (b : Nat) : Ext 32 s (moveBank s b) := dropTpWritten_ext ..

theorem splitArb_ext (s : State) : Ext 1 s (splitArb s) :=
  .fold (fun _ _ => .ite ((setFlag_ext ..).mono rfl) (.refl _ _)) (.refl _ _)

theorem switchMasks_ext (s p : State) (units grans : List Nat) : Ext 26107 s (switchMasks s p units grans) :=
  .fold (fun _ _ => (retune_ext ..).mono rfl) (.fold (fun _ _ => (moveRegul_ext ..).mono rfl)
    (.fold (fun _ _ => .ite ((moveBank_ext ..).mono rfl) (.ite (.refl _ _) ((moveUnit_ext ..).mono rfl)))
    ((moveTargets_ext ..).after rfl <| (splitArb_ext ..).after rfl <| .withPlan rfl (.refl _ _))))

theorem startLoops_ext (s p : State) : Ext 521 s (startLoops s p) :=
  .fold (fun _ _ => .ite (.refl _ _) ((setIsl_ext ..).mono rfl))
    (.withPlan rfl (.fold (fun _ _ => .unless ((setFld_ext ..).mono rfl) (.withCk rfl ((setFld_ext ..).mono rfl))) (.refl _ _)))

theorem beginApply_ext (s : State) (a : Apply) (m : Image) : Ext 63487 s (beginApply s a m) :=
  .withPlan rfl (.when ((switchMasks_ext ..).after rfl <| .fold (fun _ _ => (leaveRange_ext ..).mono rfl)
    (.fold (fun _ _ => (loadKey_ext ..).mono rfl) (.fold (fun _ _ => (removeCove_ext ..).mono rfl) (.refl _ _))))
    ((startLoops_ext ..).mono rfl))

theorem execApplyStart_keeps (s : State) : Keeps 63487 s (execApplyStart s) := by
  unfold execApplyStart
  split
  · exact .ite (.next (.refl _ _)) (atDomain_keeps ((beginApply_ext ..).mono rfl))
  · exact .next (.refl _ _)

theorem enableClocks_ext (s : State) : Ext 513 s (enableClocks s) :=
  .fold (fun _ _ => (setFld_ext ..).mono rfl) (.fold (fun _ _ => (setDom_ext ..).mono rfl)
    (.fold (fun _ _ => (slewTo_ext ..).after rfl <| .unless ((showCeil_ext ..).after rfl <| (setFlag_ext ..).mono rfl)
    ((writeMv_ext ..).after rfl <| (setFld_ext ..).after rfl <| (setIsl_ext ..).mono rfl))
    (.fold (fun _ _ => (setDom_ext ..).mono rfl) (.refl _ _))))

theorem execApplyContinue_keeps (s : State) : Keeps 795 s (execApplyContinue s) := by
  unfold execApplyContinue
  dsimp only
  split
  · exact .ite (.next (.refl _ _)) (atDomain_keeps (.withPlan rfl
      (.fold (fun _ _ => (retune_ext ..).mono rfl) (.fold (fun _ e => (startMaster_ext ..).mono rfl)
      (.fold (fun _ _ => (tapTake_ext ..).mono rfl) ((enableClocks_ext ..).mono rfl))))))
  · exact .next (.refl _ _)

theorem finishRanges_ext (s p : State) (a : Apply) : Ext 32 s (finishRanges s p a) := by
  unfold finishRanges
  refine .withMem rfl rfl (.fold (fun s1 r => ?_) (.refl _ _))
  split
  · exact .ite ((drainKid_ext ..).mono rfl) (.refl _ _)
  · exact .refl _ _

theorem putManifest_ext (s p : State) (per : Tbl Nat) (gen c : Nat) : Ext 1 s (putManifest s p per gen c) :=
  .ite (.refl _ _) ((setFld_ext ..).after rfl <| (setFld_ext ..).after rfl <| .fold (fun _ _ => (setFld_ext ..).mono rfl) (.refl _ _))

theorem createCove_ext (per : Tbl Nat) (full : Bool) (s : State) (c : Nat) : Ext 19 s (createCove per full s c) :=
  .unless ((setFlag_ext ..).after rfl <| (setCoveSt_ext ..).mono rfl) ((retune_ext ..).after rfl <| (startMaster_ext ..).mono rfl)

theorem postParams_ext (s p : State) (a : Apply) : Ext 153 s (postParams s p a) :=
  .fold (fun _ _ => (armEntry_ext ..).mono rfl) (.withPlan rfl (.fold
    (fun _ _ => .ite (.ite ((setRegul_ext ..).mono rfl) (.refl _ _)) (.ite ((setRegul_ext ..).mono rfl) ((setRegul_ext ..).mono rfl)))
    (.refl _ _)))

theorem newPeriods_ext (s : State) (m : Image) (a : Apply) : Ext 16 s (newPeriods s m a) :=
  .fold (fun _ _ => .ite (.refl _ _) ((setMaster_ext ..).mono rfl)) (.refl _ _)

theorem replaceSteps_ext (s : State) : Ext 8192 s (replaceSteps s) :=
  .fold (fun _ _ => (rehome_ext ..).mono rfl) (.refl _ _)

theorem finishApply_ext (s : State) (a : Apply) (m : Image) : Ext 63483 s (finishApply s a m) :=
  (serveHangs_ext ..).after rfl <| (verdict_ext ..).after rfl <| (showPending_ext ..).after rfl <| .fold
    (fun _ _ => (liftFence_ext ..).mono rfl) (.fold (fun _ _ => (setFld_ext ..).mono rfl)
    ((retargetAll_ext ..).after rfl <| (recompute_ext ..).after rfl <| (replaceSteps_ext ..).after rfl <| (setFld_ext ..).after rfl <|
    .withPlan rfl (.fold (fun _ _ => (putManifest_ext ..).mono rfl)
    (.fold (fun _ _ => (createCove_ext ..).mono rfl) ((newPeriods_ext ..).after rfl <| (postParams_ext ..).after rfl <|
    (flushDrained_ext ..).after rfl <| (finishRanges_ext ..).after rfl <| .withPlan rfl (.refl _ _))))))

theorem execApplyFinish_keeps (s : State) : Keeps 63483 s (execApplyFinish s) := by
  unfold execApplyFinish
  split
  · exact .ite (.next (.refl _ _)) (atDomain_keeps ((finishApply_ext ..).mono rfl))
  · exact .next (.refl _ _)

/-! ### Attn -/

theorem execSourceRaise_keeps (src : SourceId) (s : State) : Keeps 257 s (execSourceRaise src s) :=
  atDomain_keeps ((raiseSrc_ext ..).mono rfl)

theorem execHoldoffExpire_keeps (g : Idx64) (s : State) : Keeps 257 s (execHoldoffExpire g s) :=
  atDomain_keeps ((expireHoldoff_ext ..).mono rfl)

theorem claimAs_ext (s : State) (q : Requester) (t : Nat) : Ext 256 s (claimAs s q t) := by
  unfold claimAs
  refine .ite ?_ ((emit_ext ..).mono rfl)
  dsimp only
  exact (emit_ext ..).after rfl <| (claimTgt_ext ..).mono rfl

theorem execBcClaim_keeps (q : Requester) (t : TargetId) (s : State) : Keeps 256 s (execBcClaim q t s) :=
  atHost_keeps ((claimAs_ext ..).mono rfl)

theorem execBcEoi_keeps (q : Requester) (t : TargetId) (v : Word) (s : State) : Keeps 257 s (execBcEoi q t v s) :=
  atHost_keeps (.ite ((eoiTgt_ext ..).mono rfl) (.refl _ _))

theorem execBcCvSwi_keeps (q : Requester) (c : CoveId) (v : Word) (s : State) : Keeps 1347 s (execBcCvSwi q c v s) :=
  atWindow_keeps (.fold (fun _ _ => (raiseSrc_ext ..).mono rfl) (.refl _ _)) rfl

theorem writeSrcCfg_ext (s : State) (q : Requester) (i v : Nat) : Ext 257 s (writeSrcCfg s q i v) := by
  unfold writeSrcCfg
  dsimp only
  split
  · exact .ite ((cfgSrc_ext ..).mono rfl) (.refl _ _)
  · exact .ite (.refl _ _) (.ite ((cfgSrc_ext ..).mono rfl) (.ite ((cfgSrc_ext ..).mono rfl) ((setFlag_ext ..).mono rfl)))

theorem execBcSrcCfgWrite_keeps (q : Requester) (src : SourceId) (v : Word) (s : State) : Keeps 257 s (execBcSrcCfgWrite q src v s) :=
  atHost_keeps ((writeSrcCfg_ext ..).mono rfl)

theorem writeTgtCfg_ext (s : State) (q : Requester) (t v : Nat) : Ext 257 s (writeTgtCfg s q t v) := by
  unfold writeTgtCfg
  refine .ite (.refl _ _) ?_
  split
  · exact (cfgTgt_ext ..).mono rfl
  · exact .ite ((setFlag_ext ..).mono rfl) ((cfgTgt_ext ..).mono rfl)

theorem execBcTgtCfgWrite_keeps (q : Requester) (t : TargetId) (v : Word) (s : State) : Keeps 257 s (execBcTgtCfgWrite q t v s) :=
  atHost_keeps ((writeTgtCfg_ext ..).mono rfl)

theorem execBcNmiTest_keeps (q : Requester) (on : Bool) (s : State) : Keeps 1 s (execBcNmiTest q on s) :=
  atFabric_keeps (.ite ((setFlag_ext ..).mono rfl) (.refl _ _))

theorem execIbAttentionPulse_keeps (s : State) : Keeps 0 s (execIbAttentionPulse s) :=
  atDomain_keeps (.ite ((emit_ext ..).mono rfl) (.refl _ _))

/-! ### Migrate -/

theorem seqParts_ext {m : Nat} {l : List (State → Nat × State)} (hl : ∀ f ∈ l, ∀ s, Ext m s (f s).2) :
    ∀ s, Ext m s (seqParts l s).2 := by
  induction l with
  | nil => exact fun s => .refl _ s
  | cons f fs ih =>
    intro s
    have hf := hl f (List.mem_cons_self ..) s
    unfold seqParts
    split
    · rename_i e
      exact .trans (.of_snd e hf) (ih (fun g hg => hl g (List.mem_cons_of_mem _ hg)) _)
    · exact hf

theorem seqParts_map_ext {m : Nat} {α : Type} {l : List α} {f : α → State → Nat × State} (hf : ∀ a s, Ext m s (f a s).2) (s : State) :
    Ext m s (seqParts (l.map f) s).2 := by
  refine seqParts_ext (fun g hg => ?_) s
  obtain ⟨a, _, rfl⟩ := List.mem_map.1 hg
  exact hf a

theorem migAccess_ext (s : State) (fpa : Nat) (acc : Access) : Ext 1387 s (migAccess s fpa acc).2 :=
  (accessNow_ext ..).after rfl <| (mgmtCharge_ext ..).mono rfl

theorem migRead_ext (s : State) (fpa : Nat) : Ext 1387 s (migRead s fpa).2 := by
  unfold migRead
  refine .fold_snd (fun a k => ?_) (.refl _ _)
  dsimp only
  exact (migAccess_ext ..).mono rfl

theorem migWrite_ext (s : State) (fpa : Nat) (data : List Byte) : Ext 1387 s (migWrite s fpa data) :=
  .fold (fun _ _ => (migAccess_ext ..).mono rfl) (.refl _ _)

theorem migSend_ext (o : MigOp) (c : Nat) (fail : Option Nat) (i addr kind : Nat) (data : List Byte) (s : State) :
    Ext 3 s (migSend o c fail i addr kind data s).2 := by
  unfold migSend
  dsimp only
  split
  · exact .refl _ _
  · exact .ite_snd (.refl _ _) (.ite_snd (.refl _ _) ((sendChunk_ext ..).mono rfl))

theorem outPart_ext (o : MigOp) (c : Nat) (fail : Option Nat) (i : Nat) (s : State) : Ext 1387 s (outPart o c fail i s).2 := by
  unfold outPart
  refine .ite_snd (.refl _ _) ?_
  dsimp only
  split
  · exact .refl _ _
  · exact (migSend_ext ..).after rfl <| (migRead_ext ..).mono rfl

theorem chunkRead_ext (o : MigOp) (len i : Nat) (s : State) : Ext 0 s (chunkRead o len i s) :=
  (hostRead_ext ..).after rfl <| (hostRead_ext ..).mono rfl

theorem inPart_ext (o : MigOp) (c : Nat) (fail : Option Nat) (chunks : List (List Byte × BitVec 256)) (i : Nat) (s : State) :
    Ext 1387 s (inPart o c fail chunks i s).2 := by
  unfold inPart
  split
  · exact .refl _ _
  · exact .refl _ _
  · refine .ite_snd (.refl _ _) (.ite_snd (.refl _ _) (.ite_snd (.refl _ _) ?_))
    split
    · exact .refl _ _
    · split
      · rename_i e4
        exact (migWrite_ext ..).after rfl <| .of_snd e4 ((acceptChunk_ext ..).after rfl <| (chunkRead_ext ..).mono rfl)
      · rename_i e4
        exact .of_snd e4 ((acceptChunk_ext ..).after rfl <| (chunkRead_ext ..).mono rfl)

theorem exportRecord_ext (o : MigOp) (c : Nat) (fail : Option Nat) (s : State) : Ext 3 s (exportRecord o c fail s).2 := by
  unfold exportRecord
  refine .ite_snd (.refl _ _) ?_
  generalize recordOf s c = r
  have h : Ext 3 s (seqParts (((chunksOf 4096 r.length r).zipIdx).map
      (fun p => migSend o c fail p.2 (4096 * p.2) 2 p.1)) s).2 := seqParts_map_ext (fun _ _ => (migSend_ext ..).mono rfl) s
  exact .ite ((setFld_ext ..).after rfl h) h

theorem restoreBanks_ext (s : State) (c : Nat) (ls : List Line) : Ext 32 s (restoreBanks s c ls) := by
  unfold restoreBanks
  refine .fold (fun s1 p => ?_) (.refl _ _)
  split
  · exact (setTpWritten_ext ..).after rfl <| (tpStore_ext ..).mono rfl
  · exact .refl _ _

theorem restore_ext (s : State) (c : Nat) (x : Snapshot) : Ext 28771 s (restore s c x) :=
  (unclean_ext ..).after rfl <| (restoreBanks_ext ..).after rfl <| (setFld_ext ..).after rfl <| (setFld_ext ..).after rfl <|
    (setFld_ext ..).after rfl <| (setFld_ext ..).after rfl <| (setFld_ext ..).after rfl <| (setFld_ext ..).after rfl <| .withXl rfl
    (.fold (fun _ _ => .ite ((setCtr_ext ..).mono rfl) (.refl _ _)) (.withObSqEn rfl (.refl _ _)))

theorem recordReads_ext (o : MigOp) (s : State) : Ext 0 s (recordReads o s) :=
  .fold (fun _ _ => (chunkRead_ext ..).mono rfl) (.refl _ _)

theorem importRecord_ext (o : MigOp) (c : Nat) (fail : Option Nat) (chunks : List (List Byte × BitVec 256)) (s : State) :
    Ext 28771 s (importRecord o c fail chunks s).2 := by
  unfold importRecord
  refine .ite_snd (.refl _ _) ?_
  dsimp only
  split
  · exact .refl _ _
  · split
    · exact .refl _ _
    · refine .ite_snd (.refl _ _) (.ite_snd (.refl _ _) ?_)
      split
      · exact .refl _ _
      · refine .ite_snd (.refl _ _) (.ite_snd (.refl _ _) (.ite_snd (.refl _ _) ?_))
        split
        · exact .refl _ _
        · exact (restore_ext ..).after rfl <| (takeCounter_ext ..).mono rfl

theorem migWriteCtl_ext (s : State) (c op : Nat) : Ext 32769 s (migWriteCtl s c op) :=
  .ite (.refl _ _) ((setFlag_ext ..).after rfl <| .withSc rfl (.refl _ _))

theorem execMigCopyOut_keeps (q : Requester) (c : CoveId) (s : State) : Keeps 32769 s (execMigCopyOut q c s) :=
  atFabric_keeps ((migWriteCtl_ext ..).mono rfl)

theorem execMigCopyIn_keeps (q : Requester) (c : CoveId) (s : State) : Keeps 32769 s (execMigCopyIn q c s) :=
  atFabric_keeps ((migWriteCtl_ext ..).mono rfl)

theorem execMigExport_keeps (q : Requester) (c : CoveId) (s : State) : Keeps 32769 s (execMigExport q c s) :=
  atFabric_keeps ((migWriteCtl_ext ..).mono rfl)

theorem execMigImport_keeps (q : Requester) (c : CoveId) (s : State) : Keeps 32769 s (execMigImport q c s) :=
  atFabric_keeps ((migWriteCtl_ext ..).mono rfl)

theorem migWork_ext (s : State) (c : Nat) (o : MigOp) (chunks : List (List Byte × BitVec 256)) (fail : Option Nat) :
    Ext 30059 s (migWork s c o chunks fail).2 := by
  unfold migWork
  split
  · exact .ite_snd (.refl _ _) (seqParts_map_ext (fun _ _ => (outPart_ext ..).mono rfl) s)
  · exact .ite_snd (.refl _ _) (seqParts_map_ext (fun _ _ => (inPart_ext ..).mono rfl) s)
  · exact (exportRecord_ext ..).mono rfl
  · exact (importRecord_ext ..).after rfl (.ite ((recordReads_ext ..).mono rfl) (.refl _ _))

theorem endMig_ext (s : State) (c code : Nat) : Ext 32769 s (endMig s c code) := by
  unfold endMig
  refine .ite ((setFld_ext ..).after rfl <| (setFlag_ext ..).after rfl <| (setFlag_ext ..).after rfl <| .withSc rfl (.refl _ _))
    (.ite ?_ ((endMigration_ext ..).mono rfl))
  dsimp only
  exact (endMigration_ext ..).after rfl <| (drawFree_ext ..).mono rfl

theorem execMigOperationDone_keeps (c : CoveId) (chunks : List (List Byte × BitVec 256)) (fail : Option Nat) (s : State) :
    Keeps 62827 s (execMigOperationDone c chunks fail s) := by
  unfold execMigOperationDone
  dsimp only
  split
  · exact .next (.refl _ _)
  · exact atDomain_keeps ((endMig_ext ..).after rfl <| (migWork_ext ..).mono rfl)

/-! ### Lifecycle -/

theorem refuseNext_ext (s : State) (cause : Nat) : Ext 257 s (refuseNext s cause) :=
  (raiseSrc_ext ..).after rfl <| (setFld_ext ..).after rfl <| (setFlag_ext ..).mono rfl

theorem acceptNext_ext (s : State) (code : Nat) : Ext 2049 s (acceptNext s code) :=
  .withLc rfl rfl ((setFld_ext ..).after rfl <| (setFlag_ext ..).after rfl <| (setFlag_ext ..).mono rfl)

theorem writeNext_ext (s : State) (code : Nat) : Ext 2305 s (writeNext s code) := by
  unfold writeNext
  split
  · exact (refuseNext_ext ..).mono rfl
  · exact (acceptNext_ext ..).mono rfl

theorem execLcNext_keeps (q : Requester) (v : Word) (s : State) : Keeps 2305 s (execLcNext q v s) :=
  atFabric_keeps ((writeNext_ext ..).mono rfl)

theorem blowMasks_kept (f : Fuses) (code : Nat) (uid fwk : Bool) : f.kept (blowMasks f code uid fwk) :=
  ⟨fun _ h => h, fun h => by simp [blowMasks, h], fun h => by simp [blowMasks, h]⟩

theorem blowState_kept (f : Fuses) (code : Nat) : f.kept (blowState f code) :=
  ⟨fun i h => by simp [blowState, h], fun h => h, fun h => h⟩

/-- A programming step blows fuses, the state fuse only behind its masks, and none is mended. -/
theorem blown_kept (f : Fuses) (code : Nat) (uid fwk state : Bool) :
    f.kept (if masksBlown (blowMasks f code uid fwk) code && state then blowState (blowMasks f code uid fwk) code
      else blowMasks f code uid fwk) := by
  split
  · exact Fuses.kept_trans (blowMasks_kept ..) (blowState_kept ..)
  · exact blowMasks_kept ..

theorem programEnd_ext (s : State) (code : Nat) (rest : List Nat) (uid fwk state : Bool) :
    Ext 2049 s (programEnd s code rest uid fwk state) := by
  unfold programEnd
  have h : Ext 2049 s { s with lc := { s.lc with
      fuses := if masksBlown (blowMasks s.lc.fuses code uid fwk) code && state then blowState (blowMasks s.lc.fuses code uid fwk) code
        else blowMasks s.lc.fuses code uid fwk,
      prog := rest } } := .withFuses rfl (.refl _ _) (blown_kept ..)
  dsimp only
  refine .ite ((setFlag_ext ..).after rfl ?_) ?_
  all_goals exact .ite h ((setFlag_ext ..).after rfl (.ite ((setFlag_ext ..).after rfl h) h))

theorem execFuseProgramDone_keeps (uid fwk state : Bool) (s : State) : Keeps 2049 s (execFuseProgramDone uid fwk state s) := by
  unfold execFuseProgramDone
  split
  · exact .next (.refl _ _)
  · exact .next ((programEnd_ext ..).mono rfl)

theorem execLcDbgOpen_keeps (q : Requester) (v : Word) (s : State) : Keeps 1 s (execLcDbgOpen q v s) :=
  atFabric_keeps (.ite ((setFlag_ext ..).mono rfl) (.refl _ _))

/-! ### Slack -/

theorem setHold_ext (s : State) (b : Bool) : Ext 1 s (setHold s b) :=
  .ite (.refl _ _) ((setFlag_ext ..).mono rfl)

theorem execSlFreeze_keeps (q : Requester) (v : Word) (s : State) : Keeps 1 s (execSlFreeze q v s) :=
  atFabric_keeps (.ite ((setHold_ext ..).mono rfl) (.refl _ _))

theorem execSlackNAssert_keeps (s : State) : Keeps 1 s (execSlackNAssert s) :=
  .next (.ite (.refl _ _) ((setFlag_ext ..).mono rfl))

theorem execSlackNDeassert_keeps (s : State) : Keeps 1 s (execSlackNDeassert s) :=
  .next (.ite (.refl _ _) ((setFlag_ext ..).mono rfl))

theorem noteDead_ext (s : State) (w : Nat) : Ext 1 s (noteDead s w) :=
  .fold (fun _ _ => .ite (.refl _ _) ((setFld_ext ..).mono rfl)) (.refl _ _)

theorem beginFreeze_ext (s : State) : Ext 2049 s (beginFreeze s) :=
  (noteDead_ext ..).after rfl <| .fold (fun _ _ => (setFld_ext ..).mono rfl)
    ((setFlag_ext ..).after rfl <| .withLc rfl rfl ((setFld_ext ..).after rfl <| (setFlag_ext ..).mono rfl))

theorem execSlackT0_keeps (s : State) : Keeps 2049 s (execSlackT0 s) :=
  .next (.ite (.refl _ _) ((beginFreeze_ext ..).mono rfl))

theorem frozen_ext (s : State) (fio : Nat) : Ext 3 s (frozen s fio) :=
  (incCtr_ext ..).after rfl <| (setFld_ext ..).after rfl <| (setFld_ext ..).after rfl <| (setFld_ext ..).after rfl <| (setFld_ext ..).after
    rfl <| (setFlag_ext ..).after rfl <| (setFlag_ext ..).mono rfl

theorem nextWave_ext (s : State) (w fio : Nat) : Ext 3 s (nextWave s w fio) :=
  .ite ((frozen_ext ..).mono rfl) (.unless ((setFld_ext ..).mono rfl) ((noteDead_ext ..).mono rfl))

theorem execSlackWaveStopped_keeps (fio : Nat) (s : State) : Keeps 2051 s (execSlackWaveStopped fio s) :=
  .ite (.next (.refl _ _)) (.next ((nextWave_ext ..).after rfl <| .withLc rfl rfl (.refl _ _)))

theorem maybeWaveC_ext (s0 s1 : State) : Ext 1 s1 (maybeWaveC s0 s1) :=
  .ite ((noteDead_ext ..).mono rfl) (.refl _ _)

theorem execSelfRefreshEntered_keeps (n : StackId) (s : State) : Keeps 2049 s (execSelfRefreshEntered n s) :=
  .ite (.next (.refl _ _)) (.next ((maybeWaveC_ext ..).after rfl <| (setFlag_ext ..).after rfl <| .withLc rfl rfl (.refl _ _)))

theorem srMiss_ext (s : State) (n : Nat) : Ext 513 s (srMiss s n) :=
  .ite (.refl _ _) ((setFlag_ext ..).after rfl <| .withCk rfl (.refl _ _))

theorem execSlackSrDeadline_keeps (s : State) : Keeps 2561 s (execSlackSrDeadline s) :=
  .ite (.next (.refl _ _)) (.next ((maybeWaveC_ext ..).after rfl <| .fold (fun _ _ => (srMiss_ext ..).mono rfl)
    (.withLc rfl rfl (.refl _ _))))

theorem restartTides_ext (s : State) : Ext 275 s (restartTides s) :=
  .fold (fun _ _ => .ite ((missEdge_ext ..).mono rfl) (.refl _ _)) (.withTide rfl (.refl _ _))

theorem resumeFreeze_ext (s : State) : Ext 65531 s (resumeFreeze s) :=
  (heldFlrs_ext ..).after rfl <| (slackHangs_ext ..).after rfl <| .fold (fun _ _ => (startWindow_ext ..).mono rfl)
    ((restartTides_ext ..).after rfl <| (sendUnsent_ext ..).after rfl <| .when
    ((setFld_ext ..).after rfl <| (setFld_ext ..).after rfl <| (setFlag_ext ..).after rfl <| .fold (fun _ _ => (setFlag_ext ..).mono rfl)
    ((dropScans_ext ..).after rfl <| .withLc rfl rfl (.refl _ _))) ((emit_ext ..).mono rfl))

theorem execSlackRelease_keeps (s : State) : Keeps 65531 s (execSlackRelease s) :=
  .ite (.next (.refl _ _)) (.ite (.next ((resumeFreeze_ext ..).mono rfl))
    (.next ((askReset_ext ..).after rfl <| (setFld_ext ..).after rfl <| (setFld_ext ..).mono rfl)))

/-! ### Reset -/

theorem recordCause_ext (s : State) (r : RstCause) : Ext 1 s (recordCause s r) := by
  unfold recordCause
  dsimp only
  split
  · exact (setFld_ext ..).after rfl <| (setFlag_ext ..).mono rfl
  · exact (setFlag_ext ..).mono rfl

theorem drivePins_ext (s : State) : Ext 0 s (drivePins s) :=
  (emit_ext ..).mono rfl

theorem recordPor_ext (s : State) : Ext 1 s (recordPor s) :=
  (setFlag_ext ..).after rfl <| (setFld_ext ..).after rfl <| .fold (fun _ _ => (setFlag_ext ..).mono rfl) (.refl _ _)

theorem noteCauses_ext (s : State) : Ext 2049 s (noteCauses s) :=
  .ite ((recordPor_ext ..).after rfl <| .withLc rfl rfl (.refl _ _))
    (.fold (fun _ _ => (recordCause_ext ..).mono rfl) (.withLc rfl rfl (.refl _ _)))

theorem execPorAssert_keeps (s : State) : Keeps 2048 s (execPorAssert s) :=
  .next ((drivePins_ext ..).after rfl <| (askReset_ext ..).mono rfl)

theorem execFabRstNAssert_keeps (s : State) : Keeps 2048 s (execFabRstNAssert s) :=
  .next ((drivePins_ext ..).after rfl <| (askReset_ext ..).mono rfl)

theorem execPfFlr_keeps (s : State) : Keeps 2048 s (execPfFlr s) :=
  .next ((askReset_ext ..).mono rfl)

theorem execHostLinkReset_keeps (s : State) : Keeps 2048 s (execHostLinkReset s) :=
  .next ((askReset_ext ..).mono rfl)

theorem execFabRstCtlGo_keeps (q : Requester) (v : Word) (s : State) : Keeps 2048 s (execFabRstCtlGo q v s) :=
  atFabric_keeps (.ite ((askReset_ext ..).mono rfl) (.refl _ _))

theorem cutProgram_ext (s : State) : Ext 0 s (cutProgram s).2 := by
  unfold cutProgram
  split
  · exact .refl _ _
  · exact .trans (drawFree_ext s 1) (.trans (drawFree_ext _ 1) (drawFree_ext _ 1))

theorem cutProgram_kept (s : State) : s.lc.fuses.kept (cutProgram s).1 := by
  unfold cutProgram
  split
  · exact Fuses.kept_refl _
  · exact blown_kept ..

theorem cutCommit_ext (s : State) : Ext 0 s (cutCommit s).2 := by
  unfold cutCommit
  dsimp only
  split
  · exact .refl _ _
  · exact drawFree_ext s 1

theorem keptCtrs_sublist (s : State) (por : Bool) : (keptCtrs s por).Sublist s.ctrs := by
  unfold keptCtrs
  split
  · exact List.nil_sublist _
  · exact List.filter_sublist

theorem keptTpw_wf {s : State} (por : Bool) (h : s.mem.tpw.wf (fun _ => TpWord.zero) = true) :
    Tbl.wf (fun _ => TpWord.zero) (if por then [] else s.mem.tpw) = true := by
  split
  · rfl
  · exact h

/-- Reset drops registers and counters, empties the tables of memory it does not keep, and takes the fuses it is given. -/
theorem underReset_ext {s : State} {por : Bool} {fuses : Fuses} {svn : Nat} (hf : s.lc.fuses.kept fuses) :
    Ext 65535 s (underReset s por fuses svn) := by
  unfold underReset
  refine (setFld_ext ..).after rfl ⟨rfl, rfl, Nat.le_refl _, List.suffix_refl _, fun h => ?_, fun h => ?_, hf, fun p hp => ?_⟩
  · rw [Regs.wf_iff] at h ⊢
    obtain ⟨hr, hc, hl⟩ := h
    exact ⟨sublist_sorted hr List.filter_sublist, sublist_wf hc (keptCtrs_sublist ..),
      fun e he => hl e ((keptCtrs_sublist ..).subset he)⟩
  · rw [Memory.wf_iff] at h ⊢
    obtain ⟨_, _, ht, _⟩ := h
    exact ⟨rfl, rfl, keptTpw_wf por ht, rfl⟩
  · cases p
    case env => rfl
    all_goals exact absurd hp (by decide)

theorem assertReset_ext (s : State) (por : Bool) : Ext 65535 s (assertReset s por) := by
  unfold assertReset
  dsimp only
  generalize hs : (if flag s F.SL_STATUS_FROZEN then setFld s F.SL_LAST_OUTCOME 2 else s) = s1
  have h1 : Ext 65535 s s1 := hs ▸ .ite ((setFld_ext ..).mono rfl) (.refl _ _)
  have h2 : Ext 0 s1 (cutCommit (cutProgram s1).2).2 := .trans (cutProgram_ext s1) (cutCommit_ext _)
  have hlc : (cutCommit (cutProgram s1).2).2.lc = s1.lc := h2.same .life (by decide)
  exact (drivePins_ext ..).after rfl <| (emit_ext ..).after rfl <| (underReset_ext (hlc ▸ cutProgram_kept s1)).after rfl (h2.after rfl h1)

theorem execFabricResetStart_keeps (s : State) : Keeps 65535 s (execFabricResetStart s) :=
  .ite (.next ((noteCauses_ext ..).mono rfl)) (.next ((assertReset_ext ..).after rfl <| (noteCauses_ext ..).mono rfl))

theorem senseFuses_ext (s : State) : Ext 1 s (senseFuses s) := by
  unfold senseFuses
  dsimp only
  exact (setFlag_ext ..).after rfl <| (setFlag_ext ..).after rfl <| (setFlag_ext ..).after rfl <| (setFld_ext ..).mono rfl

theorem deriveKey_ext (s : State) : Ext 32768 s (deriveKey s) :=
  .withSc rfl (.refl _ _)

theorem bootImage_ext (s : State) (x : FwImage) : Ext 34817 s (bootImage s x) :=
  .withLc rfl rfl ((setFld_ext ..).after rfl <| (setFld_ext ..).after rfl <| (setFlag_ext ..).after rfl <| (deriveKey_ext ..).mono rfl)

theorem finishFlrs_ext (s : State) : Ext 32768 s (finishFlrs s) :=
  .fold (fun _ _ => (emit_ext ..).mono rfl) (.withSc rfl (.refl _ _))

theorem countReset_ext (s : State) : Ext 1026 s (countReset s) := by
  unfold countReset
  exact (lbAdd_ext ..).after rfl <| (lbAdd_ext ..).after rfl <| (lbAdd_ext ..).mono rfl

theorem releaseReset_ext (s : State) : Ext 35843 s (releaseReset s) := by
  unfold releaseReset
  refine (finishFlrs_ext ..).after rfl <| (drivePins_ext ..).after rfl <| (emit_ext ..).after rfl <| .withLc rfl rfl ?_
  dsimp only
  split
  · exact .when ((countReset_ext ..).after rfl <| (senseFuses_ext ..).after rfl <| .withLc rfl rfl (.refl _ _))
      ((bootImage_ext ..).mono rfl)
  · exact (countReset_ext ..).after rfl <| (senseFuses_ext ..).after rfl <| .withLc rfl rfl (.refl _ _)

theorem execFabricResetRelease_keeps (s : State) : Keeps 35843 s (execFabricResetRelease s) :=
  .ite (.next (.refl _ _)) (.next ((releaseReset_ext ..).after rfl <| (noteCauses_ext ..).mono rfl))

/-! ### Startup -/

theorem endStartup_ext (s : State) : Ext 2048 s (endStartup s) :=
  .withLc rfl rfl (.refl _ _)

theorem bootRom_ext (s : State) (slotA slotB : List Byte) : Ext 35843 s (bootRom s slotA slotB) :=
  .ite ((endStartup_ext ..).mono rfl) (.ite ((bootImage_ext ..).mono rfl)
    (.ite ((lbAdd_ext ..).after rfl <| (bootImage_ext ..).mono rfl) ((endStartup_ext ..).after rfl <| (setFlag_ext ..).mono rfl)))

theorem toStep_ext (s : State) (n : Nat) : Ext 2048 s (toStep s n) :=
  .withLc rfl rfl (.refl _ _)

theorem execBootRomDone_keeps (slotA slotB : List Byte) (s : State) : Keeps 35843 s (execBootRomDone slotA slotB s) :=
  .ite (.next (.refl _ _)) (atDomain_keeps ((bootRom_ext ..).mono rfl))

theorem execXaStrapCheck_keeps (khz : Nat) (xb : Bool) (s : State) : Keeps 2561 s (execXaStrapCheck khz xb s) :=
  .ite (.next (.refl _ _)) (.ite (atDomain_keeps ((toStep_ext ..).after rfl <| (setFlag_ext ..).after rfl <| (setFlag_ext ..).mono rfl))
    (atDomain_keeps (.when ((setFlag_ext ..).mono rfl) (.withCk rfl (.refl _ _)))))

theorem toVboot_ext (s : State) (i : Nat) : Ext 1 s (toVboot s i) :=
  (emit_ext ..).after rfl <| (setFlag_ext ..).after rfl <| (setFld_ext ..).mono rfl

theorem startAllLoops_ext (s : State) : Ext 9 s (startAllLoops s) :=
  .withPlan rfl ((setFld_ext ..).mono rfl)

theorem execVbootSetDone_keeps (s : State) : Keeps 2057 s (execVbootSetDone s) :=
  .ite (.next (.refl _ _)) (atDomain_keeps ((toStep_ext ..).after rfl <| (startAllLoops_ext ..).after rfl <| .fold
    (fun _ _ => (toVboot_ext ..).mono rfl) (.refl _ _)))

theorem execStartupDomainsSwitched_keeps (s : State) : Keeps 2560 s (execStartupDomainsSwitched s) :=
  .ite (.next (.refl _ _)) (atDomain_keeps ((toStep_ext ..).after rfl <| .fold (fun _ _ => (setDom_ext ..).mono rfl) (.refl _ _)))

theorem zeroStacks_ext (s : State) : Ext 32 s (zeroStacks s) :=
  .withStored rfl (.refl _ _) fun h => by
    rw [Memory.wf_iff] at h ⊢
    obtain ⟨_, _, ht, hw⟩ := h
    exact ⟨rfl, rfl, ht, hw⟩

theorem initStack_ext (trained : Nat) (s : State) (n : Nat) : Ext 1 s (initStack trained s n) :=
  (setFlag_ext ..).after rfl <| (setFlag_ext ..).mono rfl

theorem stacksReady_ext (s : State) (trained : Nat) (size36 : Bool) : Ext 33 s (stacksReady s trained size36) :=
  (setFlag_ext ..).after rfl <| (setFld_ext ..).after rfl <| (setFlag_ext ..).after rfl <| (setFld_ext ..).after rfl <| .fold
    (fun _ _ => (initStack_ext ..).mono rfl) ((zeroStacks_ext ..).mono rfl)

theorem execStackTrainingDone_keeps (trained : BitVec 32) (size36 : Bool) (s : State) :
    Keeps 2081 s (execStackTrainingDone trained size36 s) :=
  .ite (.next (.refl _ _)) (atDomain_keeps ((toStep_ext ..).after rfl <| (startCal_ext ..).after rfl <| (stacksReady_ext ..).mono rfl))

theorem execReturnedScrubVerify_keeps (clean : Bool) (s : State) : Keeps 1 s (execReturnedScrubVerify clean s) :=
  .ite (.next (.refl _ _)) (.ite (atDomain_keeps ((setFlag_ext ..).mono rfl)) (atDomain_keeps ((setFlag_ext ..).mono rfl)))

theorem execLogbookOpen_keeps (sfdpOk : Bool) (headers : List (List Byte)) (entries : List (Nat × Nat × List Byte)) (s : State) :
    Keeps 3843 s (execLogbookOpen sfdpOk headers entries s) :=
  .ite (.next (.refl _ _)) (.ite (atDomain_keeps ((toStep_ext ..).after rfl <| (setSchedules_ext ..).after rfl <| (setFlag_ext ..).mono
    rfl)) (atDomain_keeps ((toStep_ext ..).after rfl <| (lbRequest_ext ..).after rfl <| (setSchedules_ext ..).after rfl <|
    (openLogbook_ext ..).mono rfl)))

theorem execStartupComplete_keeps (s : State) : Keeps 2049 s (execStartupComplete s) :=
  .ite (.next (.refl _ _)) (atDomain_keeps ((toStep_ext ..).after rfl <| (setFlag_ext ..).mono rfl))

/-! ### RegIo -/

theorem ctrLoRead_ext (s : State) (q : Requester) (off : Nat) : Ext 4 s (ctrLoRead s q off).2 :=
  .withLatches rfl (.refl _ _)

theorem readReg_ext (s : State) (q : Requester) (off : Nat) : Ext 260 s (readReg s q off).2 := by
  unfold readReg
  refine .ite_snd (.refl _ _) ?_
  dsimp only
  split
  · exact (claimTgt_ext ..).mono rfl
  · exact .ite_snd ((claimTgt_ext ..).mono rfl) (.refl _ _)
  · refine .ite_snd ((ctrLoRead_ext ..).mono rfl) (.ite_snd (.refl _ _) ?_)
    split
    · exact .refl _ _
    · exact .refl _ _

theorem answerRead_ext {m : Nat} {s : State} {q : Requester} {r : Nat × State} (h : Ext m s r.2) : Ext m s (answerRead q r) := by
  unfold answerRead
  split
  all_goals exact (emit_ext ..).after (Nat.zero_and m) h

theorem regRead_ext {m : Nat} {s : State} {q : Requester} {off : Nat} {r : Nat × State} (h : Ext m s r.2)
    (hm : 1347 &&& m = 1347) : Ext m s (regRead s q off r) := by
  unfold regRead
  refine .ite ((closedAccess_ext ..).mono (Nat.zero_and m)) ?_
  split
  · exact .ite ((emit_ext ..).mono (Nat.zero_and m))
      (.ite ((emit_ext ..).after (Nat.zero_and m) ((winDrop_ext ..).mono hm)) (answerRead_ext h))
  · exact answerRead_ext h

theorem misshapen_ext (s : State) (q : Requester) : Ext 1 s (misshapen s q) := by
  unfold misshapen
  refine .ite ((closedAccess_ext ..).mono rfl) ?_
  split
  · exact (emit_ext ..).after rfl <| (setFlag_ext ..).mono rfl
  · exact (emit_ext ..).mono rfl

theorem execCounterLoRead_keeps (q : Requester) (off : BitVec 25) (s : State) : Keeps 1351 s (execCounterLoRead q off s) :=
  .next (.ite ((misshapen_ext ..).mono rfl) (.ite (regRead_ext (.ite_snd (.refl _ _) ((ctrLoRead_ext ..).mono rfl)) rfl) (.refl _ _)))

theorem fieldWrite_ext (off : Nat) (q : Requester) (v : Nat) (s : State) (f : Nat × Nat × Nat × AccCode) :
    Ext 1 s (fieldWrite off q v s f) := by
  unfold fieldWrite
  dsimp only
  split
  · exact .ite (.refl _ _) ((setFld_ext ..).mono rfl)
  · exact (setFld_ext ..).mono rfl
  · exact (setFld_ext ..).mono rfl
  · exact .refl _ _

theorem plainWrite_ext (s : State) (q : Requester) (off v : Nat) : Ext 1 s (plainWrite s q off v) := by
  unfold plainWrite
  split
  · exact .fold (fun _ _ => (fieldWrite_ext ..).mono rfl) (.refl _ _)
  · exact .refl _ _

theorem plainAt_keeps (s : State) (q : Requester) (off v : Nat) : Keeps 1347 s (plainAt s q off v) :=
  .ite (atFabric_keeps ((plainWrite_ext ..).mono rfl)) (.ite (atDriver_keeps ((plainWrite_ext ..).mono rfl) rfl)
    (atWindow_keeps ((plainWrite_ext ..).mono rfl) rfl))

theorem bothOf_keeps {m : Nat} {s : State} {q : Requester} {a : Ans} {f : State → Ans} (h : Keeps m s a)
    (hf : ∀ t, Ext m s t → Keeps m s (f t)) :
    Keeps m s (bothOf s q a f) := by
  obtain ⟨t, rfl, ht⟩ := h.next_of
  exact .ite (atFabric_keeps (.refl _ _)) (hf t ht)

theorem thenAns_keeps {m : Nat} {s : State} {a : Ans} {f : State → Ans} (h : Keeps m s a) (hf : ∀ t, Ext m s t → Keeps m s (f t)) :
    Keeps m s (thenAns a f) := by
  obtain ⟨t, rfl, ht⟩ := h.next_of
  exact hf t ht

theorem bindWrite_keeps (q : Requester) (v : Nat) (s : State) : Keeps 30187 s (bindWrite q v s) := by
  unfold bindWrite
  dsimp only
  split
  · exact (execTuBind_keeps ..).mono rfl
  · exact (execTuUnbind_keeps ..).mono rfl
  · exact (execTuDiscardPending_keeps ..).mono rfl
  · exact (execTuCompactNow_keeps ..).mono rfl
  · exact atFabric_keeps (.refl _ _)

theorem areaWrite_keeps {m : Nat} {s : State} {q : Requester} {off v : Nat} {on : Bool} {enable : Ans} (h : Keeps m s enable)
    (hm : 1 &&& m = 1) : Keeps m s (areaWrite q off v on enable s) :=
  .ite h (atFabric_keeps (.ite (.refl _ _) ((plainWrite_ext ..).mono hm)))

theorem migCtlWrite_keeps (q : Requester) (c : CoveId) (v : Nat) (s : State) : Keeps 32769 s (migCtlWrite q c v s) := by
  unfold migCtlWrite
  split
  · exact (execMigCopyOut_keeps ..).mono rfl
  · exact (execMigCopyIn_keeps ..).mono rfl
  · exact (execMigExport_keeps ..).mono rfl
  · exact (execMigImport_keeps ..).mono rfl
  · exact atFabric_keeps (.refl _ _)

theorem obWrite_keeps (q : Requester) (c : CoveId) (off v : Nat) (s : State) : Keeps 30187 s (obWrite q c off v s) := by
  unfold obWrite
  split
  · exact (execObCreate_keeps ..).mono rfl
  · exact (execObHold_keeps ..).mono rfl
  · exact (execObDrop_keeps ..).mono rfl
  · exact (execObFree_keeps ..).mono rfl
  · exact (execObQuery_keeps ..).mono rfl
  · exact (execQCreate_keeps ..).mono rfl
  · exact (execQDestroy_keeps ..).mono rfl
  · exact (execGSet_keeps ..).mono rfl
  · exact (execGClear_keeps ..).mono rfl
  · exact atWindow_keeps (.refl _ _) rfl

theorem evWrite_keeps (q : Requester) (c : CoveId) (off v : Nat) (s : State) : Keeps 5483 s (evWrite q c off v s) := by
  unfold evWrite
  split
  · exact (execEvOpSignal_keeps ..).mono rfl
  · exact (execEvOpWait_keeps ..).mono rfl
  · exact (execEvOpReset_keeps ..).mono rfl
  · exact (execEvOpRead_keeps ..).mono rfl
  · exact atWindow_keeps (.refl _ _) rfl

theorem resolveWrite_keeps (q : Requester) (c : CoveId) (off v : Nat) (s : State) : Keeps 30187 s (resolveWrite q c off v s) := by
  unfold resolveWrite
  dsimp only
  split
  · exact (execXlWqReplay_keeps ..).mono rfl
  · exact (execXlWqKill_keeps ..).mono rfl
  · exact atDriver_keeps (.refl _ _) rfl

theorem startFabric_keeps (q : Requester) (off : Nat) (w : Word) (s : State) : KeepsAll 44379 s (startFabric q off w s) :=
  .cons (.one ((execFabFwCommit_keeps ..).mono rfl)) <| .cons (.one ((execFabRstCtlGo_keeps ..).mono rfl)) <| .cons
    (.one ((execChEn_keeps ..).mono rfl)) <| .cons (.one (atFabric_keeps
    (chGuard_ext (.ite ((plainWrite_ext ..).mono rfl) (.refl _ _)) rfl))) <| .cons
    (.one (atFabric_keeps (chGuard_ext (.ite ((plainWrite_ext ..).mono rfl) (.refl _ _)) rfl))) <| .cons
    (.one (atFabric_keeps (chGuard_ext (.ite ((plainWrite_ext ..).mono rfl) (.refl _ _)) rfl))) <| .cons
    (.one ((execChWdata_keeps ..).mono rfl)) <| .cons (.one (.ite ((execChUnfence_keeps ..).mono rfl) ((execChFence_keeps ..).mono rfl))) <|
    .cons (.one (.ite (bothOf_keeps ((execTdCal_keeps ..).mono rfl) (fun _ x => (execTdResume_keeps ..).after rfl x))
    (.ite ((execTdCal_keeps ..).mono rfl) (.ite ((execTdResume_keeps ..).mono rfl) (atFabric_keeps (.refl _ _)))))) <| .nil

theorem startPlane_keeps (q : Requester) (off : Nat) (w : Word) (s : State) : KeepsAll 30187 s (startPlane q off w s) :=
  .cons (.at (fun _ => .ite ((execXlDlSwap_keeps ..).mono rfl) (.ite ((execXlDlStop_keeps ..).mono rfl) (atFabric_keeps (.refl _ _))))) <|
    .cons (.at (fun _ => (execHdCtlArb_keeps ..).mono rfl)) <| .cons (.one ((bindWrite_keeps ..).mono rfl)) <| .cons
    (.one (.ite ((execTuFlipGo_keeps ..).mono rfl) (atFabric_keeps (.refl _ _)))) <| .cons
    (.one (.ite ((execScKrCmdRekey_keeps ..).mono rfl) (atFabric_keeps (.refl _ _)))) <| .cons
    (.at (fun _ => .ite ((execScMdcFlush_keeps ..).after rfl <| .ite (.refl _ _) ((plainWrite_ext ..).mono rfl))
    (atFabric_keeps ((plainWrite_ext ..).mono rfl)))) <| .cons (.at
    (fun _ => .ite ((execScPeakClr_keeps ..).mono rfl) (atFabric_keeps (.refl _ _)))) <| .nil

theorem startWork_keeps (q : Requester) (off : Nat) (w : Word) (s : State) : KeepsAll 30187 s (startWork q off w s) := by
  unfold startWork
  refine .cons (.at (fun c => areaWrite_keeps ((execObAreaEnable_keeps ..).mono rfl) rfl)) <| .cons (.at (fun c => ?_)) <| .cons
    (.at (fun c => (execEvCringBase_keeps ..).mono rfl)) <| .cons
    (.at (fun _ => areaWrite_keeps ((execSqSpillEnable_keeps ..).mono rfl) rfl)) <| .cons
    (.one (atFabric_keeps (beaconStep_ext ((retryAll_ext ..).after rfl <| (plainWrite_ext ..).mono rfl) rfl))) <| .cons
    (.one (.ite (atFabric_keeps (.refl _ _)) ((execBcNmiTest_keeps ..).after rfl <| .ite ((setFlag_ext ..).mono rfl) (.refl _ _)))) <| .cons
    (.one (.ite ((execBcSrcCfgWrite_keeps ..).mono rfl) (atFabric_keeps (.refl _ _)))) <| .cons
    (.at (fun t => .ite ((execBcTgtCfgWrite_keeps ..).mono rfl) (atFabric_keeps (.refl _ _)))) <| .cons
    (.at (fun t => .ite ((execBcEoi_keeps ..).mono rfl) (atFabric_keeps (.refl _ _)))) <| .cons
    (.at (fun _ => atFabric_keeps (.ite ((setTgt_ext ..).mono rfl) (.refl _ _)))) <| .nil
  dsimp only
  split
  · exact (execObCtxKill_keeps ..).mono rfl
  · exact (execObCtxRevive_keeps ..).mono rfl
  · exact atFabric_keeps (.refl _ _)

theorem startManager_keeps (q : Requester) (off : Nat) (w : Word) (s : State) : KeepsAll 65531 s (startManager q off w s) :=
  .cons (.at (fun _ => (execCvQuiesceReq_keeps ..).mono rfl)) <| .cons (.at (fun _ => (execCvResetGo_keeps ..).mono rfl)) <| .cons
    (.at (fun _ => (migCtlWrite_keeps ..).mono rfl)) <| .cons (.at (fun _ => (execVsIslReq_keeps ..).mono rfl)) <| .cons
    (.at (fun _ => (execVsIslCap_keeps ..).mono rfl)) <| .cons (.ite .none
    (.at (fun _ => .ite ((execVsCoveReq_keeps ..).mono rfl) (atFabric_keeps (.refl _ _))))) <| .cons
    (.one (.ite ((execVsAvsRetry_keeps ..).after rfl <| .ite (.refl _ _) (.ite ((setFlag_ext ..).mono rfl) (.refl _ _)))
    (atFabric_keeps (.ite ((setFlag_ext ..).mono rfl) (.refl _ _))))) <| .cons
    (.one (.ite ((execFbReplan_keeps ..).mono rfl) (atFabric_keeps (.refl _ _)))) <| .cons
    (.one (.ite (bothOf_keeps ((execLbShutdown_keeps ..).mono rfl) (fun _ x => (execLbWrite_keeps ..).after rfl x))
    (.ite ((execLbShutdown_keeps ..).mono rfl) (.ite ((execLbWrite_keeps ..).mono rfl) (atFabric_keeps (.refl _ _)))))) <| .cons
    (.one ((execLbHosttime_keeps ..).mono rfl)) <| .cons (.one ((execLcNext_keeps ..).mono rfl)) <| .cons
    (.one ((execLcDbgOpen_keeps ..).mono rfl)) <| .cons (.one ((execSlFreeze_keeps ..).mono rfl)) <| .nil

theorem startWindowRegs_keeps (q : Requester) (off : Nat) (w : Word) (s : State) : KeepsAll 62955 s (startWindowRegs q off w s) :=
  .cons (.one (.ite ((execCvBxGo_keeps ..).mono rfl) (atWindow_keeps (.refl _ _) rfl))) <| .cons (.one ((execXlWqCons_keeps ..).mono rfl))
    <| .cons (.one ((resolveWrite_keeps ..).mono rfl)) <| .cons (.one
    (.ite ((execXlInvGo_keeps ..).mono rfl) (atDriver_keeps (.refl _ _) rfl))) <| .cons
    (.one (.ite ((execSwCvMvGo_keeps ..).mono rfl) (atWindow_keeps (.refl _ _) rfl))) <| .cons (.one ((obWrite_keeps ..).mono rfl)) <| .cons
    (.one ((evWrite_keeps ..).mono rfl)) <| .cons (.one ((execEvCringCons_keeps ..).mono rfl)) <| .cons
    (.at (fun _ => atWindow_keeps ((writeSrcCfg_ext ..).mono rfl) rfl)) <| .cons
    (.at (fun _ => atWindow_keeps ((setFld_ext ..).mono rfl) rfl)) <| .cons (.one ((execBcCvSwi_keeps ..).mono rfl)) <| .cons
    (.at (fun _ => atWindow_keeps (.ite ((writeTgtCfg_ext ..).mono rfl) (.refl _ _)) rfl)) <| .cons
    (.at (fun _ => atWindow_keeps (.ite ((eoiTgt_ext ..).mono rfl) (.refl _ _)) rfl)) <| .cons
    (.at (fun _ => atWindow_keeps (.ite (.ite ((setTgt_ext ..).mono rfl) (.refl _ _)) (.refl _ _)) rfl)) <| .cons
    (.at (fun _ => (execDoorbellWrite_keeps ..).mono rfl)) <| .nil

theorem starts_keeps (q : Requester) (off : Nat) (w : Word) (s : State) : KeepsStart 65531 s (starts q off w s) :=
  starts_are (fun _ => KeepsAll.mono (startWindowRegs_keeps ..) rfl) fun _ => .append (.append (.append
    (KeepsAll.mono (startFabric_keeps ..) rfl) (KeepsAll.mono (startPlane_keeps ..) rfl)) (KeepsAll.mono (startWork_keeps ..) rfl))
    (KeepsAll.mono (startManager_keeps ..) rfl)

theorem writeReg_keeps (q : Requester) (off : Nat) (w : Word) (s : State) : Keeps 65531 s (writeReg q off w s) :=
  writeReg_is (KeepsStart.mono (starts_keeps ..) rfl) ((plainAt_keeps ..).mono rfl)

theorem execRegWrite_keeps (q : Requester) (off : BitVec 25) (v : WriteData) (s : State) : Keeps 65531 s (execRegWrite q off v s) :=
  .ite (.next ((misshapen_ext ..).mono rfl)) ((writeReg_keeps ..).mono rfl)

theorem execRegAccessBadSize_keeps (q : Requester) (off : BitVec 25) (size : Nat) (_write : Bool) (s : State) :
    Keeps 1 s (execRegAccessBadSize q off size _write s) :=
  .next (.ite (.refl _ _) ((misshapen_ext ..).mono rfl))

/-! ### Ibpin -/

theorem ibEnd_ext (s : State) (status : Nat) : Ext 0 s (ibEnd s status) :=
  (emit_ext ..).mono rfl

theorem ibRefused_keeps (s : State) (addr : Nat) (read : Bool) : KeepsSome 1 s (ibRefused s addr read) :=
  .ite (.some ((ibEnd_ext ..).mono rfl)) (.ite (.some ((ibEnd_ext ..).mono rfl))
    (.ite (.some ((ibEnd_ext ..).after rfl <| (setFlag_ext ..).mono rfl)) .none))

theorem execIbpinRead_keeps (addr : Word) (s : State) : Keeps 261 s (execIbpinRead addr s) := by
  unfold execIbpinRead
  split
  · rename_i e1
    exact .next (((ibRefused_keeps ..).of _ e1).mono rfl)
  · exact .next (answerRead_ext ((readReg_ext ..).mono rfl))

theorem ibWrite_keeps (s : State) (addr v : Word) : Keeps 65531 s (ibWrite s addr v) :=
  (writeReg_keeps ..).mono rfl

theorem execIbpinWrite_keeps (addr v : Word) (s : State) : Keeps 65531 s (execIbpinWrite addr v s) := by
  unfold execIbpinWrite
  split
  · rename_i e1
    exact .next (((ibRefused_keeps ..).of _ e1).mono rfl)
  · exact thenAns_keeps ((ibWrite_keeps ..).mono rfl) (fun t x => .next ((ibEnd_ext ..).after rfl x))

theorem execIbpinBadOpcode_keeps (opcode : Byte) (s : State) : Keeps 1 s (execIbpinBadOpcode opcode s) :=
  .ite (.next (.refl _ _)) (.ite (.next ((ibEnd_ext ..).mono rfl))
    (.ite (.next ((ibEnd_ext ..).mono rfl)) (.next ((ibEnd_ext ..).after rfl <| (setFlag_ext ..).mono rfl))))

theorem begunWrite_keeps (s : State) (wr : Option (Word × Word)) : Keeps 65531 s (begunWrite s wr) := by
  unfold begunWrite
  split
  · exact .ite (.next (.refl _ _)) ((ibWrite_keeps ..).mono rfl)
  · exact .next (.refl _ _)

theorem execIbpinFrameAbort_keeps (phaseDone : Bool) (wr : Option (Word × Word)) (s : State) :
    Keeps 65531 s (execIbpinFrameAbort phaseDone wr s) :=
  .ite (.next (.refl _ _)) (.ite ((begunWrite_keeps ..).mono rfl) (.next ((setFlag_ext ..).mono rfl)))

theorem execIbpinTimeout_keeps (wr : Option (Word × Word)) (s : State) : Keeps 65531 s (execIbpinTimeout wr s) :=
  .ite (.next ((ibEnd_ext ..).mono rfl)) (.ite (.next ((ibEnd_ext ..).mono rfl))
    (thenAns_keeps ((begunWrite_keeps ..).mono rfl) (fun _ x => .next ((ibEnd_ext ..).after rfl <| (setFlag_ext ..).after rfl x))))

/-! ### Jtag -/

theorem setIr_ext (s : State) (op : Nat) : Ext 2048 s (setIr s op) :=
  .withLc rfl rfl (.refl _ _)

theorem bypass_ext (s : State) : Ext 0 s (bypass s) := by
  unfold bypass
  dsimp only
  exact (emit_ext ..).after rfl <| (drawFree_ext ..).mono rfl

theorem capture_ext (l : List (Option Bool)) : ∀ s : State, Ext 0 s (capture s l).2 := by
  induction l with
  | nil => exact fun s => .refl _ s
  | cons b l ih =>
    intro s
    cases b with
    | some b => exact ih s
    | none => exact .trans (drawFree_ext s 1) (ih _)

theorem withBsr_ext (s : State) (l : List Bool) : Ext 2048 s { s with lc := { s.lc with bsr := l } } := .withLc rfl rfl (.refl _ _)

theorem boundaryScan_ext (s : State) : Ext 2048 s (boundaryScan s) := by
  unfold boundaryScan
  generalize hc : capture s (pinCells s) = r
  obtain ⟨cells, t⟩ := r
  have ht : Ext 0 s t := .of_snd hc (capture_ext _ s)
  have hd : Ext 2048 s (drawFree (emit t (.tdo cells.length (ofBits cells))) cells.length).2 :=
    (drawFree_ext _ cells.length).after rfl ((emit_ext ..).after rfl (ht.mono rfl))
  exact (withBsr_ext ..).after rfl hd

theorem driveCells_ext (s : State) : Ext 0 s (driveCells s) :=
  (emit_ext ..).mono rfl

theorem execJtagTapReset_keeps (s : State) : Keeps 2048 s (execJtagTapReset s) :=
  .next ((setIr_ext ..).mono rfl)

theorem execJtagExtest_keeps (s : State) : Keeps 2048 s (execJtagExtest s) :=
  .next (.ite ((driveCells_ext ..).after rfl <| (boundaryScan_ext ..).after rfl <| (driveCells_ext ..).after rfl <| (setIr_ext ..).mono rfl)
    ((bypass_ext ..).after rfl <| (setIr_ext ..).mono rfl))

theorem execJtagSamplePreload_keeps (s : State) : Keeps 2048 s (execJtagSamplePreload s) :=
  .next ((boundaryScan_ext ..).after rfl <| (setIr_ext ..).mono rfl)

theorem execJtagIdcode_keeps (s : State) : Keeps 2048 s (execJtagIdcode s) :=
  .next ((emit_ext ..).after rfl <| (setIr_ext ..).mono rfl)

theorem execJtagIjtag_keeps (s : State) : Keeps 2048 s (execJtagIjtag s) :=
  .next (.ite ((bypass_ext ..).after rfl <| (setIr_ext ..).mono rfl) (.unless ((setIr_ext ..).mono rfl) ((bypass_ext ..).mono rfl)))

theorem execJtagSlack_keeps (s : State) : Keeps 2049 s (execJtagSlack s) :=
  .next ((setHold_ext ..).after rfl <| (setIr_ext ..).mono rfl)

theorem execJtagRelease_keeps (s : State) : Keeps 2049 s (execJtagRelease s) :=
  .next ((setHold_ext ..).after rfl <| (setIr_ext ..).mono rfl)

theorem execJtagStatus_keeps (s : State) : Keeps 2048 s (execJtagStatus s) :=
  .next ((emit_ext ..).after rfl <| (setIr_ext ..).mono rfl)

theorem execJtagBypass_keeps (s : State) : Keeps 2048 s (execJtagBypass s) :=
  .next ((bypass_ext ..).after rfl <| (setIr_ext ..).mono rfl)

theorem ctlWrite_ext (d : Nat) (s : State) (x : CtlFlop × Nat) : Ext 2067 s (ctlWrite d s x) := by
  unfold ctlWrite
  dsimp only
  split
  · split
    · exact .ite ((setFld_ext ..).mono rfl) (.refl _ _)
    · exact .refl _ _
  · exact .ite ((setCtr_ext ..).mono rfl) (.refl _ _)
  · exact .ite ((setMaster_ext ..).mono rfl) (.refl _ _)
  · exact .withLc rfl rfl (.refl _ _)

theorem ctlBits_ext (s : State) (d : Nat) (x : CtlFlop) : Ext 2067 s (ctlBits s d x).2 := by
  unfold ctlBits
  dsimp only
  split
  · exact .refl _ _
  · dsimp only
    split
    · exact (ctlWrite_ext ..).after rfl <| (drawFree_ext ..).mono rfl
    · exact (drawFree_ext ..).mono rfl

theorem ctlsBits_ext (d : Nat) (l : List CtlFlop) : ∀ s : State, Ext 2067 s (ctlsBits s d l).2 := by
  induction l with
  | nil => exact fun s => .refl _ s
  | cons x l ih => exact fun s => .trans (ctlBits_ext s d x) (ih _)

theorem dataBits_ext (s : State) (d n : Nat) : Ext 2048 s (dataBits s d n).2 := by
  unfold dataBits
  dsimp only
  exact .withLc rfl rfl ((drawFree_ext ..).mono rfl)

theorem dataWrite_ext (s : State) (d : Nat) (vs : List Nat) : Ext 2048 s (dataWrite s d vs) :=
  .withLc rfl rfl (.refl _ _)

theorem scanWrite_ext (s : State) (d : Nat) (ctl : List CtlFlop) (data : Nat) (vs : List Nat) : Ext 2067 s (scanWrite s d ctl data vs) :=
  .when (.ite (.refl _ _) (.fold (fun _ _ => (ctlWrite_ext ..).mono rfl) (.refl _ _))) ((dataWrite_ext ..).mono rfl)

theorem execScanSegmentAccess_keeps (d : DomainId) (ctl : List CtlFlop) (data : Nat) (write : Option (List Nat)) (s : State) :
    Keeps 2067 s (execScanSegmentAccess d ctl data write s) := by
  unfold execScanSegmentAccess
  refine .ite (.next (.refl _ _)) ?_
  dsimp only
  refine .next ((emit_ext ..).after rfl ?_)
  split
  · exact (scanWrite_ext ..).after rfl <| .ite_snd ((dataBits_ext ..).after rfl <| (ctlsBits_ext ..).mono rfl) ((ctlsBits_ext ..).mono rfl)
  · exact .ite_snd ((dataBits_ext ..).after rfl <| (ctlsBits_ext ..).mono rfl) ((ctlsBits_ext ..).mono rfl)

theorem setBuf_ext (s : State) (k : Nat) (v : Line) : Ext 2048 s (setBuf s k v) :=
  .withLc rfl rfl (.refl _ _)

theorem arrayBits_ext (s : State) (a : DumpArr) : Ext 2048 s (arrayBits s a).2 := by
  cases a with
  | tidepool b w => exact .refl _ _
  | metadata n k w =>
    unfold arrayBits
    dsimp only
    split
    · exact .refl _ _
    · exact (drawFree_ext s 576).mono rfl
  | buffer u l =>
    unfold arrayBits
    dsimp only
    refine .ite_snd (.refl _ _) ?_
    split
    · exact .refl _ _
    · exact (setBuf_ext ..).after rfl ((drawFree_ext s 512).mono rfl)

theorem arrayWrite_ext (s : State) (a : DumpArr) (v : Line × BitVec 80) : Ext 18464 s (arrayWrite s a v) := by
  cases a with
  | tidepool b w => exact (setTp_ext ..).mono rfl
  | metadata n k w =>
    unfold arrayWrite
    dsimp only
    split
    · refine .withStored rfl (.refl _ _) fun h => ?_
      rw [Memory.wf_iff] at h ⊢
      obtain ⟨hl, hd, ht, hw⟩ := h
      exact ⟨hl, tsetD_wf hd _ _, ht, hw⟩
    · exact .refl _ _
  | buffer u l => exact .ite (.withEn rfl (.refl _ _)) ((setBuf_ext ..).mono rfl)

theorem execArrayDumpAccess_keeps (arr : DumpArr) (write : Option (Line × BitVec 80)) (s : State) :
    Keeps 18464 s (execArrayDumpAccess arr write s) := by
  unfold execArrayDumpAccess
  refine .ite (.next (.refl _ _)) (.ite (.next ((emit_ext ..).mono rfl)) ?_)
  dsimp only
  refine .next ((emit_ext ..).after rfl ?_)
  split
  · exact (arrayWrite_ext ..).after rfl <| (arrayBits_ext ..).mono rfl
  · exact (arrayBits_ext ..).mono rfl

theorem instrErr_ext (s : State) (read : Bool) : Ext 0 s (instrErr s read) :=
  (emit_ext ..).mono rfl

theorem instrAccess_keeps {m : Nat} {s : State} {fpa : Nat} {read : Bool} {f : State → Nat → Nat → State} (hf : ∀ t n a, Ext m t (f t n a))
    (hm : 1387 &&& m = 1387) : Keeps m s (instrAccess s fpa read f) := by
  unfold instrAccess
  refine .ite (.next (.refl _ _)) (.ite (.next ((instrErr_ext ..).within rfl hm (.refl _ _))) ?_)
  split
  · exact .next ((instrErr_ext ..).within rfl hm (.refl _ _))
  · exact .next (.trans ((takeTurn_ext ..).within rfl hm ((addCtr_ext ..).within rfl hm (.refl _ _))) (hf ..))

theorem rawRead_ext (s : State) (n sda : Nat) : Ext 291 s (rawRead s n sda) := by
  unfold rawRead
  dsimp only
  exact (emit_ext ..).after rfl <| (mdcFetch_ext ..).mono rfl

theorem rawWrite_ext (data : Line) (pin inl : Dword) (s : State) (n sda : Nat) : Ext 291 s (rawWrite data pin inl s n sda) :=
  (emit_ext ..).after rfl <| (mdcWrite_ext ..).after rfl <| (setRaw_ext ..).mono rfl

theorem execMemInstrRead_keeps (fpa : BitVec 41) (s : State) : Keeps 1387 s (execMemInstrRead fpa s) :=
  instrAccess_keeps (fun _ _ _ => (rawRead_ext ..).mono rfl) rfl

theorem execMemInstrWrite_keeps (fpa : BitVec 41) (data : Line) (pin inl : Dword) (s : State) :
    Keeps 1387 s (execMemInstrWrite fpa data pin inl s) :=
  instrAccess_keeps (fun _ _ _ => (rawWrite_ext ..).mono rfl) rfl

end Sys2Proof.Machine
end

section
/-!
What a command can do, over every command and every state: the rules of its parts give it within the frame that `frameOf` names.
-/
namespace Sys2Proof.Machine

/-- The mask of a list of parts. -/
def frameMask : List Part → Nat
  | [] => 0
  | p :: ps => 2 ^ p.bit ||| frameMask ps

theorem Part.bit_eq_ctorIdx (p : Part) : p.bit = p.ctorIdx := by cases p <;> rfl

theorem Part.bit_inj {p q : Part} (h : p.bit = q.bit) : p = q := by
  rw [bit_eq_ctorIdx, bit_eq_ctorIdx] at h
  rw [← Part.ofNat_ctorIdx p, h, Part.ofNat_ctorIdx]

theorem testBit_frameMask {ps : List Part} {p : Part} (h : p ∉ ps) : (frameMask ps).testBit p.bit = false := by
  induction ps with
  | nil => exact Nat.zero_testBit _
  | cons q ps ih =>
    obtain ⟨hq, hps⟩ := not_or.1 (mt List.mem_cons.2 h)
    have hb : q.bit ≠ p.bit := fun e => hq (Part.bit_inj e.symm)
    rw [frameMask, Nat.testBit_or, Nat.testBit_two_pow_of_ne hb, ih hps, Bool.or_false]

/-- How a command takes one state to the next: the queue stays, what is sent out only grows, the tables of the registers and of memory stay
canonical, blown fuses stay blown, and no part but those named changes. -/
structure Advances (ps : List Part) (s t : State) : Prop where
  queue : t.pending = s.pending
  out : s.out <:+ t.out
  regs : Regs.wf s = true → Regs.wf t = true
  mem : Memory.wf s.mem = true → Memory.wf t.mem = true
  fuse : s.lc.fuses.kept t.lc.fuses
  only : OnlyChanges ps s t

theorem Ext.advances {ps : List Part} {s t : State} (h : Ext (frameMask ps) s t) : Advances ps s t where
  queue := h.queue
  out := h.out
  regs := h.regs
  mem := h.mem
  fuse := h.fuse
  only := fun p hp => h.same p (testBit_frameMask hp)

/-- A mask within the frame of the command. -/
theorem Keeps.framed {n : Nat} {s : State} {a : Ans} {c : Instr} (k : Keeps n s a)
    (hn : n &&& frameMask (frameOf c) = n := by simp only [frameOf]; decide) : Keeps (frameMask (frameOf c)) s a := k.mono hn

/-- Every command but the release of a command processor's reset answers within its frame, and leaves what the fabric is connected to. -/
theorem exec_keeps (c : Instr) (s : State) :
    (∃ k, c = .cpResetRelease k) ∨ Keeps (frameMask (frameOf c)) s (exec c s) := by
  cases c with
  | regWrite => exact .inr (execRegWrite_keeps ..).framed
  | regAccessBadSize q off size write => exact .inr (execRegAccessBadSize_keeps q off size write s).framed
  | counterLoRead => exact .inr (execCounterLoRead_keeps ..).framed
  | chClaim => exact .inr (execChClaim_keeps ..).framed
  | chRelease => exact .inr (execChRelease_keeps ..).framed
  | chEn => exact .inr (execChEn_keeps ..).framed
  | chWdata => exact .inr (execChWdata_keeps ..).framed
  | chartFetchDone => exact .inr (execChartFetchDone_keeps ..).framed
  | chartFetchFail => exact .inr (execChartFetchFail_keeps ..).framed
  | soundingStart => exact .inr (execSoundingStart_keeps ..).framed
  | soundingDone => exact .inr (execSoundingDone_keeps ..).framed
  | soundingTimeout => exact .inr (execSoundingTimeout_keeps ..).framed
  | applyStart => exact .inr (execApplyStart_keeps ..).framed
  | applyContinue => exact .inr (execApplyContinue_keeps ..).framed
  | applyFinish => exact .inr (execApplyFinish_keeps ..).framed
  | chFence => exact .inr (execChFence_keeps ..).framed
  | chUnfence => exact .inr (execChUnfence_keeps ..).framed
  | fenceDone => exact .inr (execFenceDone_keeps ..).framed
  | tideEdge => exact .inr (execTideEdge_keeps ..).framed
  | tapEdgeReceive => exact .inr (execTapEdgeReceive_keeps ..).framed
  | tapLaunch => exact .inr (execTapLaunch_keeps ..).framed
  | tapAck => exact .inr (execTapAck_keeps ..).framed
  | slateArm => exact .inr (execSlateArm_keeps ..).framed
  | tapArmAction => exact .inr (execTapArmAction_keeps ..).framed
  | tapResyncRequest => exact .inr (execTapResyncRequest_keeps ..).framed
  | tapResyncLoad => exact .inr (execTapResyncLoad_keeps ..).framed
  | tdResume => exact .inr (execTdResume_keeps ..).framed
  | tdCal => exact .inr (execTdCal_keeps ..).framed
  | calibrationDone => exact .inr (execCalibrationDone_keeps ..).framed
  | scRead => exact .inr (execScRead_keeps ..).framed
  | scFullWrite => exact .inr (execScFullWrite_keeps ..).framed
  | scPartialWrite => exact .inr (execScPartialWrite_keeps ..).framed
  | atomicAdd => exact .inr (execAtomicAdd_keeps ..).framed
  | atomicSwap => exact .inr (execAtomicSwap_keeps ..).framed
  | atomicCas => exact .inr (execAtomicCas_keeps ..).framed
  | atomicUmin => exact .inr (execAtomicUmin_keeps ..).framed
  | atomicUmax => exact .inr (execAtomicUmax_keeps ..).framed
  | atomicAnd => exact .inr (execAtomicAnd_keeps ..).framed
  | atomicOr => exact .inr (execAtomicOr_keeps ..).framed
  | atomicXor => exact .inr (execAtomicXor_keeps ..).framed
  | refresh => exact .inr (execRefresh_keeps ..).framed
  | scTempRead => exact .inr (execScTempRead_keeps ..).framed
  | scMdcFlush => exact .inr (execScMdcFlush_keeps ..).framed
  | scPeakClr => exact .inr (execScPeakClr_keeps ..).framed
  | scKrCmdRekey => exact .inr (execScKrCmdRekey_keeps ..).framed
  | rekeyKidTake => exact .inr (execRekeyKidTake_keeps ..).framed
  | rekeySweepLine => exact .inr (execRekeySweepLine_keeps ..).framed
  | rekeySweepDone => exact .inr (execRekeySweepDone_keeps ..).framed
  | kidRetire => exact .inr (execKidRetire_keeps ..).framed
  | verifyLine => exact .inr (execVerifyLine_keeps ..).framed
  | kidVerifyDone => exact .inr (execKidVerifyDone_keeps ..).framed
  | zeroFillLine => exact .inr (execZeroFillLine_keeps ..).framed
  | zeroFillDone => exact .inr (execZeroFillDone_keeps ..).framed
  | patrolVisit => exact .inr (execPatrolVisit_keeps ..).framed
  | patrolPassEnd => exact .inr (execPatrolPassEnd_keeps ..).framed
  | tidepoolRead => exact .inr (execTidepoolRead_keeps ..).framed
  | tidepoolWrite => exact .inr (execTidepoolWrite_keeps ..).framed
  | tidepoolScrubVisit => exact .inr (execTidepoolScrubVisit_keeps ..).framed
  | transferIssue => exact .inr (execTransferIssue_keeps ..).framed
  | translateRequest => exact .inr (execTranslateRequest_keeps ..).framed
  | walkStart => exact .inr (execWalkStart_keeps ..).framed
  | walkReadDone => exact .inr (execWalkReadDone_keeps ..).framed
  | walkTimeout => exact .inr (execWalkTimeout_keeps ..).framed
  | transferComplete => exact .inr (execTransferComplete_keeps ..).framed
  | xlInvGo => exact .inr (execXlInvGo_keeps ..).framed
  | invAck => exact .inr (execInvAck_keeps ..).framed
  | invSlow => exact .inr (execInvSlow_keeps ..).framed
  | xlWqCons => exact .inr (execXlWqCons_keeps ..).framed
  | xlWqReplay => exact .inr (execXlWqReplay_keeps ..).framed
  | xlWqKill => exact .inr (execXlWqKill_keeps ..).framed
  | xlDlSwap => exact .inr (execXlDlSwap_keeps ..).framed
  | xlDlStop => exact .inr (execXlDlStop_keeps ..).framed
  | dirtyLogSwapDone => exact .inr (execDirtyLogSwapDone_keeps ..).framed
  | dirtyLogLineFill => exact .inr (execDirtyLogLineFill_keeps ..).framed
  | dirtyLogHostError => exact .inr (execDirtyLogHostError_keeps ..).framed
  | gatherTileStart => exact .inr (execGatherTileStart_keeps ..).framed
  | dedupPass => exact .inr (execDedupPass_keeps ..).framed
  | rowFetchDone => exact .inr (execRowFetchDone_keeps ..).framed
  | rowPool => exact .inr (execRowPool_keeps ..).framed
  | bagEnd => exact .inr (execBagEnd_keeps ..).framed
  | bagReplayDone => exact .inr (execBagReplayDone_keeps ..).framed
  | bagOutput => exact .inr (execBagOutput_keeps ..).framed
  | hdCtlArb => exact .inr (execHdCtlArb_keeps ..).framed
  | tuBind => exact .inr (execTuBind_keeps ..).framed
  | tuBindDone => exact .inr (execTuBindDone_keeps ..).framed
  | tuUnbind => exact .inr (execTuUnbind_keeps ..).framed
  | tuDiscardPending => exact .inr (execTuDiscardPending_keeps ..).framed
  | tuCompactNow => exact .inr (execTuCompactNow_keeps ..).framed
  | deltaTileStart => exact .inr (execDeltaTileStart_keeps ..).framed
  | deltaRecord => exact .inr (execDeltaRecord_keeps ..).framed
  | tuFlipGo => exact .inr (execTuFlipGo_keeps ..).framed
  | flipArm => exact .inr (execFlipArm_keeps ..).framed
  | flipOutcome => exact .inr (execFlipOutcome_keeps ..).framed
  | pairDrainAck => exact .inr (execPairDrainAck_keeps ..).framed
  | limboRelease => exact .inr (execLimboRelease_keeps ..).framed
  | compactionMoveDone => exact .inr (execCompactionMoveDone_keeps ..).framed
  | moverTileStart => exact .inr (execMoverTileStart_keeps ..).framed
  | moverBlock => exact .inr (execMoverBlock_keeps ..).framed
  | rankerTileStart => exact .inr (execRankerTileStart_keeps ..).framed
  | rankerSegment => exact .inr (execRankerSegment_keeps ..).framed
  | swCvMvGo => exact .inr (execSwCvMvGo_keeps ..).framed
  | moveLine => exact .inr (execMoveLine_keeps ..).framed
  | moveEnd => exact .inr (execMoveEnd_keeps ..).framed
  | obAreaEnable => exact .inr (execObAreaEnable_keeps ..).framed
  | obAreaInitDone => exact .inr (execObAreaInitDone_keeps ..).framed
  | obCreate => exact .inr (execObCreate_keeps ..).framed
  | obHold => exact .inr (execObHold_keeps ..).framed
  | obDrop => exact .inr (execObDrop_keeps ..).framed
  | obFree => exact .inr (execObFree_keeps ..).framed
  | obQuery => exact .inr (execObQuery_keeps ..).framed
  | qCreate => exact .inr (execQCreate_keeps ..).framed
  | qDestroy => exact .inr (execQDestroy_keeps ..).framed
  | gSet => exact .inr (execGSet_keeps ..).framed
  | gClear => exact .inr (execGClear_keeps ..).framed
  | obCtxKill => exact .inr (execObCtxKill_keeps ..).framed
  | obCtxRevive => exact .inr (execObCtxRevive_keeps ..).framed
  | slotRequest => exact .inr (execSlotRequest_keeps ..).framed
  | ctxEvictDone => exact .inr (execCtxEvictDone_keeps ..).framed
  | ctxLoadDone => exact .inr (execCtxLoadDone_keeps ..).framed
  | cpLookup => exact .inr (execCpLookup_keeps ..).framed
  | cpSubmit => exact .inr (execCpSubmit_keeps ..).framed
  | cpEventSignal => exact .inr (execCpEventSignal_keeps ..).framed
  | cpEventWait => exact .inr (execCpEventWait_keeps ..).framed
  | doorbellWrite => exact .inr (execDoorbellWrite_keeps ..).framed
  | queueHeadRelease => exact .inr (execQueueHeadRelease_keeps ..).framed
  | entryRetire => exact .inr (execEntryRetire_keeps ..).framed
  | eventSignal => exact .inr (execEventSignal_keeps ..).framed
  | evOpSignal => exact .inr (execEvOpSignal_keeps ..).framed
  | evOpWait => exact .inr (execEvOpWait_keeps ..).framed
  | evOpReset => exact .inr (execEvOpReset_keeps ..).framed
  | evOpRead => exact .inr (execEvOpRead_keeps ..).framed
  | evCringCons => exact .inr (execEvCringCons_keeps ..).framed
  | evCringBase => exact .inr (execEvCringBase_keeps ..).framed
  | qdestroyEngineAck => exact .inr (execQdestroyEngineAck_keeps ..).framed
  | qdestroyStuck => exact .inr (execQdestroyStuck_keeps ..).framed
  | stepRelease => exact .inr (execStepRelease_keeps ..).framed
  | engineTileBoundary => exact .inr (execEngineTileBoundary_keeps ..).framed
  | tileComplete => exact .inr (execTileComplete_keeps ..).framed
  | tileWatchdog => exact .inr (execTileWatchdog_keeps ..).framed
  | tileWatchdogLimit2 => exact .inr (execTileWatchdogLimit2_keeps ..).framed
  | sliceExpiry => exact .inr (execSliceExpiry_keeps ..).framed
  | preemptStopPoint => exact .inr (execPreemptStopPoint_keeps ..).framed
  | saveDone => exact .inr (execSaveDone_keeps ..).framed
  | chunkEnd => exact .inr (execChunkEnd_keeps ..).framed
  | stepResume => exact .inr (execStepResume_keeps ..).framed
  | restoreDone => exact .inr (execRestoreDone_keeps ..).framed
  | sqSpillEnable => exact .inr (execSqSpillEnable_keeps ..).framed
  | regWindowEnd => exact .inr (execRegWindowEnd_keeps ..).framed
  | urgUpgrade => exact .inr (execUrgUpgrade_keeps ..).framed
  | dbRecompute => exact .inr (execDbRecompute_keeps ..).framed
  | sourceRaise => exact .inr (execSourceRaise_keeps ..).framed
  | holdoffExpire => exact .inr (execHoldoffExpire_keeps ..).framed
  | bcClaim => exact .inr (execBcClaim_keeps ..).framed
  | bcEoi => exact .inr (execBcEoi_keeps ..).framed
  | bcCvSwi => exact .inr (execBcCvSwi_keeps ..).framed
  | bcSrcCfgWrite => exact .inr (execBcSrcCfgWrite_keeps ..).framed
  | bcTgtCfgWrite => exact .inr (execBcTgtCfgWrite_keeps ..).framed
  | bcNmiTest => exact .inr (execBcNmiTest_keeps ..).framed
  | ibAttentionPulse => exact .inr (execIbAttentionPulse_keeps ..).framed
  | cvQuiesceReq => exact .inr (execCvQuiesceReq_keeps ..).framed
  | cvQuiesceRelease => exact .inr (execCvQuiesceRelease_keeps ..).framed
  | quiesceAck => exact .inr (execQuiesceAck_keeps ..).framed
  | quiesceStuck => exact .inr (execQuiesceStuck_keeps ..).framed
  | cvResetGo => exact .inr (execCvResetGo_keeps ..).framed
  | coveResetDone => exact .inr (execCoveResetDone_keeps ..).framed
  | vfFlr => exact .inr (execVfFlr_keeps ..).framed
  | spdmGetMeasurements => exact .inr (execSpdmGetMeasurements_keeps ..).framed
  | spdmOtherRequest => exact .inr (execSpdmOtherRequest_keeps ..).framed
  | spdmKeyExchange => exact .inr (execSpdmKeyExchange_keeps ..).framed
  | spdmFinish => exact .inr (execSpdmFinish_keeps ..).framed
  | spdmKeyUpdate => exact .inr (execSpdmKeyUpdate_keeps ..).framed
  | spdmHeartbeat => exact .inr (execSpdmHeartbeat_keeps ..).framed
  | spdmEndSession => exact .inr (execSpdmEndSession_keeps ..).framed
  | heartbeatLoss => exact .inr (execHeartbeatLoss_keeps ..).framed
  | cvBxGo => exact .inr (execCvBxGo_keeps ..).framed
  | bounceChunk => exact .inr (execBounceChunk_keeps ..).framed
  | migCopyOut => exact .inr (execMigCopyOut_keeps ..).framed
  | migCopyIn => exact .inr (execMigCopyIn_keeps ..).framed
  | migExport => exact .inr (execMigExport_keeps ..).framed
  | migImport => exact .inr (execMigImport_keeps ..).framed
  | migOperationDone => exact .inr (execMigOperationDone_keeps ..).framed
  | fabFwCommit => exact .inr (execFabFwCommit_keeps ..).framed
  | fwCommitDone => exact .inr (execFwCommitDone_keeps ..).framed
  | trngHealthChange => exact .inr (execTrngHealthChange_keeps ..).framed
  | clockMonitorGate => exact .inr (execClockMonitorGate_keeps ..).framed
  | loopLockLoss => exact .inr (execLoopLockLoss_keeps ..).framed
  | loopLocked => exact .inr (execLoopLocked_keeps ..).framed
  | muxSwitchDone => exact .inr (execMuxSwitchDone_keeps ..).framed
  | muxSwitchTimeout => exact .inr (execMuxSwitchTimeout_keeps ..).framed
  | islandTransitionStart => exact .inr (execIslandTransitionStart_keeps ..).framed
  | loopSlewStep => exact .inr (execLoopSlewStep_keeps ..).framed
  | freqChangeDone => exact .inr (execFreqChangeDone_keeps ..).framed
  | voltageSettled => exact .inr (execVoltageSettled_keeps ..).framed
  | vsAvsRetry => exact .inr (execVsAvsRetry_keeps ..).framed
  | vsCoveReq => exact .inr (execVsCoveReq_keeps ..).framed
  | vsIslReq => exact .inr (execVsIslReq_keeps ..).framed
  | vsIslCap => exact .inr (execVsIslCap_keeps ..).framed
  | tjSample => exact .inr (execTjSample_keeps ..).framed
  | thermalCeilingStep => exact .inr (execThermalCeilingStep_keeps ..).framed
  | throttleSample => exact .inr (execThrottleSample_keeps ..).framed
  | powerRead => exact .inr (execPowerRead_keeps ..).framed
  | pmbAlert => exact .inr (execPmbAlert_keeps ..).framed
  | scarpMeasure => exact .inr (execScarpMeasure_keeps ..).framed
  | replanPeriodic => exact .inr (execReplanPeriodic_keeps ..).framed
  | fbReplan => exact .inr (execFbReplan_keeps ..).framed
  | freeboardReplan => exact .inr (execFreeboardReplan_keeps ..).framed
  | logbookPeriodic => exact .inr (execLogbookPeriodic_keeps ..).framed
  | lbShutdown => exact .inr (execLbShutdown_keeps ..).framed
  | lbWrite => exact .inr (execLbWrite_keeps ..).framed
  | logbookWriteDone => exact .inr (execLogbookWriteDone_keeps ..).framed
  | lbHosttime => exact .inr (execLbHosttime_keeps ..).framed
  | secondTick => exact .inr (execSecondTick_keeps ..).framed
  | lcNext => exact .inr (execLcNext_keeps ..).framed
  | fuseProgramDone => exact .inr (execFuseProgramDone_keeps ..).framed
  | lcDbgOpen => exact .inr (execLcDbgOpen_keeps ..).framed
  | slFreeze => exact .inr (execSlFreeze_keeps ..).framed
  | slackNAssert => exact .inr (execSlackNAssert_keeps ..).framed
  | slackNDeassert => exact .inr (execSlackNDeassert_keeps ..).framed
  | slackT0 => exact .inr (execSlackT0_keeps ..).framed
  | slackWaveStopped => exact .inr (execSlackWaveStopped_keeps ..).framed
  | slackSrDeadline => exact .inr (execSlackSrDeadline_keeps ..).framed
  | slackRelease => exact .inr (execSlackRelease_keeps ..).framed
  | jtagTapReset => exact .inr (execJtagTapReset_keeps ..).framed
  | jtagExtest => exact .inr (execJtagExtest_keeps ..).framed
  | jtagSamplePreload => exact .inr (execJtagSamplePreload_keeps ..).framed
  | jtagIdcode => exact .inr (execJtagIdcode_keeps ..).framed
  | jtagIjtag => exact .inr (execJtagIjtag_keeps ..).framed
  | jtagSlack => exact .inr (execJtagSlack_keeps ..).framed
  | jtagRelease => exact .inr (execJtagRelease_keeps ..).framed
  | jtagStatus => exact .inr (execJtagStatus_keeps ..).framed
  | jtagBypass => exact .inr (execJtagBypass_keeps ..).framed
  | scanSegmentAccess => exact .inr (execScanSegmentAccess_keeps ..).framed
  | arrayDumpAccess => exact .inr (execArrayDumpAccess_keeps ..).framed
  | memInstrRead => exact .inr (execMemInstrRead_keeps ..).framed
  | memInstrWrite => exact .inr (execMemInstrWrite_keeps ..).framed
  | porAssert => exact .inr (execPorAssert_keeps ..).framed
  | fabRstNAssert => exact .inr (execFabRstNAssert_keeps ..).framed
  | fabRstCtlGo => exact .inr (execFabRstCtlGo_keeps ..).framed
  | pfFlr => exact .inr (execPfFlr_keeps ..).framed
  | hostLinkReset => exact .inr (execHostLinkReset_keeps ..).framed
  | fabricResetStart => exact .inr (execFabricResetStart_keeps ..).framed
  | fabricResetRelease => exact .inr (execFabricResetRelease_keeps ..).framed
  | bootRomDone => exact .inr (execBootRomDone_keeps ..).framed
  | xaStrapCheck => exact .inr (execXaStrapCheck_keeps ..).framed
  | vbootSetDone => exact .inr (execVbootSetDone_keeps ..).framed
  | startupDomainsSwitched => exact .inr (execStartupDomainsSwitched_keeps ..).framed
  | stackTrainingDone => exact .inr (execStackTrainingDone_keeps ..).framed
  | returnedScrubVerify => exact .inr (execReturnedScrubVerify_keeps ..).framed
  | logbookOpen => exact .inr (execLogbookOpen_keeps ..).framed
  | startupComplete => exact .inr (execStartupComplete_keeps ..).framed
  | ibpinRead => exact .inr (execIbpinRead_keeps ..).framed
  | ibpinWrite => exact .inr (execIbpinWrite_keeps ..).framed
  | ibpinBadOpcode => exact .inr (execIbpinBadOpcode_keeps ..).framed
  | ibpinFrameAbort => exact .inr (execIbpinFrameAbort_keeps ..).framed
  | ibpinTimeout => exact .inr (execIbpinTimeout_keeps ..).framed
  | epTileStart => exact .inr (execEpTileStart_keeps ..).framed
  | epFeedRow => exact .inr (execEpFeedRow_keeps ..).framed
  | arrOutputRow => exact .inr (execArrOutputRow_keeps ..).framed
  | arrTbAck => exact .inr (execArrTbAck_keeps ..).framed
  | arrErr => exact .inr (execArrErr_keeps ..).framed
  | epDelivery => exact .inr (execEpDelivery_keeps ..).framed
  | epScratchpadAccess => exact .inr (execEpScratchpadAccess_keeps ..).framed
  | arrayClear => exact .inr (execArrayClear_keeps ..).framed
  | arrClrDone => exact .inr (execArrClrDone_keeps ..).framed
  | arrayClearTimeout => exact .inr (execArrayClearTimeout_keeps ..).framed
  | cpHang => exact .inr (execCpHang_keeps ..).framed
  | cpResetRelease c => exact .inl ⟨c, rfl⟩
  | phyUpdateRequest => exact .inr (execPhyUpdateRequest_keeps ..).framed
  | selfRefreshEntered => exact .inr (execSelfRefreshEntered_keeps ..).framed
  | flrResetStuck => exact .inr (execFlrResetStuck_keeps ..).framed
  | bounceHostTimeout => exact .inr (execBounceHostTimeout_keeps ..).framed

theorem Advances.refl (ps : List Part) (s : State) : Advances ps s s :=
  ⟨rfl, List.suffix_refl _, id, id, Fuses.kept_refl _, fun p _ => by cases p <;> rfl⟩

/-- The release of a command processor's reset notes that the processor idles. -/
theorem noteIdle_advances (s : State) (c : CoveId) : Advances [.sessions, .env] s
    (emit { s with sc := { s.sc with cpRst := tdel s.sc.cpRst c }, env := { s.env with cpIdle := tput s.env.cpIdle c true } }
      (.cpReset c false)) :=
  ⟨rfl, List.suffix_cons _ _, id, id, Fuses.kept_refl _, fun p hp => by
    cases p
    case sessions | env => simp at hp
    all_goals rfl⟩

theorem execCpResetRelease_advances (c : CoveId) (s : State) :
    ∃ t, execCpResetRelease c s = .next t ∧ Advances [.sessions, .env] s t := by
  unfold execCpResetRelease
  split
  · exact ⟨s, rfl, .refl _ s⟩
  · refine ⟨_, rfl, ?_⟩
    split
    · exact noteIdle_advances s c
    · exact .refl _ s

/-- Every command answers a next state, which it reaches within its frame. -/
theorem exec_advances (c : Instr) (s : State) : ∃ t, exec c s = .next t ∧ Advances (frameOf c) s t := by
  obtain ⟨k, rfl⟩ | h := exec_keeps c s
  · exact execCpResetRelease_advances k s
  · obtain ⟨t, e, ht⟩ := h.next_of
    exact ⟨t, e, ht.advances⟩

/-- Settles O35: a step runs one command on the queue's rest, or none, and every command keeps the tables canonical. -/
theorem stepKeepsTablesCanonical : Obligations.StepKeepsTablesCanonical := by
  unfold Obligations.StepKeepsTablesCanonical
  intro s t hm hr e
  unfold step at e
  split at e
  · cases e
    exact ⟨hm, hr⟩
  · rename_i c rest _
    obtain ⟨u, hu, h⟩ := exec_advances c { s with pending := rest }
    cases hu.symm.trans e
    exact ⟨h.mem hm, h.regs hr⟩

end Sys2Proof.Machine
end

section
/-!
What a virtual function meets outside its window: a refusal in the fabric-global space (R6), a breakwater drop in another cove's window (R20–R22).
-/
namespace Sys2Proof.Machine

/-- The refusal of a virtual function. -/
structure Refuses (s : State) (n : CoveId) (a : Ans) : Prop where
  eq : a = .next (emit s (.unsupported (.vf n)))

/-- The requester is the virtual function of cove `n`, and the ports are open. -/
structure ByVf (s : State) (q : Requester) (n : CoveId) : Prop where
  opened : hostClosed s = false
  vf : q = .vf n

section
variable {s : State} {q : Requester} {n : CoveId} {a b : Ans} {off : Nat} {w : Word}

theorem Refuses.ite {c : Prop} [Decidable c] (h : Refuses s n a) (k : Refuses s n b) : Refuses s n (if c then a else b) := by
  split
  · exact h
  · exact k

theorem ByVf.not_mgmt (h : ByVf s q n) : qMgmt q = false := by rw [h.vf]; rfl

theorem ByVf.atFabric (h : ByVf s q n) (t : State) : Refuses s n (atFabric s q t) := by
  obtain ⟨hs, rfl⟩ := h
  unfold Machine.atFabric
  rw [hs]
  exact ⟨rfl⟩

/-- Where only management goes on. -/
theorem ByVf.unmanaged (h : ByVf s q n) (k : Refuses s n b) : Refuses s n (if qMgmt q then a else b) := by
  rw [h.not_mgmt]
  exact k

theorem ByVf.kept (h : ByVf s q n) {α : Type} (x y : α) : (if hostClosed s || !qMgmt q then x else y) = x := if_pos (by simp [h.not_mgmt])

theorem ByVf.bothOf (h : ByVf s q n) (a : Ans) (f : State → Ans) : Refuses s n (bothOf s q a f) := by
  unfold Machine.bothOf
  rw [h.kept]
  exact h.atFabric s

/-- A command on a register of the fabric-global space is refused. -/
theorem fabricCmd_vf {i : Instr} (hs : hostClosed s = false) (h : fabricCmd i = some (.vf n)) : Refuses s n (exec i s) := by
  have hv (q : Requester) (e : some q = some (.vf n)) : ByVf s q n := ⟨hs, Option.some.inj e⟩
  cases i
  case chClaim | chRelease | chEn | chWdata | chFence | chUnfence | tdResume | tdCal | scMdcFlush | scPeakClr | scKrCmdRekey | xlDlSwap | xlDlStop
      | hdCtlArb | tuBind | tuUnbind | tuDiscardPending | tuCompactNow | tuFlipGo | obAreaEnable | obCtxKill | obCtxRevive | evCringBase
      | sqSpillEnable | bcNmiTest | cvQuiesceReq | cvQuiesceRelease | cvResetGo | migCopyOut | migCopyIn | migExport | migImport | fabFwCommit
      | vsAvsRetry | vsCoveReq | vsIslReq | vsIslCap | fbReplan | lbShutdown | lbWrite | lbHosttime | lcNext | lcDbgOpen | slFreeze | fabRstCtlGo =>
    exact (hv _ h).atFabric _
  all_goals exact nomatch h

theorem ByVf.startFabric (h : ByVf s q n) : StartsAre (Refuses s n) (startFabric q off w s) :=
  .cons (.one (h.atFabric _)) <| .cons (.one (h.atFabric _)) <| .cons (.one (h.atFabric _)) <| .cons (.one (h.atFabric _)) <|
  .cons (.one (h.atFabric _)) <| .cons (.one (h.atFabric _)) <| .cons (.one (h.atFabric _)) <|
  .cons (.one (.ite (h.atFabric _) (h.atFabric _))) <|
  .cons (.one (.ite (h.bothOf _ _) (.ite (h.atFabric _) (.ite (h.atFabric _) (h.atFabric _))))) .nil

theorem ByVf.bindWrite (h : ByVf s q n) (v : Nat) : Refuses s n (bindWrite q v s) := by
  unfold Machine.bindWrite
  dsimp only
  split
  all_goals exact h.atFabric _

theorem ByVf.migCtlWrite (h : ByVf s q n) (c : CoveId) (v : Nat) : Refuses s n (migCtlWrite q c v s) := by
  unfold Machine.migCtlWrite
  split
  all_goals exact h.atFabric _

theorem ByVf.areaWrite (h : ByVf s q n) (v : Nat) (on : Bool) (k : Refuses s n a) : Refuses s n (areaWrite q off v on a s) :=
  .ite k (h.atFabric _)

theorem ByVf.startPlane (h : ByVf s q n) : StartsAre (Refuses s n) (startPlane q off w s) := by
  unfold Machine.startPlane
  dsimp only
  refine .cons (.at fun _ => .ite (h.atFabric _) (.ite (h.atFabric _) (h.atFabric _))) <| .cons (.at fun _ => h.atFabric _) <|
    .cons (.one (h.bindWrite _)) <| .cons (.one (.ite (h.atFabric _) (h.atFabric _))) <|
    .cons (.one (.ite (h.atFabric _) (h.atFabric _))) <| .cons (.at fun _ => .ite ?_ (h.atFabric _)) <|
    .cons (.at fun _ => .ite (h.atFabric _) (h.atFabric _)) .nil
  rw [h.kept]
  exact h.atFabric _

theorem ByVf.startWork (h : ByVf s q n) : StartsAre (Refuses s n) (startWork q off w s) := by
  unfold Machine.startWork
  dsimp only
  refine .cons (.at fun _ => h.areaWrite _ _ (h.atFabric _)) <| .cons (.at fun _ => ?_) <| .cons (.at fun _ => h.atFabric _) <|
    .cons (.at fun _ => h.areaWrite _ _ (h.atFabric _)) <| .cons (.one (h.atFabric _)) <| .cons (.one ?_) <|
    .cons (.one (h.unmanaged (h.atFabric _))) <| .cons (.at fun _ => h.unmanaged (h.atFabric _)) <|
    .cons (.at fun _ => h.unmanaged (h.atFabric _)) <| .cons (.at fun _ => h.atFabric _) .nil
  · split
    all_goals exact h.atFabric _
  · rw [h.kept]
    exact h.atFabric _

theorem ByVf.startManager (h : ByVf s q n) : StartsAre (Refuses s n) (startManager q off w s) := by
  unfold Machine.startManager
  dsimp only
  refine .cons (.at fun _ => h.atFabric _) <| .cons (.at fun _ => h.atFabric _) <| .cons (.at fun _ => h.migCtlWrite _ _) <|
    .cons (.at fun _ => h.atFabric _) <| .cons (.at fun _ => h.atFabric _) <|
    .cons (.ite .none (.at fun _ => .ite (h.atFabric _) (h.atFabric _))) <| .cons (.one (.ite ?_ (h.atFabric _))) <|
    .cons (.one (.ite (h.atFabric _) (h.atFabric _))) <|
    .cons (.one (.ite (h.bothOf _ _) (.ite (h.atFabric _) (.ite (h.atFabric _) (h.atFabric _))))) <|
    .cons (.one (h.atFabric _)) <| .cons (.one (h.atFabric _)) <| .cons (.one (h.atFabric _)) <| .cons (.one (h.atFabric _)) .nil
  rw [h.kept]
  exact h.atFabric _

/-- A register write of the fabric-global space is refused. -/
theorem ByVf.writeReg (h : ByVf s q n) (hw : inWin off = false) : Refuses s n (writeReg q off w s) := by
  refine writeReg_is (starts_are (fun e => absurd (hw.symm.trans e) Bool.false_ne_true) fun _ =>
    .append (.append (.append h.startFabric h.startPlane) h.startWork) h.startManager) ?_
  unfold plainAt
  rw [hw]
  exact h.atFabric _

/-! ### In another cove's window (R20–R22) -/

/-- The drop of a write to another cove's window. -/
structure Drops (s : State) (n : CoveId) (off : Nat) (a : Ans) : Prop where
  eq : a = .next (winDrop s n.val (offCove off).val true off)

theorem Drops.ite {c : Prop} [Decidable c] (h : Drops s n off a) (k : Drops s n off b) : Drops s n off (if c then a else b) := by
  split
  · exact h
  · exact k

/-- The requester is the virtual function of a cove other than the one whose window holds the offset. -/
structure OutsideWindow (s : State) (q : Requester) (n : CoveId) (off : Nat) : Prop extends ByVf s q n where
  win : inWin off = true
  lt : off < 2 ^ 25
  other : offCove off ≠ n

/-- An offset in a window is the window's base and what lies above it. -/
theorem OutsideWindow.base (h : OutsideWindow s q n off) {k : Nat} (e : off % 0x100000 = k) : winBase (offCove off).val + k = off := by
  have hw : 0x1000000 ≤ off := of_decide_eq_true h.win
  have hlt := h.lt
  have hc : (offCove off).val = (off - 0x1000000) / 0x100000 % 16 := rfl
  rw [winBase, hc]
  omega

theorem OutsideWindow.atWindow (h : OutsideWindow s q n off) (t : State) {o : Nat} (e : o = off) :
    Drops s n off (atWindow s q (offCove off) o t) := by
  obtain ⟨⟨hs, rfl⟩, -, -, hne⟩ := h
  have hv : n.val ≠ (offCove off).val := fun e => hne (Fin.ext e.symm)
  subst e
  unfold Machine.atWindow
  rw [hs]
  exact ⟨if_pos hv⟩

theorem OutsideWindow.atDriver (h : OutsideWindow s q n off) (t : State) {o : Nat} (e : o = off) :
    Drops s n off (atDriver s q (offCove off) o t) := by
  have hd : Machine.atDriver s q (offCove off) o t = Machine.atWindow s q (offCove off) o s := by rw [h.vf]; rfl
  rw [hd]
  exact h.atWindow s e

theorem OutsideWindow.obCmd (h : OutsideWindow s q n off) (f : State → ObAns × State) (e : off % 0x100000 = 0x6010) :
    Drops s n off (obCmd s q (offCove off) f) := by
  unfold Machine.obCmd
  split
  exact h.atWindow _ (h.base e)

theorem OutsideWindow.obWrite (h : OutsideWindow s q n off) (v : Nat) (e : off % 0x100000 = 0x6010) :
    Drops s n off (obWrite q (offCove off) off v s) := by
  unfold Machine.obWrite
  split
  case h_10 => exact h.atWindow _ rfl
  all_goals exact h.obCmd _ e

theorem OutsideWindow.evOp (h : OutsideWindow s q n off) (f : State → State) (e : off % 0x100000 = 0x6810) :
    Drops s n off (evOp s q (offCove off) f) := h.atWindow _ (h.base e)

theorem OutsideWindow.evWrite (h : OutsideWindow s q n off) (v : Nat) (e : off % 0x100000 = 0x6810) :
    Drops s n off (evWrite q (offCove off) off v s) := by
  unfold Machine.evWrite
  split
  case h_5 => exact h.atWindow _ rfl
  all_goals exact h.evOp _ e

theorem OutsideWindow.resolveWrite (h : OutsideWindow s q n off) (v : Nat) (e : off % 0x100000 = 0x300C) :
    Drops s n off (resolveWrite q (offCove off) off v s) := by
  unfold Machine.resolveWrite
  dsimp only
  split
  case h_3 => exact h.atDriver _ rfl
  all_goals exact h.atDriver _ (h.base e)

theorem OutsideWindow.doorbellWrite (h : OutsideWindow s q n off) {k : Nat} (hk : k < 64) (e : off % 0x100000 = 0x10000 + 0x1000 * k) :
    Drops s n off (execDoorbellWrite q (offCove off) (Fin.ofNat 64 k) w s) := by
  refine h.atWindow _ ?_
  have hq : (Fin.ofNat 64 k).val = k := Nat.mod_eq_of_lt hk
  rw [hq, Nat.add_assoc, Nat.mul_comm k]
  exact h.base e

theorem OutsideWindow.startWindowRegs (h : OutsideWindow s q n off) : StartsAre (Drops s n off) (startWindowRegs q off w s) := by
  unfold Machine.startWindowRegs
  exact .cons (.oneAt fun e => .ite (h.atWindow _ (h.base e)) (h.atWindow _ rfl)) <|
    .cons (.oneAt fun e => h.atDriver _ (h.base e)) <| .cons (.oneAt fun e => h.resolveWrite _ e) <|
    .cons (.oneAt fun e => .ite (h.atDriver _ (h.base e)) (h.atDriver _ rfl)) <|
    .cons (.oneAt fun e => .ite (h.atWindow _ (h.base e)) (h.atWindow _ rfl)) <|
    .cons (.oneAt fun e => h.obWrite _ e) <| .cons (.oneAt fun e => h.evWrite _ e) <|
    .cons (.oneAt fun e => h.atWindow _ (h.base e)) <| .cons (.at fun _ => h.atWindow _ rfl) <| .cons (.at fun _ => h.atWindow _ rfl) <|
    .cons (.oneAt fun e => h.atWindow _ (h.base e)) <| .cons (.at fun _ => h.atWindow _ rfl) <| .cons (.at fun _ => h.atWindow _ rfl) <|
    .cons (.at fun _ => h.atWindow _ rfl) <| .cons (.atInst fun _ hk e => h.doorbellWrite hk e) .nil

/-- A register write in another cove's window is dropped. -/
theorem OutsideWindow.writeReg (h : OutsideWindow s q n off) : Drops s n off (writeReg q off w s) := by
  refine writeReg_is (starts_are (fun _ => h.startWindowRegs) fun e => absurd (h.win.symm.trans e) Bool.true_eq_false.mp) ?_
  unfold plainAt
  rw [h.win, Bool.not_true, if_neg Bool.false_ne_true]
  exact .ite (h.atDriver _ rfl) (h.atWindow _ rfl)

end

/-! ### What a drop changes -/

theorem Ext.fld_eq {m : Nat} {s t : State} (h : Ext m s t) (hm : m.testBit 0 = false) (f : Fld) : fld t f = fld s f := by
  have e : t.flds = s.flds := h.same .regs hm
  unfold fld
  rw [e]

theorem fld_deliver (s t : State) (f : Fld) : fld (deliver s t) f = fld t f := by
  have h2 : Ext 256 t ((List.range 64).foldl (fun x i => if lineReq t i && !lineReq s i then riseLine x i else x) t) :=
    .fold (fun _ _ => .ite (riseLine_ext ..) (.refl _ _)) (.refl _ _)
  unfold deliver
  dsimp only
  split
  · exact h2.fld_eq rfl f
  · exact h2.fld_eq rfl f

section
variable {f : Fld} (h1 : f.key ≠ F.BC_STATUS_NOTGT.key) (h2 : f.key ≠ F.BC_STATUS_STRAND.key)
include h1 h2

theorem fld_fallBack (s : State) (i : Nat) : fld (fallBack s i).1 f = fld s f := by
  unfold fallBack
  dsimp only
  split
  · exact fld_setFld_ne _ _ h1
  · exact fld_setFld_ne _ _ h2

/-- A source that is routed to its own target, or falls back, leaves the fields of every window. -/
theorem fld_holdoff {i : Nat} (hi : srcClass i ≠ 0) (s : State) : fld (holdoff s i).1 f = fld s f := by
  have hr (s : State) : fld (routeSrc s i).1 f = fld s f := by
    unfold routeSrc
    dsimp only
    rw [if_neg hi]
    split
    · rfl
    · exact fld_fallBack h1 h2 s i
  unfold holdoff
  dsimp only
  split
  · rfl
  · split
    · rfl
    · rw [hr]
      split
      · rfl
      · rfl

theorem fld_raiseCore {i : Nat} (hi : srcClass i ≠ 0) (s : State) : fld (raiseCore s i).1 f = fld s f := by
  unfold raiseCore
  dsimp only
  split
  · rfl
  · rw [fld_holdoff h1 h2 hi]
    rfl

theorem fld_raiseSrc {i : Nat} (hi : srcClass i ≠ 0) (s : State) : fld (raiseSrc s i) f = fld s f := by
  unfold raiseSrc beaconStep
  dsimp only
  rw [fld_deliver]
  split
  · rw [fld_raiseCore h1 h2 (by decide), fld_raiseCore h1 h2 hi]
  · exact fld_raiseCore h1 h2 hi s

end

/-- A field of a cove's window lies above the fields of the fabric-global space. -/
theorem window_key_ne {f : Fld} {d : Nat} (hf : f.off / 0x100000 = 16 + d) {k : Nat} (hk : k < 0x20000000) : f.key ≠ k := by
  unfold Fld.key
  omega

/-- A write below the windows leaves a window's field. -/
theorem fld_setFld_low {f : Fld} {d : Nat} (hf : f.off / 0x100000 = 16 + d) (s : State) (g : Fld) (v : Nat) (hg : g.key < 0x20000000) :
    fld (setFld s g v) f = fld s f := fld_setFld_ne s v (window_key_ne hf hg)

/-- Fields of two coves' windows differ. -/
theorem window_key_ne_window {f g : Fld} {c d : Nat} (hf : f.off / 0x100000 = 16 + d) (hlo : f.lo < 32) (hg : g.off / 0x100000 = 16 + c)
    (hgl : g.lo < 32) (hne : d ≠ c) : f.key ≠ g.key := by
  unfold Fld.key
  omega

section
variable {f : Fld} {n d : CoveId} (hf : f.off / 0x100000 = 16 + d.val) (hlo : f.lo < 32) (hne : d ≠ n)
include hf hlo hne

/-- A record to a cove's wrack queue changes no field of another cove's window. -/
theorem fld_report (s : State) (r : WrackRec) : fld (report s n r) f = fld s f := by
  have hv : d.val ≠ n.val := fun e => hne (Fin.ext e)
  have hp : f.key ≠ (F.XL_WQ_PROD_PROD n).key := window_key_ne_window hf hlo (by show (_ + _) / _ = _; omega) (Nat.lt_of_sub_eq_succ rfl) hv
  have he : f.key ≠ (F.XL_WQ_STATUS_WERR n).key := window_key_ne_window hf hlo (by show (_ + _) / _ = _; omega) (Nat.lt_of_sub_eq_succ rfl) hv
  have hi : srcClass (32 * n.val + 1) ≠ 0 := by
    have hlt : 32 * n.val + 1 < 512 := by omega
    have hk : (32 * n.val + 1) % 32 = 1 := by omega
    simp [srcClass, hlt, hk]
  have h1 := window_key_ne hf (k := F.BC_STATUS_NOTGT.key) (by decide)
  have h2 := window_key_ne hf (k := F.BC_STATUS_STRAND.key) (by decide)
  unfold report writeWrack
  dsimp only
  split
  · rfl
  · split
    · rfl
    · split
      · rw [fld_raiseSrc h1 h2 hi]
        exact (fld_setFld_ne _ _ hp).trans ((hostWrite_ext ..).fld_eq rfl f)
      · rw [(wrackLost_ext ..).fld_eq rfl]
        exact (fld_setFld_ne _ _ he).trans ((hostWrite_ext ..).fld_eq rfl f)

theorem fld_winDrop (s : State) (c : Nat) (w : Bool) (off : Nat) : fld (winDrop s n.val c w off) f = fld s f := by
  have hk {k : Nat} (h : k < 0x20000000) : f.key ≠ k := window_key_ne hf h
  have hn : n.val < 16 := n.isLt
  unfold winDrop brkDrop
  dsimp only
  rw [if_pos hn, fld_report hf hlo hne, fld_raiseSrc (hk (by decide)) (hk (by decide)) (by decide)]
  split
  · exact fld_setFld_low hf _ _ _ (by decide)
  · simp (disch := decide) only [setFlag, fld_setFld_low hf]
    rfl

end

theorem regWrite_aligned {s : State} {q : Requester} {off : BitVec 25} (x : WriteData) (h : off.toNat % 4 = 0) :
    exec (.regWrite q off x) s = writeReg q off.toNat (keepLate off.toNat x.word x.late) s :=
  if_neg (by simpa using h)

theorem counterLoRead_aligned {s : State} {q : Requester} {off : BitVec 25} (h : off.toNat % 4 = 0) (hc : isCtrLo off.toNat = true) :
    ∃ r, exec (.counterLoRead q off) s = .next (regRead s q off.toNat r) := by
  refine ⟨if inWin off.toNat && !coveExists s (offCove off.toNat) then (0, s) else ctrLoRead s q off.toNat, ?_⟩
  show execCounterLoRead q off s = _
  simp only [execCounterLoRead, h, hc]
  rfl

/-- A virtual function reads no counter of the fabric-global space (R6). -/
theorem regRead_vf_fabric {s : State} {n : CoveId} {off : Nat} (hs : hostClosed s = false) (hw : inWin off = false) (r : Nat × State) :
    regRead s (.vf n) off r = emit s (.unsupported (.vf n)) := by
  unfold regRead
  rw [hs, hw]
  rfl

/-- A virtual function's read of a counter in another cove's window is dropped (R22). -/
theorem regRead_vf_window {s : State} {n : CoveId} {off : Nat} (hs : hostClosed s = false) (hw : inWin off = true) (hne : offCove off ≠ n)
    (r : Nat × State) :
    regRead s (.vf n) off r = emit (winDrop s n.val (offCove off).val false off) (.unsupported (.vf n)) := by
  have hb : (n != offCove off) = true := bne_iff_ne.2 hne.symm
  unfold regRead
  simp only [hs, hw, hb]
  rfl

/-- Settles O53: the window and the space are decided before an access takes effect, and a drop writes below the windows or in the virtual
function's own. -/
theorem virtualFunctionsStayInTheirWindow : Obligations.VirtualFunctionsStayInTheirWindow := by
  unfold Obligations.VirtualFunctionsStayInTheirWindow
  intro s n hs
  have hv : ByVf s (.vf n) n := ⟨hs, rfl⟩
  have hm : misshapen s (.vf n) = emit s (.unsupported (.vf n)) := misshapen_host hs nofun
  refine ⟨fun i hi => (fabricCmd_vf hs hi).eq, fun off hw => ⟨fun x => ?_, fun hc => ?_⟩,
    fun off hw ha hne => ⟨fun x => ?_, fun hc => ?_⟩, fun c d w off f hd hf hlo => fld_winDrop hf hlo hd s c w off⟩
  · by_cases ha : off.toNat % 4 = 0
    · rw [regWrite_aligned x ha]
      exact (hv.writeReg hw).eq
    · rw [regWrite_misaligned s _ x ha, hm]
  · by_cases ha : off.toNat % 4 = 0
    · obtain ⟨r, e⟩ := counterLoRead_aligned (s := s) (q := .vf n) ha hc
      rw [e, regRead_vf_fabric hs hw]
    · rw [counterLoRead_misaligned s _ ha, hm]
  · rw [regWrite_aligned x ha]
    exact (OutsideWindow.writeReg ⟨hv, hw, off.isLt, hne⟩).eq
  · obtain ⟨r, e⟩ := counterLoRead_aligned (s := s) (q := .vf n) ha hc
    rw [e, regRead_vf_window hs hw hne]

end Sys2Proof.Machine
end

section
/-!
What a drop leaves: no effect on memory, its count, its capture or OVERRUN, and the breakwater source (R18, R20–R22).
-/
namespace Sys2Proof.Machine

/-! ### Fields written in turn -/

/-- The state with the fields of a list set, the first first. -/
def setFlds (s : State) (l : List (Fld × Nat)) : State := l.foldl (fun s e => setFld s e.1 e.2) s

theorem setFlds_ext (s : State) (l : List (Fld × Nat)) : Ext 1 s (setFlds s l) := .fold (fun _ _ => setFld_ext ..) (.refl _ _)

theorem fld_setFlds_ne {l : List (Fld × Nat)} {f : Fld} (h : ∀ e ∈ l, f.key ≠ e.1.key) (s : State) : fld (setFlds s l) f = fld s f := by
  induction l generalizing s with
  | nil => rfl
  | cons e l ih =>
    obtain ⟨he, hl⟩ := List.forall_mem_cons.1 h
    calc fld (setFlds (setFld s e.1 e.2) l) f = fld (setFld s e.1 e.2) f := ih hl _
      _ = fld s f := fld_setFld_ne _ _ he

/-- Fields of different places keep what is written to each. -/
theorem fld_setFlds_mem {l : List (Fld × Nat)} (hl : (l.map (·.1.key)).Nodup) {s : State} (hs : Regs.wf s = true)
    {f : Fld} {v : Nat} (h : (f, v) ∈ l) : fld (setFlds s l) f = v % 2 ^ f.w := by
  induction l generalizing s with
  | nil => exact absurd h List.not_mem_nil
  | cons e l ih =>
    obtain ⟨he, hl⟩ := List.nodup_cons.1 hl
    rcases List.mem_cons.1 h with rfl | h
    · exact (fld_setFlds_ne (fun d hd e => he (List.mem_map.2 ⟨d, hd, e.symm⟩)) _).trans (fld_setFld_self hs f v)
    · exact ih hl ((setFld_ext s e.1 e.2).regs hs) h

/-! ### A pending source stays pending -/

theorem pending_setSrc_self {v : Src} (hv : v.pending = true) (s : State) (i : Nat) : (srcOf (setSrc s i v) i).pending = true := by
  have hne : v ≠ Src.init := fun e => Bool.false_ne_true ((congrArg Src.pending e).symm.trans hv)
  simp only [srcOf, setSrc, tgetD, tsetD, if_neg hne, tfind_tput_self]
  exact hv

/-- An update that leaves its source pending leaves every source pending. -/
theorem pending_setSrc {s : State} {i j : Nat} {v : Src} (hv : i = j → v.pending = true) (h : (srcOf s j).pending = true) :
    (srcOf (setSrc s i v) j).pending = true := by
  by_cases hij : j = i
  · subst hij
    exact pending_setSrc_self (hv rfl) s j
  · have e : srcOf (setSrc s i v) j = srcOf s j := tgetD_tsetD_ne _ _ _ _ hij
    rwa [e]

theorem srcOf_sendLine (s : State) (i j : Nat) : srcOf (sendLine s i) j = srcOf s j := by
  unfold sendLine
  dsimp only
  split
  · split
    · rfl
    · rfl
  · rfl

theorem srcOf_riseLine (s : State) (i j : Nat) : srcOf (riseLine s i) j = srcOf s j := by
  unfold riseLine
  split
  · exact srcOf_sendLine s i j
  · rfl

/-- Delivery reads the sources and changes none. -/
theorem srcOf_deliver (s t : State) (j : Nat) : srcOf (deliver s t) j = srcOf t j := by
  have hrise : srcOf ((List.range 64).foldl (fun x i => if lineReq t i && !lineReq s i then riseLine x i else x) t) j = srcOf t j := by
    refine List.foldlRecOn (motive := fun x => srcOf x j = srcOf t j) _ _ rfl fun x hx i _ => ?_
    split
    · exact (srcOf_riseLine x i j).trans hx
    · exact hx
  unfold deliver
  dsimp only
  split
  · exact hrise
  · exact hrise

section
variable {s : State} {j : Nat} (h : (srcOf s j).pending = true)
include h

theorem pending_fallBack (i : Nat) : (srcOf (fallBack s i).1 j).pending = true := by
  unfold fallBack
  dsimp only
  split
  · exact pending_setSrc (fun e => e ▸ h) h
  · exact h

theorem pending_routeSrc (i : Nat) : (srcOf (routeSrc s i).1 j).pending = true := by
  have hset (r : Option Nat) : (srcOf (setSrc s i { srcOf s i with route := r }) j).pending = true :=
    pending_setSrc (fun e => e ▸ h) h
  unfold routeSrc
  dsimp only
  split
  · split
    · exact hset _
    · exact h
  · split
    · exact hset _
    · exact pending_fallBack h i

theorem pending_holdoff (i : Nat) : (srcOf (holdoff s i).1 j).pending = true := by
  unfold holdoff
  dsimp only
  split
  · exact h
  · split
    · exact pending_setSrc (fun e => e ▸ h) h
    · refine pending_routeSrc ?_ i
      split
      · exact h
      · exact h

theorem pending_raiseCore (i : Nat) : (srcOf (raiseCore s i).1 j).pending = true := by
  unfold raiseCore
  dsimp only
  split
  · exact h
  · exact pending_holdoff (pending_setSrc (fun _ => rfl) h) i

end

/-- A raise that can act leaves its source pending (R292). -/
theorem pending_raiseCore_self {s : State} {i : Nat} (hi : raisable s i = true) : (srcOf (raiseCore s i).1 i).pending = true := by
  by_cases hp : (srcOf s i).pending = true
  · exact pending_raiseCore hp i
  · unfold raiseCore
    dsimp only
    rw [if_neg (by simp [hi, hp])]
    exact pending_holdoff (pending_setSrc_self (v := { srcOf s i with pending := true }) rfl s i) i

/-- Raising the beacon's own source and delivering leave what is pending. -/
theorem pending_beaconStep {s : State} {f : State → State × Bool} {j : Nat} (h : (srcOf (f s).1 j).pending = true) :
    (srcOf (beaconStep s f) j).pending = true := by
  unfold beaconStep
  dsimp only
  rw [srcOf_deliver]
  split
  · exact pending_raiseCore h 524
  · exact h

theorem pending_raiseSrc {s : State} {j : Nat} (h : (srcOf s j).pending = true) (i : Nat) : (srcOf (raiseSrc s i) j).pending = true :=
  pending_beaconStep (pending_raiseCore h i)

theorem pending_raiseSrc_self {s : State} {i : Nat} (hi : raisable s i = true) : (srcOf (raiseSrc s i) i).pending = true :=
  pending_beaconStep (pending_raiseCore_self hi)

/-! ### What a report leaves -/

theorem Ext.ctr_eq {m : Nat} {s t : State} (h : Ext m s t) (hm : m.testBit 1 = false) (k : Nat) : ctr t k = ctr s k := by
  have e : t.ctrs = s.ctrs := h.same .counters hm
  unfold ctr
  rw [e]

theorem ctr_lbAdd_ne {i k : Nat} (h : k ≠ lbCtr i) (s : State) (n : Nat) : ctr (lbAdd s i n) k = ctr s k := by
  unfold lbAdd
  dsimp only
  split
  · exact ctr_addCtr_ne s n h
  · exact ctr_addCtr_ne s n h

/-- What a report does: nothing for an absent cove, a count of the lost record, a record sent out with PROD advanced and the cove's wrack
source raised, or WERR and the count (R153, R154). -/
theorem report_cases (s : State) (c : Nat) (r : WrackRec) :
    report s c r = s ∨ report s c r = wrackLost s c
    ∨ (∃ o v x, report s c r = raiseSrc { setFld (emit s o) (F.XL_WQ_PROD_PROD c) v with xl := x } (32 * c + 1))
    ∨ report s c r = wrackLost (setFlag s (F.XL_WQ_STATUS_WERR c) true) c := by
  unfold report writeWrack hostWrite
  dsimp only
  by_cases hc : coveExists s c = true
  · by_cases hf : wrackFull s c = true
    · simp [hc, hf]
    · by_cases he : s.env.hostWriteFails = true
      · simp [hc, hf, he]
      · simp only [hc, hf, he]
        exact .inr (.inr (.inl ⟨_, _, _, rfl⟩))
  · simp [hc]

theorem srcClass_wrack (c : Nat) : srcClass (32 * c + 1) ≠ 0 := by
  have hk : (32 * c + 1) % 32 = 1 := by omega
  unfold srcClass
  split
  · simp [hk]
  · split
    · decide
    · split
      · decide
      · decide

/-- A counter other than the cove's overflow and the logbook's stays. -/
theorem ctr_report {c k : Nat} (ho : k ≠ C.XL_WQ_OVERFLOW c) (hl : k ≠ lbCtr 18) (s : State) (r : WrackRec) :
    ctr (report s c r) k = ctr s k := by
  have hlost (t : State) : ctr (wrackLost t c) k = ctr t k := (ctr_lbAdd_ne hl _ _).trans (ctr_addCtr_ne _ _ ho)
  rcases report_cases s c r with e | e | ⟨o, v, x, e⟩ | e
  · rw [e]
  · rw [e, hlost]
  · rw [e, (raiseSrc_ext ..).ctr_eq rfl]
    rfl
  · rw [e, hlost]
    rfl

/-- A field below the beacon's status lies below the windows too, and no report writes it. -/
theorem fld_report_low {f : Fld} (hf : f.key < F.BC_STATUS_NOTGT.key) (s : State) (c : Nat) (r : WrackRec) :
    fld (report s c r) f = fld s f := by
  have hlow : f.key < 0x1000000 * 32 := Nat.lt_trans hf (by decide)
  have hp : f.key ≠ (F.XL_WQ_PROD_PROD c).key := by unfold Fld.key at *; dsimp only; omega
  have hw : f.key ≠ (F.XL_WQ_STATUS_WERR c).key := by unfold Fld.key at *; dsimp only; omega
  have hlost (t : State) : fld (wrackLost t c) f = fld t f := (wrackLost_ext ..).fld_eq rfl f
  rcases report_cases s c r with e | e | ⟨o, v, x, e⟩ | e
  · rw [e]
  · rw [e, hlost]
  · rw [e, fld_raiseSrc (Nat.ne_of_lt hf) (Nat.ne_of_lt (Nat.lt_trans hf (by decide))) (srcClass_wrack c)]
    exact fld_setFld_ne _ _ hp
  · rw [e, hlost]
    exact fld_setFld_ne _ _ hw

theorem pending_report {s : State} {j : Nat} (h : (srcOf s j).pending = true) (c : Nat) (r : WrackRec) :
    (srcOf (report s c r) j).pending = true := by
  have hlost (t : State) : srcOf (wrackLost t c) j = srcOf t j := rfl
  rcases report_cases s c r with e | e | ⟨o, v, x, e⟩ | e
  · rwa [e]
  · rwa [e, hlost]
  · rw [e]
    refine pending_raiseSrc ?_ _
    exact h
  · rw [e, hlost]
    exact h

/-! ### A drop, its capture and its source (R22) -/

/-- What a drop writes to the capture. -/
def dropCapture (tag point acc src tgt gran addr : Nat) : List (Fld × Nat) :=
  [(F.FAB_BRK_LAST0_CT, tag), (F.FAB_BRK_LAST0_POINT, point), (F.FAB_BRK_LAST0_ACC, acc), (F.FAB_BRK_LAST0_SRC, src),
    (F.FAB_BRK_LAST1_TGT, tgt), (F.FAB_BRK_LAST1_GRANULE, gran), (F.FAB_BRK_LAST2_ADDR_LO, addr), (F.FAB_BRK_LAST3_ADDR_HI, addr / 2 ^ 32),
    (F.FAB_BRK_STATUS_DROP, 1)]

section
variable {tag point acc src tgt gran addr : Nat}

/-- The places of a capture do not depend on what is captured. -/
theorem dropCapture_keys : (dropCapture tag point acc src tgt gran addr).map (·.1.key) = (dropCapture 0 0 0 0 0 0 0).map (·.1.key) := rfl

theorem dropCapture_nodup : ((dropCapture tag point acc src tgt gran addr).map (·.1.key)).Nodup := by
  rw [dropCapture_keys]
  decide

/-- A capture lies below the beacon's status. -/
theorem dropCapture_key_lt {e : Fld × Nat} (h : e ∈ dropCapture tag point acc src tgt gran addr) : e.1.key < F.BC_STATUS_NOTGT.key := by
  have hall : ∀ k ∈ (dropCapture 0 0 0 0 0 0 0).map (·.1.key), k < F.BC_STATUS_NOTGT.key := by decide
  exact hall _ (dropCapture_keys ▸ List.mem_map_of_mem h)

end

/-- The fields that a held capture keeps lie below the beacon's status, and none is OVERRUN. -/
theorem captureFlds_key : ∀ f ∈ [F.FAB_BRK_LAST0_CT, F.FAB_BRK_LAST0_POINT, F.FAB_BRK_LAST0_ACC, F.FAB_BRK_LAST0_SRC, F.FAB_BRK_LAST1_TGT,
    F.FAB_BRK_LAST1_GRANULE, F.FAB_BRK_LAST2_ADDR_LO, F.FAB_BRK_LAST3_ADDR_HI],
    f.key < F.BC_STATUS_NOTGT.key ∧ f.key ≠ F.FAB_BRK_STATUS_OVERRUN.key := by decide

/-- A drop counted, in its own counter and in the logbook's. -/
def countDrop (s : State) : State := lbAdd (incCtr s C.FAB_BRK_CNT) 17 1

theorem ctr_countDrop {s : State} (hs : Regs.wf s = true) : ctr (countDrop s) C.FAB_BRK_CNT = min (ctr s C.FAB_BRK_CNT + 1) maxCtr :=
  (ctr_lbAdd_ne (by decide) _ _).trans (ctr_addCtr_self hs _ _)

theorem countDrop_wf {s : State} (hs : Regs.wf s = true) : Regs.wf (countDrop s) = true :=
  (lbAdd_ext ..).regs ((incCtr_ext ..).regs hs)

/-- A drop counted and captured, or noted as an overrun. -/
def noteDrop (s : State) (tag point acc src tgt gran addr : Nat) : State :=
  if flag s F.FAB_BRK_STATUS_DROP then setFlag (countDrop s) F.FAB_BRK_STATUS_OVERRUN true
  else setFlds (countDrop s) (dropCapture tag point acc src tgt gran addr)

section
variable {s : State} {tag point acc src tgt gran addr : Nat} {r : WrackRec}

/-- A drop is noted, raises the breakwater source, and is reported to the cove of its tag. -/
theorem brkDrop_eq : brkDrop s tag point acc src tgt gran addr r =
    if tag < 16 then report (raiseSrc (noteDrop s tag point acc src tgt gran addr) 513) tag r
    else raiseSrc (noteDrop s tag point acc src tgt gran addr) 513 := rfl

theorem ctr_noteDrop (k : Nat) : ctr (noteDrop s tag point acc src tgt gran addr) k = ctr (countDrop s) k := by
  unfold noteDrop
  split
  · rfl
  · exact (setFlds_ext ..).ctr_eq rfl k

theorem ctr_brkDrop (hs : Regs.wf s = true) :
    ctr (brkDrop s tag point acc src tgt gran addr r) C.FAB_BRK_CNT = min (ctr s C.FAB_BRK_CNT + 1) maxCtr := by
  have hraise : ctr (raiseSrc (noteDrop s tag point acc src tgt gran addr) 513) C.FAB_BRK_CNT = min (ctr s C.FAB_BRK_CNT + 1) maxCtr := by
    rw [(raiseSrc_ext ..).ctr_eq rfl, ctr_noteDrop, ctr_countDrop hs]
  rw [brkDrop_eq]
  split
  · rw [ctr_report (by show 256 ≠ _ + _; omega) (by decide), hraise]
  · exact hraise

theorem pending_brkDrop : (srcOf (brkDrop s tag point acc src tgt gran addr r) 513).pending = true := by
  have hraise := pending_raiseSrc_self (s := noteDrop s tag point acc src tgt gran addr) (i := 513) rfl
  rw [brkDrop_eq]
  split
  · exact pending_report hraise tag r
  · exact hraise

/-- The source and the report leave what the drop noted in the fields below the beacon's. -/
theorem fld_brkDrop {f : Fld} (hf : f.key < F.BC_STATUS_NOTGT.key) :
    fld (brkDrop s tag point acc src tgt gran addr r) f = fld (noteDrop s tag point acc src tgt gran addr) f := by
  have hraise (t : State) : fld (raiseSrc t 513) f = fld t f :=
    fld_raiseSrc (Nat.ne_of_lt hf) (Nat.ne_of_lt (Nat.lt_trans hf (by decide))) (by decide) t
  rw [brkDrop_eq]
  split
  · rw [fld_report_low hf, hraise]
  · exact hraise _

/-- With no capture held, each field of the capture takes its value, and DROP is set. -/
theorem fld_brkDrop_captured (hs : Regs.wf s = true) (hd : flag s F.FAB_BRK_STATUS_DROP = false) :
    ∀ e ∈ dropCapture tag point acc src tgt gran addr, fld (brkDrop s tag point acc src tgt gran addr r) e.1 = e.2 % 2 ^ e.1.w := by
  intro e he
  rw [fld_brkDrop (dropCapture_key_lt he), noteDrop, hd]
  exact fld_setFlds_mem dropCapture_nodup (countDrop_wf hs) he

/-- While a capture is held, no field below the beacon's changes but OVERRUN. -/
theorem fld_brkDrop_held (hd : flag s F.FAB_BRK_STATUS_DROP = true) {f : Fld} (hf : f.key < F.BC_STATUS_NOTGT.key)
    (ho : f.key ≠ F.FAB_BRK_STATUS_OVERRUN.key) : fld (brkDrop s tag point acc src tgt gran addr r) f = fld s f := by
  rw [fld_brkDrop hf, noteDrop, hd]
  exact fld_setFld_ne _ _ ho

theorem fld_brkDrop_overrun (hs : Regs.wf s = true) (hd : flag s F.FAB_BRK_STATUS_DROP = true) :
    fld (brkDrop s tag point acc src tgt gran addr r) F.FAB_BRK_STATUS_OVERRUN = 1 := by
  rw [fld_brkDrop (by decide), noteDrop, hd]
  exact fld_setFld_self (countDrop_wf hs) _ _

theorem flag_brkDrop (hs : Regs.wf s = true) : flag (brkDrop s tag point acc src tgt gran addr r) F.FAB_BRK_STATUS_DROP = true := by
  cases hd : flag s F.FAB_BRK_STATUS_DROP with
  | true =>
    unfold flag at hd ⊢
    rwa [fld_brkDrop_held hd (by decide) (by decide)]
  | false =>
    have h1 : fld (brkDrop s tag point acc src tgt gran addr r) F.FAB_BRK_STATUS_DROP = 1 :=
      fld_brkDrop_captured hs hd (F.FAB_BRK_STATUS_DROP, 1) (List.mem_of_getElem? (i := 8) rfl)
    exact bne_iff_ne.2 (h1.trans_ne Nat.one_ne_zero)

end

/-! ### Which accesses are dropped (R18, R20) -/

theorem accCode_lt (a : Access) : accCode a < 2 ^ F.FAB_BRK_LAST0_ACC.w := by
  cases a with
  | read | write | atomic => simp [accCode]

theorem memAccess_reserved {s : State} {q : Req} (link : Bool) (h : 16 < q.tag) :
    memAccess s link q = (some (.error .dropped), dropReq s q 1 (targetUnit s q.fpa) 0) := if_pos h

theorem memAccess_granule {s : State} {q : Req} {g : Nat} (link : Bool) (ht : q.tag ≤ 16) (hg : decodeFpa s q.fpa = .data g)
    (ho : (granOf s g).owner ≠ 31)
    (hu : flag s (F.SC_STATUS_TRAINED (placeByte (dataPer s) g (granOf s g).mode (q.fpa % 2 ^ 28)).1) = true)
    (ha : granAdmits (granOf s g) q.tag q.acc = false) :
    memAccess s link q = (some (.error .dropped),
      dropReq s q 3 (0xB000 + (placeByte (dataPer s) g (granOf s g).mode (q.fpa % 2 ^ 28)).1) g) := by
  have ht : ¬ 16 < q.tag := Nat.not_lt.2 ht
  simp only [memAccess, if_neg ht, hg, scAccess, ho, hu, ha]
  rfl

theorem memAccess_bank {s : State} {q : Req} {b o : Nat} (link : Bool) (ht : q.tag < 16) (hb : decodeFpa s q.fpa = .tidepool b o)
    (ho : ownerOf s kBank b ≠ some q.tag) :
    memAccess s link q = (some (.error .dropped), dropReq s q 2 (0xA000 + b) 0) := by
  have ht' : ¬ 16 < q.tag := by omega
  have hown : (q.tag != 16 && ownerOf s kBank b != some q.tag) = true := by simp [ho]; omega
  simp only [memAccess, if_neg ht', hb, tpAccess, if_pos hown]

/-- Settles O42: a refused access does nothing but the drop, and the drop's report and source leave its count and its capture. -/
theorem droppedAccesses : Obligations.DroppedAccesses := by
  unfold Obligations.DroppedAccesses
  intro s link q point tgt gran addr hs hwhy
  have hans : memAccess s link q = (some (.error .dropped), dropReq s q point tgt gran) ∧ point < 2 ^ F.FAB_BRK_LAST0_POINT.w
      ∧ addr = if point = 1 then 0 else q.fpa := by
    rcases hwhy with ⟨ht, rfl, rfl, rfl, rfl⟩ | ⟨ht, hg, ho, hu, ha, rfl, rfl, rfl⟩ | ⟨ht, ⟨b, o, hb, ho, rfl⟩, rfl, rfl, rfl⟩
    · exact ⟨memAccess_reserved link ht, by decide, rfl⟩
    · exact ⟨memAccess_granule link ht hg ho hu ha, by decide, rfl⟩
    · exact ⟨memAccess_bank link ht hb ho, by decide, rfl⟩
  obtain ⟨hdrop, hpoint, rfl⟩ := hans
  refine ⟨_, hdrop, (dropReq_ext s q point tgt gran).same .mem rfl, ctr_brkDrop hs, flag_brkDrop hs, pending_brkDrop, fun hd => ?_,
    fun hd => ⟨?_, fun f hf => ?_⟩⟩
  · have hcap : ∀ e ∈ dropCapture q.tag point (accCode q.acc) q.src tgt gran (if point = 1 then 0 else q.fpa),
        fld (dropReq s q point tgt gran) e.1 = e.2 % 2 ^ e.1.w := fld_brkDrop_captured hs hd
    simp only [dropCapture, List.forall_mem_cons] at hcap
    obtain ⟨htag, hpt, hacc, hsrc, htgt, hgran, hlo, hhi, -⟩ := hcap
    exact ⟨htag, hpt.trans (Nat.mod_eq_of_lt hpoint), hacc.trans (Nat.mod_eq_of_lt (accCode_lt _)), hsrc, htgt, hgran, hlo, hhi⟩
  · exact bne_iff_ne.2 ((fld_brkDrop_overrun hs hd).trans_ne Nat.one_ne_zero)
  · obtain ⟨hlow, hne⟩ := captureFlds_key f hf
    exact fld_brkDrop_held hd hlow hne

end Sys2Proof.Machine
end

section
/-!
Fences: what a write of CH_FENCE does to the resources it names, and when a fence is complete (R55, R58).
-/
namespace Sys2Proof.Machine

/-- A command of a unit whose domain runs acts. -/
theorem atDomain_running {s t : State} {d : Nat} (h : running s d = true) : atDomain s d t = .next t := by
  simp [atDomain, h]

/-- A write that names resources starts their fences, or lifts them while the chart is not busy. -/
theorem fenceWrite_named {s : State} {v : Nat} {ks : List Nat} (hk : fenceKeys v = some ks) (hb : (bit v 31 && chartBusy s) = false) :
    fenceWrite s v = showPending s ((ownedKeys s ks).1.foldl (if bit v 31 then liftFence else startFence) (ownedKeys s ks).2) := by
  simp [fenceWrite, hk, hb]

/-- A complete fence stands in the table after PENDING is shown. -/
theorem tfind_showPending_setFence (s t : State) (k : Nat) (f : Fence) :
    tfind (showPending s (setFence t k f)).plan.fence k = some f := by
  have e : (showPending s (setFence t k f)).plan = (setFence t k f).plan := (showPending_ext ..).same .plan rfl
  rw [e]
  exact tfind_tput_self _ _ _

/-- Settles O18: a write of CH_FENCE by the keys it names, and the end of a fence by what it writes to the fence table. -/
theorem fenceCommandsComplete : Obligations.FenceCommandsComplete := by
  refine ⟨fun s q v ks hq hk hv => ?_, fun s q v ks hq hk hv hb => ?_, fun s sp id hr hf hs hp => ?_⟩
  · show atFabric s q (fenceWrite s v.toNat) = _
    rw [atFabric_manages hq, fenceWrite_named hk (by simp [hv]), hv]
    rfl
  · show atFabric s q (fenceWrite s v.toNat) = _
    rw [atFabric_manages hq, fenceWrite_named hk (by simp [hb]), hv]
    rfl
  · refine ⟨_, ?_, tfind_showPending_setFence s ((keyUnits (doneKey sp.val id.toNat)).foldl emptyTlb s) _ _⟩
    show execFenceDone sp id s = _
    simp only [execFenceDone, hf, hs, if_neg hp]
    exact atDomain_running hr

end Sys2Proof.Machine
end

section
/-!
The stacks' own commands and the sweep engines' work on keys: refresh, temperature, re-key, verify, zero-fill and patrol (R66, R101–R105,
R113–R117, R125, R213, R398).
-/
namespace Sys2Proof.Machine

/-! ### Work that its unit pays for (R278) -/

/-- Work of a unit whose domain runs takes effect when its credit paid for it, and issues what the credit allows when not. -/
theorem paid_or_issued {s : State} {u : Nat} {o : Option State} {a : Ans} (h : Works s u) (ha : a = atEngine s u (paidOr s u o)) :
    (∀ t : State, o = some t → a = .next t) ∧ (o = none → a = .next (issueRest s u)) := by
  have e : a = .next (paidOr s u o) := ha.trans (atDomain_running h)
  exact ⟨fun t ht => by rw [e, ht]; rfl, fun ht => by rw [e, ht]; rfl⟩

theorem rekeySweepLine_head {s : State} {n : StackId} {g : BitVec 13} {line : BitVec 22} {r : Nat} {k : KeyRange}
    (hr : rangeOf s g.toNat = some (r, k)) (hh : headRekey s n.val = some r) (ho : (granOf s g.toNat).owner ≠ 31)
    (hp : (placeLine s g.toNat line.toNat).1 = n.val) (hl : (tgetD k.swept g.toNat 0).testBit line.toNat = false)
    (hw : fillWaits s n.val = false) (hf : fillOf s g.toNat = none) :
    exec (.rekeySweepLine n g line) s = atEngine s (swUnit n.val) (paidOr s (swUnit n.val) (rekeyLine s n.val r g.toNat line.toNat k)) := by
  show execRekeySweepLine n g line s = _
  simp [execRekeySweepLine, hr, hh, ho, hp, hl, hw, hf]

theorem verifyLine_head {s : State} {n : StackId} {k : Fin 64} {j : Nat} {line : BitVec 22} {p : Place}
    (hc : (kidOf s k.val).covered[j]? = some p) (hh : headVerify s n.val = some k.val) (hp : (placedAt s p line.toNat).1 = n.val)
    (hl : (tgetD (kidOf s k.val).verified j 0).testBit line.toNat = false) (hw : fillWaits s n.val = false)
    (hr : rekeyWaits s n.val = false) :
    exec (.verifyLine n k j line) s =
      atEngine s (swUnit n.val) (paidOr s (swUnit n.val) (verifyLine s n.val k.val j (placedAt s p line.toNat).2 line.toNat)) := by
  show execVerifyLine n k j line s = _
  simp [execVerifyLine, hc, hh, hp, hl, hw, hr]

theorem zeroFillLine_head {s : State} {n : StackId} {g : BitVec 13} {line : BitVec 22} {f : ZFill} (hh : headFill s n.val = some f)
    (hg : f.place.gran = g.toNat) (hl : f.done.testBit line.toNat = false) (hp : (placedAt s f.place line.toNat).1 = n.val) :
    exec (.zeroFillLine n g line) s = atEngine s (swUnit n.val) (paidOr s (swUnit n.val) (fillLine s n.val line.toNat f)) := by
  show execZeroFillLine n g line s = _
  simp [execZeroFillLine, hh, hg, hl, hp]

theorem patrolVisit_next {s : State} {n : StackId} {behind : Bool} {line : Nat} (hline : fld s (F.SW_PATROL_POS_LINE n.val) = line)
    (hlt : line < stackLines s) (ht : flag s (F.SC_STATUS_TRAINED n.val) = true) (hp : patrolPauses s n.val line = false)
    (hf : fillWaits s n.val = false) (hr : rekeyWaits s n.val = false) (hv : verifyWaits s n.val = false)
    (hm : behind = false → headMove s n.val = none) :
    exec (.patrolVisit ⟨n, behind⟩) s = atEngine s (swUnit n.val) (paidOr s (swUnit n.val)
      ((patrolLine s n.val line).map fun t => setFld t (F.SW_PATROL_POS_LINE n.val) (line + 1))) := by
  have hb : (!behind && (headMove s n.val).isSome) = false := by
    cases behind with
    | true => rfl
    | false => simp [hm rfl]
  show execPatrolVisit ⟨n, behind⟩ s = _
  simp [execPatrolVisit, hline, Nat.not_le.2 hlt, ht, hp, hf, hr, hv, hb]

/-! ### The end of a patrol pass (R125) -/

theorem fld_lbAdd (s : State) (i n : Nat) (f : Fld) : fld (lbAdd s i n) f = fld s f := (lbAdd_ext s i n).fld_eq rfl f

/-- The end of a pass: the position begins again and the pass is counted (R125, R353). -/
def endPass (s : State) (n : Nat) : State := lbAdd (incCtr (setFld s (F.SW_PATROL_POS_LINE n) 0) (C.SW_PASSES n)) 15 1

theorem patrolPassEnd_passed {s : State} {n : StackId} (late : Bool) (hr : running s n.val = true)
    (h : stackLines s ≤ fld s (F.SW_PATROL_POS_LINE n.val)) :
    exec (.patrolPassEnd n late) s = .next (if late then setFlag (endPass s n.val) (F.SW_STATUS_LATE n.val) true else endPass s n.val) := by
  show execPatrolPassEnd n late s = _
  rw [execPatrolPassEnd, if_neg (Nat.not_lt.2 h)]
  exact atDomain_running hr

theorem endPass_wf {s : State} (h : Regs.wf s = true) (n : Nat) : Regs.wf (endPass s n) = true :=
  (lbAdd_ext ..).regs ((incCtr_ext ..).regs ((setFld_ext ..).regs h))

theorem fld_endPass {s : State} (h : Regs.wf s = true) (n : Nat) : fld (endPass s n) (F.SW_PATROL_POS_LINE n) = 0 := by
  rw [endPass, fld_lbAdd]
  exact fld_setFld_self h (F.SW_PATROL_POS_LINE n) 0

theorem ctr_endPass {s : State} (h : Regs.wf s = true) (n : StackId) :
    ctr (endPass s n.val) (C.SW_PASSES n.val) = min (ctr s (C.SW_PASSES n.val) + 1) maxCtr := by
  have hne : C.SW_PASSES n.val ≠ lbCtr 15 := by
    show 0x400010 + 0x10000 * n.val ≠ 0x610024 + 2 ^ 32 * 15
    omega
  rw [endPass, ctr_lbAdd_ne hne]
  exact ctr_addCtr_self ((setFld_ext ..).regs h) _ 1

theorem late_key_ne (n : Nat) : (F.SW_PATROL_POS_LINE n).key ≠ (F.SW_STATUS_LATE n).key := by
  simp only [Fld.key]
  omega

/-! ### A re-key begins (R114, R115) -/

/-- A range that takes a KID has it as current, the old one as predecessor, and its sweep begins. -/
theorem tfind_takeKid {s : State} {r : Nat} {k : KeyRange} (h : tfind s.mem.kr r = some k) (kid : Nat) :
    tfind (takeKid s r kid).mem.kr r = some { k with cur := kid, pred := some k.cur, phase := 2, sweepDone := false, swept := [] } := by
  simp only [takeKid, h]
  exact tfind_tput_self _ _ _

theorem drainKid_rekeyQ (s : State) (kid r : Nat) (places : List Place) : (drainKid s kid r places).mem.rekeyQ = s.mem.rekeyQ := by
  unfold drainKid
  split <;> rfl

theorem takeKid_rekeyQ (s : State) (r kid : Nat) : (takeKid s r kid).mem.rekeyQ = s.mem.rekeyQ := by
  unfold takeKid
  split
  · rfl
  · exact drainKid_rekeyQ ..

/-- A re-key of an idle scrambled range takes a KID when one can be taken and no other re-key waits. -/
theorem startRekey_takes {s : State} {r kid : Nat} {k : KeyRange} (h : tfind s.mem.kr r = some k) (hs : k.scramble = true)
    (hc : k.cur ≠ 0) (hp : k.phase = 0) (hq : s.mem.rekeyQ = []) (ht : takeable s = some kid) : startRekey s r = takeKid s r kid := by
  simp [startRekey, h, hs, hc, hp, hq, ht]

/-! ### The zero-fills that stand while KIDs leave Draining (R66, R117) -/

theorem takeKid_fills {s : State} (h : s.plan.fills = []) (r kid : Nat) : (takeKid s r kid).plan.fills = [] := by
  unfold takeKid
  split
  · exact h
  · rename_i k _
    have e : (drainKid (loadKey s kid) k.cur r (rangePlaces (loadKey s kid) k ++ fillPlaces (loadKey s kid) k.cur)).plan = s.plan :=
      ((drainKid_ext ..).same .plan rfl).trans ((loadKey_ext ..).same .plan rfl)
    simp only [setKr_plan, e, h]
    rfl

theorem startRekey_fills {s : State} (h : s.plan.fills = []) (r : Nat) : (startRekey s r).plan.fills = [] := by
  unfold startRekey
  split
  · exact h
  · split
    · exact h
    · split
      · exact h
      · split
        · exact takeKid_fills h ..
        · exact h

theorem endRekey_fills {s : State} (h : s.plan.fills = []) (r : Nat) (k : KeyRange) : (endRekey s r k).plan.fills = [] := by
  have e (t : State) : (lbAdd t 14 1).plan = t.plan := (lbAdd_ext ..).same .plan rfl
  unfold endRekey
  dsimp only
  split
  · exact startRekey_fills (by rw [e]; exact h) r
  · rw [e]
    exact h

theorem leaveDraining_fills {s : State} (h : s.plan.fills = []) (k : Nat) : (leaveDraining s k).plan.fills = [] := by
  unfold leaveDraining
  dsimp only
  split
  case h_1 r k _ =>
    refine endRekey_fills ?_ r k
    split <;> exact h
  case h_2 => split <;> exact h

theorem flushDrained_fills {s : State} (h : s.plan.fills = []) : (flushDrained s).plan.fills = [] := by
  unfold flushDrained
  refine List.foldlRecOn (motive := fun t : State => t.plan.fills = []) _ _ h fun t ht k _ => ?_
  split
  · exact leaveDraining_fills ht k
  · exact ht

/-- The end of a granule's only zero-fill, a scrub's. -/
theorem endFills_scrub {s : State} {f : ZFill} {c : Nat} (h : s.plan.fills = [(f, .scrub c)]) : (endFills s f.place.gran).plan.fills = [] := by
  have e : (sweptBy s f.place.gran).plan = s.plan := (sweptBy_ext ..).same .plan rfl
  simp [endFills, e, h]

/-! ### A table with one entry at a key -/

theorem mem_of_tfind {α : Type} {t : Tbl α} {k : Nat} {v : α} (h : tfind t k = some v) : (k, v) ∈ t := by
  induction t with
  | nil => cases h
  | cons e t ih =>
    obtain ⟨j, w⟩ := e
    simp only [tfind] at h
    split at h
    · next hj =>
      cases h
      exact hj ▸ List.mem_cons_self
    · exact List.mem_cons_of_mem _ (ih h)

theorem tfind_of_mem {α : Type} {t : Tbl α} (ht : t.sorted = true) {e : Nat × α} (h : e ∈ t) : tfind t e.1 = some e.2 := by
  rw [Tbl.sorted_iff] at ht
  induction t with
  | nil => cases h
  | cons x t ih =>
    obtain ⟨hx, ht⟩ := List.pairwise_cons.1 ht
    rcases List.mem_cons.1 h with rfl | h
    · exact if_pos rfl
    · exact (if_neg (Nat.ne_of_lt (hx e h))).trans (ih ht h)

/-- KID `p` is the predecessor in range `r` alone, whose entry is `k`. -/
structure SolePred (t : Tbl KeyRange) (p r : Nat) (k : KeyRange) : Prop where
  sorted : t.sorted = true
  entry : tfind t r = some k
  pred : k.pred = some p
  only : ∀ e ∈ t, e.2.pred = some p → e.1 = r

section
variable {t : Tbl KeyRange} {p r : Nat} {k k' : KeyRange}

theorem SolePred.eq_of_mem (h : SolePred t p r k) {e : Nat × KeyRange} (he : e ∈ t) (hp : e.2.pred = some p) : e = (r, k) := by
  have hr : e.1 = r := h.only e he hp
  have hk : some e.2 = some k := (tfind_of_mem h.sorted he).symm.trans (hr ▸ h.entry)
  exact Prod.ext hr (Option.some.inj hk)

theorem SolePred.put (h : SolePred t p r k) (hp : k'.pred = some p) : SolePred (tput t r k') p r k' where
  sorted := tput_sorted h.sorted r k'
  entry := tfind_tput_self t r k'
  pred := hp
  only := fun e he hpe => by
    rcases mem_tput he with rfl | he
    · rfl
    · exact h.only e he hpe

theorem SolePred.find?_sweeping (h : SolePred t p r k) (hk : k.phase = 2) :
    t.find? (fun e => e.2.pred == some p && e.2.phase == 2) = some (r, k) := by
  have hs : (t.find? (fun e => e.2.pred == some p && e.2.phase == 2)).isSome = true :=
    List.find?_isSome.2 ⟨(r, k), mem_of_tfind h.entry, by simp [h.pred, hk]⟩
  obtain ⟨e, he⟩ := Option.isSome_iff_exists.1 hs
  have hp : e.2.pred = some p := by
    have := List.find?_some he
    simp only [Bool.and_eq_true, beq_iff_eq] at this
    exact this.1
  rw [he, h.eq_of_mem (List.mem_of_find?_eq_some he) hp]

end

/-! ### A KID leaves Draining (R114–R117) -/

theorem kidOf_setKid_used {v : Kid} (hv : v.st ≠ .free) (s : State) (k : Nat) : kidOf (setKid s k v) k = v :=
  tgetD_tsetD_of_ne _ _ _ fun e => hv (congrArg Kid.st e)

theorem kidOf_setKid_ne (s : State) {k j : Nat} (v : Kid) (h : j ≠ k) : kidOf (setKid s k v) j = kidOf s j := tgetD_tsetD_ne _ _ _ _ h

/-- A Draining KID is drained when the one range that sweeps against it has been swept and no zero-fill runs. -/
theorem drained_of_sole {s : State} {p r : Nat} {k : KeyRange} (h : SolePred s.mem.kr p r k) (hk : k.sweepDone = true)
    (hf : s.plan.fills = []) : drained s p = true := by
  have hany : s.mem.kr.any (fun e => e.2.pred == some p && e.2.phase == 2 && !e.2.sweepDone) = false := by
    refine List.any_eq_false.2 fun e he => ?_
    by_cases hp : e.2.pred = some p
    · simp [h.eq_of_mem he hp, hk]
    · simp [hp]
  simp [drained, hany, hf]

theorem lbAdd_mem (s : State) (i n : Nat) : (lbAdd s i n).mem = s.mem := (lbAdd_ext s i n).same .mem rfl

/-- A re-key with no other queued behind it ends with its range in phase 3, and the KIDs as they are. -/
theorem endRekey_mem {k : KeyRange} (hq : k.queued = false) (s : State) (r : Nat) : (endRekey s r k).mem =
    { s.mem with
      sweepQ := s.mem.sweepQ.filter (· != r)
      kr := tput s.mem.kr r { k with phase := 3, sweepDone := false, queued := false, swept := [] } } := by
  unfold endRekey
  rw [hq]
  exact (lbAdd_mem _ 14 1).trans rfl

/-- The predecessor of one sweeping range moves to Flushing, the use counter of the range clears, and its re-key is over. -/
theorem leaveDraining_sole {s : State} {p r : Nat} {k : KeyRange} (h : SolePred s.mem.kr p r k) (hp : k.phase = 2)
    (hr : (kidOf s p).range = some r) :
    leaveDraining s p = endRekey (clearUse (setKid s p { kidOf s p with st := .flushing, range := none }) r) r
      { k with use := 0, stopped := false } := by
  have hc : (clearUse (setKid s p { kidOf s p with st := .flushing, range := none }) r).mem.kr
      = tput s.mem.kr r { k with use := 0, stopped := false } := by
    show tmod s.mem.kr r _ = _
    simp only [tmod, h.entry]
  have hput : SolePred (tput s.mem.kr r { k with use := 0, stopped := false }) p r { k with use := 0, stopped := false } := h.put h.pred
  simp only [leaveDraining, hr, hc, hput.find?_sweeping hp]

/-- A fold that acts where a condition holds, which holds at one element and at none once it has acted. -/
theorem foldl_acts_once {α β : Type} {c : β → α → Bool} {f : β → α → β} {b : β} {a : α} {l : List α} (ha : a ∈ l) (h : c b a = true)
    (hb : ∀ x, x ≠ a → c b x = false) (hf : ∀ x, c (f b a) x = false) :
    l.foldl (fun b x => if c b x then f b x else b) b = f b a := by
  induction l with
  | nil => cases ha
  | cons x l ih =>
    rw [List.foldl_cons]
    by_cases hx : x = a
    · rw [hx, if_pos h]
      exact List.foldl_fixed' (fun y => by simp [hf y]) l
    · rw [hb x hx]
      exact ih ((List.mem_cons.1 ha).resolve_left (Ne.symm hx))

/-- With one Draining KID, and that one drained, it alone leaves Draining. -/
theorem flushDrained_sole {s : State} {p : Nat} (hp : p < 64) (hst : (kidOf s p).st = .draining) (hd : drained s p = true)
    (hs : ∀ j, j ≠ p → (kidOf s j).st ≠ .draining) (ht : ∀ j, (kidOf (leaveDraining s p) j).st ≠ .draining) :
    flushDrained s = leaveDraining s p :=
  foldl_acts_once (c := fun s k => decide ((kidOf s k).st = .draining) && drained s k) (List.mem_range.2 hp) (by simp [hst, hd])
    (fun j hj => by simp [hs j hj]) (fun j => by simp [ht j])

/-- The end of the sweep of range `r` against KID `p`, the only Draining one, while no zero-fill runs. -/
theorem flushDrained_swept {s : State} {p r : Nat} {k : KeyRange} (h : SolePred s.mem.kr p r k) (hk : k.phase = 2)
    (hd : k.sweepDone = true) (hq : k.queued = false) (hf : s.plan.fills = []) (hp : p < 64) (hst : (kidOf s p).st = .draining)
    (hr : (kidOf s p).range = some r) (hs : ∀ j, j ≠ p → (kidOf s j).st ≠ .draining) :
    (kidOf (flushDrained s) p).st = .flushing
      ∧ tfind (flushDrained s).mem.kr r = some { k with phase := 3, use := 0, stopped := false, sweepDone := false, queued := false, swept := [] } := by
  have e := leaveDraining_sole h hk hr
  have hkid (j : Nat) : kidOf (leaveDraining s p) j = kidOf (setKid s p { kidOf s p with st := .flushing, range := none }) j := by
    rw [e, kidOf, endRekey_mem]
    · rfl
    · exact hq
  have hself : (kidOf (leaveDraining s p) p).st = .flushing := by
    rw [hkid, kidOf_setKid_used]
    exact nofun
  have hnone (j : Nat) : (kidOf (leaveDraining s p) j).st ≠ .draining := by
    by_cases hj : j = p
    · rw [hj, hself]
      exact nofun
    · rw [hkid, kidOf_setKid_ne _ _ hj]
      exact hs j hj
  rw [flushDrained_sole hp hst (drained_of_sole h hd hf) hs hnone]
  refine ⟨hself, ?_⟩
  rw [e, endRekey_mem]
  · exact tfind_tput_self ..
  · exact hq

/-! ### The commands -/

theorem rekeySweepDone_swept {s : State} {r : Idx64} {k : KeyRange} (hrun : running s 94 = true) (hk : tfind s.mem.kr r.val = some k)
    (hp : k.phase = 2) (hd : k.sweepDone = false) (ha : (rangePlaces s k).all (fun p => allLines (tgetD k.swept p.gran 0)) = true) :
    exec (.rekeySweepDone r) s = .next (flushDrained (setKr s r.val { k with sweepDone := true })) := by
  show execRekeySweepDone r s = _
  simp only [execRekeySweepDone, hk, hp, hd, ha]
  exact atDomain_running hrun

theorem zeroFillDone_scrub {s : State} {g : BitVec 13} {f : ZFill} {c : Nat} (hrun : running s 94 = true)
    (hf : s.plan.fills = [(f, .scrub c)]) (hg : f.place.gran = g.toNat) (ha : allLines f.done = true) :
    exec (.zeroFillDone g) s = .next (flushDrained (endFills s g.toNat)) := by
  have hne : (FillFor.scrub c != .applied) = true := rfl
  show execZeroFillDone g s = _
  simp only [execZeroFillDone, hf, List.filter, hg, hne, BEq.rfl, Bool.and_self, List.isEmpty_cons, List.all_cons, List.all_nil, ha]
  exact atDomain_running hrun

theorem rekeyKidTake_takes {s : State} {r kid : Nat} {rest : List Nat} (hrun : running s 94 = true) (hq : s.mem.rekeyQ = r :: rest)
    (ht : takeable s = some kid) (hs : s.sc.scrubQ.contains r = false) :
    exec .rekeyKidTake s = .next (takeKid { s with mem := { s.mem with rekeyQ := rest } } r kid) := by
  show execRekeyKidTake s = _
  simp only [execRekeyKidTake, hq, ht, takeWaiting, hs]
  exact atDomain_running hrun

theorem kidRetire_flushing {s : State} {k : Fin 64} (hrun : running s 94 = true) (h : (kidOf s k.val).st = .flushing) :
    Answers (.kidRetire k) s fun t => t.mem.kids = (setKid s k.val { kidOf s k.val with st := .retired, loaded := false, verified := [] }).mem.kids
      ∧ t.mem.keys = tdel s.mem.keys k.val := by
  exact ⟨_, (if_neg (by simp [h])).trans (atDomain_running hrun), rfl, rfl⟩

theorem kidVerifyDone_empty {s : State} {k : Fin 64} (hrun : running s 94 = true) (hst : (kidOf s k.val).st = .retired)
    (hc : (kidOf s k.val).covered = []) : exec (.kidVerifyDone k) s =
      .next (setKid { s with mem := { s.mem with verifyQ := s.mem.verifyQ.filter (· != k.val) } } k.val Kid.init) := by
  show execKidVerifyDone k s = _
  simp only [execKidVerifyDone, hst, hc]
  exact atDomain_running hrun

theorem scTempRead_served {s : State} {n : StackId} (temp : Byte) (rate : Fin 3) (hrun : running s n.val = true)
    (ht : flag s (F.SC_STATUS_TRAINED n.val) = true) (hr : flag s (F.SC_STATUS_SELF_REFRESH n.val) = false) :
    exec (.scTempRead n temp rate) s =
      .next (setFld (setFld s (F.SC_STATUS_TEMP_C n.val) temp.toNat) (F.SC_STATUS_REF_RATE n.val) rate.val) := by
  show execScTempRead n temp rate s = _
  simp only [execScTempRead, ht, hr]
  exact atDomain_running hrun

/-- Settles O13: each command by its equation where it acts; the end of a sweep by the one KID that leaves Draining, and the end of the last
zero-fill because no KID that leaves Draining brings one back. -/
theorem stackCommandsComplete : Obligations.StackCommandsComplete := by
  refine ⟨fun s n hr => atDomain_running hr, fun s n temp rate hr ht hf => scTempRead_served temp rate hr ht hf,
    fun s q n hq => atFabric_manages hq _, fun s q n hq => atFabric_manages hq _, fun s n hr => atDomain_running hr,
    ?rekey, ?kidTake, ?sweepLine, ?sweepDone, ?retire, ?verifyLine, ?verifyDone, ?fillLine, ?fillDone, ?visit, ?passEnd⟩
  case rekey =>
    intro s q r k kid hq hk hs hc hp hw ht
    refine ⟨takeKid s r.val kid, ?_, tfind_takeKid hk kid⟩
    rw [← startRekey_takes hk hs hc hp hw ht]
    exact atFabric_manages hq _
  case kidTake =>
    intro s r kid rest k hr hw ht hs hk
    exact ⟨_, rekeyKidTake_takes hr hw ht hs, takeKid_rekeyQ .., tfind_takeKid (by exact hk) kid⟩
  case sweepLine =>
    intro s n g line r k hw hr hh ho hp hl hf hn
    exact paid_or_issued hw (rekeySweepLine_head hr hh ho hp hl hf hn)
  case sweepDone =>
    intro s r k p hrun hsort hk hph hq hd hpred hp hst hr hs honly hf ha
    have hsole : SolePred (setKr s r.val { k with sweepDone := true }).mem.kr p r.val { k with sweepDone := true } :=
      SolePred.put ⟨hsort, hk, hpred, honly⟩ hpred
    obtain ⟨hkid, hkr⟩ := flushDrained_swept hsole hph rfl hq hf hp hst hr hs
    refine ⟨_, rekeySweepDone_swept hrun hk hph hd ha, hkid, hkr.trans ?_⟩
    simp only [hq, hd]
  case retire =>
    intro s k hrun hst
    obtain ⟨t, ht, hkids, hkeys⟩ := kidRetire_flushing hrun hst
    have hkid : kidOf t k.val = { kidOf s k.val with st := .retired, loaded := false, verified := [] } := by
      show tgetD t.mem.kids _ _ = _
      rw [hkids]
      exact kidOf_setKid_used (by nofun) s k.val
    exact ⟨t, ht, by rw [hkid], by rw [hkid], hkeys⟩
  case verifyLine =>
    intro s n k j line p hw hc hh hp hl hf hr
    exact paid_or_issued hw (verifyLine_head hc hh hp hl hf hr)
  case verifyDone =>
    intro s k hrun hsort hst hc
    refine ⟨_, kidVerifyDone_empty hrun hst hc, ?_⟩
    exact congrArg Kid.st (tgetD_tsetD_self hsort k.val Kid.init Kid.init)
  case fillLine =>
    intro s n g line f hw hh hg hl hp
    exact paid_or_issued hw (zeroFillLine_head hh hg hl hp)
  case fillDone =>
    intro s g f c hrun hf hg ha
    exact ⟨_, zeroFillDone_scrub hrun hf hg ha, flushDrained_fills (hg ▸ endFills_scrub hf)⟩
  case visit =>
    intro s n behind hw hlt ht hp hf hr hv hm
    obtain ⟨hpaid, hrest⟩ := paid_or_issued hw (patrolVisit_next rfl hlt ht hp hf hr hv hm)
    exact ⟨fun t e => hpaid _ (by rw [e]; rfl), fun e => hrest (by rw [e]; rfl)⟩
  case passEnd =>
    intro s n late hrun hwf hpos
    refine ⟨_, patrolPassEnd_passed late hrun hpos, ?_⟩
    cases late with
    | false => exact ⟨fld_endPass hwf _, ctr_endPass hwf n, nofun⟩
    | true =>
      refine ⟨(fld_setFld_ne _ _ (late_key_ne _)).trans (fld_endPass hwf _), ctr_endPass hwf n, fun _ => ?_⟩
      rw [flag, if_pos rfl, setFlag, fld_setFld_self (endPass_wf hwf _)]
      rfl

end Sys2Proof.Machine
end

section
/-!
Tides, taps and the slate: what an edge, its receipt, its acknowledgement, an arming, a resynchronisation, a resume and a calibration leave
(R70, R73, R76, R78, R79, R83, R84, R89).
-/
namespace Sys2Proof.Machine

variable {s : State}

/-! ### Taps and masters after an update -/

/-- A tap with a source differs from a tap at reset. -/
theorem Tap.ne_init_of_src {x : Tap} (h : x.src ≤ 16) : x ≠ Tap.init := by
  rintro rfl
  exact absurd h (by decide)

/-- A tap away from its reset value is listed, so its update is read back whatever the table's order. -/
theorem tapOf_setTap_self {v : Tap} (h : v ≠ Tap.init) (s : State) (t : Nat) : tapOf (setTap s t v) t = v :=
  tgetD_tsetD_of_ne _ _ _ h

theorem tapOf_setTap_ne (s : State) {t x : Nat} (v : Tap) (h : x ≠ t) : tapOf (setTap s t v) x = tapOf s x :=
  tgetD_tsetD_ne _ _ _ _ h

theorem masterOf_setMaster_self (s : State) (m : Nat) (v : Master) : masterOf (setMaster s m v) m = v := by
  simp [masterOf, setMaster, tgetD, tfind_tput_self]

theorem setMaster_taps (s : State) (m : Nat) (v : Master) : (setMaster s m v).tide.taps = s.tide.taps := rfl

theorem tapOf_congr {s t : State} (h : t.tide.taps = s.tide.taps) (x : Nat) : tapOf t x = tapOf s x := by
  rw [tapOf, tapOf, h]

theorem masterOf_congr {s t : State} (h : t.tide.masters = s.tide.masters) (m : Nat) : masterOf t m = masterOf s m := by
  rw [masterOf, masterOf, h]

/-- An operation changes only the parts that its mask names. -/
theorem Ext.only {n : Nat} {ps : List Part} {t : State} (h : Ext n s t) (hn : n = frameMask ps) : OnlyChanges ps s t := by
  subst hn
  exact h.advances.only

/-! ### The end of entries leaves the taps (R84) -/

theorem takeOutcome_taps (s : State) (r : SlateReport) : (takeOutcome s r).tide.taps = s.tide.taps := by
  unfold takeOutcome
  dsimp only
  split
  case h_1 | h_2 | h_5 => rfl
  case h_3 | h_4 => split <;> rfl

theorem freeEnded_taps (s : State) (m : Nat) : (freeEnded s m).2.tide.taps = s.tide.taps := by
  have raised (t : State) : (raiseSrc t 514).tide = t.tide := (raiseSrc_ext ..).same .tide rfl
  unfold freeEnded
  dsimp only
  split
  · rw [raised]
    rfl
  · rfl

theorem endEntries_taps (s : State) (m : Nat) : (endEntries s m).tide.taps = s.tide.taps := by
  unfold endEntries
  dsimp only
  exact List.foldlRecOn (motive := fun t : State => t.tide.taps = s.tide.taps) _ _ (freeEnded_taps s m)
    fun t ht r _ => (takeOutcome_taps t r).trans ht

/-! ### An edge of a master with an empty slate (R70, R75, R83) -/

section
variable {m : Nat} (hslate : (masterOf s m).slate = [])
include hslate

theorem applyDue_no_entries (now : Option Nat) (p : Nat → Slate → Bool) : applyDue s m now p = s := by
  simp [applyDue, dueActs, hslate]

theorem missAwaited_none (hawait : (masterOf s m).await = []) : missAwaited s m = s := by
  simp [missAwaited, hslate, hawait]

/-- With no entry to free, the master is written back as it stands. -/
theorem endEntries_no_entries : endEntries s m = setMaster s m (masterOf s m) := by
  have hback : { masterOf s m with slate := [] } = masterOf s m := by rw [← hslate]
  simp only [endEntries, freeEnded, hslate, List.filter_nil, List.any_nil, List.map_nil, List.foldl_nil, hback]
  rfl

end

/-- A master without entries counts its edge, sets no DUE bit and slips nothing. -/
theorem nextEdge_no_entries {ms : Master} (h : ms.slate = []) (now : Nat) : nextEdge ms now = ((ms.count + 1) % 2 ^ 64, 0, [], 0) := by
  simp [nextEdge, h]

/-- The message travels to a tap. -/
def sendNet (msg : BitVec 84) (s : State) (t : Nat) : State := setTap s t { tapOf s t with net := some msg }

theorem sendNet_net_self (msg : BitVec 84) (s : State) (t : Nat) : (tapOf (sendNet msg s t) t).net = some msg := by
  rw [sendNet, tapOf_setTap_self]
  exact fun e => nomatch congrArg Tap.net e

theorem sendNet_net {msg : BitVec 84} {t x : Nat} (h : (tapOf s x).net = some msg) : (tapOf (sendNet msg s t) x).net = some msg := by
  by_cases hx : x = t
  · subst hx
    exact sendNet_net_self msg s x
  · rwa [sendNet, tapOf_setTap_ne _ _ hx]

theorem foldl_sendNet_masters (msg : BitVec 84) (l : List Nat) (s : State) : (l.foldl (sendNet msg) s).tide.masters = s.tide.masters :=
  List.foldlRecOn (motive := fun t : State => t.tide.masters = s.tide.masters) _ _ rfl fun _ ht _ _ => ht

theorem foldl_sendNet_net_kept {msg : BitVec 84} {x : Nat} (l : List Nat) (h : (tapOf s x).net = some msg) :
    (tapOf (l.foldl (sendNet msg) s) x).net = some msg :=
  List.foldlRecOn (motive := fun t => (tapOf t x).net = some msg) _ _ h fun _ ht _ _ => sendNet_net ht

/-- Every tap that a message is sent to has it, whatever is sent to it or to others after. -/
theorem foldl_sendNet_net {msg : BitVec 84} {x : Nat} {l : List Nat} (hx : x ∈ l) (s : State) :
    (tapOf (l.foldl (sendNet msg) s) x).net = some msg := by
  induction l generalizing s with
  | nil => cases hx
  | cons t l ih =>
    rcases List.mem_cons.1 hx with rfl | hx
    · exact foldl_sendNet_net_kept l (sendNet_net_self msg s x)
    · exact ih hx _

/-- A master after its edge, its slate empty (R70, R71). -/
def Master.emptyEdge (ms : Master) (taps : List Nat) : Master :=
  { ms with count := (ms.count + 1) % 2 ^ 64, slate := [], period := ms.newPeriod.getD ms.period, newPeriod := none, await := taps }

/-- The edge of a master without entries: the master moves on, and its message goes to every tap that listens. -/
theorem emitEdge_no_entries {m : Nat} (h : (masterOf s m).slate = []) (now : Nat) :
    ∃ u, u.tide = (setMaster s m ((masterOf s m).emptyEdge (tapsOf s m))).tide
      ∧ emitEdge s m now = (tapsOf s m).foldl (sendNet (edgeMsg (((masterOf s m).count + 1) % 2 ^ 64) 0)) u := by
  unfold emitEdge
  simp only [nextEdge_no_entries h]
  refine ⟨_, ?_, rfl⟩
  split <;> rfl

theorem masterOf_emitEdge_no_entries {m : Nat} (h : (masterOf s m).slate = []) (now : Nat) :
    masterOf (emitEdge s m now) m = (masterOf s m).emptyEdge (tapsOf s m) := by
  obtain ⟨u, hu, e⟩ := emitEdge_no_entries h now
  have hm : (emitEdge s m now).tide.masters = (setMaster s m ((masterOf s m).emptyEdge (tapsOf s m))).tide.masters := by
    rw [e, foldl_sendNet_masters, hu]
  rw [masterOf_congr hm, masterOf_setMaster_self]

theorem emitEdge_net_no_entries {m x : Nat} (h : (masterOf s m).slate = []) (now : Nat) (hx : x ∈ tapsOf s m) :
    (tapOf (emitEdge s m now) x).net = some (edgeMsg (((masterOf s m).count + 1) % 2 ^ 64) 0) := by
  obtain ⟨u, -, e⟩ := emitEdge_no_entries h now
  rw [e]
  exact foldl_sendNet_net hx u

/-- The edge of a running master with no entries and no acknowledgement to wait for. -/
theorem tideEdge_no_entries {m : TideId} (now : Nat) (hrun : running s 96 = true) (hms : (masterOf s m.val).running = true)
    (hheld : (masterOf s m.val).held = false) (hslate : (masterOf s m.val).slate = []) (hawait : (masterOf s m.val).await = []) :
    Answers (.tideEdge m now) s fun t => masterOf t m.val = (masterOf s m.val).emptyEdge (tapsOf s m.val)
      ∧ ∀ x ∈ tapsOf s m.val, (tapOf t x).net = some (edgeMsg (((masterOf s m.val).count + 1) % 2 ^ 64) 0) := by
  have hback : masterOf (setMaster s m.val (masterOf s m.val)) m.val = masterOf s m.val := masterOf_setMaster_self ..
  have hempty : (masterOf (setMaster s m.val (masterOf s m.val)) m.val).slate = [] := (congrArg Master.slate hback).trans hslate
  have hmaster : masterOf (emitEdge (setMaster s m.val (masterOf s m.val)) m.val now) m.val =
      (masterOf s m.val).emptyEdge (tapsOf s m.val) := by
    rw [masterOf_emitEdge_no_entries hempty, hback]
    rfl
  have hnet (x : Nat) (hx : x ∈ tapsOf s m.val) : (tapOf (emitEdge (setMaster s m.val (masterOf s m.val)) m.val now) x).net =
      some (edgeMsg (((masterOf s m.val).count + 1) % 2 ^ 64) 0) := by
    rw [emitEdge_net_no_entries hempty now hx, hback]
  have hslate' : (masterOf (emitEdge (setMaster s m.val (masterOf s m.val)) m.val now) m.val).slate = [] := congrArg Master.slate hmaster
  show ∃ t, execTideEdge m now s = .next t ∧ _
  simp only [execTideEdge, hms, hheld, applyDue_no_entries hslate, missAwaited_none hslate hawait, endEntries_no_entries hslate, hslate']
  refine ⟨_, atDomain_running hrun, ?_⟩
  split <;> exact ⟨hmaster, hnet⟩

/-! ### A tap's own commands (R76, R83, R89) -/

/-- A tap that has taken the message of its next edge (R75, R76). -/
def Tap.received (x : Tap) (msg : BitVec 84) : Tap :=
  { x with net := none, count := (x.count + 1) % 2 ^ 64, recv := some ⟨(x.count + 1) % 2 ^ 64, bits msg.toNat 18 64⟩ }

/-- A tap that has stored an action (R83). -/
def Tap.storing (x : Tap) (e : Nat) (a : SlateAct) : Tap := { x with acts := tput x.acts e a }

/-- A tap that has discarded its actions and asked its master (R89). -/
def Tap.asking (x : Tap) : Tap := { x with asked := true, acts := [] }

/-- A tap that has loaded a count (R89). -/
def Tap.loaded (x : Tap) (count : Nat) : Tap :=
  { x with count := count, resync := false, asked := false, net := none, recv := none, acking := none }

/-- A tap whose acknowledgement has left it (R84). -/
def Tap.acked (x : Tap) : Tap := { x with acking := none }

/-- A command that sets a tap away from its reset value is read at that tap. -/
theorem answers_setTap {c : Instr} {u : State} {t : Nat} {v : Tap} {P : State → Prop} (h : exec c s = .next (setTap u t v))
    (hv : v ≠ Tap.init) (k : tapOf (setTap u t v) t = v → P (setTap u t v)) : Answers c s P :=
  ⟨_, h, k (tapOf_setTap_self hv u t)⟩

theorem tapEdgeReceive_next {t : TapId} {msg : BitVec 84} (hrun : running s (tapDomain t.val) = true) (hnet : (tapOf s t.val).net = some msg)
    (hpar : parityOk msg = true) (hkind : msg.toNat % 4 = 0) (hre : (tapOf s t.val).resync = false)
    (hc : bits msg.toNat 2 16 = ((tapOf s t.val).count + 1) % 2 ^ 16) :
    exec (.tapEdgeReceive t 0) s = .next (setTap s t.val ((tapOf s t.val).received msg)) := by
  show execTapEdgeReceive t 0 s = _
  simp [execTapEdgeReceive, hnet, hrun, hpar, hkind, hre, hc, Tap.received]

theorem tapArmAction_stores {t : TapId} {e : Idx64} {a : Slate} (hrun : running s (tapDomain t.val) = true) (hsrc : (tapOf s t.val).src ≤ 16)
    (ha : tfind (masterOf s (tapOf s t.val).src).slate e.val = some a) (ht : a.taps.contains t.val = true)
    (hst : a.stored.contains t.val = false) (hd : a.due = none) :
    exec (.tapArmAction t e) s = .next (setTap
      (setMaster s (tapOf s t.val).src { masterOf s (tapOf s t.val).src with
        slate := tput (masterOf s (tapOf s t.val).src).slate e.val { a with stored := t.val :: a.stored } })
      t.val ((tapOf s t.val).storing e.val a.act)) := by
  have hmay : (decide ((tapOf s t.val).src ≤ 16) && a.taps.contains t.val && !a.stored.contains t.val && a.due.isNone) = true := by
    simp only [hsrc, ht, hst, hd]
    rfl
  show execTapArmAction t e s = _
  simp only [execTapArmAction, ha, if_pos hmay]
  exact atDomain_running hrun

theorem tapResyncRequest_asks {t : TapId} (hrun : running s (tapDomain t.val) = true) (hre : (tapOf s t.val).resync = true)
    (hask : (tapOf s t.val).asked = false) :
    exec (.tapResyncRequest t) s = .next (setTap s t.val (tapOf s t.val).asking) :=
  (if_neg (by simp [hre, hask])).trans (atDomain_running hrun)

/-- A tap that has asked loads its master's count, whatever the state that edges have set makes of the rest. -/
theorem tapResyncLoad_loads {t : TapId} (hrun : running s (tapDomain t.val) = true) (hmr : running s 96 = true)
    (hre : (tapOf s t.val).resync = true) (hask : (tapOf s t.val).asked = true) (hms : (masterOf s (tapOf s t.val).src).running = true) :
    ∃ u, exec (.tapResyncLoad t) s = .next (setTap u t.val ((tapOf s t.val).loaded (masterOf s (tapOf s t.val).src).count)) :=
  ⟨_, (if_neg (by simp [hre, hask, hms, hmr])).trans (atDomain_running hrun)⟩

/-- The master's side of an acknowledgement leaves the taps as the tap's own side left them. -/
theorem tapAck_taps {t : TapId} {e : RecvEdge} (ns : Nat) (hrun : running s 96 = true) (hack : (tapOf s t.val).acking = some e)
    (hslew : slewWaits s t.val e = false) :
    Answers (.tapAck t ns) s fun u => u.tide.taps = (setTap s t.val (tapOf s t.val).acked).tide.taps := by
  have hlate (u : State) (m : Nat) : (countLate u m).tide = u.tide := (countLate_ext u m).same .tide rfl
  have hwake (u : State) (n : Nat) : (stackWakes u n).tide = u.tide := (stackWakes_ext u n).same .tide rfl
  show ∃ u, execTapAck t ns s = .next u ∧ _
  simp only [execTapAck, hack, hslew]
  refine ⟨_, atDomain_running hrun, ?_⟩
  rw [endEntries_taps, setMaster_taps, apply_ite State.tide, hlate, ite_self]
  split
  · exact congrArg TideSt.taps (hwake ..)
  · rfl

/-! ### Arming, resume and calibration (R73, R78, R83) -/

/-- The first arming that waits is the tide's own: it is tried again. -/
theorem slateArm_head {m : TideId} {r : ArmReq} {rest : List ArmReq} (hrun : running s 96 = true) (hq : s.tide.armReqs = r :: rest)
    (hm : r.tide = m.val) : exec (.slateArm m) s = .next (armEntry { s with tide := { s.tide with armReqs := rest } } r) := by
  show execSlateArm m s = _
  simp only [execSlateArm, hq, hm, List.find?_cons, BEq.rfl, List.erase_cons_head]
  exact atDomain_running hrun

/-- The masters as RESUME leaves them: none is held, and each counts FIO cycles (R73). -/
def resumed (s : State) : State :=
  { s with tide := { s.tide with masters := s.tide.masters.map fun e =>
    (e.1, { e.2 with held := false, period := fioPeriod s e.2.periodMr, newPeriod := none }) } }

theorem resumeTides_lost (h : flag s F.TD_STATUS_XA_LOST = true) :
    resumeTides s = setFlag (setFlag (resumed s) F.TD_STATUS_XA_LOST false) F.TD_STATUS_ON_FIO true :=
  if_neg (by simp [h])

theorem resumed_not_held : ∀ e ∈ (resumed s).tide.masters, e.2.held = false := by
  intro e he
  obtain ⟨x, -, rfl⟩ := List.mem_map.1 he
  rfl

theorem flag_setFlag_self (h : Regs.wf s = true) {f : Fld} (hw : f.w = 1) (b : Bool) : flag (setFlag s f b) f = b := by
  rw [flag, setFlag, fld_setFld_self h, hw]
  cases b <;> rfl

theorem flag_setFlag_ne {f g : Fld} (h : g.key ≠ f.key) (s : State) (b : Bool) : flag (setFlag s f b) g = flag s g := by
  rw [flag, flag, setFlag, fld_setFld_ne _ _ h]

/-- A calibration runs after the command, begun by it or before (R78). -/
theorem flag_startCal (s : State) : flag (startCal s) F.TD_STATUS_CAL_BUSY = true := by
  unfold startCal
  split
  case isTrue h => exact h
  case isFalse h =>
    have hread : fld (setFlag s F.TD_STATUS_CAL_BUSY true) F.TD_STATUS_CAL_BUSY = 1 :=
      tgetD_tsetD_of_ne s.flds F.TD_STATUS_CAL_BUSY.key 0 Nat.one_ne_zero
    rw [flag, hread]
    rfl

theorem calibrationDone_busy (ms : List CalMeas) (hrun : running s 94 = true) (hb : flag s F.TD_STATUS_CAL_BUSY = true) :
    exec (.calibrationDone ms) s = .next (if s.lc.boot = 8 then
      { endCal s ms with lc := { (endCal s ms).lc with boot := 9 } } else endCal s ms) :=
  (if_neg (by simp [hb])).trans (atDomain_running hrun)

/-- Settles O19: each command by the equation of what it does; the edge by the master it leaves and the message each tap gets, the
acknowledgement by the taps alone. -/
theorem tideCommandsComplete : Obligations.TideCommandsComplete := by
  refine ⟨?edge, ?receive, ?launch, ?ack, fun s m r rest hrun hq hm => slateArm_head hrun hq hm, ?store, ?request, ?load, ?resume,
    ?cal, ?calDone, ?boot⟩
  case edge =>
    intro s m now hrun hms hheld hslate hawait
    obtain ⟨t, ht, hm, hnet⟩ := tideEdge_no_entries now hrun hms hheld hslate hawait
    exact ⟨t, ht, congrArg Master.count hm, hnet⟩
  case receive =>
    intro s t msg hrun hnet hpar hkind hre hc
    refine answers_setTap (tapEdgeReceive_next hrun hnet hpar hkind hre hc) (fun e => nomatch congrArg Tap.recv e) fun hread => ?_
    rw [hread]
    exact ⟨rfl, rfl, rfl, (setTap_ext ..).only rfl⟩
  case launch =>
    intro s t now e hrun hrecv hre
    show execTapLaunch t now s = _
    simp only [execTapLaunch, hrecv, hre]
    exact atDomain_running hrun
  case ack =>
    intro s t ns e hrun hack hsrc hslew
    obtain ⟨u, hu, htaps⟩ := tapAck_taps ns hrun hack hslew
    have hne : (tapOf s t.val).acked ≠ Tap.init := Tap.ne_init_of_src hsrc
    exact ⟨u, hu, congrArg Tap.acking ((tapOf_congr htaps _).trans (tapOf_setTap_self hne ..))⟩
  case store =>
    intro s t e a hrun hsrc ha ht hst hd
    refine answers_setTap (tapArmAction_stores hrun hsrc ha ht hst hd) (Tap.ne_init_of_src hsrc) fun hread => ?_
    rw [hread]
    exact ⟨tfind_tput_self .., ((setMaster_ext ..).trans (setTap_ext ..)).only rfl⟩
  case request =>
    intro s t hrun hre hask
    refine answers_setTap (tapResyncRequest_asks hrun hre hask) (fun e => nomatch congrArg Tap.asked e) fun hread => ?_
    rw [hread]
    exact ⟨rfl, rfl, (setTap_ext ..).only rfl⟩
  case load =>
    intro s t hrun hmr hsrc hre hask hms
    obtain ⟨u, hu⟩ := tapResyncLoad_loads hrun hmr hre hask hms
    refine answers_setTap hu (Tap.ne_init_of_src hsrc) fun hread => ?_
    rw [hread]
    exact ⟨rfl, rfl, rfl⟩
  case resume =>
    intro s q hq hwf hlost
    have hwf' : Regs.wf (setFlag (resumed s) F.TD_STATUS_XA_LOST false) = true := (setFlag_ext ..).regs hwf
    refine ⟨resumeTides s, atFabric_manages hq _, ?_⟩
    rw [resumeTides_lost hlost]
    refine ⟨?_, flag_setFlag_self hwf' rfl true, resumed_not_held, resumeTides_lost hlost ▸ (resumeTides_ext s).only rfl⟩
    rw [flag_setFlag_ne (by decide)]
    exact flag_setFlag_self (s := resumed s) hwf rfl false
  case cal =>
    intro s q hq
    exact ⟨startCal s, atFabric_manages hq _, flag_startCal s, (startCal_ext s).only rfl⟩
  case calDone =>
    intro s ms hrun hb hboot
    rw [calibrationDone_busy ms hrun hb, if_neg hboot]
  case boot =>
    intro s ms hrun hb hboot
    exact ⟨_, calibrationDone_busy ms hrun hb, by rw [if_pos hboot]⟩

end Sys2Proof.Machine
end

section
/-!
Atomics: what they read and store of a line (R102).
-/
namespace Sys2Proof.Machine

/-! ### The bits of words and merges of a line (R2, R5) -/

/-- Byte enables widen to the bits of their bytes. -/
theorem getLsbD_byteMask (en : BitVec 64) {i : Nat} (hi : i < 512) : (byteMask en).getLsbD i = en.getLsbD (i / 8) := by
  have hbyte (n : Nat) : ((0xFF : Line) <<< (8 * n)).getLsbD i = decide (i / 8 = n) := by
    have hff : (0xFF : Line).getLsbD (i - 8 * n) = decide (i - 8 * n < 8) := by
      have h255 : Nat.testBit 255 (i - 8 * n) = decide (i - 8 * n < 8) := Nat.testBit_two_pow_sub_one 8 _
      rw [BitVec.ofNat_eq_ofNat, BitVec.getLsbD_ofNat, decide_eq_true (show i - 8 * n < 512 by omega), Bool.true_and]
      exact h255
    rw [BitVec.getLsbD_shiftLeft, hff, decide_eq_true hi, Bool.true_and, ← decide_not, ← Bool.decide_and]
    exact decide_eq_decide.2 (by omega)
  have hfold (n : Nat) : ((List.range n).foldl (fun m k => if en.getLsbD k then m ||| ((0xFF : Line) <<< (8 * k)) else m) 0).getLsbD i =
      (decide (i / 8 < n) && en.getLsbD (i / 8)) := by
    induction n with
    | zero => rw [List.range_zero, List.foldl_nil, BitVec.ofNat_eq_ofNat, BitVec.getLsbD_zero, decide_eq_false (Nat.not_lt_zero _), Bool.false_and]
    | succ n ih =>
      rw [List.range_succ, List.foldl_append, List.foldl_cons, List.foldl_nil, apply_ite (BitVec.getLsbD · i), BitVec.getLsbD_or, ih, hbyte]
      by_cases e : i / 8 = n
      · cases h : en.getLsbD n <;> simp [e, h]
      · simp [e, show i / 8 < n + 1 ↔ i / 8 < n by omega]
  unfold byteMask
  rw [hfold]
  simp [show i / 8 < 64 by omega]

theorem getLsbD_mergeLine (l new : Line) (en : BitVec 64) {i : Nat} (hi : i < 512) :
    (mergeLine l new en).getLsbD i = if en.getLsbD (i / 8) then new.getLsbD i else l.getLsbD i := by
  unfold mergeLine
  simp only [BitVec.getLsbD_or, BitVec.getLsbD_and, BitVec.getLsbD_not, getLsbD_byteMask en hi, hi]
  cases en.getLsbD (i / 8) <;> simp

theorem getLsbD_setLineWord (l : Line) (w : Nat) (v : Dword) {i : Nat} (hi : i < 512) :
    (setLineWord l w v).getLsbD i = if 64 * w ≤ i ∧ i < 64 * w + 64 then v.getLsbD (i - 64 * w) else l.getLsbD i := by
  unfold setLineWord
  simp only [BitVec.getLsbD_or, BitVec.getLsbD_and, BitVec.getLsbD_not, BitVec.getLsbD_shiftLeft, BitVec.getLsbD_setWidth,
    BitVec.getLsbD_allOnes, hi]
  by_cases hlo : i < 64 * w
  · simp [hlo, Nat.not_le.2 hlo]
  · by_cases hhi : i < 64 * w + 64
    · have hs : i - 64 * w < 64 := by omega
      simp [hlo, hhi, Nat.not_lt.1 hlo, hs, show i - 64 * w < 512 by omega]
    · have hs : ¬ i - 64 * w < 64 := by omega
      simp [hlo, hhi, hs, BitVec.getLsbD_of_ge v _ (Nat.not_lt.1 hs)]

/-- The byte enables of the narrow operand `idx`. -/
theorem getLsbD_enables_narrow {idx k : Nat} (hidx : idx < 16) : (enables (4 * idx) 4).getLsbD k = decide (4 * idx ≤ k ∧ k < 4 * idx + 4) := by
  unfold enables
  rw [BitVec.getLsbD_ofNat, Nat.testBit_mod_two_pow, Nat.testBit_shiftLeft, Nat.testBit_two_pow_sub_one, Bool.eq_iff_iff]
  simp only [Bool.and_eq_true, decide_eq_true_eq]
  omega

/-! ### The operand of an atomic -/

/-- Bits of an operand. -/
def atomWidth (wide : Bool) : Nat := if wide then 64 else 32

/-- The lowest bit of the operand `idx` in its line. -/
def atomBase (wide : Bool) (idx : Nat) : Nat := if wide then 64 * (idx / 2) else 32 * idx

theorem getLsbD_atomRead (l : Line) (wide : Bool) (idx k : Nat) :
    (atomRead l wide idx).getLsbD k = (decide (k < atomWidth wide) && l.getLsbD (atomBase wide idx + k)) := by
  cases wide with
  | true => exact BitVec.getLsbD_extractLsb' ..
  | false =>
    show ((l.extractLsb' (32 * idx) 32).setWidth 64).getLsbD k = _
    rw [BitVec.getLsbD_setWidth, BitVec.getLsbD_extractLsb', ← Bool.and_assoc]
    congr 1
    by_cases hk : k < 32
    · simp [hk, atomWidth, Nat.lt_trans hk]
    · simp [hk, atomWidth]

theorem getLsbD_atomCut (wide : Bool) (v : Dword) (k : Nat) :
    (atomCut wide v).getLsbD k = (decide (k < atomWidth wide) && v.getLsbD k) := by
  cases wide with
  | true =>
    show v.getLsbD k = _
    by_cases hk : k < 64
    · simp [hk, atomWidth]
    · simp [hk, atomWidth, BitVec.getLsbD_of_ge v k (Nat.not_lt.1 hk)]
  | false =>
    show ((v.setWidth 32).setWidth 64).getLsbD k = _
    rw [BitVec.getLsbD_setWidth, BitVec.getLsbD_setWidth, ← Bool.and_assoc]
    congr 1
    by_cases hk : k < 32
    · simp [hk, atomWidth, Nat.lt_trans hk]
    · simp [hk, atomWidth]

/-- An operand write changes the operand's bits alone. -/
theorem getLsbD_atomWrite (l : Line) (wide : Bool) {idx : Nat} (v : Dword) {k : Nat} (hidx : idx < 16) (hk : k < 512) :
    (atomWrite l wide idx v).getLsbD k =
      if atomBase wide idx ≤ k ∧ k < atomBase wide idx + atomWidth wide then v.getLsbD (k - atomBase wide idx) else l.getLsbD k := by
  cases wide with
  | true => exact getLsbD_setLineWord l (idx / 2) v hk
  | false =>
    show (mergeLine l ((v.setWidth 32).setWidth 512 <<< (32 * idx)) (enables (4 * idx) 4)).getLsbD k = _
    rw [getLsbD_mergeLine _ _ _ hk, getLsbD_enables_narrow hidx]
    have hplace : 4 * idx ≤ k / 8 ∧ k / 8 < 4 * idx + 4 ↔ 32 * idx ≤ k ∧ k < 32 * idx + 32 := by omega
    simp only [decide_eq_true_eq, hplace, atomBase, atomWidth]
    by_cases h : 32 * idx ≤ k ∧ k < 32 * idx + 32
    · obtain ⟨hlo, hhi⟩ := h
      have hs : k - 32 * idx < 32 := by omega
      simp [hlo, hhi, hk, Nat.not_lt.2 hlo, hs]
    · simp [h]

theorem atomBase_bound (wide : Bool) {idx k : Nat} (hidx : idx < 16) (hk : k < atomWidth wide) : atomBase wide idx + k < 512 := by
  cases wide <;> simp only [atomBase, atomWidth, Bool.false_eq_true, ↓reduceIte] at * <;> omega

theorem atomRead_atomWrite_self (l : Line) (wide : Bool) {idx : Nat} (v : Dword) (hidx : idx < 16) :
    atomRead (atomWrite l wide idx v) wide idx = atomCut wide v := by
  refine BitVec.eq_of_getLsbD_eq fun k _ => ?_
  rw [getLsbD_atomRead, getLsbD_atomCut]
  by_cases hk : k < atomWidth wide
  · rw [getLsbD_atomWrite l wide v hidx (atomBase_bound wide hidx hk), if_pos (by omega), Nat.add_sub_cancel_left]
  · simp [hk]

/-- A narrow operand outside the one written stays. -/
theorem atomRead_atomWrite_ne (l : Line) (wide : Bool) {idx j : Nat} (v : Dword) (hidx : idx < 16) (hj : j < 16)
    (h : if wide then j / 2 ≠ idx / 2 else j ≠ idx) : atomRead (atomWrite l wide idx v) false j = atomRead l false j := by
  refine BitVec.eq_of_getLsbD_eq fun k _ => ?_
  rw [getLsbD_atomRead, getLsbD_atomRead]
  by_cases hk : k < atomWidth false
  · rw [getLsbD_atomWrite l wide v hidx (atomBase_bound false hj hk), if_neg]
    cases wide <;> simp only [atomBase, atomWidth, Bool.false_eq_true, ↓reduceIte] at * <;> omega
  · simp [hk]

/-! ### The result of an atomic (R102) -/

theorem atomCut_atomRead (l : Line) (wide : Bool) (idx : Nat) : atomCut wide (atomRead l wide idx) = atomRead l wide idx := by
  refine BitVec.eq_of_getLsbD_eq fun k _ => ?_
  rw [getLsbD_atomCut, getLsbD_atomRead, ← Bool.and_assoc, Bool.and_self]

theorem atomCut_idem (wide : Bool) (v : Dword) : atomCut wide (atomCut wide v) = atomCut wide v := by
  refine BitVec.eq_of_getLsbD_eq fun k _ => ?_
  rw [getLsbD_atomCut, getLsbD_atomCut, ← Bool.and_assoc, Bool.and_self]

theorem atomCut_bitwise (wide : Bool) (a b : Dword) :
    atomCut wide (a &&& atomCut wide b) = atomCut wide (a &&& b) ∧ atomCut wide (a ||| atomCut wide b) = atomCut wide (a ||| b)
      ∧ atomCut wide (a ^^^ atomCut wide b) = atomCut wide (a ^^^ b) := by
  refine ⟨?_, ?_, ?_⟩ <;> refine BitVec.eq_of_getLsbD_eq fun k _ => ?_ <;>
    simp only [getLsbD_atomCut, BitVec.getLsbD_and, BitVec.getLsbD_or, BitVec.getLsbD_xor] <;>
    cases decide (k < atomWidth wide) <;> rfl

theorem atomCut_add (wide : Bool) (a b : Dword) : atomCut wide (a + atomCut wide b) = atomCut wide (a + b) := by
  cases wide with
  | true => rfl
  | false =>
    apply BitVec.eq_of_toNat_eq
    simp only [atomCut, Bool.false_eq_true, ↓reduceIte, BitVec.toNat_setWidth, BitVec.toNat_add]
    omega

/-- Settles O45: the operand is a range of the line's bits, and the bits outside it stay. -/
theorem atomicMeaning : Obligations.AtomicMeaning := by
  intro l op wide i x y
  refine ⟨rfl, ?_, fun j hj => ?_⟩
  · have hstored : atomRead (applyAccess l (.atomic op wide i x y)).1 wide i =
        atomCut wide (atomResult op (atomRead l wide i) (atomCut wide x) (atomCut wide y)) := atomRead_atomWrite_self l wide _ i.isLt
    obtain ⟨hand, hor, hxor⟩ := atomCut_bitwise wide (atomRead l wide i) x
    rw [hstored]
    cases op with
    | add => exact atomCut_add ..
    | swap => exact atomCut_idem ..
    | and => exact hand
    | or => exact hor
    | xor => exact hxor
    | cas | umin | umax =>
      simp only [atomResult]
      split
      · exact atomCut_idem ..
      · rfl
  · refine atomRead_atomWrite_ne l wide _ i.isLt j.isLt ?_
    cases wide with
    | true => exact hj
    | false => exact fun e => hj (Fin.ext e)

end Sys2Proof.Machine
end

section
/-!
The tidepool's written bits (R128).
-/
namespace Sys2Proof.Machine

/-! ### Stored words of a bank -/

theorem tpWord_setTp_self {s : State} (h : s.mem.tpw.sorted = true) (bank w : Nat) (v : TpWord) : tpWord (setTp s bank w v) bank w = v :=
  tgetD_tsetD_self h _ _ _

theorem tpWord_setTp_ne (s : State) (bank : Nat) {w x : Nat} (v : TpWord) (h : x ≠ w) : tpWord (setTp s bank w v) bank x = tpWord s bank x :=
  tgetD_tsetD_ne _ _ _ _ (by omega)

theorem tpw_sorted_of_wf {m : MemSt} (h : Memory.wf m = true) : m.tpw.sorted = true := by
  obtain ⟨-, -, htpw, -⟩ := (Memory.wf_iff m).1 h
  exact ((Tbl.wf_iff _ _).1 htpw).1

/-- Word `k` of a line stored with its code (R127). -/
def storeTpWord (bank line : Nat) (l : Line) (s : State) (k : Nat) : State :=
  setTp s bank (line * 8 + k) ⟨lineWord l k, wordCode (lineWord l k), false⟩

theorem storeTpWords_sorted {s : State} (h : s.mem.tpw.sorted = true) (bank line : Nat) (l : Line) (ks : List Nat) :
    (ks.foldl (storeTpWord bank line l) s).mem.tpw.sorted = true :=
  List.foldlRecOn (motive := fun t : State => t.mem.tpw.sorted = true) _ _ h fun _ ht _ _ => tsetD_sorted ht _ _ _

theorem tpWord_storeTpWords {s : State} (h : s.mem.tpw.sorted = true) (bank line : Nat) (l : Line) {n k : Nat} (hk : k < n) :
    tpWord ((List.range n).foldl (storeTpWord bank line l) s) bank (line * 8 + k) = ⟨lineWord l k, wordCode (lineWord l k), false⟩ := by
  induction n with
  | zero => exact absurd hk (Nat.not_lt_zero _)
  | succ n ih =>
    rw [List.range_succ, List.foldl_append, List.foldl_cons, List.foldl_nil]
    rcases Nat.lt_succ_iff_lt_or_eq.1 hk with hk | rfl
    · rw [storeTpWord, tpWord_setTp_ne _ _ _ (by omega), ih hk]
    · exact tpWord_setTp_self (storeTpWords_sorted h ..) _ _ _

/-- Storing a line stores each of its eight words with its code. -/
theorem tpWord_tpStore {s : State} (h : s.mem.tpw.sorted = true) (bank line : Nat) (l : Line) {k : Nat} (hk : k < 8) :
    tpWord (tpStore s bank line l fun _ => true) bank (line * 8 + k) = ⟨lineWord l k, wordCode (lineWord l k), false⟩ :=
  tpWord_storeTpWords h bank line l hk

theorem tpWord_setTpWritten (s : State) (bank line : Nat) (v : Bool) (b w : Nat) : tpWord (setTpWritten s bank line v) b w = tpWord s b w := rfl

theorem tpWrittenBit_setTpWritten (s : State) (bank line : Nat) : tpWrittenBit (setTpWritten s bank line true) bank line = true :=
  tgetD_tsetD_of_ne s.mem.tpWritten (bank * 4096 + line) false (d := false) (v := true) nofun

/-- The first write or atomic of a line: its bytes go into zeros, and the written bit is set (R128). -/
def firstTpWrite (s : State) (b line : Nat) (acc : Access) : State :=
  setTpWritten (tpStore s b line (applyAccess 0 acc).1 fun _ => true) b line true

theorem tpWrittenBit_firstTpWrite (s : State) (b line : Nat) (acc : Access) : tpWrittenBit (firstTpWrite s b line acc) b line = true :=
  tpWrittenBit_setTpWritten ..

theorem tpWord_firstTpWrite {s : State} (h : s.mem.tpw.sorted = true) (b line : Nat) (acc : Access) {k : Nat} (hk : k < 8) :
    tpWord (firstTpWrite s b line acc) b (line * 8 + k) =
      ⟨lineWord (applyAccess 0 acc).1 k, wordCode (lineWord (applyAccess 0 acc).1 k), false⟩ := by
  rw [firstTpWrite, tpWord_setTpWritten, tpWord_tpStore h b line _ hk]

/-- An access by the bank's owner or by management, which no fence stops, to a line without its written bit (R20, R55, R128). -/
theorem tpAccess_unwritten {s : State} {b o : Nat} {q : Req} (hown : q.tag = 16 ∨ ownerOf s kBank b = some q.tag)
    (hfence : q.tag < 16 → fenceOn s (resKey kBank b) = false) (hbit : tpWrittenBit s b (o / 64) = false) :
    (q.acc = .read → tpAccess s b o q = (some (.data 0), s))
    ∧ (q.acc ≠ .read → tpAccess s b o q = (some (applyAccess 0 q.acc).2, firstTpWrite s b (o / 64) q.acc)) := by
  have hown' : (q.tag != 16 && ownerOf s kBank b != some q.tag) = false := by
    rcases hown with h | h <;> simp [h]
  have hfence' : (decide (q.tag < 16) && fenceOn s (resKey kBank b)) = false := by
    by_cases h : q.tag < 16
    · simp [hfence h]
    · simp [h]
  unfold tpAccess
  simp only [hown', hfence', hbit]
  cases q.acc with
  | read => exact ⟨fun _ => rfl, fun h => absurd rfl h⟩
  | write | atomic => exact ⟨nofun, fun _ => rfl⟩

/-- Settles O46: an access to a line without its written bit applies to zeros, and a store writes all eight words of the line. -/
theorem tidepoolWrittenBits : Obligations.TidepoolWrittenBits := by
  intro s b o q hwf hown hfence hbit
  obtain ⟨hread, hwrite⟩ := tpAccess_unwritten hown hfence hbit
  refine ⟨hread, fun h => ⟨firstTpWrite s b (o / 64) q.acc, hwrite h, tpWrittenBit_firstTpWrite .., fun k hk => ?_⟩⟩
  rw [tpWord_firstTpWrite (tpw_sorted_of_wf hwf) b (o / 64) q.acc hk]

end Sys2Proof.Machine
end

section
/-!
The placement of data granules on the stacks (R97, R98).
-/
namespace Sys2Proof.Machine

section
variable {d g m o : Nat} (hg : g < 32 * d) (ho : o < 2 ^ 28)
include hg ho

/-- The stack data address of a byte names the row of its granule (R97). -/
theorem placeByte_row : (placeByte d g m o).2 / 2 ^ 28 = g % d := by
  have hh : g / d < 32 := Nat.div_lt_of_lt_mul (by omega)
  unfold placeByte
  dsimp only
  generalize g / d = h at hh ⊢
  generalize g % d = r
  split
  · show (2 ^ 28 * r + 2 ^ 23 * h + o / 2 ^ 11 / 32 * 2 ^ 11 + o % 2 ^ 11) / 2 ^ 28 = r
    omega
  · split
    · show (2 ^ 28 * r + 2 ^ 25 * (h % 8) + o / 2 ^ 11 / 8 * 2 ^ 11 + o % 2 ^ 11) / 2 ^ 28 = r
      omega
    · show (2 ^ 28 * r + o) / 2 ^ 28 = r
      omega

end

/-- A granule of mode 1 or 2 lies on the eight stacks of its own stack's octet (R97). -/
theorem placeByte_octet {d g m : Nat} (o : Nat) (hm : m ≠ 0) : (placeByte d g m o).1 / 8 = g / d / 8 := by
  unfold placeByte
  dsimp only
  rw [if_neg hm]
  split
  · show (8 * (g / d / 8) + (o / 2 ^ 11 + g / d) % 8) / 8 = g / d / 8
    omega
  · rfl

/-- Within a row, the placement under one mode gives the granule and the offset back (R97). -/
theorem placeByte_inj_of_row {d g₁ g₂ m o₁ o₂ : Nat} (hg₁ : g₁ < 32 * d) (hg₂ : g₂ < 32 * d) (ho₁ : o₁ < 2 ^ 28) (ho₂ : o₂ < 2 ^ 28)
    (hrow : g₁ % d = g₂ % d) (he : placeByte d g₁ m o₁ = placeByte d g₂ m o₂) : g₁ / d = g₂ / d ∧ o₁ = o₂ := by
  have hh₁ : g₁ / d < 32 := Nat.div_lt_of_lt_mul (by omega)
  have hh₂ : g₂ / d < 32 := Nat.div_lt_of_lt_mul (by omega)
  unfold placeByte at he
  dsimp only at he
  rw [hrow] at he
  generalize g₁ / d = h₁ at *
  generalize g₂ / d = h₂ at *
  split at he
  · obtain ⟨hstack, hsda⟩ := Prod.mk.inj he
    obtain rfl : h₁ = h₂ := by omega
    exact ⟨rfl, by omega⟩
  · split at he
    · obtain ⟨hstack, hsda⟩ := Prod.mk.inj he
      have hoct : h₁ / 8 = h₂ / 8 := by omega
      have hslot : h₁ % 8 = h₂ % 8 := by omega
      obtain rfl : h₁ = h₂ := by omega
      exact ⟨rfl, by omega⟩
    · obtain ⟨hstack, hsda⟩ := Prod.mk.inj he
      omega

/-- Settles O43: a place gives the row of its granule, the row and the octet give the mode, and the mode gives the granule and the offset. -/
theorem placementIsInjective : Obligations.PlacementIsInjective := by
  intro d g₁ m₁ o₁ g₂ m₂ o₂ _ hg₁ hg₂ ho₁ ho₂ _ _ hmode he
  have hrow : g₁ % d = g₂ % d := by rw [← placeByte_row hg₁ ho₁ (m := m₁), he, placeByte_row hg₂ ho₂]
  obtain ⟨hzero, hoctet⟩ := hmode hrow
  have hm : m₁ = m₂ := by
    by_cases h₁ : m₁ = 0
    · rw [h₁, hzero.1 h₁]
    · refine hoctet ?_
      rw [← placeByte_octet o₁ h₁, he, placeByte_octet o₂ (mt hzero.2 h₁)]
  subst hm
  obtain ⟨hh, ho⟩ := placeByte_inj_of_row hg₁ hg₂ ho₁ ho₂ hrow he
  refine ⟨?_, ho⟩
  rw [← Nat.div_add_mod g₁ d, hh, hrow, Nat.div_add_mod]

end Sys2Proof.Machine
end

section
/-!
Accesses that their controllers or banks perform, and transfers that are issued (R101, R102, R118–R127, R275–R282).
-/
namespace Sys2Proof.Machine

/-! ### A picked transfer is performed (R101) -/

section
variable {s : State} {id : Nat} {x : Xfer} {tp : Bool}

/-- A transfer of the command's kind that its controller or bank may pick is performed. -/
theorem performXfer_picked (h : Picks s id x tp) (link : Bool) {kind : Access → Bool} (hk : kind x.acc = true) :
    performXfer s id link kind tp = .next (serveXfer s link id x) := by
  obtain ⟨hx, hst, hpick, htp, hrun⟩ := h
  have hmay : (x.stage == .waiting && kind x.acc && inTidepool s x.fpa == tp && mayPick s x) = true := by
    simp [hst, hk, htp, hpick]
  unfold performXfer
  rw [hx]
  exact (if_pos hmay).trans (atDomain_running hrun)

theorem isAtom_of_eq {op : AtomOp} {a : Access} {wide : Bool} {i : Fin 16} {u v : Dword} (h : a = .atomic op wide i u v) :
    isAtom op a = true := by
  subst h
  exact beq_self_eq_true op

end

/-! ### A scrub visit (R127) -/

theorem tpCheck_corrected {s : State} {b w n : Nat} {d : Dword} {c : Nat} (hp : (tpWord s b w).poison = false)
    (hd : decodeWord (tpWord s b w).data (tpWord s b w).code = .corrected d c n) :
    (tpCheck s b w).2 = setTp (incCove (lbAdd (incCtr s C.SC_TP_CE) 10 1) (ownerOf s kBank b) C.SC_CV_CE) b w ⟨d, c, false⟩ := by
  simp [tpCheck, hp, hd]

/-- A corrected word is stored in its place (R127). -/
theorem tpWord_tpCheck_corrected {s : State} {b w n : Nat} {d : Dword} {c : Nat} (hs : s.mem.tpw.sorted = true)
    (hp : (tpWord s b w).poison = false) (hd : decodeWord (tpWord s b w).data (tpWord s b w).code = .corrected d c n) :
    tpWord (tpCheck s b w).2 b w = ⟨d, c, false⟩ := by
  have hcount : Ext 1026 s (incCove (lbAdd (incCtr s C.SC_TP_CE) 10 1) (ownerOf s kBank b) C.SC_CV_CE) :=
    (incCove_ext ..).after rfl <| (lbAdd_ext ..).after rfl <| (incCtr_ext ..).mono rfl
  have hmem : (incCove (lbAdd (incCtr s C.SC_TP_CE) 10 1) (ownerOf s kBank b) C.SC_CV_CE).mem = s.mem := hcount.same .mem rfl
  rw [tpCheck_corrected hp hd]
  exact tpWord_setTp_self (by rw [hmem]; exact hs) _ _ _

/-! ### A transfer is issued (R275, R278, R279) -/

/-- A transfer with its class and urgency, in its place among those that wait. -/
def Xfer.arrived (x : Xfer) (cls urg order : Nat) : Xfer := { x with cls := cls, urg := urg, order := order, stage := .waiting }

theorem tfind_arrive (s : State) (id : Nat) (x : Xfer) (cls urg : Nat) :
    tfind (arrive s id x cls urg).xl.xfers id = some (x.arrived cls urg s.xl.nextOrder) := tfind_tput_self _ _ _

theorem decodeFpa_ne_tidepool {s : State} {fpa : Nat} (h : inTidepool s fpa = false) (b o : Nat) : decodeFpa s fpa ≠ .tidepool b o := by
  intro e
  simp [inTidepool, e] at h

/-- An issue with a slot, mesh credit and regulator credit arrives at its controller; of the fields, PEAK alone may change besides. -/
theorem issueXfer_xl {s s1 : State} (id : Nat) {x : Xfer} (htp : inTidepool s x.fpa = false)
    (hslot : (((queueAt s x.fpa).map (·.1)).map (slotsUsed s)).getD 0 < 2048) (hc : chargeUnit s x.src = some s1) :
    (issueXfer s true id x).xl = (arrive s1 id x (classOf s x.src).1 (classOf s x.src).2).xl := by
  unfold issueXfer
  dsimp only
  split
  case h_1 b o hd => exact absurd hd (decodeFpa_ne_tidepool htp b o)
  case h_2 =>
    rw [if_neg (by simpa using hslot), hc]
    dsimp only
    split
    · split
      · rfl
      · rfl
    · rfl

theorem execTransferIssue_ready {s : State} {id : Nat} {x : Xfer} (hrun : running s (unitDomain x.src) = true)
    (hx : tfind s.xl.xfers id = some x) (hst : x.stage = .ready) (hcl : x.client = none) (mesh : Bool) :
    exec (.transferIssue (.xfer id mesh)) s = .next (issueXfer s mesh id x) := by
  show execTransferIssue (.xfer id mesh) s = _
  simp only [execTransferIssue, hx, hst, hcl]
  exact atDomain_running hrun

/-- Settles O12: a command of an access performs the transfer that its controller or bank picks; a scrub visit stores the corrected word; and
an issue with credit arrives. -/
theorem accessCommandsComplete : Obligations.AccessCommandsComplete := by
  refine ⟨fun s id x h => ⟨fun link ha => ?_, fun ha => performXfer_picked h false ha, fun link ha => performXfer_picked h link ha,
    fun wide i a b => ?_⟩, fun s id x h => ⟨fun ha => ?_, fun ha => ?_⟩, fun s b w d c n hrun hs hp hd => ?_,
    fun s id x s1 hrun hx hst hcl htp hslot hc => ?_⟩
  · exact performXfer_picked h link (by rw [ha]; rfl)
  · have hatom (op : AtomOp) (ha : x.acc = .atomic op wide i a b) : performXfer s id false (isAtom op) false = .next (serveXfer s false id x) :=
      performXfer_picked h false (isAtom_of_eq ha)
    exact ⟨hatom .add, hatom .swap, hatom .cas, hatom .umin, hatom .umax, hatom .and, hatom .or, hatom .xor⟩
  · exact performXfer_picked h false (by rw [ha]; rfl)
  · exact performXfer_picked (kind := fun a => a != .read) h false (bne_iff_ne.2 ha)
  · exact ⟨_, atDomain_running hrun, tpWord_tpCheck_corrected hs hp hd⟩
  · refine ⟨_, execTransferIssue_ready hrun hx hst hcl true, ?_⟩
    have hs1 : s1.xl = s.xl := ((chargeUnit_keeps s x.src).of s1 hc).same .xl rfl
    show tfind (issueXfer s true id x).xl.xfers id = _
    rw [issueXfer_xl id htp hslot hc, tfind_arrive, hs1]
    rfl

end Sys2Proof.Machine
end

section
/-!
Slack: its causes, its waves, self-refresh and the release (R103, R367–R370).
-/
namespace Sys2Proof.Machine

/-! ### Fields set to another value than their reset value -/

/-- A value that is not the reset value is read back, whatever the table holds. -/
theorem fld_setFld_of_ne_rst {f : Fld} {v : Nat} (hv : v < 2 ^ f.w) (hr : v ≠ f.rst) (s : State) : fld (setFld s f v) f = v := by
  have hmod : v % 2 ^ f.w = v := Nat.mod_eq_of_lt hv
  rw [setFld, hmod]
  exact tgetD_tsetD_of_ne _ _ _ hr

theorem flag_setFlag_true {f : Fld} (hw : f.w = 1) (hr : f.rst = 0) (s : State) : flag (setFlag s f true) f = true := by
  have hread : fld (setFlag s f true) f = 1 := fld_setFld_of_ne_rst (by rw [hw]; decide) (by rw [hr]; decide) s
  rw [flag, hread]
  rfl

theorem flag_congr {s t : State} {f : Fld} (h : fld t f = fld s f) : flag t f = flag s f := by rw [flag, flag, h]

theorem fld_foldl_of_step {α : Type} {g : State → α → State} {f : Fld} (h : ∀ t a, fld (g t a) f = fld t f) (l : List α) (s : State) :
    fld (l.foldl g s) f = fld s f :=
  List.foldlRecOn (motive := fun t => fld t f = fld s f) _ _ rfl fun t ht a _ => (h t a).trans ht

/-! ### Domains without a clock are noted (R372) -/

section
variable {f : Fld} (hf : f.key < (F.SL_LAST_STOP_DEAD 0).key)
include hf

theorem stopDead_key_ne (i : Nat) : f.key ≠ (F.SL_LAST_STOP_DEAD i).key := by
  unfold Fld.key at *
  dsimp only at *
  omega

/-- Noting the domains without a clock leaves the fields below its record. -/
theorem fld_noteDead (s : State) (w : Nat) : fld (noteDead s w) f = fld s f := by
  refine fld_foldl_of_step (fun t d => ?_) _ _
  dsimp only
  split
  · rfl
  · exact fld_setFld_ne _ _ (stopDead_key_ne hf _)

theorem fld_maybeWaveC (s0 s1 : State) : fld (maybeWaveC s0 s1) f = fld s1 f := by
  unfold maybeWaveC
  split
  · exact fld_noteDead hf s1 3
  · rfl

/-! ### T0 (R368) -/

/-- What T0 writes of the fields below its record is the status; SR_MISS is cleared. -/
theorem fld_beginFreeze (hm : f.key ≠ (F.SL_LAST_SR_MISS).key) (s : State) :
    fld (beginFreeze s) f = fld (setFld (setFlag s F.SL_STATUS_STOPPING true) F.SL_STATUS_WAVE 1) f := by
  unfold beginFreeze
  dsimp only
  rw [fld_noteDead hf, fld_foldl_of_step fun t w => fld_setFld_ne _ _ (stopDead_key_ne hf w)]
  exact fld_setFld_ne _ _ hm

end

theorem beginFreeze_lc (s : State) : (beginFreeze s).lc = { s.lc with sr := [], srDue := false } := by
  have hnote (t : State) : (noteDead t 1).lc = t.lc := (noteDead_ext t 1).same .life rfl
  exact hnote _

theorem slackT0_begins {s : State} (hc : slackCauses s ≠ 0) (ho : slackOn s = false) (hr : s.lc.inReset = false) :
    exec .slackT0 s = .next (beginFreeze s) := by
  show execSlackT0 s = _
  simp [execSlackT0, hc, ho, hr]

/-! ### A wave has stopped (R368) -/

theorem thas_tput {α : Type} (t : Tbl α) (k j : Nat) (v : α) : thas (tput t k v) j = (decide (j = k) || thas t j) := by
  unfold thas
  by_cases h : j = k
  · subst h
    simp [tfind_tput_self]
  · simp [tfind_tput_ne t v h, h]

/-- The domains gated one after another are all gated. -/
theorem thas_foldl_tput {α : Type} (v : α) (l : List Nat) (t : Tbl α) (j : Nat) :
    thas (l.foldl (fun t d => tput t d v) t) j = (decide (j ∈ l) || thas t j) := by
  induction l generalizing t with
  | nil => simp
  | cons d l ih =>
    rw [List.foldl_cons, ih, thas_tput]
    simp only [List.mem_cons, Bool.decide_or]
    ac_rfl

/-- The state with the domains of a wave gated. -/
def gateWave (s : State) (w : Nat) : State :=
  { s with lc := { s.lc with stopped := (waveDoms w).foldl (fun t d => tput t d true) s.lc.stopped } }

theorem slackWaveStopped_next {s : State} (fio : Nat) (hs : flag s F.SL_STATUS_STOPPING = true)
    (hc : fld s F.SL_STATUS_WAVE = 3 → waveCReady s = true) :
    exec (.slackWaveStopped fio) s = .next (nextWave (gateWave s (fld s F.SL_STATUS_WAVE)) (fld s F.SL_STATUS_WAVE) fio) := by
  have hgo : ¬ (!flag s F.SL_STATUS_STOPPING || (decide (fld s F.SL_STATUS_WAVE = 3) && !waveCReady s)) = true := by
    by_cases h3 : fld s F.SL_STATUS_WAVE = 3
    · simp [hs, hc h3]
    · simp [hs, h3]
  exact if_neg hgo

theorem nextWave_stopped {s : State} {w d : Nat} (fio : Nat) (hd : d ∈ waveDoms w) :
    thas (nextWave (gateWave s w) w fio).lc.stopped d = true := by
  have hlc : (nextWave (gateWave s w) w fio).lc = (gateWave s w).lc := (nextWave_ext ..).same .life rfl
  rw [hlc]
  exact (thas_foldl_tput ..).trans (by simp [hd])

theorem flag_nextWave_frozen (s : State) (fio : Nat) : flag (nextWave s 5 fio) F.SL_STATUS_FROZEN = true := by
  show flag (frozen s fio) _ = true
  refine (flag_congr ?_).trans (flag_setFlag_true rfl rfl (setFlag s F.SL_STATUS_STOPPING false))
  unfold frozen
  dsimp only
  rw [(incCtr_ext ..).fld_eq rfl, fld_setFld_ne _ _ (by decide), fld_setFld_ne _ _ (by decide), fld_setFld_ne _ _ (by decide),
    fld_setFld_ne _ _ (by decide)]

/-- After a wave before E the next one counts, whether or not it begins yet. -/
theorem fld_nextWave {w : Nat} (hw : w < 5) (s : State) (fio : Nat) : fld (nextWave s w fio) F.SL_STATUS_WAVE = w + 1 := by
  have hset : fld (setFld s F.SL_STATUS_WAVE (w + 1)) F.SL_STATUS_WAVE = w + 1 :=
    fld_setFld_of_ne_rst (by show w + 1 < 2 ^ 3; omega) (Nat.succ_ne_zero w) s
  unfold nextWave
  rw [if_neg (by omega)]
  dsimp only
  split
  · exact hset
  · rw [fld_noteDead (by decide), hset]

/-! ### Self-refresh and its deadline (R103, R368) -/

theorem selfRefreshEntered_enters {s : State} {n : StackId} (hs : flag s F.SL_STATUS_STOPPING = true)
    (ht : flag s (F.SC_STATUS_TRAINED n.val) = true) (hsr : s.lc.sr.contains n.val = false) (hl : s.ck.lost.contains n.val = false)
    (hr : running s n.val = true) (hc : srcRuns s (domNow s n.val).src = true) :
    exec (.selfRefreshEntered n) s = .next (maybeWaveC s
      (setFlag { s with lc := { s.lc with sr := s.lc.sr ++ [n.val] } } (F.SC_STATUS_SELF_REFRESH n.val) true)) :=
  if_neg (by simp only [hs, ht, hsr, hl, hr, hc]; decide)

theorem selfRefresh_key_lt (n : StackId) : (F.SC_STATUS_SELF_REFRESH n.val).key < (F.SL_LAST_STOP_DEAD 0).key := by
  unfold Fld.key
  dsimp only
  omega

/-- Stack `n` is noted as out of self-refresh at the deadline: its contents are lost and SR_MISS is set. -/
def Missed (s : State) (n : Nat) : Prop := s.ck.lost.contains n = true ∧ flag s F.SL_LAST_SR_MISS = true

theorem fld_srMiss {f : Fld} (hf : f.key ≠ (F.SL_LAST_SR_MISS).key) (s : State) (k : Nat) : fld (srMiss s k) f = fld s f := by
  unfold srMiss
  split
  · rfl
  · exact fld_setFld_ne _ _ hf

theorem srMiss_missed {s : State} {n : Nat} (ht : flag s (F.SC_STATUS_TRAINED n) = true) (hsr : s.lc.sr.contains n = false) :
    Missed (srMiss s n) n := by
  unfold srMiss
  rw [if_neg (by simp only [ht, hsr]; decide)]
  refine ⟨?_, flag_setFlag_true rfl rfl _⟩
  show (if s.ck.lost.contains n then s.ck.lost else s.ck.lost ++ [n]).contains n = true
  split
  · assumption
  · simp

theorem Missed.srMiss {s : State} {n : Nat} (h : Missed s n) (k : Nat) : Missed (srMiss s k) n := by
  obtain ⟨hlost, hmiss⟩ := h
  unfold Machine.srMiss
  split
  · exact ⟨hlost, hmiss⟩
  · refine ⟨?_, flag_setFlag_true rfl rfl _⟩
    show (if s.ck.lost.contains k then s.ck.lost else s.ck.lost ++ [k]).contains n = true
    split
    · exact hlost
    · rw [List.contains_iff_mem] at hlost ⊢
      exact List.mem_append_left _ hlost

/-- Of the stacks looked at, each that is trained and out of self-refresh is noted. -/
theorem foldl_srMiss_missed {l : List Nat} {n : Nat} (hn : n ∈ l) {s : State} (ht : flag s (F.SC_STATUS_TRAINED n) = true)
    (hsr : s.lc.sr.contains n = false) : Missed (l.foldl srMiss s) n := by
  induction l generalizing s with
  | nil => exact absurd hn List.not_mem_nil
  | cons k l ih =>
    rcases List.mem_cons.1 hn with rfl | hn
    · rw [List.foldl_cons]
      exact List.foldlRecOn (motive := fun t => Missed t n) _ _ (srMiss_missed ht hsr) fun t h k _ => h.srMiss k
    · have hkey : (F.SC_STATUS_TRAINED n).key ≠ (F.SL_LAST_SR_MISS).key := by
        unfold Fld.key
        dsimp only
        omega
      have hlc : (srMiss s k).lc = s.lc := (srMiss_ext s k).same .life rfl
      exact ih hn ((flag_congr (fld_srMiss hkey s k)).trans ht) (by rw [hlc]; exact hsr)

theorem Missed.maybeWaveC {s : State} {n : Nat} (h : Missed s n) (s0 : State) : Missed (maybeWaveC s0 s) n := by
  have hck : (Machine.maybeWaveC s0 s).ck = s.ck := (maybeWaveC_ext s0 s).same .clocks rfl
  exact ⟨by rw [hck]; exact h.1, (flag_congr (fld_maybeWaveC (by decide) s0 s)).trans h.2⟩

/-- The deadline passed: every stack is looked at. -/
def passDeadline (s : State) : State := (List.range 32).foldl srMiss { s with lc := { s.lc with srDue := true } }

theorem passDeadline_missed {s : State} {n : Nat} (hn : n < 32) (ht : flag s (F.SC_STATUS_TRAINED n) = true)
    (hsr : s.lc.sr.contains n = false) : Missed (passDeadline s) n := by
  have hn : n ∈ List.range 32 := List.mem_range.2 hn
  unfold passDeadline
  generalize List.range 32 = l at hn ⊢
  exact foldl_srMiss_missed hn ht hsr

theorem passDeadline_lc (s : State) : (passDeadline s).lc = { s.lc with srDue := true } :=
  List.foldlRecOn (motive := fun t : State => t.lc = { s.lc with srDue := true }) _ _ rfl fun t ht k _ =>
    ((srMiss_ext t k).same .life rfl : (srMiss t k).lc = t.lc).trans ht

theorem slackSrDeadline_passes {s : State} (hs : flag s F.SL_STATUS_STOPPING = true) (hd : s.lc.srDue = false) :
    exec .slackSrDeadline s = .next (maybeWaveC s (passDeadline s)) :=
  if_neg (by simp [hs, hd])

/-! ### The release (R370) -/

theorem slackRelease_resumes {s : State} (hf : flag s F.SL_STATUS_FROZEN = true) (hc : slackCauses s = 0)
    (hw : s.lc.want.contains .slack = false) (hn : s.lc.noted.contains .slack = false) (hr : releaseResumes s = true) :
    exec .slackRelease s = .next (resumeFreeze s) := by
  have hgo : ¬ (!flag s F.SL_STATUS_FROZEN || slackCauses s != 0 || s.lc.want.contains .slack || s.lc.noted.contains .slack) = true := by
    simp only [hf, hc, hw, hn]
    decide
  exact (if_neg hgo).trans (if_pos hr)

/-- Settles O5: each command by the equation of what it does. -/
theorem slackCommandsComplete : Obligations.SlackCommandsComplete := by
  refine ⟨?freeze, ?assert, ?deassert, ?t0, ?wave, ?enter, ?deadline, fun s hf hc hw hn hr => slackRelease_resumes hf hc hw hn hr⟩
  case freeze =>
    intro s q v hq hr hv
    show atFabric s q (if bit v.toNat 0 then setHold s true else s) = _
    rw [atFabric_manages hq, if_pos hv, setHold, hr]
    rfl
  case assert =>
    intro s hr
    show execSlackNAssert s = _
    rw [execSlackNAssert, hr]
    rfl
  case deassert =>
    intro s hr
    show execSlackNDeassert s = _
    rw [execSlackNDeassert, hr]
    rfl
  case t0 =>
    intro s hc ho hr
    have hlc := beginFreeze_lc s
    refine ⟨beginFreeze s, slackT0_begins hc ho hr, ?_, ?_, congrArg LcSt.sr hlc, congrArg LcSt.srDue hlc⟩
    · refine (flag_congr ?_).trans (flag_setFlag_true rfl rfl s)
      rw [fld_beginFreeze (by decide) (by decide), fld_setFld_ne _ _ (by decide)]
    · rw [fld_beginFreeze (by decide) (by decide)]
      exact fld_setFld_of_ne_rst (by decide) (by decide) _
  case wave =>
    intro s fio hs hc
    refine ⟨_, slackWaveStopped_next fio hs hc, fun d hd => nextWave_stopped fio hd, fun h5 => ?_, fun hw => fld_nextWave hw _ fio⟩
    rw [h5]
    exact flag_nextWave_frozen _ fio
  case enter =>
    intro s n hs ht hsr hl hr hc
    refine ⟨_, selfRefreshEntered_enters hs ht hsr hl hr hc, ?_, ?_⟩
    · exact congrArg LcSt.sr ((maybeWaveC_ext ..).same .life rfl : _ = _)
    · exact (flag_congr (fld_maybeWaveC (selfRefresh_key_lt n) ..)).trans (flag_setFlag_true rfl rfl _)
  case deadline =>
    intro s hs hd
    refine ⟨_, slackSrDeadline_passes hs hd, ?_, fun n hn ht hsr => ?_⟩
    · have hlc : (maybeWaveC s (passDeadline s)).lc = (passDeadline s).lc := (maybeWaveC_ext ..).same .life rfl
      exact congrArg LcSt.srDue (hlc.trans (passDeadline_lc s))
    · exact (passDeadline_missed hn ht hsr).maybeWaveC s

end Sys2Proof.Machine
end

section
/-!
Start-up: the boot ROM, steps 3 to 7, the verify of a returned part, and the logbook (R104, R324, R334, R335, R351, R355, R356, R362).
-/
namespace Sys2Proof.Machine

/-! ### The boot ROM (R324) -/

theorem bootRomDone_boots {s : State} (a b : List Byte) (hst : atStep s 2 = true) (hrun : running s 94 = true) :
    exec (.bootRomDone a b) s = .next (bootRom s a b) :=
  (if_neg (by simp [hst])).trans (atDomain_running hrun)

/-- A booted image goes on with step 3 and shows FW_OK (R324). -/
theorem flag_bootImage (s : State) (x : FwImage) : flag (bootImage s x) F.FAB_SEC_STATUS_FW_OK = true := by
  refine (flag_congr ?_).trans (flag_setFlag_true rfl rfl (deriveKey s))
  exact (fld_setFld_ne _ _ (by decide)).trans (fld_setFld_ne _ _ (by decide))

/-! ### Steps 3 to 7 (R104, R334) -/

theorem xaStrapCheck_passes {s : State} {khz : Nat} (xb : Bool) (hst : atStep s 3 = true) (hrun : running s 94 = true)
    (he : flag s F.CK_STATUS_STRAP_ERR = false) (hok : strapOk s khz = true) :
    exec (.xaStrapCheck khz xb) s = .next (toStep (setFlag (setFlag s F.CK_STATUS_XA_OK true) F.CK_STATUS_XB_OK xb) 4) :=
  (if_neg (by simp [hst, he])).trans ((if_pos hok).trans (atDomain_running hrun))

theorem vbootSetDone_starts {s : State} (hst : atStep s 4 = true) (hrun : running s 94 = true) :
    exec .vbootSetDone s = .next (toStep (startAllLoops ((List.range 6).foldl toVboot s)) 5) :=
  (if_neg (by simp [hst])).trans (atDomain_running hrun)

theorem fld_toStep (s : State) (n : Nat) (f : Fld) : fld (toStep s n) f = fld s f := rfl

theorem toStep_boot (s : State) (n : Nat) : (toStep s n).lc.boot = n := rfl

theorem domNow_toStep (s : State) (n d : Nat) : domNow (toStep s n) d = domNow s d := rfl

theorem toStep_mem (s : State) (n : Nat) : (toStep s n).mem = s.mem := rfl

theorem fld_startAllLoops (s : State) : fld (startAllLoops s) F.CK_STATUS_EN = 0x3F := by
  have hset : fld (setFld s F.CK_STATUS_EN 0x3F) F.CK_STATUS_EN = 0x3F := fld_setFld_of_ne_rst (by decide) (by decide) s
  unfold startAllLoops
  exact hset

theorem domNow_setDom_self (s : State) (d : Nat) (x : DomNow) : domNow (setDom s d x) d = x := by
  simp [domNow, setDom, tgetD, tfind_tput_self]

theorem domNow_setDom_ne (s : State) {d e : Nat} (x : DomNow) (h : e ≠ d) : domNow (setDom s d x) e = domNow s e := by
  simp [domNow, setDom, tgetD, tfind_tput_ne _ _ h]

/-- Each domain set in turn runs from the clock that was given for it. -/
theorem domNow_foldl_setDom (v : Nat → DomNow) {l : List Nat} {d : Nat} (hd : d ∈ l) (s : State) :
    domNow (l.foldl (fun s d => setDom s d (v d)) s) d = v d := by
  induction l generalizing s with
  | nil => exact absurd hd List.not_mem_nil
  | cons e l ih =>
    by_cases h : d ∈ l
    · exact ih h _
    · obtain rfl : d = e := (List.mem_cons.1 hd).resolve_right h
      rw [List.foldl_cons]
      refine List.foldlRecOn (motive := fun t => domNow t d = v d) _ _ (domNow_setDom_self ..) fun t ht e he => ?_
      have hne : d ≠ e := fun hde => h (by rw [hde]; exact he)
      rw [domNow_setDom_ne _ _ hne, ht]

theorem startupDomainsSwitched_switches {s : State} (hst : atStep s 5 = true) (hrun : running s 94 = true)
    (hl : fld s F.CK_STATUS_LOCK = 0x3F) :
    exec .startupDomainsSwitched s =
      .next (toStep (allDoms.foldl (fun s d => setDom s d ⟨(startDom d).1, (startDom d).2, false, none⟩) s) 7) :=
  (if_neg (by simp [hst, hl])).trans (atDomain_running hrun)

theorem stackTrainingDone_ready {s : State} (tr : BitVec 32) (big : Bool) (hst : atStep s 7 = true) (hrun : running s 94 = true) :
    exec (.stackTrainingDone tr big) s = .next (toStep (startCal (stacksReady s tr.toNat big)) 8) :=
  (if_neg (by simp [hst])).trans (atDomain_running hrun)

/-- Trained stacks hold zeros (R104). -/
theorem stacksReady_mem (s : State) (trained : Nat) (big : Bool) : (stacksReady s trained big).mem = (zeroStacks s).mem := by
  have hinit : Ext 1 (zeroStacks s) ((List.range 32).foldl (initStack trained) (zeroStacks s)) := .fold (initStack_ext trained) (.refl _ _)
  have hmem : ((List.range 32).foldl (initStack trained) (zeroStacks s)).mem = (zeroStacks s).mem := hinit.same .mem rfl
  simp only [stacksReady, setFlag_mem, setFld_mem, hmem]

theorem flag_stacksReady (s : State) (trained : Nat) (big : Bool) : flag (stacksReady s trained big) F.FAB_CONFIG_READY = true := by
  unfold stacksReady
  exact flag_setFlag_true rfl rfl _

theorem startCal_mem (s : State) : (startCal s).mem = s.mem := (startCal_ext s).same .mem rfl

theorem fld_startCal {f : Fld} (hf : f.key ≠ F.TD_STATUS_CAL_BUSY.key) (s : State) : fld (startCal s) f = fld s f := by
  unfold startCal
  split
  · rfl
  · exact fld_setFld_ne _ _ hf

theorem returnedScrubVerify_clean {s : State} (hrun : running s 94 = true) (hlc : fld s F.LC_STATE_STATE = 3)
    (hr : flag s F.FAB_CONFIG_READY = true) (hs : flag s F.LC_STATUS_SCRUBBED = false) (hv : flag s F.LC_STATUS_VERIFY_ERR = false)
    (hl : s.mem.lines = []) (hm : s.mem.mdc = []) :
    exec (.returnedScrubVerify true) s = .next (setFlag s F.LC_STATUS_SCRUBBED true) :=
  (if_neg (by simp [hlc, hr, hs, hv])).trans ((if_pos (by simp [hl, hm])).trans (atDomain_running hrun))

/-! ### A request of a logbook entry leaves the other fields (R354) -/

section
variable {f : Fld} (hbusy : f.key ≠ F.LB_STATUS_BUSY.key) (hworn : f.key ≠ F.LB_STATUS_WORN.key)
  (hnotgt : f.key ≠ F.BC_STATUS_NOTGT.key) (hstrand : f.key ≠ F.BC_STATUS_STRAND.key)
include hbusy hworn hnotgt hstrand

theorem fld_eraseNext (s : State) (kind : Nat) : fld (eraseNext s kind) f = fld s f := by
  unfold eraseNext lbWorn
  split
  · rfl
  · rw [fld_raiseSrc hnotgt hstrand (by decide), setFlag, setFlag, fld_setFld_ne _ _ hbusy, fld_setFld_ne _ _ hworn]
    rfl

theorem fld_lbRequest (s : State) (kind : Nat) : fld (lbRequest s kind) f = fld s f := by
  have hb (t : State) : fld (setFlag t F.LB_STATUS_BUSY true) f = fld t f := fld_setFld_ne _ _ hbusy
  have he (t : State) (k : Nat) : fld (eraseNext t k) f = fld t f := fld_eraseNext hbusy hworn hnotgt hstrand t k
  unfold lbRequest lbStart
  dsimp only
  split
  · rfl
  · split
    · split
      · rfl
      · split
        · exact ((programEntry_ext ..).fld_eq rfl f).trans (hb _)
        · split
          · exact (he _ _).trans (hb _)
          · exact (he _ _).trans (hb _)
    · rfl

end

/-! ### Counters go on from an entry (R355) -/

theorem ctr_setCtr_ne (s : State) (v : Nat) {k j : Nat} (h : j ≠ k) : ctr (setCtr s k v) j = ctr s j := tgetD_tsetD_ne _ _ _ _ h

theorem ctr_setCtr_self {s : State} (h : Regs.wf s = true) (k v : Nat) : ctr (setCtr s k v) k = v % 2 ^ 64 :=
  tgetD_tsetD_self ((Tbl.wf_iff _ _).1 ((Regs.wf_iff s).1 h).2.1).1 _ _ _

theorem ctr_goFrom_self {s : State} (h : Regs.wf s = true) (c v : Nat) : ctr (goFrom s c v) c = min (v + gained s c) maxCtr := by
  have hlt : min (v + gained s c) maxCtr < 2 ^ 64 := by unfold maxCtr; omega
  rw [goFrom, ctr_setCtr_self h, Nat.mod_eq_of_lt hlt]

theorem gained_congr {s t : State} {c : Nat} (hc : ctr t c = ctr s c) (hb : t.lb = s.lb) : gained t c = gained s c := by
  rw [gained, gained, hc, hb]

theorem lbCtr_inj {i j : Nat} (h : lbCtr i = lbCtr j) : i = j := by
  unfold lbCtr at h
  omega

theorem lbCtr_ne_powered (i : Nat) : lbCtr i ≠ C.LB_POWERED := by
  show 0x610024 + 2 ^ 32 * i ≠ 0x610010
  omega

/-- Lifetime counter `i` as entry `b` gives it: ERASES of a sector at its maximum, any other with its gain (R353, R355). -/
def restoreCtr (b : List Byte) (s : State) (i : Nat) : State :=
  if i = 22 then setCtr s (lbCtr i) (max (ctr s (lbCtr i)) (leAt b (48 + 8 * i) 8)) else goFrom s (lbCtr i) (leAt b (48 + 8 * i) 8)

theorem restoreCtr_ext (b : List Byte) (s : State) (i : Nat) : Ext 2 s (restoreCtr b s i) := .ite (setCtr_ext ..) (goFrom_ext ..)

theorem ctr_restoreCtr_ne (b : List Byte) (s : State) {i k : Nat} (h : k ≠ lbCtr i) : ctr (restoreCtr b s i) k = ctr s k := by
  unfold restoreCtr
  split
  · exact ctr_setCtr_ne _ _ h
  · exact ctr_setCtr_ne _ _ h

theorem ctr_restoreCtrs_ne (b : List Byte) {l : List Nat} {k : Nat} (h : ∀ i ∈ l, k ≠ lbCtr i) (s : State) :
    ctr (l.foldl (restoreCtr b) s) k = ctr s k :=
  List.foldlRecOn (motive := fun t => ctr t k = ctr s k) _ _ rfl fun t ht i hi => (ctr_restoreCtr_ne b t (h i hi)).trans ht

theorem ctr_restoreCtrs_mem (b : List Byte) {l : List Nat} (hl : l.Nodup) {i : Nat} (hi : i ∈ l) (hi22 : i ≠ 22) {s : State}
    (h : Regs.wf s = true) :
    ctr (l.foldl (restoreCtr b) s) (lbCtr i) = min (leAt b (48 + 8 * i) 8 + gained s (lbCtr i)) maxCtr := by
  induction l generalizing s with
  | nil => exact absurd hi List.not_mem_nil
  | cons j l ih =>
    obtain ⟨hj, hl⟩ := List.nodup_cons.1 hl
    rw [List.foldl_cons]
    rcases List.mem_cons.1 hi with rfl | hi
    · have hne : ∀ k ∈ l, lbCtr i ≠ lbCtr k := fun k hk e => hj (by rw [lbCtr_inj e]; exact hk)
      rw [ctr_restoreCtrs_ne b hne, restoreCtr, if_neg hi22, ctr_goFrom_self h]
    · have hne : lbCtr i ≠ lbCtr j := fun e => hj (lbCtr_inj e ▸ hi)
      rw [ih hl hi ((restoreCtr_ext b s j).regs h),
        gained_congr (ctr_restoreCtr_ne b s hne) ((restoreCtr_ext b s j).same .logbook rfl)]

/-! ### The logbook opens (R351, R355) -/

theorem ofBytes_lt (l : List Byte) : ofBytes l < 256 ^ l.length := by
  induction l with
  | nil => exact Nat.one_pos
  | cons b l ih =>
    have hb : b.toNat < 256 := b.isLt
    rw [ofBytes, List.length_cons, Nat.pow_succ]
    omega

theorem leAt_lt (b : List Byte) (off n : Nat) : leAt b off n < 256 ^ n :=
  Nat.lt_of_lt_of_le (ofBytes_lt _) (Nat.pow_le_pow_right (by decide) (List.length_take_le _ _))

/-- The registers after an entry: the counters in their turn, POWERED_S, SEQ and the open sector (R355). -/
theorem restoreEntry_regs (s : State) (sector place : Nat) (b : List Byte) :
    (restoreEntry s sector place b).flds = (setFld (setFld (goFrom ((List.range 25).foldl (restoreCtr b) s) C.LB_POWERED (leAt b 16 8))
      F.LB_SEQ_SEQ (leAt b 8 4)) F.LB_SECT_OPEN sector).flds
    ∧ (restoreEntry s sector place b).ctrs = (goFrom ((List.range 25).foldl (restoreCtr b) s) C.LB_POWERED (leAt b 16 8)).ctrs :=
  ⟨rfl, rfl⟩

theorem ctr_congr {s t : State} (h : t.ctrs = s.ctrs) (k : Nat) : ctr t k = ctr s k := by rw [ctr, ctr, h]

theorem fld_congr {s t : State} (h : t.flds = s.flds) (f : Fld) : fld t f = fld s f := by rw [fld, fld, h]

section
variable {s : State} (hwf : Regs.wf s = true) (sector place : Nat) (b : List Byte)
include hwf

theorem ctr_restoreEntry {i : Nat} (hi : i < 25) (hi22 : i ≠ 22) :
    ctr (restoreEntry s sector place b) (lbCtr i) = min (leAt b (48 + 8 * i) 8 + gained s (lbCtr i)) maxCtr := by
  rw [ctr_congr (restoreEntry_regs s sector place b).2, goFrom, ctr_setCtr_ne _ _ (lbCtr_ne_powered i),
    ctr_restoreCtrs_mem b List.nodup_range (List.mem_range.2 hi) hi22 hwf]

theorem ctr_restoreEntry_powered :
    ctr (restoreEntry s sector place b) C.LB_POWERED = min (leAt b 16 8 + gained s C.LB_POWERED) maxCtr := by
  have hext : Ext 2 s ((List.range 25).foldl (restoreCtr b) s) := .fold (restoreCtr_ext b) (.refl _ _)
  have hkeep : ctr ((List.range 25).foldl (restoreCtr b) s) C.LB_POWERED = ctr s C.LB_POWERED :=
    ctr_restoreCtrs_ne b (fun i _ => (lbCtr_ne_powered i).symm) s
  rw [ctr_congr (restoreEntry_regs s sector place b).2, ctr_goFrom_self (hext.regs hwf), gained_congr hkeep (hext.same .logbook rfl)]

theorem fld_restoreEntry_seq : fld (restoreEntry s sector place b) F.LB_SEQ_SEQ = leAt b 8 4 := by
  have hext : Ext 2 s (goFrom ((List.range 25).foldl (restoreCtr b) s) C.LB_POWERED (leAt b 16 8)) :=
    (goFrom_ext ..).after rfl (.fold (restoreCtr_ext b) (.refl _ _))
  rw [fld_congr (restoreEntry_regs s sector place b).1, fld_setFld_ne _ _ (by decide)]
  exact fld_setFld_of_lt (hext.regs hwf) F.LB_SEQ_SEQ (leAt_lt b 8 4)

end

/-- The registers of a logbook that opens on a last entry (R355). -/
theorem openLogbook_regs {e : List (Nat × Nat × List Byte)} {n k : Nat} {b : List Byte} (s : State) (h : List (List Byte))
    (he : lastEntry e = some (n, k, b)) : ∃ (secs : Tbl Sector) (retired : Nat),
    openLogbook s h e = setFlag (setFld (restoreEntry { s with lb := { s.lb with sectors := secs } } n k b) F.LB_SECT_RETIRED retired)
      F.LB_STATUS_OPEN true := by
  unfold openLogbook
  rw [he]
  exact ⟨_, _, rfl⟩

theorem flag_openLogbook (s : State) (h : List (List Byte)) (e : List (Nat × Nat × List Byte)) :
    flag (openLogbook s h e) F.LB_STATUS_OPEN = true := flag_setFlag_true rfl rfl _

/-- The state after the logbook has opened: the schedules begin, and an entry of the start-up is asked for (R334, R348, R354). -/
def enterLogbook (s : State) : State := toStep (lbRequest (setSchedules s) 4) 11

theorem enterLogbook_ext (s : State) : Ext 3841 s (enterLogbook s) :=
  (toStep_ext ..).after rfl <| (lbRequest_ext ..).after rfl <| (setSchedules_ext ..).mono rfl

theorem enterLogbook_boot (s : State) : (enterLogbook s).lc.boot = 11 := toStep_boot _ 11

theorem fld_enterLogbook {f : Fld} (hbusy : f.key ≠ F.LB_STATUS_BUSY.key) (hworn : f.key ≠ F.LB_STATUS_WORN.key)
    (hnotgt : f.key ≠ F.BC_STATUS_NOTGT.key) (hstrand : f.key ≠ F.BC_STATUS_STRAND.key) (hlo : f.key ≠ F.FB_NEXT_LO_SECONDS.key)
    (hhi : f.key ≠ F.FB_NEXT_HI_SECONDS.key) (s : State) : fld (enterLogbook s) f = fld s f :=
  calc fld (enterLogbook s) f
    _ = fld (lbRequest (setSchedules s) 4) f := fld_toStep _ 11 f
    _ = fld (setSchedules s) f := fld_lbRequest hbusy hworn hnotgt hstrand _ 4
    _ = fld s f := by
      unfold setSchedules setFld64
      dsimp only
      rw [fld_setFld_ne _ _ hhi, fld_setFld_ne _ _ hlo]
      rfl

theorem logbookOpen_unsuitable {s : State} (h : List (List Byte)) (e : List (Nat × Nat × List Byte)) (hst : atStep s 10 = true)
    (hrun : running s 94 = true) :
    exec (.logbookOpen false h e) s = .next (toStep (setSchedules (setFlag s F.LB_STATUS_UNSUIT true)) 11) :=
  (if_neg (by simp [hst])).trans ((if_pos rfl).trans (atDomain_running hrun))

theorem logbookOpen_opens {s : State} (h : List (List Byte)) (e : List (Nat × Nat × List Byte)) (hst : atStep s 10 = true)
    (hrun : running s 94 = true) : exec (.logbookOpen true h e) s = .next (enterLogbook (openLogbook s h e)) :=
  (if_neg (by simp [hst])).trans ((if_neg (by decide)).trans (atDomain_running hrun))

/-- With a last entry, SEQ, POWERED_S and every lifetime counter go on from it (R355, R356). -/
theorem enterLogbook_goes_on {e : List (Nat × Nat × List Byte)} {n k : Nat} {b : List Byte} {s : State} (h : List (List Byte))
    (he : lastEntry e = some (n, k, b)) (hwf : Regs.wf s = true) :
    fld (enterLogbook (openLogbook s h e)) F.LB_SEQ_SEQ = leAt b 8 4
    ∧ ctr (enterLogbook (openLogbook s h e)) C.LB_POWERED = min (leAt b 16 8 + gained s C.LB_POWERED) maxCtr
    ∧ ∀ i : Nat, i < 25 → i ≠ 22 →
      ctr (enterLogbook (openLogbook s h e)) (lbCtr i) = min (leAt b (48 + 8 * i) 8 + gained s (lbCtr i)) maxCtr := by
  obtain ⟨secs, retired, ho⟩ := openLogbook_regs s h he
  have hwf' : Regs.wf { s with lb := { s.lb with sectors := secs } } = true := hwf
  have hgain (c : Nat) : gained { s with lb := { s.lb with sectors := secs } } c = gained s c := rfl
  have hctr (c : Nat) : ctr (enterLogbook (openLogbook s h e)) c = ctr (restoreEntry { s with lb := { s.lb with sectors := secs } } n k b) c := by
    rw [(enterLogbook_ext _).ctr_eq rfl, ho, (setFlag_ext ..).ctr_eq rfl, (setFld_ext ..).ctr_eq rfl]
  refine ⟨?_, ?_, fun i hi hi22 => ?_⟩
  · rw [fld_enterLogbook (by decide) (by decide) (by decide) (by decide) (by decide) (by decide), ho, setFlag,
      fld_setFld_ne _ _ (by decide), fld_setFld_ne _ _ (by decide), fld_restoreEntry_seq hwf']
  · rw [hctr, ctr_restoreEntry_powered hwf', hgain]
  · rw [hctr, ctr_restoreEntry hwf' n k b hi hi22, hgain]

theorem startupComplete_up {s : State} (hst : atStep s 11 = true) (hrun : running s 94 = true) :
    exec .startupComplete s = .next (toStep (setFlag s F.CK_STATUS_UP true) 12) :=
  (if_neg (by simp [hst])).trans (atDomain_running hrun)

/-- Settles O8: each step by the equation of its command; the logbook by the registers after its last entry. -/
theorem startupCommandsComplete : Obligations.StartupCommandsComplete := by
  refine ⟨?rom, fun s khz xb hst hrun he hok => xaStrapCheck_passes xb hst hrun he hok, ?vboot, ?domains, ?training,
    fun s hrun hlc hr hs hv hl hm => returnedScrubVerify_clean hrun hlc hr hs hv hl hm,
    fun s h e hst hrun => logbookOpen_unsuitable h e hst hrun, ?logbook, fun s hst hrun => startupComplete_up hst hrun⟩
  case rom =>
    intro s a b hst hrun hscrap
    refine ⟨bootRom s a b, bootRomDone_boots a b hst hrun, fun ha => ?_, fun ha hb => ?_, fun ha hb => ?_⟩
    · have e : bootRom s a b = bootImage s ⟨0, leAt a 6 2, fld s F.LC_STATE_STATE, a.take 128⟩ := by simp [bootRom, hscrap, ha]
      rw [e]
      exact ⟨rfl, flag_bootImage .., rfl⟩
    · have e : bootRom s a b = lbAdd (bootImage s ⟨1, leAt b 6 2, fld s F.LC_STATE_STATE, b.take 128⟩) 24 1 := by
        simp [bootRom, hscrap, ha, hb]
      rw [e]
      exact ⟨rfl, flag_bootImage .., rfl⟩
    · have e : bootRom s a b = endStartup (setFlag s F.FAB_SEC_STATUS_FW_FAIL true) := by simp [bootRom, hscrap, ha, hb]
      rw [e]
      exact ⟨rfl, (flag_congr rfl).trans (flag_setFlag_true (f := F.FAB_SEC_STATUS_FW_FAIL) rfl rfl s)⟩
  case vboot =>
    intro s hst hrun
    refine ⟨_, vbootSetDone_starts hst hrun, toStep_boot _ 5, ?_⟩
    rw [fld_toStep, fld_startAllLoops]
  case domains =>
    intro s hst hrun hl
    refine ⟨_, startupDomainsSwitched_switches hst hrun hl, toStep_boot _ 7, fun d hd => ?_⟩
    rw [domNow_toStep]
    exact domNow_foldl_setDom (fun d => ⟨(startDom d).1, (startDom d).2, false, none⟩) hd s
  case training =>
    intro s tr big hst hrun
    have hmem : (toStep (startCal (stacksReady s tr.toNat big)) 8).mem = (zeroStacks s).mem := by
      rw [toStep_mem, startCal_mem, stacksReady_mem]
    refine ⟨_, stackTrainingDone_ready tr big hst hrun, toStep_boot _ 8, by rw [hmem]; rfl, by rw [hmem]; rfl, ?_⟩
    rw [flag, fld_toStep, fld_startCal (by decide)]
    exact flag_stacksReady s tr.toNat big
  case logbook =>
    intro s h e hst hrun
    refine ⟨_, logbookOpen_opens h e hst hrun, enterLogbook_boot _, ?_, fun n k b he hwf => enterLogbook_goes_on h he hwf⟩
    exact (flag_congr (fld_enterLogbook (by decide) (by decide) (by decide) (by decide) (by decide) (by decide) _)).trans
      (flag_openLogbook s h e)

end Sys2Proof.Machine
end

section
/-!
What an access leaves of the stacks' lines: every line but its own, its metadata line, and those that the metadata cache writes back or
loses (R101, R103, R105).
-/
namespace Sys2Proof.Machine

/-! ### Operations that store nothing -/

/-- `t` comes from `s` without a change of what memory stores, of the size of the stacks (R96) and of what the outside does. -/
structure Quiet (s t : State) : Prop where
  stored : t.mem.stored = s.mem.stored
  size : fld t F.FAB_CONFIG_STACK36 = fld s F.FAB_CONFIG_STACK36
  env : t.env = s.env

section
variable {s t u : State}

theorem Quiet.refl (s : State) : Quiet s s := ⟨rfl, rfl, rfl⟩

theorem Quiet.trans (h : Quiet s t) (k : Quiet t u) : Quiet s u :=
  ⟨k.stored.trans h.stored, k.size.trans h.size, k.env.trans h.env⟩

/-- A quiet step taken on a condition. -/
theorem Quiet.when {c : Prop} [Decidable c] (h : Quiet s t) (k : Quiet t u) : Quiet s (if c then u else t) := by
  split
  · exact h.trans k
  · exact h

theorem Quiet.ite {c : Prop} [Decidable c] (h : Quiet s t) (k : Quiet s u) : Quiet s (if c then t else u) := by
  split
  · exact h
  · exact k

/-- An operation that changes neither memory nor a field of FAB_CONFIG. -/
theorem Ext.quiet {m : Nat} (h : Ext m s t) (hm : m.testBit 5 = false)
    (hf : fld t F.FAB_CONFIG_STACK36 = fld s F.FAB_CONFIG_STACK36) : Quiet s t where
  stored := congrArg MemSt.stored (h.same .mem hm)
  size := hf
  env := h.env

/-- An operation that changes neither memory nor registers. -/
theorem Ext.quiet_of_regs {m : Nat} (h : Ext m s t) (hm : m.testBit 5 = false) (hr : m.testBit 0 = false) : Quiet s t :=
  h.quiet hm (h.fld_eq hr _)

theorem Quiet.dataPer_eq (h : Quiet s t) : dataPer t = dataPer s := by rw [dataPer, dataPer, flag, flag, h.size]

end

/-- A write above the first registers leaves the size of the stacks. -/
theorem stack36_setFld (s : State) {f : Fld} (v : Nat) (hf : 0x100 ≤ f.off) :
    fld (setFld s f v) F.FAB_CONFIG_STACK36 = fld s F.FAB_CONFIG_STACK36 := by
  refine fld_setFld_ne _ _ ?_
  show 4 * 32 + 6 ≠ f.off * 32 + f.lo
  omega

theorem incCtr_quiet (s : State) (k : Nat) : Quiet s (incCtr s k) := (incCtr_ext s k).quiet_of_regs rfl rfl
theorem addCtr_quiet (s : State) (k n : Nat) : Quiet s (addCtr s k n) := (addCtr_ext s k n).quiet_of_regs rfl rfl
theorem lbAdd_quiet (s : State) (i n : Nat) : Quiet s (lbAdd s i n) := (lbAdd_ext s i n).quiet_of_regs rfl rfl
theorem incCove_quiet (s : State) (c : Option Nat) (cn : Nat → Nat) : Quiet s (incCove s c cn) := (incCove_ext s c cn).quiet_of_regs rfl rfl

theorem setFld_quiet (s : State) {f : Fld} (v : Nat) (hf : 0x100 ≤ f.off) : Quiet s (setFld s f v) :=
  (setFld_ext s f v).quiet rfl (stack36_setFld s v hf)

theorem logErr_quiet (s : State) (n kind word pp s1 s3 : Nat) (q : Req) : Quiet s (logErr s n kind word pp s1 s3 q) := by
  refine (logErr_ext s n kind word pp s1 s3 q).quiet rfl ?_
  unfold logErr
  dsimp only
  split
  · simp (disch := exact Nat.le_add_right_of_le (by decide)) only [setFlag, stack36_setFld]
  · exact stack36_setFld _ _ (Nat.le_add_right_of_le (by decide))

theorem srcClass_mem (n : Nat) : srcClass (544 + n) ≠ 0 := by
  unfold srcClass
  rw [if_neg (by omega), if_neg (by omega)]
  split <;> decide

theorem raiseMem_quiet (s : State) (n : Nat) : Quiet s (raiseMem s n) :=
  (raiseMem_ext s n).quiet rfl (fld_raiseSrc (by decide) (by decide) (srcClass_mem n) s)

theorem countOnDie_quiet (s : State) (n : Nat) : Quiet s (countOnDie s n) := .ite ⟨rfl, rfl, rfl⟩ (.refl s)

theorem countPoison_quiet (s : State) (n : Nat) (c : Option Nat) : Quiet s (countPoison s n c) :=
  (incCtr_quiet ..).trans <| (lbAdd_quiet ..).trans <| (incCove_quiet ..).trans <| raiseMem_quiet ..

theorem countLostMeta_quiet (s : State) (n : Nat) (q : Req) : Quiet s (countLostMeta s n q) :=
  (incCtr_quiet ..).trans <| (logErr_quiet ..).trans <| raiseMem_quiet ..

theorem countCE_quiet (s : State) (n w flips s1 s3 pp : Nat) (c : Option Nat) (q : Req) : Quiet s (countCE s n w flips s1 s3 pp c q) :=
  .when (((Quiet.when ((incCtr_quiet ..).trans (lbAdd_quiet ..)) (incCtr_quiet ..)).trans (incCove_quiet ..)).trans (logErr_quiet ..))
    (raiseMem_quiet ..)

theorem readWords_quiet (s : State) (n : Nat) (raw : RawLine) (inl : Nat) (c : Option Nat) (q : Req) :
    Quiet s (readWords s n raw inl c q).st := by
  refine List.foldlRecOn (motive := fun a : WordsRead => Quiet s a.st) _ _ (.refl s) fun a ha w _ => ?_
  dsimp only
  split
  · exact ha
  · exact ha.trans (countCE_quiet ..)
  · exact ha.trans <| (incCtr_quiet ..).trans <| (lbAdd_quiet ..).trans <| (logErr_quiet ..).trans <| raiseMem_quiet ..

theorem failCheck_quiet (s : State) (n found : Nat) (e : Expect) (q : Req) : Quiet s (failCheck s n found e q) := by
  refine (failCheck_ext s n found e q).quiet rfl ?_
  unfold failCheck
  dsimp only
  split
  · simp (disch := decide) only [setFlag, stack36_setFld]
  · simp (disch := decide) only [setFlag, stack36_setFld]

theorem report_quiet (s : State) (c : Nat) (r : WrackRec) : Quiet s (report s c r) :=
  (report_ext s c r).quiet rfl (fld_report_low (by decide) s c r)

theorem refuse_quiet (s : State) (q : Req) (reason detail : Nat) : Quiet s (refuse s q reason detail) := .ite (report_quiet ..) (.refl s)

theorem refusePoison_quiet (s : State) (q : Req) : Quiet s (refusePoison s q) :=
  (Quiet.when (.refl s) (incCtr_quiet ..)).trans (refuse_quiet ..)

/-! ### A use of a key stores nothing (R115–R117) -/

theorem drainKid_stored (s : State) (kid r : Nat) (places : List Place) : (drainKid s kid r places).mem.stored = s.mem.stored := by
  unfold drainKid
  split <;> rfl

theorem takeKid_stored (s : State) (r kid : Nat) : (takeKid s r kid).mem.stored = s.mem.stored := by
  unfold takeKid
  split
  · rfl
  · exact drainKid_stored (loadKey s kid) _ r _

theorem startRekey_stored (s : State) (r : Nat) : (startRekey s r).mem.stored = s.mem.stored := by
  unfold startRekey
  split
  · rfl
  · split
    · rfl
    · split
      · rfl
      · split
        · exact takeKid_stored ..
        · rfl

theorem countUse_quiet (s : State) (g : Nat) : Quiet s (countUse s g) := by
  have hstored : (countUse s g).mem.stored = s.mem.stored := by
    unfold countUse
    split
    · rfl
    · dsimp only
      split
      · exact startRekey_stored ..
      · rfl
  exact ⟨hstored, (countUse_ext s g).fld_eq rfl _, (countUse_ext s g).env⟩

/-! ### The lines that the metadata cache may write (R103, R105) -/

/-- Writing the metadata line `l` back to stack `n` leaves the line of key `K`: it is another line, and so are the data lines it describes
where the link to the stack fails. -/
structure SparedBy (s : State) (n K l : Nat) : Prop where
  line : lineKey n l ≠ K
  lost : tgetD s.env.linkFails n false = true → ∀ w : Nat, w < 8 → lineKey n (8 * (l - dataPer s * 2 ^ 22) + w) ≠ K

/-- The line of key `K` reads in `t` as it does in `s`, and so it will after an eviction by a fetch of metadata line `ml` at stack `n`. -/
structure Spares (s : State) (n ml K : Nat) (t : State) : Prop where
  line : tgetD t.mem.lines K RawLine.zero = tgetD s.mem.lines K RawLine.zero
  size : dataPer t = dataPer s
  env : t.env = s.env
  cached : ∀ x ∈ tgetD t.mem.mdc (mdcKey n ml) [], x.line ≠ ml → SparedBy s n K x.line

section
variable {s t u : State} {n ml K : Nat}

theorem Spares.quiet (h : Spares s n ml K t) (k : Quiet t u) : Spares s n ml K u where
  line := by rw [show u.mem.lines = t.mem.lines from congrArg (·.1) k.stored, h.line]
  size := k.dataPer_eq.trans h.size
  env := k.env.trans h.env
  cached := by rw [show u.mem.mdc = t.mem.mdc from congrArg (·.2.1) k.stored]; exact h.cached

theorem Spares.setRaw (h : Spares s n ml K t) {i line : Nat} (hne : lineKey i line ≠ K) (r : RawLine) :
    Spares s n ml K (setRaw t i line r) where
  line := (tgetD_tsetD_ne _ _ _ _ hne.symm).trans h.line
  size := h.size
  env := h.env
  cached := h.cached

theorem Spares.setMdc (h : Spares s n ml K t) {l : List MdcEnt} (hl : l ≠ []) (hx : ∀ x ∈ l, x.line ≠ ml → SparedBy s n K x.line) :
    Spares s n ml K (setMdc t n ml l) where
  line := h.line
  size := h.size
  env := h.env
  cached := by
    have hread : tgetD (Machine.setMdc t n ml l).mem.mdc (mdcKey n ml) [] = l := tgetD_tsetD_of_ne _ _ _ hl
    rw [hread]
    exact hx

/-- A lost word of a spared metadata line poisons another line (R103). -/
theorem Spares.loseMeta {l : Nat} (hl : SparedBy s n K l) (hf : tgetD s.env.linkFails n false = true) {a : RawLine × State}
    (h : Spares s n ml K a.2) {w : Nat} (hw : w < 8) : Spares s n ml K (loseMeta n l a w).2 := by
  have hd : lineKey n (8 * (l - dataPer a.2 * 2 ^ 22) + w) ≠ K := by
    rw [h.size]
    exact hl.lost hf w hw
  unfold Machine.loseMeta poisonBits
  dsimp only
  split
  · exact h
  · exact ((h.quiet (countLostMeta_quiet ..)).setRaw hd _).quiet (countPoison_quiet ..)

theorem Spares.writeMeta (h : Spares s n ml K t) {l : Nat} (hl : SparedBy s n K l) (r : RawLine) :
    Spares s n ml K (writeMeta t n l r).2 := by
  unfold Machine.writeMeta
  dsimp only
  split
  case isTrue hb =>
    have hf : tgetD s.env.linkFails n false = true := by
      rw [← h.env]
      exact hb
    refine Spares.setRaw ?_ hl.line _
    refine List.foldlRecOn (motive := fun a : RawLine × State => Spares s n ml K a.2) _ _ h fun a ha w hw => ?_
    exact ha.loseMeta hl hf (List.mem_range.1 hw)
  case isFalse => exact h.setRaw hl.line _

/-- A fetch writes back at most a spared line, and leaves spared lines in its set (R105). -/
theorem Spares.mdcFetch (h : Spares s n ml K t) : Spares s n ml K (mdcFetch t n ml).2 := by
  unfold Machine.mdcFetch
  dsimp only
  split
  case h_1 e he =>
    refine h.setMdc (List.cons_ne_nil _ _) fun x hx => ?_
    rcases List.mem_cons.1 hx with rfl | hx
    · exact h.cached x (List.mem_of_find?_eq_some he)
    · exact h.cached x (List.mem_of_mem_filter hx)
  case h_2 hnone =>
    have hmiss : ∀ x ∈ tgetD t.mem.mdc (mdcKey n ml) [], SparedBy s n K x.line := fun x hx =>
      h.cached x hx fun e => by simpa [e] using List.find?_eq_none.1 hnone x hx
    have hcount : Spares s n ml K (incCtr (countOnDie t n) (C.SC_MDC_MISS n)) :=
      (h.quiet (countOnDie_quiet ..)).quiet (incCtr_quiet ..)
    refine Spares.setMdc ?_ (List.cons_ne_nil _ _) fun x hx hne => ?_
    · split
      · rename_i e l hdrop
        have he : e ∈ tgetD t.mem.mdc (mdcKey n ml) [] := List.mem_of_mem_drop (hdrop ▸ List.mem_cons_self)
        split
        · exact hcount.writeMeta (hmiss e he) _
        · exact hcount
      · exact hcount
    · rcases List.mem_cons.1 hx with rfl | hx
      · exact absurd rfl hne
      · exact hmiss x (List.mem_of_mem_take hx)

theorem Spares.mdcWrite (h : Spares s n ml K t) (w : Nat) (v : Dword) : Spares s n ml K (mdcWrite t n ml w v) := by
  unfold Machine.mdcWrite
  dsimp only
  refine h.mdcFetch.setMdc (List.cons_ne_nil _ _) fun x hx hne => ?_
  rcases List.mem_cons.1 hx with rfl | hx
  · exact absurd rfl hne
  · exact h.mdcFetch.cached x (List.mem_of_mem_filter hx) hne

end

/-! ### An access at its controller -/

section
variable {s t : State} {n sda K : Nat}

theorem Spares.metaLine_eq {ml : Nat} (h : Spares s n ml K t) (sda : Nat) : metaLine t sda = metaLine s sda := by
  rw [metaLine, metaLine, h.size]

theorem Spares.readMeta (h : Spares s n (metaLine s sda) K t) : Spares s n (metaLine s sda) K (readMeta t n sda).2 := by
  unfold Machine.readMeta
  rw [h.metaLine_eq]
  dsimp only
  split
  · split
    · exact h.mdcFetch.mdcWrite ..
    · exact h.mdcFetch
  · exact h.mdcFetch

section
variable (hline : lineKey n (sda / 64) ≠ K) (h : Spares s n (metaLine s sda) K t)
include hline h

theorem Spares.storeRaw (data : Line) (codes : List Nat) (tag : Nat) : Spares s n (metaLine s sda) K (storeRaw t n sda data codes tag) := by
  have hraw := h.setRaw hline ⟨data, BitVec.ofNat 64 (pinOf codes)⟩
  unfold Machine.storeRaw
  dsimp only
  rw [hraw.metaLine_eq]
  exact hraw.mdcWrite ..

theorem Spares.poisonLine (kid : Nat) (words : List Dword) (c : Option Nat) :
    Spares s n (metaLine s sda) K (poisonLine t n sda kid words c) := (h.storeRaw hline ..).quiet (countPoison_quiet ..)

theorem Spares.linkLost (kid : Nat) (c : Option Nat) (q : Req) : Spares s n (metaLine s sda) K (linkLost t n sda kid c q) :=
  (h.quiet <| (addCtr_quiet ..).trans <| (lbAdd_quiet ..).trans <| (logErr_quiet ..).trans <| raiseMem_quiet ..).poisonLine hline ..

theorem Spares.metaLost (c : Option Nat) (q : Req) : Spares s n (metaLine s sda) K (metaLost t n sda c q) :=
  (h.quiet (countLostMeta_quiet ..)).poisonLine hline ..

theorem Spares.checkLine (e : Expect) (c : Option Nat) (link : Bool) (q : Req) :
    Spares s n (metaLine s sda) K (checkLine t n sda e c link q).2 := by
  have hmd : Spares s n (metaLine s sda) K (Machine.readMeta (countOnDie t n) n sda).2 := (h.quiet (countOnDie_quiet ..)).readMeta
  unfold Machine.checkLine
  dsimp only
  split
  · exact hmd.metaLost hline ..
  · split
    · exact hmd.quiet ((incCtr_quiet ..).trans (logErr_quiet ..))
    · exact (hmd.quiet <| (incCtr_quiet ..).trans <| (logErr_quiet ..).trans <| (raiseMem_quiet ..).trans <| readWords_quiet ..).poisonLine hline ..
    · split
      · exact hmd.quiet (failCheck_quiet ..)
      · split
        · exact hmd.linkLost hline ..
        · split
          · exact (hmd.quiet (readWords_quiet ..)).poisonLine hline ..
          · dsimp only
            split
            · exact (hmd.quiet (readWords_quiet ..)).storeRaw hline ..
            · exact hmd.quiet (readWords_quiet ..)

theorem Spares.writeLine (fpa kid : Nat) (l : Line) : Spares s n (metaLine s sda) K (writeLine t n sda fpa kid l) := by
  have harm (b : Bool) : Spares s n (metaLine s sda) K (setFlag t (F.SC_INJ_CTL_ARM n) b) :=
    h.quiet (setFld_quiet _ _ (Nat.le_add_right_of_le (by decide)))
  unfold Machine.writeLine
  dsimp only
  split
  · split
    · exact (harm false).storeRaw hline ..
    · exact (harm false).storeRaw hline ..
  · exact h.storeRaw hline ..

theorem Spares.sendLineTo (kid : Nat) (l : Line) (c : Option Nat) (link : Bool) (q : Req) :
    Spares s n (metaLine s sda) K (sendLineTo t n sda kid l c link q).2 := by
  unfold Machine.sendLineTo
  split
  · exact h.linkLost hline ..
  · exact h.writeLine hline ..

theorem Spares.performLine (g : Nat) (link : Bool) (q : Req) (op : LineOp) :
    Spares s n (metaLine s sda) K (performLine t n sda g link q op).2 := by
  unfold Machine.performLine
  dsimp only
  split
  · exact h.quiet ((Quiet.when (.refl _) (incCtr_quiet ..)).trans (refuse_quiet ..))
  · split
    · have hsend := h.sendLineTo hline (writeKid t g) (applyAccess 0 q.acc).1 (granCove t g) link q
      split
      · rename_i e
        rw [e] at hsend
        exact hsend.quiet (countUse_quiet ..)
      · rename_i e
        rw [e] at hsend
        exact hsend.quiet (refusePoison_quiet ..)
    · have hcheck := h.checkLine hline (expectedKids t g) (granCove t g) link { q with origin := if q.acc == .read then .demand else .rmw }
      split
      · exact hcheck
      · exact hcheck.quiet (refusePoison_quiet ..)
      · exact hcheck.quiet (refusePoison_quiet ..)
      · split
        · exact hcheck
        · exact (hcheck.writeLine hline ..).quiet (countUse_quiet ..)

end

end

/-- A metadata line of the controller's cache, where the writes that O60 sets aside do not meet the line of key `K`, is spared. -/
theorem Spares.start {s : State} {n K : Nat} (sda : Nat)
    (h : ∀ e ∈ s.mem.mdc, ∀ x ∈ e.2, lineKey n x.line ≠ K ∧
      (tgetD s.env.linkFails n false = true → ∀ w : Nat, w < 8 → lineKey n (8 * (x.line - dataPer s * 2 ^ 22) + w) ≠ K)) :
    Spares s n (metaLine s sda) K s where
  line := rfl
  size := rfl
  env := rfl
  cached x hx _ := by
    cases e : tfind s.mem.mdc (mdcKey n (metaLine s sda)) with
    | none => simp [tgetD, e] at hx
    | some l =>
      rw [tgetD, e, Option.getD_some] at hx
      exact ⟨(h _ (mem_of_tfind e) x hx).1, (h _ (mem_of_tfind e) x hx).2⟩

theorem dropReq_mem (s : State) (q : Req) (point tgt gran : Nat) : (dropReq s q point tgt gran).mem = s.mem :=
  (dropReq_ext ..).same .mem rfl

/-- An access to a data granule leaves a line that is neither its own nor among those its metadata writes (R101, R103, R105). -/
theorem scAccess_line {s : State} {g n sda K : Nat}
    (hplace : placeByte (dataPer s) g (granOf s g).mode (q.fpa % 2 ^ 28) = (n, sda)) (hline : lineKey n (sda / 64) ≠ K)
    (h : Spares s n (metaLine s sda) K s) (link : Bool) (op : LineOp) :
    tgetD (scAccess s g link q op).2.mem.lines K RawLine.zero = tgetD s.mem.lines K RawLine.zero := by
  unfold scAccess
  dsimp only
  rw [hplace]
  dsimp only
  split
  · exact (h.quiet (refuse_quiet ..)).line
  · split
    · rw [dropReq_mem]
    · split
      · exact (h.quiet (refuse_quiet ..)).line
      · exact (h.performLine hline g link q op).line

/-! ### The tidepool has words of its own (R127) -/

theorem Quiet.lines_eq {s t : State} (h : Quiet s t) : t.mem.lines = s.mem.lines := congrArg (·.1) h.stored

theorem tpCheck_lines (s : State) (bank w : Nat) : (tpCheck s bank w).2.mem.lines = s.mem.lines := by
  unfold tpCheck
  dsimp only
  split
  · rfl
  · split
    · rfl
    · exact ((incCtr_quiet ..).trans <| (lbAdd_quiet ..).trans <| incCove_quiet ..).lines_eq
    · exact ((incCtr_quiet ..).trans <| (lbAdd_quiet ..).trans <| incCove_quiet ..).lines_eq

theorem tpReadWords_lines (s : State) (bank line : Nat) (need : Nat → Bool) :
    (tpReadWords s bank line need).2.2.mem.lines = s.mem.lines := by
  refine List.foldlRecOn (motive := fun a : List Dword × Bool × State => a.2.2.mem.lines = s.mem.lines) _ _ rfl fun a ha k _ => ?_
  have hcheck : (tpCheck a.2.2 bank (line * 8 + k)).2.mem.lines = s.mem.lines := (tpCheck_lines ..).trans ha
  split
  · split
    · rename_i e
      rwa [e] at hcheck
    · rename_i e
      rwa [e] at hcheck
  · exact ha

theorem tpStore_lines (s : State) (bank line : Nat) (l : Line) (p : Nat → Bool) : (tpStore s bank line l p).mem.lines = s.mem.lines := by
  refine List.foldlRecOn (motive := fun t : State => t.mem.lines = s.mem.lines) _ _ rfl fun t ht k _ => ?_
  split
  · exact ht
  · exact ht

theorem setTpWritten_lines (s : State) (bank line : Nat) (b : Bool) : (setTpWritten s bank line b).mem.lines = s.mem.lines := rfl

theorem tpAccess_lines (s : State) (bank byte : Nat) (q : Req) : (tpAccess s bank byte q).2.mem.lines = s.mem.lines := by
  unfold tpAccess
  dsimp only
  split
  · rw [dropReq_mem]
  · split
    · exact (refuse_quiet ..).lines_eq
    · split
      · split
        · rfl
        · exact (setTpWritten_lines ..).trans (tpStore_lines ..)
      · split
        · exact (refusePoison_quiet ..).lines_eq.trans (tpReadWords_lines ..)
        · exact (tpStore_lines ..).trans (tpReadWords_lines ..)

/-- Settles O60: what an access performs spares the line (`Spares`), and the tidepool stores into tables of its own. -/
theorem accessesLeaveOtherLines : Obligations.AccessesLeaveOtherLines := by
  unfold Obligations.AccessesLeaveOtherLines
  intro s t link q r m line hrun
  obtain rfl : (memAccess s link q).2 = t := congrArg Prod.snd hrun
  unfold memAccess
  split
  case isTrue =>
    have hdrop : rawLine (dropReq s q 1 (targetUnit s q.fpa) 0) m line = rawLine s m line := by rw [rawLine, rawLine, dropReq_mem]
    exact ⟨fun _ _ _ _ _ _ _ _ => hdrop, fun _ => hdrop⟩
  case isFalse =>
    refine ⟨fun g n sda hdec hplace hline _ hcached => ?_, fun hno => ?_⟩
    · rw [hdec]
      exact scAccess_line hplace hline.symm (.start sda hcached) link _
    · unfold rawLine
      split
      case h_1 g hdec => exact absurd hdec (hno g)
      case h_2 => rw [tpAccess_lines]
      case h_3 => rw [(refuse_quiet ..).lines_eq]

end Sys2Proof.Machine
end

section
/-!
The word code corrects every error of one or two stored bits (R109, R110). What the decoder forms is additive under exclusive or, so an
error alone decides what it finds; the identities of GF(2^7) then give back the positions of the error.
-/
namespace Sys2Proof.Machine

/-! ### Syndromes are additive -/

section
variable (mul : Nat → Nat)

theorem syndrome_zero (n pw : Nat) : syndrome mul n pw 0 = 0 := by
  induction n generalizing pw with
  | zero => rfl
  | succ n ih => rw [syndrome, Nat.zero_div, ih, if_neg (by decide), Nat.zero_xor]

theorem syndrome_xor (n pw r t : Nat) : syndrome mul n pw (r ^^^ t) = syndrome mul n pw r ^^^ syndrome mul n pw t := by
  induction n generalizing pw r t with
  | zero => exact (Nat.xor_self 0).symm
  | succ n ih =>
    have hbit : (if (r ^^^ t) % 2 = 1 then pw else 0) = (if r % 2 = 1 then pw else 0) ^^^ (if t % 2 = 1 then pw else 0) := by
      simp only [Nat.xor_mod_two_eq_one]
      by_cases hr : r % 2 = 1 <;> by_cases ht : t % 2 = 1 <;> simp [hr, ht]
    rw [syndrome, syndrome, syndrome, hbit, Nat.xor_div_two, ih]
    ac_rfl

theorem syndrome_two_mul (n pw r : Nat) : syndrome mul (n + 1) pw (2 * r) = syndrome mul n (mul pw) r := by
  rw [syndrome, if_neg (by omega), Nat.mul_div_cancel_left r Nat.two_pos, Nat.zero_xor]

theorem syndrome_shiftLeft (n k pw r : Nat) : syndrome mul (n + k) pw (r <<< k) = syndrome mul n (mul^[k] pw) r := by
  induction k generalizing pw with
  | zero => rfl
  | succ k ih => rw [Nat.shiftLeft_succ, ← Nat.add_assoc, syndrome_two_mul, ih, Function.iterate_succ_apply]

/-- A single received bit has its own power as its syndrome. -/
theorem syndrome_two_pow {n j : Nat} (hj : j < n) (pw : Nat) : syndrome mul n pw (2 ^ j) = mul^[j] pw := by
  obtain ⟨k, rfl⟩ : ∃ k, n = k + 1 + j := ⟨n - 1 - j, by omega⟩
  rw [← Nat.one_shiftLeft, syndrome_shiftLeft, syndrome, syndrome_zero, if_pos rfl, Nat.xor_zero]

/-- Bits above the last that is set have no part in the syndrome. -/
theorem syndrome_of_lt {n r : Nat} (hr : r < 2 ^ n) (k pw : Nat) : syndrome mul (n + k) pw r = syndrome mul n pw r := by
  induction n generalizing pw r with
  | zero => rw [show r = 0 by omega, syndrome_zero, syndrome_zero]
  | succ n ih => rw [Nat.add_right_comm, syndrome, syndrome, ih (by omega)]

end

/-! ### Maps that are additive on the field -/

/-- A map of the field into itself that is additive. -/
structure GfAdditive (f : Nat → Nat) : Prop where
  lt : ∀ {a}, a < 128 → f a < 128
  xor : ∀ {a b}, a < 128 → b < 128 → f (a ^^^ b) = f a ^^^ f b

section
variable {f mul : Nat → Nat}

theorem GfAdditive.zero (h : GfAdditive f) : f 0 = 0 := by simpa using h.xor (a := 0) (b := 0) (by decide) (by decide)

theorem GfAdditive.comp {g : Nat → Nat} (h : GfAdditive f) (k : GfAdditive g) : GfAdditive (fun a => f (g a)) where
  lt ha := h.lt (k.lt ha)
  xor ha hb := by rw [k.xor ha hb, h.xor (k.lt ha) (k.lt hb)]

theorem xor_lt_field {a b : Nat} (ha : a < 128) (hb : b < 128) : a ^^^ b < 128 := Nat.xor_lt_two_pow (n := 7) ha hb

theorem GfAdditive.syndrome_lt (h : GfAdditive mul) {n pw : Nat} (hpw : pw < 128) (r : Nat) : syndrome mul n pw r < 128 := by
  induction n generalizing pw r with
  | zero => exact Nat.two_pow_pos 7
  | succ n ih =>
    refine xor_lt_field ?_ (ih (h.lt hpw) _)
    split
    · exact hpw
    · exact Nat.two_pow_pos 7

/-- A syndrome is additive in its power, too. -/
theorem GfAdditive.syndrome_xor_pw (h : GfAdditive mul) {n a b : Nat} (ha : a < 128) (hb : b < 128) (r : Nat) :
    syndrome mul n (a ^^^ b) r = syndrome mul n a r ^^^ syndrome mul n b r := by
  induction n generalizing a b r with
  | zero => exact (Nat.xor_self 0).symm
  | succ n ih =>
    rw [syndrome, syndrome, syndrome, h.xor ha hb, ih (h.lt ha) (h.lt hb)]
    split
    · ac_rfl
    · simp

/-- An additive map that commutes with the step of a syndrome goes through it. -/
theorem GfAdditive.map_syndrome (hf : GfAdditive f) (h : GfAdditive mul) (hcomm : ∀ {a}, a < 128 → f (mul a) = mul (f a)) {n pw : Nat}
    (hpw : pw < 128) (r : Nat) : f (syndrome mul n pw r) = syndrome mul n (f pw) r := by
  induction n generalizing pw r with
  | zero => exact hf.zero
  | succ n ih =>
    rw [syndrome, syndrome]
    split
    · rw [hf.xor hpw (h.syndrome_lt (h.lt hpw) _), ih (h.lt hpw), hcomm hpw]
    · rw [Nat.zero_xor, Nat.zero_xor, ih (h.lt hpw), hcomm hpw]

end

/-! ### The field GF(2^7) -/

/-- The root's product as a shift and a reduction. -/
theorem gfX_eq : ∀ a < 128, gfX a = a <<< 1 % 2 ^ 7 ^^^ (if a.testBit 6 then 9 else 0) := by decide

theorem gfX_additive : GfAdditive gfX where
  lt {a} := by revert a; decide
  xor {a b} ha hb := by
    rw [gfX_eq _ ha, gfX_eq _ hb, gfX_eq _ (xor_lt_field ha hb), Nat.shiftLeft_xor_distrib, Nat.xor_mod_two_pow, Nat.testBit_xor]
    have hcarry : (if (a.testBit 6 ^^ b.testBit 6) then 9 else 0) = (if a.testBit 6 then 9 else 0) ^^^ (if b.testBit 6 then 9 else 0) := by
      cases a.testBit 6 <;> cases b.testBit 6 <;> rfl
    rw [hcarry]
    ac_rfl

theorem gfMul_eq_syndrome (a b : Nat) : gfMul a b = syndrome gfX 7 a b := by
  have haux (n : Nat) (a b : Nat) : gfMulAux n a b = syndrome gfX n a b := by
    induction n generalizing a b with
    | zero => rfl
    | succ n ih => rw [gfMulAux, syndrome, ih]
  exact haux 7 a b

theorem gfMul_xor_right (a b c : Nat) : gfMul a (b ^^^ c) = gfMul a b ^^^ gfMul a c := by simp only [gfMul_eq_syndrome, syndrome_xor]

theorem gfMul_additive (t : Nat) : GfAdditive (gfMul · t) where
  lt ha := by rw [gfMul_eq_syndrome]; exact gfX_additive.syndrome_lt ha t
  xor ha hb := by simp only [gfMul_eq_syndrome]; exact gfX_additive.syndrome_xor_pw ha hb t

theorem gfMul_lt {a : Nat} (ha : a < 128) (b : Nat) : gfMul a b < 128 := (gfMul_additive b).lt ha

theorem gfMul_xor_left {a b : Nat} (ha : a < 128) (hb : b < 128) (c : Nat) : gfMul (a ^^^ b) c = gfMul a c ^^^ gfMul b c :=
  (gfMul_additive c).xor ha hb

theorem gfMul_gfX {a : Nat} (ha : a < 128) (b : Nat) : gfMul (gfX a) b = gfX (gfMul a b) := by
  rw [gfMul_eq_syndrome, gfMul_eq_syndrome, gfX_additive.map_syndrome gfX_additive (fun _ => rfl) ha]

theorem one_gfMul : ∀ {a}, a < 128 → gfMul 1 a = a := by decide

theorem gfMul_right_comm {a : Nat} (ha : a < 128) (b c : Nat) : gfMul (gfMul a b) c = gfMul (gfMul a c) b := by
  rw [gfMul_eq_syndrome a b, gfMul_eq_syndrome _ b]
  exact (gfMul_additive c).map_syndrome gfX_additive (fun h => gfMul_gfX h c) ha b

theorem gfMul_comm {a b : Nat} (ha : a < 128) (hb : b < 128) : gfMul a b = gfMul b a := by
  rw [← one_gfMul ha, gfMul_right_comm (by decide), one_gfMul hb, one_gfMul ha]

theorem gfMul_gfInv : ∀ {a}, a < 128 → a ≠ 0 → gfMul a (gfInv a) = 1 := by decide +kernel

/-- Division undoes multiplication. -/
theorem gfMul_gfMul_gfInv {a b : Nat} (ha : a < 128) (h0 : a ≠ 0) (hb : b < 128) : gfMul (gfMul a b) (gfInv a) = b := by
  rw [gfMul_right_comm ha, gfMul_gfInv ha h0, one_gfMul hb]

/-- The field has no zero divisors. -/
theorem gfMul_eq_zero {a b : Nat} (ha : a < 128) (hb : b < 128) (h : gfMul a b = 0) : a = 0 ∨ b = 0 := by
  by_cases h0 : a = 0
  · exact .inl h0
  · right
    rw [← gfMul_gfMul_gfInv ha h0 hb, h]
    exact (gfMul_additive _).zero

theorem gfSq_lt {a : Nat} (ha : a < 128) : gfSq a < 128 := gfMul_lt ha a

theorem gfSq_xor {a b : Nat} (ha : a < 128) (hb : b < 128) : gfSq (a ^^^ b) = gfSq a ^^^ gfSq b := by
  have hcross : gfMul a b ^^^ gfMul b a = 0 := by rw [gfMul_comm hb ha, Nat.xor_self]
  calc gfSq (a ^^^ b)
    _ = gfMul a a ^^^ gfMul b b ^^^ (gfMul a b ^^^ gfMul b a) := by
      rw [gfSq, gfMul_xor_left ha hb, gfMul_xor_right, gfMul_xor_right]
      ac_rfl
    _ = gfSq a ^^^ gfSq b := by rw [hcross, Nat.xor_zero, gfSq, gfSq]

/-- The cube of an element. -/
def gfCube (a : Nat) : Nat := gfMul a (gfSq a)

theorem gfCube_zero : gfCube 0 = 0 := by decide

/-- A sum of two cubes has the sum as a factor. -/
theorem gfCube_xor_gfCube {a b : Nat} (ha : a < 128) (hb : b < 128) :
    gfCube a ^^^ gfCube b = gfMul (a ^^^ b) (gfSq (a ^^^ b) ^^^ gfMul a b) := by
  have haab : gfMul b (gfSq a) = gfMul a (gfMul a b) := by
    rw [gfMul_comm hb (gfSq_lt ha), gfSq, gfMul_right_comm ha, gfMul_comm (gfMul_lt ha b) ha]
  have habb : gfMul b (gfMul a b) = gfMul a (gfSq b) := by
    rw [gfMul_comm ha (gfSq_lt hb), gfSq, gfMul_right_comm hb, gfMul_comm hb ha, gfMul_comm hb (gfMul_lt ha b)]
  calc gfCube a ^^^ gfCube b
    _ = gfCube a ^^^ gfCube b ^^^ (gfMul a (gfMul a b) ^^^ gfMul a (gfMul a b)) ^^^ (gfMul a (gfSq b) ^^^ gfMul a (gfSq b)) := by
      rw [Nat.xor_self, Nat.xor_self, Nat.xor_zero, Nat.xor_zero]
    _ = gfMul a (gfSq a ^^^ gfSq b ^^^ gfMul a b) ^^^ gfMul b (gfSq a ^^^ gfSq b ^^^ gfMul a b) := by
      simp only [gfMul_xor_right, haab, habb, gfCube]
      ac_rfl
    _ = gfMul (a ^^^ b) (gfSq (a ^^^ b) ^^^ gfMul a b) := by rw [gfSq_xor ha hb, gfMul_xor_left ha hb]

/-- The polynomial with the roots `a` and `b`. -/
theorem gfMul_xor_xor {a b x : Nat} (ha : a < 128) (hb : b < 128) (hx : x < 128) :
    gfSq x ^^^ gfMul (a ^^^ b) x ^^^ gfMul a b = gfMul (x ^^^ a) (x ^^^ b) := by
  rw [gfMul_xor_left ha hb, gfMul_xor_left hx ha, gfMul_xor_right, gfMul_xor_right, gfSq, gfMul_comm hb hx]
  ac_rfl

/-! ### Powers of the root -/

theorem gfAlpha_eq_iterate (j : Nat) : gfAlpha j = gfX^[j] 1 := by
  induction j with
  | zero => rfl
  | succ j ih => rw [gfAlpha, ih, Function.iterate_succ_apply']

theorem gfAlpha_lt (j : Nat) : gfAlpha j < 128 := by
  induction j with
  | zero => decide
  | succ j ih => exact gfX_additive.lt ih

theorem gfX_ne_zero : ∀ {a}, a < 128 → a ≠ 0 → gfX a ≠ 0 := by decide

theorem gfAlpha_ne_zero (j : Nat) : gfAlpha j ≠ 0 := by
  induction j with
  | zero => decide
  | succ j ih => exact gfX_ne_zero (gfAlpha_lt j) ih

theorem gfMul_gfAlpha (i j : Nat) : gfMul (gfAlpha i) (gfAlpha j) = gfAlpha (i + j) := by
  induction i with
  | zero => rw [Nat.zero_add, gfAlpha, one_gfMul (gfAlpha_lt j)]
  | succ i ih => rw [gfAlpha, gfMul_gfX (gfAlpha_lt i), ih, Nat.add_right_comm, gfAlpha]

theorem locate_gfAlpha : ∀ {j}, j < 78 → locate (gfAlpha j) = some j := by decide +kernel

/-- Codeword positions have locators of their own. -/
theorem gfAlpha_inj {i j : Nat} (hi : i < 78) (hj : j < 78) (h : gfAlpha i = gfAlpha j) : i = j := by
  rw [← Option.some_inj, ← locate_gfAlpha hi, h, locate_gfAlpha hj]

/-- The step of S3 (R110). -/
def gfX3 (a : Nat) : Nat := gfX (gfX (gfX a))

theorem gfX3_additive : GfAdditive gfX3 := gfX_additive.comp (gfX_additive.comp gfX_additive)

/-- The powers of S3 are the cubes of those of S1. -/
theorem iterate_gfX3 (j : Nat) : gfX3^[j] 1 = gfCube (gfAlpha j) := by
  have hpow : gfX3^[j] 1 = gfAlpha (j + (j + j)) := by
    induction j with
    | zero => rfl
    | succ j ih => rw [Function.iterate_succ_apply', ih, show j + 1 + (j + 1 + (j + 1)) = j + (j + j) + 3 by omega]; rfl
  rw [hpow, gfCube, gfSq, gfMul_gfAlpha, gfMul_gfAlpha]

/-! ### A stored word and its code -/

theorem or_shiftLeft_eq_xor {a n : Nat} (ha : a < 2 ^ n) (b : Nat) : a ||| b <<< n = a ^^^ b <<< n := by
  refine Nat.eq_of_testBit_eq fun i => ?_
  rw [Nat.testBit_or, Nat.testBit_xor, Nat.testBit_shiftLeft]
  by_cases hi : n ≤ i
  · rw [Nat.testBit_lt_two_pow (ha.trans_le (Nat.pow_le_pow_right Nat.two_pos hi)), Bool.false_or, Bool.false_xor]
  · simp [hi]

theorem parity_eq_syndrome (n x : Nat) : parity n x = syndrome id n 1 x := by
  unfold parity
  induction n generalizing x with
  | zero => rfl
  | succ n ih =>
    rw [popcount, syndrome, id, ← ih, Nat.add_mod, Nat.mod_mod]
    rcases Nat.mod_two_eq_zero_or_one x with hx | hx <;> rcases Nat.mod_two_eq_zero_or_one (popcount n (x / 2)) with hp | hp <;> rw [hx, hp] <;> rfl

/-- The 78 received bits as a polynomial (R110). -/
def received (d : Dword) (code : Nat) : Nat := code % 2 ^ 14 ^^^ d.toNat <<< 14

theorem wordSyndromes_eq (d : Dword) (code : Nat) : wordSyndromes d code =
    (syndrome gfX 78 1 (received d code), syndrome gfX3 78 1 (received d code),
      (syndrome id 78 1 (received d code) ^^^ code / 2 ^ 14) % 2) := by
  unfold wordSyndromes
  dsimp only
  rw [show code % 0x4000 ||| d.toNat <<< 14 = received d code from or_shiftLeft_eq_xor (Nat.mod_lt _ (Nat.two_pow_pos 14)) _,
    parity_eq_syndrome, ← Nat.xor_mod_two_eq]
  rfl

/-! ### A code word has no syndrome -/

/-- The remainder after the highest `k` data bits. -/
def bchFold (d : Dword) (k : Nat) : Nat := (List.range k).foldl (fun r k => bchStep r (d.getLsbD (63 - k))) 0

theorem bchFold_succ (d : Dword) (k : Nat) : bchFold d (k + 1) = bchStep (bchFold d k) (d.getLsbD (63 - k)) := by
  rw [bchFold, List.range_succ, List.foldl_append]
  rfl

theorem bchStep_lt (r : Nat) (b : Bool) : bchStep r b < 2 ^ 14 := by
  have hlow : r <<< 1 % 2 ^ 14 < 2 ^ 14 := Nat.mod_lt _ (Nat.two_pow_pos 14)
  unfold bchStep
  dsimp only
  split
  · exact Nat.xor_lt_two_pow hlow (by decide)
  · exact hlow

theorem bchFold_lt (d : Dword) (k : Nat) : bchFold d k < 2 ^ 14 := by
  cases k with
  | zero => exact Nat.two_pow_pos 14
  | succ k => rw [bchFold_succ]; exact bchStep_lt ..

/-- A doubling that loses its bit 14. -/
theorem shiftLeft_one_mod {r : Nat} (hr : r < 2 ^ 14) : r <<< 1 % 2 ^ 14 = r <<< 1 ^^^ (if r.testBit 13 then 2 ^ 14 else 0) := by
  refine Nat.eq_of_testBit_eq fun i => ?_
  rw [Nat.testBit_mod_two_pow, Nat.testBit_xor, apply_ite (Nat.testBit · i), Nat.testBit_two_pow, Nat.zero_testBit]
  rcases Nat.lt_trichotomy i 14 with hi | rfl | hi
  · simp [hi, hi.ne']
  · simp [Nat.testBit_shiftLeft]
  · have hhigh : (r <<< 1).testBit i = false :=
      Nat.testBit_lt_two_pow ((show r <<< 1 < 2 ^ 15 by omega).trans_le (Nat.pow_le_pow_right Nat.two_pos hi))
    simp [hi.ne, hhigh]

/-- A step of the remainder adds a multiple of the generator to the doubled word, of which `y` are the data bits so far (R109). -/
theorem bchStep_xor {r : Nat} (hr : r < 2 ^ 14) (y : Nat) :
    bchStep r (y.testBit 0) ^^^ y <<< 14 = 2 * (r ^^^ (y / 2) <<< 14) ^^^ (if r.testBit 13 != y.testBit 0 then 0x4377 else 0) := by
  have hy : y <<< 14 = (y / 2) <<< 15 ^^^ (if y.testBit 0 then 2 ^ 14 else 0) := by
    refine Nat.eq_of_testBit_eq fun i => ?_
    rw [Nat.testBit_xor, Nat.testBit_shiftLeft, Nat.testBit_shiftLeft, Nat.testBit_div_two, apply_ite (Nat.testBit · i), Nat.testBit_two_pow,
      Nat.zero_testBit]
    rcases Nat.lt_trichotomy i 14 with hi | rfl | hi
    · simp [hi.not_ge, hi.ne', show ¬ 15 ≤ i by omega]
    · simp
    · simp [hi.le, hi.ne, show 15 ≤ i by omega, show i - 15 + 1 = i - 14 by omega]
  have hdouble : 2 * (r ^^^ (y / 2) <<< 14) = r <<< 1 ^^^ (y / 2) <<< 15 := by
    rw [Nat.mul_comm, ← Nat.shiftLeft_eq _ 1, Nat.shiftLeft_xor_distrib, ← Nat.shiftLeft_add]
  have hstep : bchStep r (y.testBit 0) = r <<< 1 ^^^ (if r.testBit 13 then 2 ^ 14 else 0) ^^^ (if r.testBit 13 != y.testBit 0 then 0x377 else 0) := by
    rw [← shiftLeft_one_mod hr]
    unfold bchStep
    dsimp only
    split
    · rfl
    · exact (Nat.xor_zero _).symm
  have hgen : (if r.testBit 13 then 2 ^ 14 else 0) ^^^ (if r.testBit 13 != y.testBit 0 then 0x377 else 0) ^^^ (if y.testBit 0 then 2 ^ 14 else 0) =
      if r.testBit 13 != y.testBit 0 then 0x4377 else 0 := by
    cases r.testBit 13 <;> cases y.testBit 0 <;> rfl
  rw [hy, hdouble, hstep, ← hgen]
  ac_rfl

/-- With a step of which the generator is a root, the data bits and their remainder have no syndrome. -/
theorem syndrome_bchFold {mul : Nat → Nat} (h : GfAdditive mul) (hgen : syndrome mul 15 1 0x4377 = 0) (d : Dword) {k : Nat} (hk : k ≤ 64) :
    syndrome mul (14 + k) 1 (bchFold d k ^^^ (d.toNat >>> (64 - k)) <<< 14) = 0 := by
  induction k with
  | zero =>
    rw [show d.toNat >>> 64 = 0 from Nat.shiftRight_eq_zero _ _ d.isLt, Nat.zero_shiftLeft, Nat.xor_zero]
    exact syndrome_zero mul _ 1
  | succ k ih =>
    have hbit : d.getLsbD (63 - k) = (d.toNat >>> (64 - (k + 1))).testBit 0 := by
      rw [Nat.testBit_shiftRight, BitVec.getLsbD, show 64 - (k + 1) + 0 = 63 - k by omega]
    have hhalf : d.toNat >>> (64 - (k + 1)) / 2 = d.toNat >>> (64 - k) := by
      rw [show 64 - k = 64 - (k + 1) + 1 by omega, Nat.shiftRight_succ]
    have hmul : syndrome mul (14 + k) (mul 1) (bchFold d k ^^^ (d.toNat >>> (64 - k)) <<< 14) = 0 := by
      rw [← h.map_syndrome h (fun _ => rfl) (by decide), ih (by omega), h.zero]
    rw [bchFold_succ, hbit, bchStep_xor (bchFold_lt ..), hhalf, syndrome_xor, ← Nat.add_assoc, syndrome_two_mul, hmul, Nat.zero_xor]
    split
    · rw [show 14 + k + 1 = 15 + k by omega, syndrome_of_lt _ (by decide), hgen]
    · exact syndrome_zero ..

theorem bchCheck_lt (d : Dword) : bchCheck d < 2 ^ 14 := bchFold_lt d 64

theorem wordCode_eq (d : Dword) : wordCode d = bchCheck d ^^^ ((parity 64 d.toNat + parity 14 (bchCheck d)) % 2) <<< 14 :=
  or_shiftLeft_eq_xor (bchCheck_lt d) _

theorem wordCode_mod (d : Dword) : wordCode d % 2 ^ 14 = bchCheck d := by
  rw [wordCode_eq, Nat.xor_mod_two_pow, Nat.mod_eq_of_lt (bchCheck_lt d), Nat.shiftLeft_eq, Nat.mul_mod_left, Nat.xor_zero]

theorem wordCode_div (d : Dword) : wordCode d / 2 ^ 14 = (parity 64 d.toNat + parity 14 (bchCheck d)) % 2 := by
  rw [wordCode_eq, Nat.xor_div_two_pow, Nat.div_eq_of_lt (bchCheck_lt d), Nat.shiftLeft_eq,
    Nat.mul_div_cancel _ (Nat.two_pow_pos 14), Nat.zero_xor]

theorem received_wordCode (d : Dword) : received d (wordCode d) = bchCheck d ^^^ d.toNat <<< 14 := by rw [received, wordCode_mod]

/-- A stored word without error has the syndromes zero and even parity. -/
theorem wordSyndromes_wordCode (d : Dword) : wordSyndromes d (wordCode d) = (0, 0, 0) := by
  have hroot {mul : Nat → Nat} (h : GfAdditive mul) (hgen : syndrome mul 15 1 0x4377 = 0) :
      syndrome mul 78 1 (received d (wordCode d)) = 0 := by
    rw [received_wordCode]
    exact syndrome_bchFold h hgen d (Nat.le_refl 64)
  have hcheck : syndrome id 78 1 (bchCheck d) = syndrome id 14 1 (bchCheck d) := syndrome_of_lt id (bchCheck_lt d) 64 1
  have hdata : syndrome id 78 1 (d.toNat <<< 14) = syndrome id 64 1 d.toNat := syndrome_shiftLeft id 64 14 1 _
  have heven : (syndrome id 78 1 (received d (wordCode d)) ^^^ wordCode d / 2 ^ 14) % 2 = 0 := by
    rw [received_wordCode, wordCode_div, syndrome_xor, hcheck, hdata, ← parity_eq_syndrome, ← parity_eq_syndrome, Nat.xor_mod_two_eq,
      Nat.add_mod, Nat.xor_mod_two_eq]
    omega
  rw [wordSyndromes_eq, hroot gfX_additive (by decide), hroot gfX3_additive (by decide), heven]

/-! ### Flipped positions -/

/-- A stored word with a position flipped. -/
def flipAt (x : Dword × Nat) (j : Nat) : Dword × Nat := flipPos x.1 x.2 j

/-- What a flip changes of the data word. -/
def flipData (j : Nat) : Dword := if 14 ≤ j ∧ j < 78 then 1#64 <<< (j - 14) else 0
/-- What a flip changes of the code bits. -/
def flipCode (j : Nat) : Nat := if j < 14 then 2 ^ j else if j = 78 then 2 ^ 14 else 0

theorem flipAt_eq (x : Dword × Nat) (j : Nat) : flipAt x j = (x.1 ^^^ flipData j, x.2 ^^^ flipCode j) := by
  unfold flipAt flipPos flipData flipCode
  by_cases h14 : j < 14
  · simp [h14, Nat.not_le.2 h14]
  · by_cases h78 : j < 78
    · simp [h14, h78, h78.ne, Nat.not_lt.1 h14]
    · by_cases he : j = 78
      · simp [he]
      · simp [h14, h78, he]

theorem flipAt_flipAt (x : Dword × Nat) (j : Nat) : flipAt (flipAt x j) j = x := by
  simp only [flipAt_eq, BitVec.xor_assoc, BitVec.xor_self, BitVec.xor_zero, Nat.xor_assoc, Nat.xor_self, Nat.xor_zero]

theorem flipAt_comm (x : Dword × Nat) (i j : Nat) : flipAt (flipAt x i) j = flipAt (flipAt x j) i := by
  simp only [flipAt_eq, Prod.mk.injEq]
  constructor
  · ac_rfl
  · ac_rfl

/-- The locator of a position: the parity bit P has none (R110). -/
def locator (j : Nat) : Nat := if j < 78 then gfAlpha j else 0

theorem locator_of_lt {j : Nat} (hj : j < 78) : locator j = gfAlpha j := if_pos hj
theorem locator_parity : locator 78 = 0 := if_neg (Nat.lt_irrefl 78)

theorem received_xor (d e : Dword) (c k : Nat) : received (d ^^^ e) (c ^^^ k) = received d c ^^^ received e k := by
  rw [received, received, received, Nat.xor_mod_two_pow, BitVec.toNat_xor, Nat.shiftLeft_xor_distrib]
  ac_rfl

theorem received_flip : ∀ {j}, j < 79 → received (flipData j) (flipCode j) = if j < 78 then 2 ^ j else 0 := by decide

theorem flipCode_div : ∀ {j}, j < 79 → flipCode j / 2 ^ 14 = if j < 78 then 0 else 1 := by decide

theorem received_flipAt (x : Dword × Nat) {j : Nat} (hj : j < 79) :
    received (flipAt x j).1 (flipAt x j).2 = received x.1 x.2 ^^^ (if j < 78 then 2 ^ j else 0) := by
  rw [flipAt_eq, received_xor, received_flip hj]

theorem flipAt_div (x : Dword × Nat) {j : Nat} (hj : j < 79) : (flipAt x j).2 / 2 ^ 14 = x.2 / 2 ^ 14 ^^^ (if j < 78 then 0 else 1) := by
  rw [flipAt_eq, Nat.xor_div_two_pow, flipCode_div hj]

/-- A flip adds the locator to S1 and its cube to S3, and turns the parity over. -/
theorem wordSyndromes_flipAt (x : Dword × Nat) {j s1 s3 pp : Nat} (hj : j < 79) (h : wordSyndromes x.1 x.2 = (s1, s3, pp)) :
    wordSyndromes (flipAt x j).1 (flipAt x j).2 = (s1 ^^^ locator j, s3 ^^^ gfCube (locator j), pp ^^^ 1) := by
  have hbit {mul : Nat → Nat} : syndrome mul 78 1 (received x.1 x.2 ^^^ (if j < 78 then 2 ^ j else 0)) =
      syndrome mul 78 1 (received x.1 x.2) ^^^ (if j < 78 then mul^[j] 1 else 0) := by
    rw [syndrome_xor]
    split
    · rename_i hlt
      rw [syndrome_two_pow mul hlt]
    · rw [syndrome_zero]
  rw [wordSyndromes_eq] at h ⊢
  obtain ⟨rfl, rfl, rfl⟩ : _ ∧ _ ∧ _ := by simpa only [Prod.mk.injEq] using h
  have hone (p q : Nat) : (p ^^^ 1 ^^^ q) % 2 = (p ^^^ q) % 2 ^^^ 1 := by
    rw [show p ^^^ 1 ^^^ q = p ^^^ q ^^^ 1 by ac_rfl]
    exact Nat.xor_mod_two_pow (n := 1)
  rw [received_flipAt x hj, flipAt_div x hj, hbit, hbit, hbit]
  rcases Nat.lt_succ_iff_lt_or_eq.1 hj with h78 | rfl
  · simp only [h78, if_true, locator_of_lt, ← gfAlpha_eq_iterate, iterate_gfX3, Function.iterate_id, id, Nat.xor_zero, hone]
  · simp only [Nat.lt_irrefl, if_false, locator_parity, gfCube_zero, Nat.xor_zero, ← Nat.xor_assoc, ← hone, Nat.xor_right_comm]

/-! ### Decoding -/

/-- The correction of the positions `js` (R110). -/
def corrected (x : Dword × Nat) (js : List Nat) : Decoded := .corrected (js.foldl flipAt x).1 (js.foldl flipAt x).2 js.length

section
variable {x : Dword × Nat}

theorem decodeWord_clean (h : wordSyndromes x.1 x.2 = (0, 0, 0)) : decodeWord x.1 x.2 = .clean := by
  unfold decodeWord
  rw [h]
  rfl

/-- One flip is found: by its locator, or as P when there is none. -/
theorem decodeWord_one {j : Nat} (hj : j < 79) (h : wordSyndromes x.1 x.2 = (locator j, gfCube (locator j), 1)) :
    decodeWord x.1 x.2 = corrected x [j] := by
  unfold decodeWord
  rw [h]
  rcases Nat.lt_succ_iff_lt_or_eq.1 hj with h78 | rfl
  · simp only [locator_of_lt h78, gfAlpha_ne_zero, gfCube, if_true, if_false, locate_gfAlpha h78]
    rfl
  · rw [locator_parity, gfCube_zero]
    rfl

/-- The roots of a pair of locators are the pair's positions. -/
theorem locateRoots_pair {i j : Nat} (hij : i < j) (hj : j < 78) :
    locateRoots (gfAlpha i ^^^ gfAlpha j) (gfMul (gfAlpha i) (gfAlpha j)) = [i, j] := by
  have hroot {m : Nat} (hm : m < 78) : gfSq (gfAlpha m) ^^^ gfMul (gfAlpha i ^^^ gfAlpha j) (gfAlpha m) ^^^ gfMul (gfAlpha i) (gfAlpha j) = 0 ↔
      m = i ∨ m = j := by
    rw [gfMul_xor_xor (gfAlpha_lt i) (gfAlpha_lt j) (gfAlpha_lt m)]
    constructor
    · intro h
      rcases gfMul_eq_zero (xor_lt_field (gfAlpha_lt m) (gfAlpha_lt i)) (xor_lt_field (gfAlpha_lt m) (gfAlpha_lt j)) h with h | h
      · exact .inl (gfAlpha_inj hm (hij.trans hj) (Nat.xor_eq_zero_iff.1 h))
      · exact .inr (gfAlpha_inj hm hj (Nat.xor_eq_zero_iff.1 h))
    · rintro (rfl | rfl)
      · rw [Nat.xor_self]
        exact (gfMul_additive _).zero
      · rw [Nat.xor_self, gfMul_eq_syndrome, syndrome_zero]
  unfold locateRoots
  refine List.Pairwise.eq_of_mem_iff (List.pairwise_lt_range.filter _) (List.pairwise_pair.2 hij) fun m => ?_
  rw [List.mem_filter, List.mem_range, decide_eq_true_eq, List.mem_pair]
  constructor
  · rintro ⟨hm, h⟩
    exact (hroot hm).1 h
  · intro h
    have hm : m < 78 := by omega
    exact ⟨hm, (hroot hm).2 h⟩

/-- Two flips are found: as a position and P, or by the roots of their polynomial. -/
theorem decodeWord_two {i j : Nat} (hij : i < j) (hj : j < 79)
    (h : wordSyndromes x.1 x.2 = (locator i ^^^ locator j, gfCube (locator i) ^^^ gfCube (locator j), 0)) :
    decodeWord x.1 x.2 = corrected x [i, j] := by
  unfold decodeWord
  rw [h]
  rcases Nat.lt_succ_iff_lt_or_eq.1 hj with h78 | rfl
  · have hi : i < 78 := hij.trans h78
    have hs1 : gfAlpha i ^^^ gfAlpha j ≠ 0 := fun e => hij.ne (gfAlpha_inj hi h78 (Nat.xor_eq_zero_iff.1 e))
    have hlt : gfAlpha i ^^^ gfAlpha j < 128 := xor_lt_field (gfAlpha_lt i) (gfAlpha_lt j)
    have hs3 : gfCube (gfAlpha i) ^^^ gfCube (gfAlpha j) ≠ gfMul (gfAlpha i ^^^ gfAlpha j) (gfSq (gfAlpha i ^^^ gfAlpha j)) := by
      rw [gfCube_xor_gfCube (gfAlpha_lt i) (gfAlpha_lt j), gfMul_xor_right, gfMul_gfAlpha]
      intro e
      rcases gfMul_eq_zero hlt (gfAlpha_lt (i + j)) (by simpa using e) with e | e
      · exact hs1 e
      · exact gfAlpha_ne_zero _ e
    have hc : gfSq (gfAlpha i ^^^ gfAlpha j) ^^^ gfMul (gfCube (gfAlpha i) ^^^ gfCube (gfAlpha j)) (gfInv (gfAlpha i ^^^ gfAlpha j)) =
        gfMul (gfAlpha i) (gfAlpha j) := by
      rw [gfCube_xor_gfCube (gfAlpha_lt i) (gfAlpha_lt j), gfMul_gfMul_gfInv hlt hs1 (xor_lt_field (gfSq_lt hlt) (gfMul_lt (gfAlpha_lt i) _)),
        ← Nat.xor_assoc, Nat.xor_self, Nat.zero_xor]
    simp only [locator_of_lt hi, locator_of_lt h78, hs1, hs3, hc, if_true, if_false, locateRoots_pair hij h78]
    rfl
  · rw [locator_parity, gfCube_zero, Nat.xor_zero, Nat.xor_zero]
    simp only [locator_of_lt hij, gfAlpha_ne_zero, gfCube, if_true, if_false, locate_gfAlpha hij]
    rfl

end

/-- Settles O44: the errors' locators decide the syndromes, and the decoder finds the positions back from them. -/
theorem wordCodeCorrects : Obligations.WordCodeCorrects := by
  unfold Obligations.WordCodeCorrects
  intro d
  have hclean := wordSyndromes_wordCode d
  refine ⟨decodeWord_clean (x := (d, wordCode d)) hclean, fun i hi => ?_, fun i j hij hj => ?_⟩
  · have hone := wordSyndromes_flipAt (d, wordCode d) hi hclean
    rw [Nat.zero_xor, Nat.zero_xor, Nat.zero_xor] at hone
    refine (decodeWord_one hi hone).trans ?_
    rw [corrected, List.foldl_cons, List.foldl_nil, flipAt_flipAt]
    rfl
  · have htwo := wordSyndromes_flipAt _ hj (wordSyndromes_flipAt (d, wordCode d) (hij.trans hj) hclean)
    rw [Nat.zero_xor, Nat.zero_xor, Nat.zero_xor, Nat.xor_self] at htwo
    refine (decodeWord_two hij hj htwo).trans ?_
    rw [corrected, List.foldl_cons, List.foldl_cons, List.foldl_nil, flipAt_comm _ j i, flipAt_flipAt, flipAt_flipAt]
    rfl

end Sys2Proof.Machine
end

section
/-!
The driver's registers of a cove's window: a manager's command acts, and a virtual function's writes are ignored in its own window (R161).
-/
namespace Sys2Proof.Machine

/-- A virtual function's write in its own window that has no effect; `atDriver` gives it none. -/
theorem atWindow_own_unchanged {s : State} (hs : hostClosed s = false) (c : CoveId) (off : Nat) : atWindow s (.vf c) c off s = .next s := by
  simp [atWindow, hs]

theorem atDriver_manages {s : State} {q : Requester} {c : Nat} (h : Manages s q) (hc : coveExists s c = true) (off : Nat) (t : State) :
    atDriver s q c off t = .next t := by
  obtain ⟨hs, hq⟩ := h
  cases q with
  | vf v => exact absurd hq Bool.false_ne_true
  | ibpin | pf => simp [atDriver, atWindow, hs, hc]

/-- The answer to a write that is ignored. -/
structure Ignores (s : State) (a : Ans) : Prop where
  eq : a = .next s

/-- The offset of a driver's register in the window of cove `c`. -/
structure DriversOffset (c : CoveId) (off : Nat) : Prop where
  ge : winBase c.val + 0x3004 ≤ off
  le : off ≤ winBase c.val + 0x3040

section
variable {c : CoveId} {off : Nat} (h : DriversOffset c off)
include h

theorem DriversOffset.inWin : inWin off = true := by
  obtain ⟨hge, -⟩ := h
  unfold winBase at hge
  exact decide_eq_true (by omega)

theorem DriversOffset.rel : 0x3004 ≤ off % 0x100000 ∧ off % 0x100000 ≤ 0x3040 := by
  obtain ⟨hge, hle⟩ := h
  unfold winBase at hge hle
  omega

theorem DriversOffset.offCove : offCove off = c := by
  obtain ⟨hge, hle⟩ := h
  unfold winBase at hge hle
  have hc : c.val < 16 := c.isLt
  refine Fin.ext ?_
  show (off - 0x1000000) / 0x100000 % 16 = c.val
  omega

end

section
variable {P : Ans → Prop} {off base : Nat}

theorem StartIs.oneBelow {a : Ans} (h : off < base) : StartIs P (wOne off base a) := .oneAt fun e => absurd e h.ne

theorem StartIs.atBelow {n stride : Nat} {f : Nat → Ans} (h : off < base) : StartIs P (wAt off base n stride f) :=
  .atInst fun _ _ e => absurd e (h.trans_le (Nat.le_add_right ..)).ne

end

section
variable {s : State} {c : CoveId} {off : Nat} {w : Word}

theorem Ignores.ofDriver (hs : hostClosed s = false) (o : Nat) : Ignores s (atWindow s (.vf c) c o s) := ⟨atWindow_own_unchanged hs c o⟩

theorem Ignores.ite {p : Prop} [Decidable p] {a b : Ans} (h : Ignores s a) (k : Ignores s b) : Ignores s (if p then a else b) := by
  split
  · exact h
  · exact k

theorem Ignores.resolveWrite (hs : hostClosed s = false) (v : Nat) : Ignores s (resolveWrite (.vf c) c off v s) := by
  unfold Machine.resolveWrite
  dsimp only
  split
  all_goals exact .ofDriver hs _

/-- Among the registers that start something, only those of the driver lie at these offsets. -/
theorem DriversOffset.startWindowRegs (h : DriversOffset c off) (hs : hostClosed s = false) :
    StartsAre (Ignores s) (startWindowRegs (.vf c) off w s) := by
  obtain ⟨hge, hle⟩ := h.rel
  have below {b : Nat} (hb : 0x3040 < b) : off % 0x100000 < b := Nat.lt_of_le_of_lt hle hb
  unfold Machine.startWindowRegs
  dsimp only
  rw [h.offCove]
  exact .cons (.oneAt fun e => absurd e (by omega)) <|
    .cons (.one (.ofDriver hs _)) <| .cons (.one (.resolveWrite hs _)) <|
    .cons (.one (.ite (.ofDriver hs _) (.ofDriver hs _))) <|
    .cons (.oneBelow (below (by decide))) <| .cons (.oneBelow (below (by decide))) <| .cons (.oneBelow (below (by decide))) <|
    .cons (.oneBelow (below (by decide))) <| .cons (.atBelow (below (by decide))) <| .cons (.atBelow (below (by decide))) <|
    .cons (.oneBelow (below (by decide))) <| .cons (.atBelow (below (by decide))) <| .cons (.atBelow (below (by decide))) <|
    .cons (.atBelow (below (by decide))) <| .cons (.atBelow (below (by decide))) .nil

/-- A register that starts nothing is ignored as well, as one of the driver's. -/
theorem DriversOffset.writeReg (h : DriversOffset c off) (hs : hostClosed s = false) : Ignores s (writeReg (.vf c) off w s) := by
  refine writeReg_is (starts_are (fun _ => h.startWindowRegs hs) fun e => absurd (h.inWin.symm.trans e) Bool.true_eq_false.mp) ?_
  unfold plainAt
  rw [h.inWin, Bool.not_true, if_neg Bool.false_ne_true, if_pos (decide_eq_true h.rel), h.offCove]
  exact .ofDriver hs _

end

/-- Settles O52: every path of such a write ends at `atDriver`, which ignores a virtual function. -/
theorem virtualFunctionsLeaveTheDriversRegisters : Obligations.VirtualFunctionsLeaveTheDriversRegisters := by
  unfold Obligations.VirtualFunctionsLeaveTheDriversRegisters
  intro s c v ctx hs
  refine ⟨atWindow_own_unchanged hs c _, atWindow_own_unchanged hs c _, atWindow_own_unchanged hs c _, atWindow_own_unchanged hs c _, fun off x ha hge hle => ?_⟩
  rw [regWrite_aligned x ha]
  exact (DriversOffset.writeReg ⟨hge, hle⟩ hs).eq

end Sys2Proof.Machine
end

section
/-!
The wrack queue: a record written, and a record lost to a full queue or to a host-bus error (R149, R153, R154).
-/
namespace Sys2Proof.Machine

/-- The state with a record sent to its slot, and PROD and SEQ advanced (R149, R153). -/
def sendWrack (s : State) (c : Nat) (r : WrackRec) : State :=
  let sent := emit s (.hostWrite 0 ((wrackBase s c + fld s (F.XL_WQ_PROD_PROD c) % 256 * 32) % 2 ^ 64) (wrackBytes s c r))
  { setFld sent (F.XL_WQ_PROD_PROD c) (fld s (F.XL_WQ_PROD_PROD c) + 1) with
    xl := { s.xl with wqSeq := tsetD s.xl.wqSeq c 0 ((tgetD s.xl.wqSeq c 0 + 1) % 2 ^ 32) } }

/-! ### What a write of a record does (R153, R154) -/

section
variable {s : State} {c : Nat} (hc : coveExists s c = true)
include hc

theorem writeWrack_full (hf : wrackFull s c = true) (r : WrackRec) : writeWrack s c r = (false, wrackLost s c) := by
  simp [writeWrack, hc, hf]

theorem writeWrack_hostError (hf : wrackFull s c = false) (he : s.env.hostWriteFails = true) (r : WrackRec) :
    writeWrack s c r = (false, wrackLost (setFlag s (F.XL_WQ_STATUS_WERR c) true) c) := by
  simp [writeWrack, hostWrite, hc, hf, he]

theorem writeWrack_sent (hf : wrackFull s c = false) (he : s.env.hostWriteFails = false) (r : WrackRec) :
    writeWrack s c r = (true, raiseSrc (sendWrack s c r) (32 * c + 1)) := by
  simp only [writeWrack, hostWrite, hc, hf, he]
  rfl

end

/-! ### A full queue (R149) -/

theorem wrackFull_of_disabled {s : State} {c : Nat} (h : flag s (F.XL_WQ_BASE_LO_EN c) = false) : wrackFull s c = true := by
  simp [wrackFull, h]

theorem wrackFull_iff {s : State} {c : Nat} (h : flag s (F.XL_WQ_BASE_LO_EN c) = true) : wrackFull s c = true ↔ wrackCount s c = 256 := by
  simp [wrackFull, h]

/-! ### A lost record (R154) -/

/-- A cove's overflow counter is none of the logbook's. -/
theorem overflow_ne_lbCtr (c i : Nat) : C.XL_WQ_OVERFLOW c ≠ lbCtr i := by
  show 0x1003010 + _ ≠ 0x610024 + _
  omega

theorem ctr_wrackLost {s : State} (hs : Regs.wf s = true) (c : Nat) :
    ctr (wrackLost s c) (C.XL_WQ_OVERFLOW c) = min (ctr s (C.XL_WQ_OVERFLOW c) + 1) maxCtr :=
  (ctr_lbAdd_ne (overflow_ne_lbCtr c 18) _ _).trans (ctr_addCtr_self hs _ _)

theorem wrackLost_onlyChanges (s : State) (c : Nat) : OnlyChanges [.counters] s (wrackLost s c) := by
  intro p hp
  cases p
  case counters => exact absurd List.mem_cons_self hp
  all_goals rfl

theorem fld_wrackLost (s : State) (c : Nat) (f : Fld) : fld (wrackLost s c) f = fld s f := (wrackLost_ext s c).fld_eq rfl f

theorem flag_wrackLost_werr {s : State} (hs : Regs.wf s = true) (c : Nat) :
    flag (wrackLost (setFlag s (F.XL_WQ_STATUS_WERR c) true) c) (F.XL_WQ_STATUS_WERR c) = true :=
  bne_iff_ne.2 (((fld_wrackLost _ c _).trans (fld_setFld_self hs _ _)).trans_ne Nat.one_ne_zero)

/-! ### A record sent (R149, R153) -/

theorem prod_off_window (c : Nat) : (F.XL_WQ_PROD_PROD c).off / 0x100000 = 16 + c := by
  dsimp only
  omega

theorem prod_key_ne_werr (c : Nat) : (F.XL_WQ_PROD_PROD c).key ≠ (F.XL_WQ_STATUS_WERR c).key := by
  unfold Fld.key
  dsimp only
  omega

theorem fld_sendWrack {s : State} (hs : Regs.wf s = true) (c : Nat) (r : WrackRec) :
    fld (raiseSrc (sendWrack s c r) (32 * c + 1)) (F.XL_WQ_PROD_PROD c) = (fld s (F.XL_WQ_PROD_PROD c) + 1) % 65536 := by
  have low {k : Nat} (hk : k < 0x20000000) : (F.XL_WQ_PROD_PROD c).key ≠ k := window_key_ne (prod_off_window c) hk
  rw [fld_raiseSrc (low (by decide)) (low (by decide)) (srcClass_wrack c)]
  exact fld_setFld_self (s := emit s _) hs _ _

theorem mem_out_sendWrack (s : State) (c : Nat) (r : WrackRec) :
    .hostWrite 0 ((wrackBase s c + fld s (F.XL_WQ_PROD_PROD c) % 256 * 32) % 2 ^ 64) (wrackBytes s c r) ∈
      (raiseSrc (sendWrack s c r) (32 * c + 1)).out :=
  (raiseSrc_ext ..).out.subset List.mem_cons_self

/-! ### A held record that is lost kills its context (R154) -/

theorem ofl_off_window (c : Nat) : (F.XL_WQ_STATUS_OFL c).off / 0x100000 = 16 + c := by
  dsimp only
  omega

/-- The ports read no field of a cove's window. -/
theorem hostClosed_setFlag_ofl (s : State) (c : Nat) (b : Bool) : hostClosed (setFlag s (F.XL_WQ_STATUS_OFL c) b) = hostClosed s := by
  have hfld {f : Fld} (hf : f.key < 0x20000000) : fld (setFlag s (F.XL_WQ_STATUS_OFL c) b) f = fld s f :=
    fld_setFld_ne _ _ (window_key_ne (ofl_off_window c) hf).symm
  unfold hostClosed slackOn flag
  rw [hfld (by decide), hfld (by decide)]
  rfl

theorem holdXfer_lost {s u : State} {id reason level : Nat} {x : Xfer} (hx : tfind s.xl.xfers id = some x)
    (hw : writeWrack (incCtr (setXfer s id { x with stage := .held reason level }) (C.XL_CV_FAULT x.tag)) x.tag (faultRec x reason level) =
      (false, u)) :
    holdXfer s id reason level = killCtx (setFlag u (F.XL_WQ_STATUS_OFL x.tag) true) x.tag x.ctx := by
  simp only [holdXfer, hx, hw]
  rfl

theorem xlWqKill_manages {s : State} {q : Requester} {c : CoveId} (h : Manages s q) (hc : coveExists s c.val = true) (ctx : BitVec 12) :
    exec (.xlWqKill q c ctx) s = .next (killCtx s c.val ctx.toNat) := atDriver_manages h hc ..

/-- Settles O47: by the three cases of the write of a record, and for a held record by what is done when it is not written. -/
theorem wrackQueueWrites : Obligations.WrackQueueWrites := by
  unfold Obligations.WrackQueueWrites
  refine ⟨fun s c r hc hs => ⟨fun hf => ?_, fun hf he => ?_, fun hf he => ?_, wrackFull_of_disabled, wrackFull_iff⟩,
    fun s u id reason level x hx hw => ⟨rfl, holdXfer_lost hx hw, fun q c ctx htag hctx ⟨hu, hq⟩ hc => ?_⟩⟩
  · exact ⟨_, writeWrack_full hc hf r, ctr_wrackLost hs c, rfl, wrackLost_onlyChanges s c⟩
  · have hwerr : Regs.wf (setFlag s (F.XL_WQ_STATUS_WERR c) true) = true := (setFlag_ext ..).regs hs
    exact ⟨_, writeWrack_hostError hc hf he r, flag_wrackLost_werr hs c, ctr_wrackLost hwerr c, rfl,
      (fld_wrackLost ..).trans (fld_setFld_ne _ _ (prod_key_ne_werr c)), rfl⟩
  · exact ⟨_, writeWrack_sent hc hf he r, fld_sendWrack hs c r, mem_out_sendWrack s c r, fun hr => pending_raiseSrc_self hr⟩
  · rw [xlWqKill_manages ⟨(hostClosed_setFlag_ofl ..).trans hu, hq⟩ hc, holdXfer_lost hx hw, htag, hctx]

end Sys2Proof.Machine
end

section
/-!
Movers, rankers and moves: what their commands answer while the unit works, and each outcome of a GO (R209–R215).
-/
namespace Sys2Proof.Machine

/-! ### Tiles of movers and rankers (R209, R212) -/

/-- A tile's command on a unit that works ends the tile when told to abort, and does its work when not. -/
theorem abortOrWork_works {s t : State} {u : Nat} (h : Works s u) (abort : Bool) (w : State) :
    (if abort then atDomain s (unitDomain u) t else atEngine s u w) = .next (if abort then t else w) := by
  cases abort
  all_goals exact atDomain_running h

section
variable {s : State} {t : OnTile} {c : Nat}

theorem moverTileStart_works {n : Fin 16} (ho : unitOwner s (rmUnit n.val) = some c) (hw : Works s (rmUnit n.val))
    (ht : newTile s (rmUnit n.val) = some t) : exec (.moverTileStart n) s =
      .next (if t.eng.abort then endTile s (rmUnit n.val) .aborted else runWork s (startMover c n.val t)) := by
  show execMoverTileStart n s = _
  simp only [execMoverTileStart, ht, ho]
  exact abortOrWork_works hw _ _

theorem moverBlock_works {n : Fin 16} {m : Mover} (ho : unitOwner s (rmUnit n.val) = some c) (hw : Works s (rmUnit n.val))
    (ht : liveTile s (rmUnit n.val) = some t) (hm : tfind s.en.rm (rmUnit n.val) = some m) : exec (.moverBlock n) s =
      .next (if t.eng.abort then endTile s (rmUnit n.val) .aborted else runWork s (moveBlock c n.val t m)) := by
  show execMoverBlock n s = _
  simp only [execMoverBlock, ht, hm, ho]
  exact abortOrWork_works hw _ _

theorem rankerTileStart_works {n : Fin 8} (ho : unitOwner s (tkUnit n.val) = some c) (hw : Works s (tkUnit n.val))
    (ht : newTile s (tkUnit n.val) = some t) : exec (.rankerTileStart n) s =
      .next (if t.eng.abort then endTile s (tkUnit n.val) .aborted else runWork s (startRank c n.val t)) := by
  show execRankerTileStart n s = _
  simp only [execRankerTileStart, ht, ho]
  exact abortOrWork_works hw _ _

theorem rankerSegment_works {n : Fin 8} {r : Ranker} (ho : unitOwner s (tkUnit n.val) = some c) (hw : Works s (tkUnit n.val))
    (ht : liveTile s (tkUnit n.val) = some t) (hr : tfind s.en.tk (tkUnit n.val) = some r) : exec (.rankerSegment n) s =
      .next (if t.eng.abort then endTile s (tkUnit n.val) .aborted else runWork s (rankSegment c n.val r)) := by
  show execRankerSegment n s = _
  simp only [execRankerSegment, ht, hr, ho]
  exact abortOrWork_works hw _ _

end

/-! ### A GO of a move (R214) -/

theorem atWindow_reaches {s : State} {q : Requester} {c : Nat} (h : Reaches s q c) (off : Nat) (t : State) :
    atWindow s q c off t = .next t := by
  obtain ⟨hs, hc, hq⟩ := h
  cases q with
  | vf v => simp [atWindow, hs, hc, hq v rfl]
  | ibpin | pf => simp [atWindow, hs, hc]

/-- The staged move of cove `c` is well formed (R214). -/
structure StagedOk (s : State) (c : Nat) : Prop where
  src : fld64 s (F.SW_CV_MV_SRC_LO c) (F.SW_CV_MV_SRC_HI c) % 64 = 0
  srcHigh : fld64 s (F.SW_CV_MV_SRC_LO c) (F.SW_CV_MV_SRC_HI c) < 2 ^ 48
  dst : fld64 s (F.SW_CV_MV_DST_LO c) (F.SW_CV_MV_DST_HI c) % 64 = 0
  dstHigh : fld64 s (F.SW_CV_MV_DST_LO c) (F.SW_CV_MV_DST_HI c) < 2 ^ 48
  len : fld s (F.SW_CV_MV_LEN c) % 64 = 0
  lenMin : 64 ≤ fld s (F.SW_CV_MV_LEN c)
  lenMax : fld s (F.SW_CV_MV_LEN c) ≤ 2 ^ 30

section
variable {s : State} {c : Nat} (h : StagedOk s c)
include h

/-- What a well-formed GO does, by the number of tenant moves (R214). -/
theorem moveGo_staged : moveGo s c =
    if !flag s (F.SW_CV_MV_ADVICE c) && 64 ≤ tenantMoves s c then setFlag s (F.SW_CV_MV_STATUS_FULL c) true
    else if flag s (F.SW_CV_MV_ADVICE c) && 32 ≤ tenantMoves s c then
      moveEvent (incCtr s (C.SW_CV_MV_DROPPED c)) c (stagedEvent s c)
    else addMove s c (fld s (F.SW_CV_MV_CTX c)) (fld64 s (F.SW_CV_MV_SRC_LO c) (F.SW_CV_MV_SRC_HI c))
      (fld64 s (F.SW_CV_MV_DST_LO c) (F.SW_CV_MV_DST_HI c)) (fld s (F.SW_CV_MV_LEN c))
      (if flag s (F.SW_CV_MV_ADVICE c) then .advice else .prefetch) (stagedEvent s c) := by
  obtain ⟨hs, hs', hd, hd', hl, hmin, hmax⟩ := h
  refine if_neg ?_
  simp only [hs, hd, hl, bne_self_eq_false, Nat.not_le.2 hs', Nat.not_le.2 hd', Nat.not_lt.2 hmin, Nat.not_lt.2 hmax, decide_false,
    Bool.or_false, Bool.false_eq_true, not_false_eq_true]

theorem moveGo_full (hn : 64 ≤ tenantMoves s c) (ha : flag s (F.SW_CV_MV_ADVICE c) = false) :
    moveGo s c = setFlag s (F.SW_CV_MV_STATUS_FULL c) true := by
  simp [moveGo_staged h, hn, ha]

theorem moveGo_queued (hn : tenantMoves s c < if flag s (F.SW_CV_MV_ADVICE c) then 32 else 64) : moveGo s c =
    addMove s c (fld s (F.SW_CV_MV_CTX c)) (fld64 s (F.SW_CV_MV_SRC_LO c) (F.SW_CV_MV_SRC_HI c))
      (fld64 s (F.SW_CV_MV_DST_LO c) (F.SW_CV_MV_DST_HI c)) (fld s (F.SW_CV_MV_LEN c))
      (if flag s (F.SW_CV_MV_ADVICE c) then .advice else .prefetch) (stagedEvent s c) := by
  rw [moveGo_staged h]
  cases ha : flag s (F.SW_CV_MV_ADVICE c) with
  | false =>
    have hlt : tenantMoves s c < 64 := by simpa [ha] using hn
    simp [Nat.not_le.2 hlt]
  | true =>
    have hlt : tenantMoves s c < 32 := by simpa [ha] using hn
    simp [Nat.not_le.2 hlt]

end

theorem addMove_onlyChanges (s : State) (c ctx src dst len : Nat) (kind : MoveKind) (ev : Option (Nat × Nat)) :
    OnlyChanges [.engines] s (addMove s c ctx src dst len kind ev) := by
  intro p hp
  cases p
  case engines => exact absurd List.mem_cons_self hp
  all_goals rfl

theorem swCvMvGo_reaches {s : State} {q : Requester} {c : CoveId} (h : Reaches s q c.val) : exec (.swCvMvGo q c) s = .next (moveGo s c.val) :=
  atWindow_reaches h _ _

/-! ### A line of a move, and its end (R213, R214) -/

theorem moveLine_head {s : State} {n : StackId} {m : Move} (hm : headMove s n.val = some m) (hf : fillWaits s n.val = false)
    (hr : rekeyWaits s n.val = false) (hv : verifyWaits s n.val = false) (hw : Works s (swUnit n.val)) :
    exec (.moveLine ⟨n, false⟩) s = .next (runWork s (moveLine s m)) := by
  show execMoveLine ⟨n, false⟩ s = _
  simp only [execMoveLine, hm, hf, hr, hv]
  exact atDomain_running hw

section
variable {s : State} {i : Nat} {m : Move} (hm : s.en.moves.find? (fun m => m.id == i) = some m) (hw : Works s (swUnit m.sweep))
include hm hw

theorem moveEnd_failed {reason dva : Nat} (h : m.failed = some (reason, dva)) :
    exec (.moveEnd i) s = .next (endFailed (dropMove s i) m reason dva) := by
  show execMoveEnd i s = _
  simp only [execMoveEnd, hm, h]
  exact atDomain_running hw

theorem moveEnd_whole (hf : m.failed = none) (h : m.whole = true) : exec (.moveEnd i) s =
    .next (moveEvent (endFold (incCtr (dropMove s i) (C.SW_MOVES m.sweep)) m true) m.cove m.event) := by
  show execMoveEnd i s = _
  simp only [execMoveEnd, hm, hf, h]
  exact atDomain_running hw

end

/-- Settles O29: each command by its equation where it acts; a GO by the moves its cove has queued. -/
theorem moverCommandsComplete : Obligations.MoverCommandsComplete := by
  unfold Obligations.MoverCommandsComplete
  refine ⟨fun s n t c ho hw => ⟨moverTileStart_works ho hw, fun m => moverBlock_works ho hw⟩,
    fun s n t c ho hw => ⟨rankerTileStart_works ho hw, fun r => rankerSegment_works ho hw⟩,
    fun s q c hq hs hs' hd hd' hl hmin hmax => ?_, fun s n m => moveLine_head,
    fun s i m hm hw => ⟨fun r d => moveEnd_failed hm hw, moveEnd_whole hm hw⟩⟩
  have hok : StagedOk s c.val := ⟨hs, hs', hd, hd', hl, hmin, hmax⟩
  rw [swCvMvGo_reaches hq]
  refine ⟨fun hn => ⟨_, (swCvMvGo_reaches hq).trans (congrArg _ (moveGo_queued hok hn)), ⟨_, rfl, rfl, rfl, rfl, rfl, rfl, rfl⟩,
    addMove_onlyChanges s _ _ _ _ _ _ _⟩, fun hn ha => congrArg _ (moveGo_full hok hn ha)⟩

end Sys2Proof.Machine
end

section
/-!
The overlay's probe: the entry it takes among a row's candidates, as the list of entries grows (R199).
-/
namespace Sys2Proof.Machine

/-- An entry that a probe of row `r` under generation `g` may take (R199). -/
structure OvlEnt.Serves (r g : Nat) (e : OvlEnt) : Prop where
  valid : e.v = true
  row : e.row = r
  born : e.born ≤ g

theorem OvlEnt.serves_iff {r g : Nat} {e : OvlEnt} : e.Serves r g ↔ e.v = true ∧ e.row = r ∧ e.born ≤ g :=
  ⟨fun ⟨hv, hr, hb⟩ => ⟨hv, hr, hb⟩, fun ⟨hv, hr, hb⟩ => ⟨hv, hr, hb⟩⟩

theorem OvlEnt.serves_iff_filter {r g : Nat} {e : OvlEnt} : e.Serves r g ↔ (e.v && e.row == r && decide (e.born ≤ g)) = true := by
  simp [serves_iff, and_assoc]

/-- Entry `e` is the one that a probe takes from `l`. -/
structure Newest (l : List OvlEnt) (r g : Nat) (e : OvlEnt) : Prop where
  mem : e ∈ l
  serves : e.Serves r g
  newest : ∀ f ∈ l, f.Serves r g → f.born ≤ e.born

/-! ### A probe of a list with one entry more -/

section
variable {l : List OvlEnt} {r g : Nat} {e b : OvlEnt}

theorem probeEnts_concat_of_not_serves (he : ¬ e.Serves r g) : probeEnts (l ++ [e]) r g = probeEnts l r g := by
  rw [OvlEnt.serves_iff_filter, Bool.not_eq_true] at he
  unfold probeEnts
  rw [List.filter_append, List.filter_singleton, he, cond_false, List.append_nil]

theorem probeEnts_concat_of_none (he : e.Serves r g) (hl : probeEnts l r g = none) : probeEnts (l ++ [e]) r g = some e := by
  rw [OvlEnt.serves_iff_filter] at he
  unfold probeEnts at hl ⊢
  rw [List.filter_append, List.filter_singleton, he, cond_true, List.foldl_append, hl]
  rfl

theorem probeEnts_concat_of_some (he : e.Serves r g) (hl : probeEnts l r g = some b) :
    probeEnts (l ++ [e]) r g = some (if b.born < e.born then e else b) := by
  rw [OvlEnt.serves_iff_filter] at he
  unfold probeEnts at hl ⊢
  rw [List.filter_append, List.filter_singleton, he, cond_true, List.foldl_append, hl]
  exact (apply_ite some _ e b).symm

theorem Newest.concat_of_not_serves (h : Newest l r g b) (he : ¬ e.Serves r g) : Newest (l ++ [e]) r g b where
  mem := List.mem_append_left _ h.mem
  serves := h.serves
  newest f hf hs := by
    rcases List.mem_append.1 hf with hf | hf
    · exact h.newest f hf hs
    · exact absurd (List.mem_singleton.1 hf ▸ hs) he

theorem Newest.concat_of_serves (h : Newest l r g b) (he : e.Serves r g) :
    Newest (l ++ [e]) r g (if b.born < e.born then e else b) := by
  have hl (f : OvlEnt) (hf : f ∈ l ++ [e]) (hs : f.Serves r g) : f.born ≤ b.born ∨ f = e :=
    (List.mem_append.1 hf).imp (h.newest f · hs) List.mem_singleton.1
  split
  · next hlt =>
    refine ⟨List.mem_append_right _ List.mem_cons_self, he, fun f hf hs => ?_⟩
    rcases hl f hf hs with hb | rfl
    · exact hb.trans hlt.le
    · exact le_rfl
  · next hle =>
    refine ⟨List.mem_append_left _ h.mem, h.serves, fun f hf hs => ?_⟩
    rcases hl f hf hs with hb | rfl
    · exact hb
    · exact not_lt.1 hle

end

/-- A probe takes the newest entry that serves it, or there is none. -/
theorem probeEnts_spec (l : List OvlEnt) (r g : Nat) :
    (∃ b, probeEnts l r g = some b ∧ Newest l r g b) ∨ (probeEnts l r g = none ∧ ∀ f ∈ l, ¬ f.Serves r g) := by
  induction l using List.reverseRecOn with
  | nil => exact .inr ⟨rfl, fun f hf => absurd hf List.not_mem_nil⟩
  | append_singleton l e ih =>
    by_cases he : e.Serves r g
    · refine .inl ?_
      rcases ih with ⟨b, hb, hnew⟩ | ⟨hnone, hno⟩
      · exact ⟨_, probeEnts_concat_of_some he hb, hnew.concat_of_serves he⟩
      · refine ⟨e, probeEnts_concat_of_none he hnone, List.mem_append_right _ List.mem_cons_self, he, fun f hf hs => ?_⟩
        rcases List.mem_append.1 hf with hf | hf
        · exact absurd hs (hno f hf)
        · exact (List.mem_singleton.1 hf ▸ le_rfl)
    · rw [probeEnts_concat_of_not_serves he]
      refine ih.imp (fun ⟨b, hb, hnew⟩ => ⟨b, hb, hnew.concat_of_not_serves he⟩) (fun ⟨hnone, hno⟩ => ⟨hnone, fun f hf => ?_⟩)
      rcases List.mem_append.1 hf with hf | hf
      · exact hno f hf
      · exact List.mem_singleton.1 hf ▸ he

/-- Settles O55: by the two outcomes of a probe. -/
theorem probeTakesTheNewestPublished : Obligations.ProbeTakesTheNewestPublished := by
  unfold Obligations.ProbeTakesTheNewestPublished
  intro l r g
  simp only [← OvlEnt.serves_iff]
  rcases probeEnts_spec l r g with ⟨b, hb, hnew⟩ | ⟨hnone, hno⟩
  · refine ⟨fun e he => ?_, fun hn => absurd (hb.symm.trans hn) (Option.some_ne_none b), fun hno => absurd hnew.serves (hno b hnew.mem)⟩
    obtain rfl : b = e := Option.some.inj (hb.symm.trans he)
    exact ⟨hnew.mem, hnew.serves.valid, hnew.serves.row, hnew.serves.born, fun f hf hv hr hg => hnew.newest f hf ⟨hv, hr, hg⟩⟩
  · exact ⟨fun e he => absurd (hnone.symm.trans he) (Option.some_ne_none e).symm, fun _ => hno, fun _ => hnone⟩

end Sys2Proof.Machine
end

section
/-!
Top-K ranking: the order of FP32 scores by sign and magnitude, and the first K scores of a segment (R211).
-/
namespace Sys2Proof.Machine

/-! ### The value of an FP32 word (R175) -/

/-- The magnitude code of a word: its bits without the sign. -/
def magCode (w : Word) : Nat := w.toNat % 2 ^ 31

/-- A magnitude code as a multiple of the least subnormal; its leading bits are the exponent. -/
def magValue (x : Nat) : Nat := if x / 2 ^ 23 = 0 then x else (2 ^ 23 + x % 2 ^ 23) * 2 ^ (x / 2 ^ 23 - 1)

/-- A number with a sign. -/
def signed (neg : Bool) (x : Nat) : Int := if neg then -x else x

/-- Within one exponent the mantissa grows, and the largest mantissa lies below the next exponent's least. -/
theorem magValue_lt_succ (x : Nat) : magValue x < magValue (x + 1) := by
  unfold magValue
  by_cases hm : x % 2 ^ 23 = 2 ^ 23 - 1
  · have hd : (x + 1) / 2 ^ 23 = x / 2 ^ 23 + 1 := by omega
    have hr : (x + 1) % 2 ^ 23 = 0 := by omega
    rw [hd, hr, if_neg (Nat.succ_ne_zero _), Nat.add_sub_cancel]
    split
    · next h0 => rw [h0]; omega
    · next h0 =>
      obtain ⟨e, he⟩ := Nat.exists_eq_succ_of_ne_zero h0
      rw [hm, he, Nat.succ_sub_one, Nat.succ_eq_add_one, Nat.pow_succ' (n := e), ← mul_assoc]
      exact Nat.mul_lt_mul_of_pos_right (by decide) (Nat.two_pow_pos e)
  · have hd : (x + 1) / 2 ^ 23 = x / 2 ^ 23 := by omega
    have hr : (x + 1) % 2 ^ 23 = x % 2 ^ 23 + 1 := by omega
    rw [hd, hr]
    split
    · exact Nat.lt_succ_self x
    · exact Nat.mul_lt_mul_of_pos_right (by omega) (Nat.two_pow_pos _)

theorem magValue_strictMono : StrictMono magValue := strictMono_nat_of_lt_succ magValue_lt_succ

theorem signed_bounds (neg : Bool) (x : Nat) : -(x : Int) ≤ signed neg x ∧ signed neg x ≤ x := by
  unfold signed
  split
  all_goals omega

/-- Among numbers of unequal magnitude the sign of the greater one decides. -/
theorem signed_lt_iff {x y : Nat} (h : x < y) (a : Bool) {b : Bool} : signed a x < signed b y ↔ b = false := by
  have hx := signed_bounds a x
  cases b with
  | false => exact iff_of_true (show signed a x < (y : Int) by omega) rfl
  | true => exact iff_of_false (show ¬ signed a x < -(y : Int) by omega) Bool.noConfusion

theorem lt_signed_iff {x y : Nat} (h : x < y) (a : Bool) {b : Bool} : signed b y < signed a x ↔ b = true := by
  have hx := signed_bounds a x
  cases b with
  | false => exact iff_of_false (show ¬ (y : Int) < signed a x by omega) Bool.noConfusion
  | true => exact iff_of_true (show -(y : Int) < signed a x by omega) rfl

theorem signed_lt_signed_iff {x : Nat} (h : 0 < x) (a b : Bool) : signed a x < signed b x ↔ a = true ∧ b = false := by
  have hx := signed_bounds b x
  match a, b with
  | true, false => exact iff_of_true (show -(x : Int) < x by omega) ⟨rfl, rfl⟩
  | true, true => exact iff_of_false (lt_irrefl _) fun hab => Bool.noConfusion hab.2
  | false, b => exact iff_of_false (show ¬ (x : Int) < signed b x by omega) fun hab => Bool.noConfusion hab.1

theorem signed_magValue_lt_iff (a b : Bool) (x y : Nat) : signed a (magValue x) < signed b (magValue y) ↔ signed a x < signed b y := by
  have hlt : magValue x < magValue y ↔ x < y := magValue_strictMono.lt_iff_lt
  have hgt : magValue y < magValue x ↔ y < x := magValue_strictMono.lt_iff_lt
  have hx : 0 < magValue x ↔ 0 < x := magValue_strictMono.lt_iff_lt (a := 0)
  have hy : 0 < magValue y ↔ 0 < y := magValue_strictMono.lt_iff_lt (a := 0)
  match a, b with
  | false, false => simpa [signed] using hlt
  | true, true => simpa [signed] using hgt
  | false, true | true, false => simp only [signed, if_true, Bool.false_eq_true, if_false]; omega

/-! ### The kinds of FP32 words -/

theorem laneVal_eq (w : Word) : laneVal w =
    if magCode w / 2 ^ 23 = 255 then (if magCode w % 2 ^ 23 = 0 then .inf w.msb else .nan)
    else if magCode w / 2 ^ 23 = 0 then .fin w.msb (magCode w % 2 ^ 23) (-149)
    else .fin w.msb (2 ^ 23 + magCode w % 2 ^ 23) (-149 + (magCode w / 2 ^ 23 : Nat) - 1) := by
  have hs : w.toNat.testBit (8 + 23) = w.msb := by
    rw [BitVec.msb_eq_getLsbD_last]; rfl
  have he : bits w.toNat 23 8 = magCode w / 2 ^ 23 := by
    unfold bits magCode; omega
  have hm : bits w.toNat 0 23 = magCode w % 2 ^ 23 := by
    unfold bits magCode; omega
  unfold laneVal Fmt.decode
  simp only [fp32, hs, he, hm, Fmt.low, Fmt.bias]
  norm_num

theorem laneVal_nan {w : Word} (h : 0x7F800000 < magCode w) : laneVal w = .nan := by
  have hlt : magCode w < 2 ^ 31 := Nat.mod_lt _ (by decide)
  rw [laneVal_eq, if_pos (by omega), if_neg (by omega)]

theorem laneVal_inf {w : Word} (h : magCode w = 0x7F800000) : laneVal w = .inf w.msb := by
  rw [laneVal_eq, if_pos (by omega), if_pos (by omega)]

/-- A finite word is `magValue` times the least subnormal. -/
theorem laneVal_fin {w : Word} (h : magCode w < 0x7F800000) :
    ∃ (m : Nat) (e : Int), laneVal w = .fin w.msb m e ∧ -149 ≤ e ∧ scaled w.msb m e (-149) = signed w.msb (magValue (magCode w)) := by
  rw [laneVal_eq, if_neg (by omega)]
  unfold magValue
  split
  · next h0 =>
    refine ⟨_, _, rfl, le_rfl, ?_⟩
    have hm : magCode w % 2 ^ 23 = magCode w := by omega
    rw [hm]
    simp [scaled, signed]
  · next h0 =>
    refine ⟨_, _, rfl, by omega, ?_⟩
    have he : (-149 + (magCode w / 2 ^ 23 : Nat) - 1 - -149 : Int).toNat = magCode w / 2 ^ 23 - 1 := by omega
    simp only [scaled, signed, he]
    push_cast
    rfl

/-! ### The order of FP32 words (R211) -/

/-- A finite value as a multiple of a smaller power of two. -/
theorem scaled_eq_mul {L q e : Int} (hL : L ≤ q) (hq : q ≤ e) (s : Bool) (m : Nat) :
    scaled s m e L = scaled s m e q * 2 ^ (q - L).toNat := by
  have he : (e - L).toNat = (e - q).toNat + (q - L).toNat := by omega
  unfold scaled
  rw [he, pow_add]
  split
  all_goals simp [mul_assoc]

theorem Fp.lt_fin_iff {L e f : Int} (he : L ≤ e) (hf : L ≤ f) (s t : Bool) (m n : Nat) :
    (Fp.fin s m e).lt (.fin t n f) = true ↔ scaled s m e L < scaled t n f L := by
  have hq : L ≤ min e f := le_min he hf
  rw [scaled_eq_mul hq (min_le_left e f), scaled_eq_mul hq (min_le_right e f), mul_lt_mul_iff_left₀ (by positivity)]
  exact decide_eq_true_iff

/-- The place of a number on the scale of signed magnitudes. -/
def laneOrder (w : Word) : Int := signed w.msb (magCode w)

theorem laneOrder_eq (w : Word) : laneOrder w = if w.msb then -(w.toNat % 2 ^ 31 : Int) else w.toNat % 2 ^ 31 := by
  simp [laneOrder, signed, magCode]

theorem laneVal_lt_iff {a b : Word} (ha : magCode a ≤ 0x7F800000) (hb : magCode b ≤ 0x7F800000) :
    (laneVal a).lt (laneVal b) = true ↔ laneOrder a < laneOrder b := by
  unfold laneOrder
  rcases ha.lt_or_eq with ha | ha
  · obtain ⟨m, e, hva, he, hsa⟩ := laneVal_fin ha
    rcases hb.lt_or_eq with hb | hb
    · obtain ⟨n, f, hvb, hf, hsb⟩ := laneVal_fin hb
      rw [hva, hvb, Fp.lt_fin_iff he hf, hsa, hsb, signed_magValue_lt_iff]
    · rw [hva, laneVal_inf hb, hb, signed_lt_iff ha]
      exact iff_of_eq (Bool.not_eq_true' _)
  · rcases hb.lt_or_eq with hb | hb
    · obtain ⟨n, f, hvb, -⟩ := laneVal_fin hb
      rw [hvb, laneVal_inf ha, ha, lt_signed_iff hb]
      exact Iff.rfl
    · rw [laneVal_inf ha, laneVal_inf hb, ha, hb, signed_lt_signed_iff (by decide), ← Bool.not_eq_true' b.msb]
      exact Bool.and_eq_true_iff

theorem laneOrder_bounds (w : Word) : -(magCode w : Int) ≤ laneOrder w ∧ laneOrder w ≤ magCode w :=
  signed_bounds ..

theorem laneVal_ne_nan {w : Word} (h : magCode w ≤ 0x7F800000) : laneVal w ≠ .nan := by
  rcases h.lt_or_eq with h | h
  · obtain ⟨m, e, hv, -⟩ := laneVal_fin h
    rw [hv]
    exact Fp.noConfusion
  · rw [laneVal_inf h]
    exact Fp.noConfusion

/-- Numbers stand in the direction of `desc`, and before every NaN. -/
theorem before_iff (desc : Bool) (a b : Word) : before desc a b = true ↔ magCode a ≤ 0x7F800000 ∧ (0x7F800000 < magCode b
    ∨ if desc then laneOrder b < laneOrder a else laneOrder a < laneOrder b) := by
  unfold before
  rcases Nat.lt_or_ge 0x7F800000 (magCode a) with ha | ha
  · simp [laneVal_nan ha, Nat.not_le.2 ha]
  rcases Nat.lt_or_ge 0x7F800000 (magCode b) with hb | hb
  · simp [laneVal_nan hb, laneVal_ne_nan ha, ha, hb]
  · cases desc
    · simp [laneVal_ne_nan ha, laneVal_ne_nan hb, ha, Nat.not_lt.2 hb, laneVal_lt_iff ha hb]
    · simp [laneVal_ne_nan ha, laneVal_ne_nan hb, ha, Nat.not_lt.2 hb, laneVal_lt_iff hb ha]

/-- A place for every score: numbers in the direction of `desc`, NaNs after them. -/
def scoreKey (desc : Bool) (w : Word) : Int :=
  if 0x7F800000 < magCode w then 2 ^ 31 else if desc then -laneOrder w else laneOrder w

theorem before_iff_scoreKey (desc : Bool) (a b : Word) : before desc a b = true ↔ scoreKey desc a < scoreKey desc b := by
  have ha := laneOrder_bounds a
  have hb := laneOrder_bounds b
  rw [before_iff]
  unfold scoreKey
  cases desc
  all_goals split_ifs
  all_goals omega

/-! ### The scores in order -/

/-- One score of a segment stands before another: by value, equal ones by position (R211). -/
def Stands (desc : Bool) (a b : Word × Nat) : Prop :=
  scoreKey desc a.1 < scoreKey desc b.1 ∨ scoreKey desc a.1 = scoreKey desc b.1 ∧ a.2 < b.2

section
variable {desc : Bool} {a b c e : Word × Nat}

theorem Stands.trans (h : Stands desc a b) (k : Stands desc b c) : Stands desc a c := by
  unfold Stands at *
  omega

theorem stands_iff_before : Stands desc a b ↔ before desc b.1 a.1 = false ∧ (before desc a.1 b.1 = false → a.2 < b.2) := by
  rw [← Bool.not_eq_true, ← Bool.not_eq_true, before_iff_scoreKey, before_iff_scoreKey]
  unfold Stands
  omega

theorem insertScore_perm (desc : Bool) (e : Word × Nat) (l : List (Word × Nat)) : (insertScore desc e l).Perm (e :: l) := by
  induction l with
  | nil => exact .refl _
  | cons x xs ih =>
    unfold insertScore
    split
    · exact .refl _
    · exact (ih.cons x).trans (.swap e x xs)

/-- A score that comes after all of an ordered list keeps it in order. -/
theorem insertScore_pairwise {l : List (Word × Nat)} (h : l.Pairwise (Stands desc)) (hpos : ∀ x ∈ l, x.2 < e.2) :
    (insertScore desc e l).Pairwise (Stands desc) := by
  induction l with
  | nil => exact List.pairwise_singleton _ _
  | cons x xs ih =>
    obtain ⟨hx, hxs⟩ := List.pairwise_cons.1 h
    unfold insertScore
    split
    · next hb =>
      have hex : Stands desc e x := .inl ((before_iff_scoreKey ..).1 hb)
      refine List.pairwise_cons.2 ⟨fun y hy => ?_, h⟩
      rcases List.mem_cons.1 hy with rfl | hy
      · exact hex
      · exact hex.trans (hx y hy)
    · next hb =>
      have hxe : Stands desc x e := stands_iff_before.2 ⟨Bool.eq_false_iff.2 hb, fun _ => hpos x List.mem_cons_self⟩
      refine List.pairwise_cons.2 ⟨fun y hy => ?_, ih hxs fun y hy => hpos y (List.mem_cons_of_mem _ hy)⟩
      rcases List.mem_cons.1 ((insertScore_perm ..).subset hy) with rfl | hy
      · exact hxe
      · exact hx y hy

end

/-- All scores of a segment in order, with their positions. -/
def rankedScores (desc : Bool) (l : List Word) : List (Word × Nat) := l.zipIdx.foldl (fun a e => insertScore desc e a) []

section
variable (desc : Bool)

theorem rankedScores_concat (l : List Word) (w : Word) :
    rankedScores desc (l ++ [w]) = insertScore desc (w, l.length) (rankedScores desc l) := by
  simp [rankedScores, List.zipIdx_append, List.foldl_append]

theorem topScores_concat (k : Nat) (l : List Word) (w : Word) :
    topScores desc k (l ++ [w]) = (insertScore desc (w, l.length) (topScores desc k l)).take k := by
  simp [topScores, List.zipIdx_append, List.foldl_append]

theorem rankedScores_perm (l : List Word) : (rankedScores desc l).Perm l.zipIdx := by
  induction l using List.reverseRecOn with
  | nil => exact .refl _
  | append_singleton l w ih =>
    rw [rankedScores_concat, List.zipIdx_append]
    exact ((insertScore_perm ..).trans (ih.cons _)).trans (by simpa using (List.perm_append_singleton _ _).symm)

theorem mem_rankedScores {l : List Word} {e : Word × Nat} : e ∈ rankedScores desc l ↔ l[e.2]? = some e.1 :=
  (rankedScores_perm desc l).mem_iff.trans List.mem_zipIdx_iff_getElem?

theorem rankedScores_pairwise (l : List Word) : (rankedScores desc l).Pairwise (Stands desc) := by
  induction l using List.reverseRecOn with
  | nil => exact .nil
  | append_singleton l w ih =>
    rw [rankedScores_concat]
    exact insertScore_pairwise ih fun x hx => (List.getElem?_eq_some_iff.1 ((mem_rankedScores desc).1 hx)).1

/-- What is cut off a list in order stays cut off. -/
theorem take_insertScore_take (e : Word × Nat) (k : Nat) (l : List (Word × Nat)) :
    (insertScore desc e (l.take k)).take k = (insertScore desc e l).take k := by
  induction l generalizing k with
  | nil => rw [List.take_nil]
  | cons x xs ih =>
    cases k with
    | zero => rfl
    | succ k =>
      rw [List.take_succ_cons]
      unfold insertScore
      split
      · have hcut : (x :: xs.take k).take k = (x :: xs).take k := by
          rw [← List.take_succ_cons, List.take_take, Nat.min_eq_left (Nat.le_succ k)]
        exact congrArg (e :: ·) hcut
      · rw [List.take_succ_cons, List.take_succ_cons, ih]

theorem topScores_eq_take (k : Nat) (l : List Word) : topScores desc k l = (rankedScores desc l).take k := by
  induction l using List.reverseRecOn with
  | nil => exact List.take_nil.symm
  | append_singleton l w ih => rw [topScores_concat, rankedScores_concat, ih, take_insertScore_take]

/-- A score that is left out stands after every one that is listed. -/
theorem stands_of_not_mem_topScores {k : Nat} {l : List Word} {e x : Word × Nat} (he : e ∈ topScores desc k l)
    (hx : l[x.2]? = some x.1) (hn : x ∉ topScores desc k l) : Stands desc e x := by
  rw [topScores_eq_take] at he hn
  have hp := rankedScores_pairwise desc l
  have hx := (mem_rankedScores desc).2 hx
  rw [← List.take_append_drop k (rankedScores desc l)] at hp hx
  exact (List.pairwise_append.1 hp).2.2 e he x ((List.mem_append.1 hx).resolve_left hn)

end

/-- Settles O56: `before` by the scale of signed magnitudes, and the ranking as the first K of all scores in order. -/
theorem rankingIsBestFirst : Obligations.RankingIsBestFirst := by
  unfold Obligations.RankingIsBestFirst
  intro desc k l
  refine ⟨fun a b => ?_, ?_, fun e he => ?_, ?_, fun e i w he hw hn => ?_⟩
  · simp only [before_iff, laneOrder_eq, magCode]
  · rw [topScores_eq_take, List.length_take, (rankedScores_perm desc l).length_eq, List.length_zipIdx]
  · rw [topScores_eq_take] at he
    exact (mem_rankedScores desc).1 (List.mem_of_mem_take he)
  · rw [topScores_eq_take]
    exact ((rankedScores_pairwise desc l).sublist (List.take_sublist ..)).imp stands_iff_before.1
  · exact (stands_iff_before.1 (stands_of_not_mem_topScores desc (x := (w, i)) he hw hn)).1

end Sys2Proof.Machine
end

section
/-!
Events: what a signal, the operations of a requester, the ring's registers and the command processor's port answer while the cove's area
is in service (R236–R239, R246, R392, R395).
-/
namespace Sys2Proof.Machine

/-! ### Operations of a requester, and requests of the command processor -/

/-- An operation of OB_CMD on an area in service answers its status and results (R246). -/
theorem obCmd_ready {s s1 : State} {q : Requester} {c : Nat} {f : State → ObAns × State} {a : ObAns} (h : Reaches s q c)
    (ha : areaReady s c = true) (hf : f s = (a, s1)) : obCmd s q c f = .next (obAnswer s1 q c a) := by
  simp only [obCmd, ha, if_true, hf]
  exact atWindow_reaches h _ _

/-- An operation of EV_OP on an area in service takes effect (R246). -/
theorem evOp_ready {s t : State} {q : Requester} {c : Nat} {f : State → State} (h : Reaches s q c) (ha : areaReady s c = true)
    (hf : f s = t) : evOp s q c f = .next t := by
  simp only [evOp, ha, if_true, hf]
  exact atWindow_reaches h _ _

/-- A request of a command processor out of reset, of a cove that is not in reset, is accepted (R395). -/
theorem cpRequest_accepted {s : State} {c : Nat} {α : Type} (hc : coveExists s c = true) (hst : coveSt s c ≠ 4) (hr : cpInReset s c = false) (x y : α) :
    (if !coveExists s c || coveSt s c = 4 || cpInReset s c then x else y) = y := if_neg (by simp [hc, hst, hr])

/-- A request made while CP_RST_N is low is not accepted (R395). -/
theorem cpRequest_inReset {s : State} {c : Nat} {α : Type} (hr : cpInReset s c = true) (x y : α) :
    (if !coveExists s c || coveSt s c = 4 || cpInReset s c then x else y) = x := if_pos (by simp [hr])

/-- What a command that keeps within the parts named changes, where its answer is known. -/
theorem Keeps.only {n : Nat} {ps : List Part} {s t : State} {a : Ans} (k : Keeps n s a) (hn : n = frameMask ps) (e : a = .next t) :
    OnlyChanges ps s t := by
  obtain ⟨u, hu, hk⟩ := k.next_of
  rw [← Host.Outcome.next.inj (hu.symm.trans e)]
  exact hk.only hn

section
variable {s : State} {c : CoveId} (hr : cpInReset s c.val = true)
include hr

theorem cpLookup_inReset (ctx : BitVec 12) (h : Word) (ofs : BitVec 48) : exec (.cpLookup c ctx h ofs) s = .next s := cpRequest_inReset hr _ _

theorem cpSubmit_inReset (entry : Line) (now : Nat) : exec (.cpSubmit c entry now) s = .next s := cpRequest_inReset hr _ _

theorem cpEventSignal_inReset (e : BitVec 16) (v : Dword) (tag : BitVec 22) : exec (.cpEventSignal c e v tag) s = .next s := cpRequest_inReset hr _ _

theorem cpEventWait_inReset (e : BitVec 16) (v : Dword) (tag : BitVec 22) : exec (.cpEventWait c e v tag) s = .next s := cpRequest_inReset hr _ _

end

/-! ### Signals and the ring (R236–R239) -/

section
variable {s s1 : State} {c e v : Nat} {old : Dword} (h : evAccess s c e (evUmax e v) = (some (.old old), s1))
include h

theorem applySignal_raises (src : Nat) (hlt : old.toNat < v) (hv : v < evMax) :
    applySignal s c e v src = finishWaits s1 c e 0 v (fun w => decide (w.target ≤ v)) := by
  simp only [applySignal, h, hlt, hv, if_true]

theorem applySignal_exhausts (src : Nat) (hlt : old.toNat < v) (hv : v = evMax) : applySignal s c e v src =
    finishWaits (setFld (setFlag s1 (F.EV_CV_STATUS_EXHAUST c) true) (F.EV_CV_EXH_LAST_EVENT c) e) c e 0 evMax (fun _ => true) := by
  subst hv
  simp only [applySignal, h, hlt, Nat.lt_irrefl, if_true, if_false]

theorem applySignal_regresses (src : Nat) (hle : v ≤ old.toNat) : applySignal s c e v src =
    setFld (setFld (incCtr (setFlag s1 (F.EV_CV_STATUS_REGRESS c) true) (C.EV_CV_REGRESS c)) (F.EV_CV_REG_LAST_EVENT c) e)
      (F.EV_CV_REG_LAST_SRC c) src := by
  simp only [applySignal, h, Nat.not_lt.2 hle, if_false]

end

theorem applySignal_lost {s s1 : State} {c e v : Nat} {x : ErrKind} (h : evAccess s c e (evUmax e v) = (some (.error x), s1)) (src : Nat) :
    applySignal s c e v src = setFlag (incCtr s1 (C.EV_CV_LOST c)) (F.EV_CV_STATUS_SIGERR c) true := by
  simp only [applySignal, h]

/-- Settles O22: by the answer of the UMAX and the old value. -/
theorem signalMeaning : Obligations.SignalMeaning := by
  unfold Obligations.SignalMeaning
  exact fun s s1 c e v src => ⟨fun old h => ⟨applySignal_raises h src, applySignal_exhausts h src, applySignal_regresses h src⟩,
    fun x h => applySignal_lost h src⟩

/-- Waiting records are written only where there are some. -/
theorem flushRing_none {s : State} {c : Nat} (h : ringWait s c = []) : flushRing (ringWait s c).length s c = s := by rw [h]; rfl

theorem testBit_of_bits_eq_zero {v lo w i : Nat} (h : bits v lo w = 0) (hi : i < w) : v.testBit (lo + i) = false := by
  have hb : (bits v lo w).testBit i = v.testBit (lo + i) := by
    simp [bits, Nat.testBit_mod_two_pow, hi]
  rw [← hb, h, Nat.zero_testBit]

theorem evCringCons_taken {s : State} {q : Requester} {c : CoveId} {v : Word} (hq : Reaches s q c.val) (hw : ringWait s c.val = [])
    (hb : bits v.toNat 16 3 = 0) (hn : (fld s (F.EV_CV_CRING_PROD c.val) + 65536 - v.toNat % 65536) % 65536 ≤ 1024) :
    exec (.evCringCons q c v) s = .next (setFld s (F.EV_CV_CRING_CONS c.val) v.toNat) := by
  have h16 : v.toNat.testBit 16 = false := testBit_of_bits_eq_zero (i := 0) hb (by decide)
  have h17 : v.toNat.testBit 17 = false := testBit_of_bits_eq_zero (i := 1) hb (by decide)
  have h18 : v.toNat.testBit 18 = false := testBit_of_bits_eq_zero (i := 2) hb (by decide)
  show execEvCringCons q c v s = _
  simp only [execEvCringCons, h16, h17, h18, hn, Bool.false_eq_true, if_false, if_true]
  rw [atWindow_reaches hq]
  exact congrArg _ (flushRing_none hw)

theorem evCringBase_taken {s : State} {q : Requester} {c : CoveId} {v : Word} (hq : Manages s q) (hw : ringWait s c.val = []) :
    exec (.evCringBase q c v) s =
      .next (setFld (setFlag s (F.EV_CRING_LO_EN c.val) (v.toNat.testBit 0)) (F.EV_CRING_LO_ADDR_LO c.val) (v.toNat / 2 ^ 14)) := by
  show execEvCringBase q c v s = _
  rw [execEvCringBase, atFabric_manages hq]
  exact congrArg _ (flushRing_none hw)

/-- Settles O21: each command by its equation; a ring without waiting records has none to write. -/
theorem eventCommandsComplete : Obligations.EventCommandsComplete := by
  unfold Obligations.EventCommandsComplete
  refine ⟨fun s c e v hrun hc ha => ?_, fun s q c hq ha => ⟨?_, fun hn => ?_, ?_, fun v s1 hv => ?_⟩,
    fun s q c v => evCringCons_taken, fun s q c v => evCringBase_taken, fun s c e v tag hrun hc hst hr ha => ⟨?_, fun hn => ?_⟩,
    fun s c e v tag hr => ⟨cpEventSignal_inReset hr e v tag, cpEventWait_inReset hr e v tag⟩⟩
  · refine (atDomain_running hrun).trans ?_
    simp only [signalEvent, hc, ha, Bool.not_true, Bool.false_eq_true, if_false, if_true]
  · show execEvOpSignal q c s = _
    exact evOp_ready hq ha rfl
  · show execEvOpWait q c s = _
    exact evOp_ready hq ha (if_pos hn)
  · show execEvOpReset q c s = _
    exact evOp_ready hq ha rfl
  · show execEvOpRead q c s = _
    exact evOp_ready hq ha (by simp only [hv, Option.getD_some])
  · refine (cpRequest_accepted hc hst hr _ _).trans ?_
    rw [if_pos ha]
    exact atDomain_running hrun
  · refine (cpRequest_accepted hc hst hr _ _).trans ?_
    rw [if_pos (by simp [ha, hn])]
    exact atDomain_running hrun

end Sys2Proof.Machine
end

section
/-!
Host objects: the object table and its references, graph slots, the area, queues, contexts and the command processor's port
(R218, R224–R246, R393, R395).
-/
namespace Sys2Proof.Machine

/-! ### A reference with another INC, at a command processor in reset (R225, R395) -/

/-- Cove 0 ACTIVE, its object area in service on granule 0, and the CP_RST_N of its command processor low. -/
def areaInCpReset : State :=
  let s := { State.reset with
    lc := { State.reset.lc with boot := 12 }
    plan := { State.reset.plan with coves := [(0, ⟨0, 0, true, 0⟩)], gran := [(0, ⟨0, 2, 0, 0⟩)] }
    sc := { State.reset.sc with cpRst := [(0, true)] } }
  setFld (setFlag (setFlag s (F.SC_STATUS_TRAINED 0) true) (F.OB_AREA_STATUS_READY 0) true) (F.CV_MGR_STATUS_STATE 0) 1

theorem areaInCpReset_reaches : Reaches areaInCpReset .pf 0 := by decide +kernel

/-- Its table has never been written, and the entry of handle 0 has INC 0. -/
theorem areaInCpReset_entry : (getEnt areaInCpReset 0 0).1 = some (ObjEnt.freeEnt 0 0) := by decide +kernel

theorem pair_of_fst {α : Type} {p : α × State} {a : α} (h : p.1 = a) : p = (a, p.2) := Prod.ext h rfl

/-- Refutes O48: `cpLookup` is not accepted while CP_RST_N is low (R395), and the clause of `cpLookup` does not ask that it be high. In
`areaInCpReset` the lookup of handle 0 under INC 1 changes nothing, where the clause promises an answer. -/
theorem not_staleReferencesRefused : ¬ Obligations.StaleReferencesRefused := by
  unfold Obligations.StaleReferencesRefused
  rintro ⟨-, hstale⟩
  obtain ⟨-, -, -, hlookup, -⟩ := hstale areaInCpReset (getEnt areaInCpReset 0 0).2 .pf 0 (.freeEnt 0 0) areaInCpReset_reaches (by decide +kernel)
  have hentry : getEnt areaInCpReset 0 ((0x1000000 : Word).toNat % 2 ^ 24) = (some (.freeEnt 0 0), (getEnt areaInCpReset 0 0).2) := by
    rw [show (0x1000000 : Word).toNat % 2 ^ 24 = 0 from by decide]
    exact pair_of_fst areaInCpReset_entry
  have hrefused := hlookup 0 0x1000000 0 (by decide +kernel) (by decide +kernel) (by decide +kernel) hentry (by decide)
  have hidle : exec (.cpLookup 0 0 0x1000000 0) areaInCpReset = .next areaInCpReset := cpLookup_inReset (by decide +kernel) _ _ _
  have hout : areaInCpReset.out = .cpLookup 0 1 0 0 :: (getEnt areaInCpReset 0 0).2.out :=
    congrArg State.out (Host.Outcome.next.inj (hidle.symm.trans hrefused))
  exact absurd hout (List.cons_ne_nil _ _).symm

/-! ### The object table (R224–R229) -/

/-- The image that a graph slot held gives its reference back (R242). -/
def dropImage (s : State) (c : Nat) : Option Nat → State
  | some old => decDev s c (old % 2 ^ 24)
  | none => s

section
variable {s s1 : State} {q : Requester} {c : CoveId} {e : ObjEnt} (h : Reaches s q c.val) (ha : areaReady s c.val = true)
include h ha

theorem obCreate_ready {a : ObAns}
    (hc : create s c.val (obArg s q c.val 0 + 2 ^ 32 * bits (obArg s q c.val 1) 0 16) (bits (obArg s q c.val 1) 16 12) (bit (obArg s q c.val 1) 28)
      (obArg s q c.val 2 + 2 ^ 32 * bits (obArg s q c.val 3) 0 12) = (a, s1)) : exec (.obCreate q c) s = .next (obAnswer s1 q c.val a) := by
  show execObCreate q c s = _
  exact obCmd_ready h ha hc

theorem obHold_live (hst : e.state = 1)
    (hm : modRef s c.val (obArg s q c.val 0) (fun e => if e.state = 1 then e.incHost else none) = (some e, s1)) :
    exec (.obHold q c) s =
      .next (obAnswer (if e.hsat = false ∧ e.host = 65535 then incCtr s1 (C.OB_CV_SAT c.val) else s1) q c.val (.plain .ok)) := by
  show execObHold q c s = _
  exact obCmd_ready h ha (by simp [hm, hst])

section
variable (hm : modRef s c.val (obArg s q c.val 0) (fun e => if e.droppable then some e.decHost.settled else none) = (some e, s1))
include hm

theorem obDrop_counted (hd : e.droppable = true) : exec (.obDrop q c) s =
    .next (obAnswer (reclaimed s1 c.val (obArg s q c.val 0 % 2 ^ 24) e.decHost) q c.val (.plain .ok)) := by
  obtain ⟨⟨hst, hsat⟩, hhost⟩ : ((e.state = 1 ∨ e.state = 2) ∧ e.hsat = false) ∧ e.host ≠ 0 := by simpa [ObjEnt.droppable] using hd
  show execObDrop q c s = _
  refine obCmd_ready h ha ?_
  simp only [hm]
  rw [if_neg (by rcases hst with hst | hst <;> simp [hst]), if_neg (by simp [hsat]), if_neg hhost]

theorem obDrop_saturated (hst : e.state = 1) (hsat : e.hsat = true) : exec (.obDrop q c) s = .next (obAnswer s1 q c.val (.plain .ok)) := by
  show execObDrop q c s = _
  exact obCmd_ready h ha (by simp [hm, hst, hsat])

end

theorem obFree_held
    (hm : modRef s c.val (obArg s q c.val 0) (fun e => if e.state = 1 && (e.hsat || e.host != 0)
      then some (toZombie e (bits (obArg s q c.val 1) 0 16) (bit (obArg s q c.val 1) 16) (obVal s q c.val)).settled else none) = (some e, s1))
    (hst : e.state = 1) (hheld : e.hsat = true ∨ e.host ≠ 0) : exec (.obFree q c) s =
      .next (obAnswer (reclaimed (countLive (dropLookup s1 c.val (obArg s q c.val 0 % 2 ^ 24)) c.val (-1) 1) c.val (obArg s q c.val 0 % 2 ^ 24)
        (toZombie e (bits (obArg s q c.val 1) 0 16) (bit (obArg s q c.val 1) 16) (obVal s q c.val))) q c.val (.plain .ok)) := by
  show execObFree q c s = _
  refine obCmd_ready h ha ?_
  simp only [hm]
  rw [if_neg (not_not.2 hst), if_neg (by simpa [or_iff_not_imp_left] using hheld)]

theorem obQuery_found (hr : refEnt s c.val (obArg s q c.val 0) = (some e, s1)) :
    exec (.obQuery q c) s = .next (obAnswer s1 q c.val ⟨.ok, leAt e.bytes 8 4, leAt e.bytes 16 4⟩) := by
  show execObQuery q c s = _
  exact obCmd_ready h ha (by simp only [hr])

/-! ### Graph slots (R242) -/

theorem gSet_installed {s2 : State} {o : Option Nat} {g : Nat} (hr : refEnt s c.val (obArg s q c.val 1) = (some e, s1)) (hst : e.state = 1)
    (hg : graphOf s c.val (bits (obArg s q c.val 0) 0 8) = ⟨o, g⟩) (hgen : g ≠ 2 ^ 32 - 1)
    (hi : incDev s1 c.val (obArg s q c.val 1 % 2 ^ 24) = (true, s2)) :
    exec (.gSet q c) s = .next (obAnswer (setGraph (dropImage s2 c.val o) c.val (bits (obArg s q c.val 0) 0 8) ⟨some (obArg s q c.val 1), g + 1⟩) q c.val ⟨.ok, g + 1, 0⟩) := by
  show execGSet q c s = _
  refine obCmd_ready h ha ?_
  simp only [hr, hg]
  rw [if_neg (not_not.2 hst), if_neg hgen, hi]
  cases o <;> rfl

theorem gClear_cleared {o : Option Nat} {g : Nat} (hg : graphOf s c.val (bits (obArg s q c.val 0) 0 8) = ⟨o, g⟩) :
    exec (.gClear q c) s = .next (obAnswer (setGraph (dropImage s c.val o) c.val (bits (obArg s q c.val 0) 0 8) ⟨none, 0⟩) q c.val (.plain .ok)) := by
  show execGClear q c s = _
  refine obCmd_ready h ha ?_
  simp only [hg]
  cases o <;> rfl

end

/-! ### The object area (R218) -/

theorem obAreaEnable_owned {s : State} {q : Requester} {c : CoveId} {v : Word} (hq : Manages s q) (hen : flag s (F.OB_AREA_EN c.val) = false)
    (hc : coveExists s c.val = true) (hmin : 10 ≤ bits v.toNat 16 5) (hmax : bits v.toNat 16 5 ≤ 24)
    (hown : ownsGranules s c.val (bits v.toNat 0 13) (areaSpan (bits v.toNat 16 5)) = true) :
    exec (.obAreaEnable q c v) s = .next (setFlag (setFlag (setFld (setFld s (F.OB_AREA_GRANULE c.val) (bits v.toNat 0 13))
      (F.OB_AREA_LOG2 c.val) (bits v.toNat 16 5)) (F.OB_AREA_EN c.val) true) (F.OB_AREA_STATUS_INIT c.val) true) := by
  show execObAreaEnable q c v s = _
  simp only [execObAreaEnable, hen, hc, hmin, hmax, hown, and_self, decide_true, Bool.and_self, Bool.false_eq_true, if_false, if_true]
  exact atFabric_manages hq _

theorem areaInit_key_ne (c : Nat) : (F.OB_AREA_EN c).key ≠ (F.OB_AREA_STATUS_INIT c).key := by
  simp only [Fld.key]
  omega

theorem obAreaInitDone_ends {s : State} {c : CoveId} (hrun : running s 94 = true) (hi : flag s (F.OB_AREA_STATUS_INIT c.val) = true)
    (hen : flag s (F.OB_AREA_EN c.val) = true) : exec (.obAreaInitDone c) s = .next (setFlag (setFlag
      (setHeads (chainArea (zeroArea s c.val 0 8192) c.val) c.val ⟨tableSize s c.val, 0, tableSize s c.val - 1⟩)
      (F.OB_AREA_STATUS_INIT c.val) false) (F.OB_AREA_STATUS_READY c.val) true) := by
  show execObAreaInitDone c s = _
  simp only [execObAreaInitDone, hi, hen, Bool.not_true, Bool.or_self, Bool.false_eq_true, if_false]
  exact atDomain_running hrun

theorem headsOf_setHeads_self (s : State) (c : Nat) (x : ObHeads) : headsOf (setHeads s c x) c = x := by
  simp [headsOf, setHeads, tgetD, tfind_tput_self]

theorem headsOf_setFlag (s : State) (f : Fld) (b : Bool) (c : Nat) : headsOf (setFlag s f b) c = headsOf s c := rfl

/-! ### Queues (R231) -/

theorem obAnswer_ob (s : State) (q : Requester) (c : Nat) (a : ObAns) : (obAnswer s q c a).ob = s.ob := (obAnswer_ext s q c a).same .objects rfl

theorem queueOf_congr {s t : State} (h : t.ob = s.ob) (c k : Nat) : queueOf t c k = queueOf s c k := by rw [queueOf, queueOf, h]

theorem queueOf_setQueue_self (s : State) (c k : Nat) {v : Queue} (h : v ≠ Queue.init) : queueOf (setQueue s c k v) c k = v :=
  tgetD_tsetD_of_ne _ _ _ h

/-- The fields that an answer writes after DONE stand elsewhere. -/
theorem flag_obAnswer_done (s : State) (q : Requester) (c : Nat) (a : ObAns) :
    flag (obAnswer s q c a) ((F.OB_RESULT_DONE c).own q) = true := by
  have hst : ((F.OB_RESULT_DONE c).own q).key ≠ ((F.OB_RESULT_STATUS c).own q).key := by simp only [Fld.key, Fld.own]; omega
  have h0 : ((F.OB_RESULT_DONE c).own q).key ≠ ((F.OB_RES0_RES c).own q).key := by simp only [Fld.key, Fld.own]; omega
  have h1 : ((F.OB_RESULT_DONE c).own q).key ≠ ((F.OB_RES1_RES c).own q).key := by simp only [Fld.key, Fld.own]; omega
  have hclean : ((F.OB_RESULT_DONE c).own q).key ≠ (F.CV_MGR_STATUS_CLEAN c).key := by simp only [Fld.key, Fld.own]; omega
  have hres : fld (setFld (setFld (setFld (setFlag s ((F.OB_RESULT_DONE c).own q) true) ((F.OB_RESULT_STATUS c).own q) a.st.code)
      ((F.OB_RES0_RES c).own q) a.res0) ((F.OB_RES1_RES c).own q) a.res1) ((F.OB_RESULT_DONE c).own q) =
      fld (setFlag s ((F.OB_RESULT_DONE c).own q) true) ((F.OB_RESULT_DONE c).own q) := by
    rw [fld_setFld_ne _ _ h1, fld_setFld_ne _ _ h0, fld_setFld_ne _ _ hst]
  refine (flag_congr ?_).trans (flag_setFlag_true (f := (F.OB_RESULT_DONE c).own q) rfl rfl s)
  unfold obAnswer
  dsimp only
  split
  · exact (fld_setFld_ne _ _ hclean).trans hres
  · exact hres

theorem qCreate_normal {s : State} {q : Requester} {c : CoveId} (h : Reaches s q c.val) (ha : areaReady s c.val = true)
    (hfree : (queueOf s c.val (bits (obArg s q c.val 0) 0 6)).ph = .free) (hrt : bit (obArg s q c.val 0) 8 = false)
    (hshare : bits (obArg s q c.val 1) 0 10 ≠ 0) (hsum : reserveSum s c.val ≤ 48) :
    exec (.qCreate q c) s = .next (obAnswer (setFlag (setQueue s c.val (bits (obArg s q c.val 0) 0 6)
        { Queue.init with ph := .active, rt := false, share := bits (obArg s q c.val 1) 0 10, reserve := 0 })
      (F.OB_Q_STATUS_STUCK c.val (bits (obArg s q c.val 0) 0 6)) false) q c.val (.plain .ok)) := by
  show execQCreate q c s = _
  refine obCmd_ready h ha ?_
  simp only [hfree, hrt]
  rw [if_neg (by decide), if_neg (by simp), if_neg (by simp [hshare]), if_neg (by simpa using hsum)]
  rfl

/-! ### Contexts (R243) -/

theorem obCtxKill_kills {s : State} {q : Requester} {c : CoveId} (hq : Manages s q) (ha : areaReady s c.val = true) (ctx : BitVec 12) :
    exec (.obCtxKill q c ctx) s = .next (killCtx s c.val ctx.toNat) := by
  show execObCtxKill q c ctx s = _
  rw [execObCtxKill, if_pos ha]
  exact atFabric_manages hq _

/-- A revived context is no longer KILLED, and its accounting is cleared. -/
theorem obCtxRevive_revives {s : State} {q : Requester} {c : CoveId} {ctx : BitVec 12} (hq : Manages s q) (ha : areaReady s c.val = true)
    (hk : isKilled s c.val ctx.toNat = true) (hr : isRunning s c.val ctx.toNat = false) : Answers (.obCtxRevive q c ctx) s fun t =>
      t.ob.killed = tsetD s.ob.killed (c.val * 4096 + ctx.toNat) false false ∧ OnlyChanges [.objects, .counters] s t := by
  have hexec : exec (.obCtxRevive q c ctx) s = _ := (atFabric_manages hq _).trans (congrArg _ (if_pos (by simp [ha, hk, hr])))
  exact ⟨_, hexec, rfl, (execObCtxRevive_keeps q c ctx s).only rfl hexec⟩

/-! ### Submission, lookup and doorbells (R230, R233, R235) -/

section
variable {s : State} {c : CoveId} (hrun : running s 94 = true) (hc : coveExists s c.val = true) (hst : coveSt s c.val ≠ 4)
  (hr : cpInReset s c.val = false)
include hrun hc hst hr

theorem cpSubmit_accepted {s1 : State} {entry : Line} {now : Nat} (hs : subStatus s c.val (readSub entry) = (0, s1)) :
    exec (.cpSubmit c entry now) s =
      .next (emit (acceptSub s1 c.val (readSub entry) entry now).2 (.cpStatus c.val (acceptSub s1 c.val (readSub entry) entry now).1)) := by
  show execCpSubmit c entry now s = _
  rw [execCpSubmit, cpRequest_accepted hc hst hr]
  simp only [hs]
  exact atDomain_running hrun

theorem cpLookup_looks (ha : areaReady s c.val = true) (ctx : BitVec 12) (h : Word) (ofs : BitVec 48) :
    exec (.cpLookup c ctx h ofs) s = .next (lookupPort s c.val ctx.toNat h.toNat ofs.toNat) := by
  show execCpLookup c ctx h ofs s = _
  rw [execCpLookup, cpRequest_accepted hc hst hr, if_pos ha]
  exact atDomain_running hrun

end

theorem doorbellWrite_forwarded {s : State} {q : Requester} {c : CoveId} {k : Idx64} (h : Reaches s q c.val) (hk : (queueOf s c.val k.val).ph ≠ .free)
    (v : Word) : exec (.doorbellWrite q c k v) s = .next (emit s (.doorbell c.val k.val v)) := by
  show execDoorbellWrite q c k v s = _
  rw [execDoorbellWrite, if_neg (by simpa using hk)]
  exact atWindow_reaches h _ _

/-- Settles O23: each command by its equation; what is stated of the state that it answers, by what that state's last writes leave. -/
theorem objectCommandsComplete : Obligations.ObjectCommandsComplete := by
  unfold Obligations.ObjectCommandsComplete
  refine ⟨?_, ?_, fun s s1 q c a h ha => obCreate_ready h ha, fun s s1 q c e h ha hst hm => obHold_live h ha hst hm,
    fun s s1 q c e h ha hm => ⟨obDrop_counted h ha hm, obDrop_saturated h ha hm⟩, fun s s1 q c e h ha hm => obFree_held h ha hm,
    fun s s1 q c e h ha => obQuery_found h ha, ?_, ?_, ?_,
    fun s q c ctx hq ha => obCtxKill_kills hq ha ctx, fun s q c ctx => obCtxRevive_revives,
    fun s s1 c entry now hrun hc hst hr => cpSubmit_accepted hrun hc hst hr, fun s c ctx h ofs hrun hc hst hr ha => cpLookup_looks hrun hc hst hr ha ctx h ofs,
    fun s c hr => ⟨cpSubmit_inReset hr, cpLookup_inReset hr⟩, fun s q c k v h hk => doorbellWrite_forwarded h hk v⟩
  · intro s q c v hq hen hc hmin hmax hown
    have hexec := obAreaEnable_owned hq hen hc hmin hmax hown
    refine ⟨_, hexec, ?_, flag_setFlag_true rfl rfl _, (execObAreaEnable_keeps q c v s).only rfl hexec⟩
    rw [flag_setFlag_ne (areaInit_key_ne c.val)]
    exact flag_setFlag_true rfl rfl _
  · intro s c hrun hi hen
    refine ⟨_, obAreaInitDone_ends hrun hi hen, flag_setFlag_true rfl rfl _, ?_⟩
    rw [headsOf_setFlag, headsOf_setFlag, headsOf_setHeads_self]
  · intro s s1 s2 q c e o g h ha hr hst hg hgen hi
    cases o with
    | none => exact gSet_installed (o := none) h ha hr hst hg hgen hi
    | some old => exact gSet_installed (o := some old) h ha hr hst hg hgen hi
  · intro s q c o g h ha hg
    cases o with
    | none => exact gClear_cleared (o := none) h ha hg
    | some old => exact gClear_cleared (o := some old) h ha hg
  · intro s q c h ha hfree hrt hshare hsum
    have hqueue := queueOf_setQueue_self s c.val (bits (obArg s q c.val 0) 0 6)
      (v := { Queue.init with ph := .active, rt := false, share := bits (obArg s q c.val 1) 0 10, reserve := 0 }) (by simp [Queue.init])
    refine ⟨_, qCreate_normal h ha hfree hrt hshare hsum, ?_, ?_, flag_obAnswer_done ..⟩
    all_goals rw [queueOf_congr (obAnswer_ob ..)]
    · exact congrArg Queue.ph hqueue
    · exact congrArg Queue.share hqueue

end Sys2Proof.Machine
end

section
/-!
Context slots: who is served when a slot is asked for, and what serving leaves of the slots (R222, R223).
-/
namespace Sys2Proof.Machine

/-! ### Serving the waiters -/

theorem retrySlots_no_waiters {s : State} (h : s.ob.waiters = []) : retrySlots s = s := by rw [retrySlots, h]; rfl

/-- The state in which one context alone waits for a slot. -/
def oneWaits (s : State) (c ctx : Nat) : State := { s with ob := { s.ob with waiters := [(c, ctx)] } }

theorem takeSlot_oneWaits (s : State) (c ctx : Nat) : takeSlot (oneWaits s c ctx) c ctx = (takeSlot s c ctx).map (oneWaits · c ctx) := by
  have hv : victimSlot (oneWaits s c ctx) c = victimSlot s c := rfl
  have hl : (oneWaits s c ctx).ob.slots = s.ob.slots := rfl
  unfold takeSlot
  rw [hv, hl]
  split
  · rfl
  · split <;> rfl

/-- A context that waits alone, without a slot, is the next to be served. -/
theorem nextWaiter_oneWaits {s : State} {c ctx : Nat} (h : slotOf s c ctx = none) : nextWaiter (oneWaits s c ctx) = some (c, ctx) := by
  have hs : slotOf (oneWaits s c ctx) c ctx = none := h
  have hw : (oneWaits s c ctx).ob.waiters = [(c, ctx)] := rfl
  simp only [nextWaiter, hw, List.filter_cons, hs, List.filter_nil, Option.isNone_none, if_true]
  by_cases hmin : heldSlots (oneWaits s c ctx) c < ctxMin (oneWaits s c ctx) c <;> simp [hmin]

/-- It takes the slot that it can have, and waits no longer, or waits on. -/
theorem retrySlots_oneWaits {s : State} {c ctx : Nat} (h : slotOf s c ctx = none) :
    retrySlots (oneWaits s c ctx) = ((takeSlot s c ctx).map fun t => { t with ob := { t.ob with waiters := [] } }).getD (oneWaits s c ctx) := by
  show serveWaiters 1 _ = _
  simp only [serveWaiters, nextWaiter_oneWaits h, takeSlot_oneWaits]
  cases takeSlot s c ctx with
  | none => rfl
  | some t => simp [oneWaits]

theorem slotRequest_asks {s : State} {c : CoveId} {ctx : BitVec 12} (hrun : running s 94 = true) (hc : coveExists s c.val = true)
    (hk : isKilled s c.val ctx.toNat = false) (hs : slotOf s c.val ctx.toNat = none) (hcom : slotComing s c.val ctx.toNat = false)
    (hw : s.ob.waiters = []) : exec (.slotRequest c ctx) s = .next (retrySlots (oneWaits s c.val ctx.toNat)) := by
  show execSlotRequest c ctx s = _
  rw [execSlotRequest, if_neg (by simp [hc, hk, hs, hcom]), hw]
  exact atDomain_running hrun

/-! ### A slot that loads is no victim -/

theorem victimSlot_resident {s : State} {c : Nat} {v : CtxSlot} (h : victimSlot s c = some v) : v.ph = .resident := by
  have hp := List.find?_some h
  simp only [Bool.and_eq_true, beq_iff_eq] at hp
  exact hp.1.1.1

theorem takeSlot_keeps_loading {s t : State} {c ctx : Nat} {x : CtxSlot} (hx : x ∈ s.ob.slots) (hl : x.ph = .loading)
    (h : takeSlot s c ctx = some t) : x ∈ t.ob.slots := by
  unfold takeSlot at h
  split at h
  · cases h
    exact List.mem_append_left _ hx
  · split at h
    · rename_i v hv
      cases h
      have hne : x ≠ v := by
        rintro rfl
        exact SlotPh.noConfusion (hl.symm.trans (victimSlot_resident hv))
      exact List.mem_map.2 ⟨x, hx, if_neg hne⟩
    · cases h

theorem serveWaiters_keeps_loading {x : CtxSlot} (hl : x.ph = .loading) (n : Nat) :
    ∀ s : State, x ∈ s.ob.slots → x ∈ (serveWaiters n s).ob.slots := by
  induction n with
  | zero => exact fun _ hx => hx
  | succ n ih =>
    intro s hx
    unfold serveWaiters
    split
    · exact hx
    · split
      · rename_i t ht
        have hmem : x ∈ t.ob.slots := takeSlot_keeps_loading hx hl ht
        exact ih _ hmem
      · exact hx

/-! ### The ends of an eviction and of a load -/

/-- The state after an eviction's save record, before the waiters are served. -/
def evicted (s : State) (c ctx : Nat) (x : CtxSlot) (dest : Option (Nat × Nat)) : State :=
  passSlot (incCtr (incCtr (saveRecord s c ctx) C.OB_EVICT) (C.OB_CV_EVICT c)) x (dest.toList.map fun w => ⟨w.1, w.2, .loading⟩)

theorem ctxEvictDone_passes {s : State} {c : CoveId} {ctx : BitVec 12} {x : CtxSlot} {dest : Option (Nat × Nat)} (hrun : running s 94 = true)
    (hs : slotOf s c.val ctx.toNat = some x) (hx : x.ph = .evicting dest) :
    exec (.ctxEvictDone c ctx) s = .next (retrySlots (evicted s c.val ctx.toNat x dest)) := by
  show execCtxEvictDone c ctx s = _
  simp only [execCtxEvictDone, hs, hx]
  exact atDomain_running hrun

theorem evicted_slots (s : State) (c ctx : Nat) (x : CtxSlot) (dest : Option (Nat × Nat)) : (evicted s c ctx x dest).ob.slots =
    s.ob.slots.filter (fun y => y != x) ++ dest.toList.map (fun w => ⟨w.1, w.2, .loading⟩) := by
  have hob : (saveRecord s c ctx).ob = s.ob := (saveRecord_ext s c ctx).same .objects rfl
  rw [← hob]
  rfl

theorem evicted_no_area {s : State} {c : Nat} (ha : areaReady s c = false) (ctx : Nat) (x : CtxSlot) (dest : Option (Nat × Nat)) :
    evicted s c ctx x dest = passSlot (incCtr (incCtr s C.OB_EVICT) (C.OB_CV_EVICT c)) x (dest.toList.map fun w => ⟨w.1, w.2, .loading⟩) := by
  rw [evicted, saveRecord, if_neg (by simp [ha])]

/-- The state after a load's record has been read back, before the waiters are served. -/
def loaded (s : State) (c ctx : Nat) (x : CtxSlot) : State :=
  let s1 := loadRecord s c ctx
  { s1 with ob := { s1.ob with slots := s1.ob.slots.map fun y => if y = x then { y with ph := .resident } else y } }

theorem loadRecord_ob (s : State) (c ctx : Nat) : (loadRecord s c ctx).ob = s.ob := (loadRecord_ext s c ctx).same .objects rfl

theorem ctxLoadDone_loads {s : State} {c : CoveId} {ctx : BitVec 12} {x : CtxSlot} (hrun : running s 94 = true)
    (hs : slotOf s c.val ctx.toNat = some x) (hx : x.ph = .loading) (hw : s.ob.waiters = []) :
    exec (.ctxLoadDone c ctx) s = .next (loaded s c.val ctx.toNat x) := by
  have hnone : (loaded s c.val ctx.toNat x).ob.waiters = [] := (congrArg ObSt.waiters (loadRecord_ob s c.val ctx.toNat)).trans hw
  show execCtxLoadDone c ctx s = _
  simp only [execCtxLoadDone, hs, hx]
  exact (atDomain_running hrun).trans (congrArg _ (retrySlots_no_waiters hnone))

/-- Settles O24: a context that asks while none waits is served alone; a slot that loads stays through every later serving. -/
theorem slotCommandsComplete : Obligations.SlotCommandsComplete := by
  unfold Obligations.SlotCommandsComplete
  refine ⟨fun s c ctx hrun hc hk hs hcom hw => ?_, fun s c ctx x dest hrun hs hx => ⟨fun hw ha => ?_, ?_⟩,
    fun s c ctx x hrun hs hx hw => ⟨?_, fun ha => ?_⟩⟩
  · have hexec := slotRequest_asks hrun hc hk hs hcom hw
    have honly := (execSlotRequest_keeps c ctx s).only (ps := [.objects]) rfl hexec
    rw [retrySlots_oneWaits hs] at hexec honly
    refine ⟨fun hfree => ?_, fun v hfull hv => ?_, fun hfull hv => ?_⟩
    · rw [takeSlot, if_pos hfree] at hexec honly
      exact ⟨_, hexec, rfl, rfl, honly⟩
    · rw [takeSlot, if_neg (Nat.not_lt.2 hfull), hv] at hexec honly
      exact ⟨_, hexec, rfl, rfl, honly⟩
    · rw [takeSlot, if_neg (Nat.not_lt.2 hfull), hv] at hexec honly
      exact ⟨_, hexec, rfl, rfl, honly⟩
  · have hnone : (evicted s c.val ctx.toNat x dest).ob.waiters = [] := by rw [evicted_no_area ha]; exact hw
    refine ⟨_, ctxEvictDone_passes hrun hs hx, ?_⟩
    rw [retrySlots_no_waiters hnone]
    refine ⟨evicted_slots .., ?_⟩
    rw [evicted_no_area ha]
    exact ((passSlot_ext ..).after rfl <| (incCtr_ext ..).after rfl <| (incCtr_ext ..).mono rfl : Ext 4098 s _).only rfl
  · refine ⟨_, ctxEvictDone_passes hrun hs hx, fun w hw => serveWaiters_keeps_loading rfl _ _ ?_⟩
    rw [evicted_slots]
    exact List.mem_append_right _ (List.mem_map.2 ⟨w, Option.mem_toList.2 hw, rfl⟩)
  · refine ⟨_, ctxLoadDone_loads hrun hs hx hw, ?_⟩
    show List.map _ (loadRecord s c.val ctx.toNat).ob.slots = _
    rw [loadRecord_ob]
  · refine ⟨_, ctxLoadDone_loads hrun hs hx hw, ?_⟩
    rw [loaded, loadRecord, if_neg (by simp [ha])]
    exact (Ext.withOb rfl (.refl _ _) : Ext 4096 s _).only rfl

end Sys2Proof.Machine
end

section
/-!
Preemption, chunks and the destruction of queues: what each command answers in the state that its guard asks for (R244, R264–R269).
-/
namespace Sys2Proof.Machine

/-! ### Engine work that goes through -/

/-- Work after a part that goes through. -/
theorem work_bind {α β : Type} {w : Work α} {f : α → Work β} {s s1 : State} {a : α} (h : w s = .ok (a, s1)) : (w >>= f) s = f a s1 := by
  show Except.bind (w s) _ = _
  rw [h]
  rfl

theorem runWork_ok {w : Work State} {s s1 t : State} (h : w s = .ok (t, s1)) : runWork s w = t := by rw [runWork, h]

/-- Work whose first part goes through, and whose rest then makes a state of the one it has reached. -/
theorem runWork_bind {α : Type} {w : Work α} {f : α → Work State} {s s1 t : State} {a : α} (h : w s = .ok (a, s1))
    (k : f a s1 = .ok (t, s1)) : runWork s (w >>= f) = t := runWork_ok ((work_bind h).trans k)

/-! ### Slices and stop points (R264, R265) -/

theorem sliceExpiry_preempts {s : State} {p : Fin 128} {now i t0 j : Nat} {far : Bool} {x : Step} (hrun : running s 94 = true)
    (hp : tfind s.sq.ports p.val = some (i, t0)) (hx : stepOf s i = some x) (hslice : fld s (F.SQ_CV_CTL_SLICE x.cove) ≠ 0)
    (hnow : t0 + fld s (F.SQ_CV_CTL_SLICE x.cove) * 1000 < now) (hrt : (queueOf s x.cove x.queue).rt = false) (hlive : x.liveDva ≠ 0)
    (hph : x.ph = .running) (hj : portWaiter s x.cove (queueOf s x.cove x.queue).vt = some j) :
    exec (.sliceExpiry p now far) s = .next (preemptFor (setStep s i { x with cheapOnly := true }) x.cove j [i] far) := by
  show execSliceExpiry p now far s = _
  simp only [execSliceExpiry, hp, hx]
  rw [if_pos (by simp [hslice, hnow, hrt, hlive, hph]), hj]
  exact atDomain_running hrun

/-- A victim stands at a stop point, where it may save. -/
structure AtStopPoint (s : State) (i : Nat) (x : Step) (l : LiveEnt) : Prop where
  step : stepOf s i = some x
  live : x.live? = some l
  ph : x.ph = .stopping
  stageDone : x.stageDone = true
  idle : x.busy = false
  stopHere : x.stopHere = true
  notLast : x.atLast = false
  works : workStopped s x.cove = false

/-- What a victim at its stop point makes of the ranges read: it saves them, defers where no spill space is free, or goes on with a
record where they are malformed (R265). -/
def leaveStopPoint (s : State) (i now : Nat) (x : Step) (l : LiveEnt) : Except Nat (List LiveRange) → State
  | .error d => goOn (sqNote s i 0x32 d 0x9000) x.cove x.queue i Step.pass
  | .ok rs => match reserveUnits s x.cove (unitsFor l.bytes) with
    | some us => beginSave s i x rs us false now
    | none => goOn (incCtr s (C.SQ_CV_DEFER x.cove)) x.cove x.queue i (fun x => Step.pass { x with cheapOnly := true })

theorem preemptStopPoint_reads {s s1 : State} {i now : Nat} {x : Step} {l : LiveEnt} {r : Except Nat (List LiveRange)}
    (hrun : running s 94 = true) (h : AtStopPoint s i x l)
    (hr : readRanges (sqWho x.cove x.ctx) (fld s F.FAB_ARR_INFO_SP_MIB) l s = .ok (r, s1)) :
    exec (.preemptStopPoint ⟨i, now⟩) s = .next (leaveStopPoint s1 i now x l r) := by
  obtain ⟨hstep, hlive, hph, hsd, hidle, hsh, hlast, hwork⟩ := h
  show execPreemptStopPoint ⟨i, now⟩ s = _
  simp only [execPreemptStopPoint, hstep, hlive]
  rw [if_neg (by simp [hph, hsd, hidle, hsh, hlast, hwork])]
  refine (atDomain_running hrun).trans (congrArg _ (runWork_bind hr ?_))
  cases r with
  | error d => rfl
  | ok rs =>
    simp only [leaveStopPoint]
    show (match reserveUnits s1 x.cove (unitsFor l.bytes) with
      | some us => _
      | none => _ : Work State) s1 = _
    cases reserveUnits s1 x.cove (unitsFor l.bytes) <;> rfl

/-! ### Saves and restores (R265, R267) -/

theorem saveDone_port {s s1 : State} {i now ns : Nat} {p : Fin 128} {x : Step} {y : Bool} (hrun : running s (unitDomain p.val) = true)
    (hx : stepOf s i = some x) (hph : x.ph = .saving y) (hmine : (x.moves.filter (fun m => m.unit == p.val)).isEmpty = false)
    (hmoved : scratchMoved x p.val = true) (hwork : workStopped s x.cove = false)
    (hm : spillMoves x true (x.moves.filter (fun m => m.unit == p.val)) s = .ok ((), s1)) {rest : List SpillMove}
    (hrest : x.moves.filter (fun m => m.unit != p.val) = rest) :
    exec (.saveDone i ⟨p, ns⟩ now) s = .next (let t := freePort (setStep (chargeCtx s1 x.cove x.ctx ns) i { x with moves := rest }) p.val
      if rest.isEmpty then saved t i { x with moves := [] } y now else t) := by
  show execSaveDone i ⟨p, ns⟩ now s = _
  simp only [execSaveDone, hx, hph, hmine, hmoved, hwork, hrest]
  exact (atDomain_running hrun).trans (congrArg _ (runWork_bind hm rfl))

theorem restoreDone_port {s s1 : State} {i ns : Nat} {p : Fin 128} {x : Step} (hrun : running s (unitDomain p.val) = true)
    (hx : stepOf s i = some x) (hph : x.ph = .resuming) (hmine : (x.moves.filter (fun m => m.unit == p.val)).isEmpty = false)
    (hmoved : scratchMoved x p.val = true) (hwork : workStopped s x.cove = false)
    (hm : spillMoves x false (x.moves.filter (fun m => m.unit == p.val)) s = .ok ((), s1)) {rest : List SpillMove}
    (hrest : x.moves.filter (fun m => m.unit != p.val) = rest) :
    exec (.restoreDone i ⟨p, ns⟩) s = .next (let t := leavePort (setStep (chargeCtx s1 x.cove x.ctx ns) i
        (if rest.isEmpty then { x with moves := [], units := [], ph := .running } else { x with moves := rest })) i p.val
      if rest.isEmpty then retrySlots (settleStep t i) else t) := by
  show execRestoreDone i ⟨p, ns⟩ s = _
  simp only [execRestoreDone, hx, hph, hmine, hmoved, hwork, hrest]
  exact (atDomain_running hrun).trans (congrArg _ (runWork_bind hm rfl))

theorem stepResume_resumes {s : State} {i now : Nat} {x : Step} {m : List (Nat × Nat)} (hrun : running s 94 = true) (hx : stepOf s i = some x)
    (hmay : mayResume s x = true) (hc : coveActive s x.cove = true) (hm : x.resumeMap s = some m) :
    exec (.stepResume i now) s = .next (resumeStep s i x m now) := by
  show execStepResume i now s = _
  simp only [execStepResume, hx, hmay, hc, hm]
  exact atDomain_running hrun

/-! ### Chunks (R269) -/

/-- A step stands at the end of a chunk that is not its last. -/
structure AtChunkEnd (s : State) (i : Nat) (x : Step) : Prop where
  step : stepOf s i = some x
  ph : x.ph = .running
  lastStage : x.stage + 1 = x.nstage
  notLast : x.chunk + 1 ≠ x.nchunk
  stageDone : x.stageDone = true
  works : workStopped s x.cove = false

section
variable {s : State} {i now : Nat} {x : Step} (hrun : running s 94 = true) (h : AtChunkEnd s i x)
include hrun h

theorem chunkEnd_continues (hg : x.live? = none ∨ fld s (F.SQ_CV_CTL_MIX x.cove) = 0 ∨ tokenLive s x.cove = false) :
    exec (.chunkEnd ⟨i, now⟩) s = .next (goOn s x.cove x.queue i Step.pass) := by
  obtain ⟨hstep, hph, hstage, hlast, hsd, hwork⟩ := h
  show execChunkEnd ⟨i, now⟩ s = _
  simp only [execChunkEnd, hstep]
  rw [if_neg (by simp [hph, hstage, hlast, hsd, hwork])]
  split
  · exact atDomain_running hrun
  case _ l hlive =>
    rw [if_pos (by simpa [hlive] using hg)]
    exact atDomain_running hrun

theorem chunkEnd_yields {s1 : State} {l : LiveEnt} {rs : List LiveRange} {us : List Nat} (hlive : x.live? = some l)
    (hmix : fld s (F.SQ_CV_CTL_MIX x.cove) ≠ 0) (htok : tokenLive s x.cove = true)
    (hr : readRanges (sqWho x.cove x.ctx) (fld s F.FAB_ARR_INFO_SP_MIB) l s = .ok (.ok rs, s1))
    (hus : reserveUnits s1 x.cove (unitsFor l.bytes) = some us) :
    exec (.chunkEnd ⟨i, now⟩) s = .next (beginSave (incCtr s1 (C.SQ_CV_YIELD x.cove)) i { x with tokens := 0 } rs us true now) := by
  obtain ⟨hstep, hph, hstage, hlast, hsd, hwork⟩ := h
  show execChunkEnd ⟨i, now⟩ s = _
  simp only [execChunkEnd, hstep, hlive]
  rw [if_neg (by simp [hph, hstage, hlast, hsd, hwork]), if_neg (by simp [hmix, htok])]
  refine (atDomain_running hrun).trans (congrArg _ (runWork_bind hr ?_))
  show (match reserveUnits s1 x.cove (unitsFor l.bytes) with
      | some us => _
      | none => _ : Work State) s1 = _
  rw [hus]
  rfl

end

/-! ### Spill space (R266) -/

theorem sqSpillEnable_owned {s : State} {q : Requester} {c : CoveId} {v : Word} (hq : Manages s q) (hen : flag s (F.SQ_SPILL_EN c.val) = false)
    (hc : coveExists s c.val = true) (hmin : 1 ≤ bits v.toNat 16 7) (hmax : bits v.toNat 16 7 ≤ 64)
    (hown : ownsGranules s c.val (bits v.toNat 0 13) (bits v.toNat 16 7) = true) :
    exec (.sqSpillEnable q c v) s = .next (setFlag (setFlag (setFld (setFld s (F.SQ_SPILL_GRANULE c.val) (bits v.toNat 0 13))
      (F.SQ_SPILL_COUNT c.val) (bits v.toNat 16 7)) (F.SQ_SPILL_EN c.val) true) (F.SQ_SPILL_STATUS_READY c.val) true) := by
  show execSqSpillEnable q c v s = _
  simp only [execSqSpillEnable, hen, hc, hmin, hmax, hown, and_self, decide_true, Bool.and_self, Bool.false_eq_true, if_false, if_true]
  exact atFabric_manages hq _

theorem spillReady_key_ne (c : Nat) : (F.SQ_SPILL_EN c).key ≠ (F.SQ_SPILL_STATUS_READY c).key := by
  simp only [Fld.key]
  omega

/-! ### The destruction of a queue (R244) -/

theorem qDestroy_begins {s : State} {q : Requester} {c : CoveId} (h : Reaches s q c.val) (ha : areaReady s c.val = true)
    (hk : (queueOf s c.val (bits (obArg s q c.val 0) 0 6)).ph = .active) :
    exec (.qDestroy q c) s = .next (obAnswer (beginDestroy s c.val (bits (obArg s q c.val 0) 0 6) (bit (obArg s q c.val 0) 8)
      (if bit (obArg s q c.val 1) 16 then some (bits (obArg s q c.val 1) 0 16, obVal s q c.val) else none)) q c.val (.plain .ok)) := by
  show execQDestroy q c s = _
  exact obCmd_ready h ha (if_neg (by simp [hk]))

theorem qdestroyEngineAck_acknowledges {s : State} {c : CoveId} {k : Idx64} {u : BitVec 16} (hrun : running s 94 = true)
    (hk : (queueOf s c.val k.val).ph = .draining) (hu : (queueOf s c.val k.val).await.contains u.toNat = true) (he : engOf s u.toNat = none) :
    exec (.qdestroyEngineAck c k u) s = .next (tryDestroy (setQueue s c.val k.val { queueOf s c.val k.val with
      await := (queueOf s c.val k.val).await.filter (· != u.toNat) }) c.val k.val) := by
  show execQdestroyEngineAck c k u s = _
  simp only [execQdestroyEngineAck, he]
  rw [if_neg (by simpa [hk] using hu)]
  exact atDomain_running hrun

theorem qdestroyStuck_marks {s : State} {c : CoveId} {k : Idx64} (hrun : running s 94 = true) (hk : (queueOf s c.val k.val).ph = .draining)
    (hs : flag s (F.OB_Q_STATUS_STUCK c.val k.val) = false) :
    exec (.qdestroyStuck c k) s = .next (raiseSrc (setFlag s (F.OB_Q_STATUS_STUCK c.val k.val) true) 516) := by
  show execQdestroyStuck c k s = _
  rw [execQdestroyStuck, if_neg (by simp [hk, hs])]
  exact atDomain_running hrun

/-- Settles O26: each command by its equation where its guard lets it act; the work that the statement assumes to go through, by `runWork_bind`. -/
theorem preemptionCommandsComplete : Obligations.PreemptionCommandsComplete := by
  unfold Obligations.PreemptionCommandsComplete
  refine ⟨?_, ?_, ?_, ?_, fun s i now x m => stepResume_resumes, ?_, ?_, fun s q c => qDestroy_begins,
    fun s c k u => qdestroyEngineAck_acknowledges, fun s c k hrun hk hs => ⟨_, qdestroyStuck_marks hrun hk hs, pending_raiseSrc_self rfl⟩⟩
  · intro s p now i t0 far x hrun hp hx hslice hnow hrt hlive hph j hj
    exact sliceExpiry_preempts hrun hp hx hslice hnow hrt hlive hph hj
  · intro s s1 i now x l hrun hstep hlive hph hsd hidle hsh hlast hwork
    have h : AtStopPoint s i x l := ⟨hstep, hlive, hph, hsd, hidle, hsh, hlast, hwork⟩
    refine ⟨fun rs us hr hus => (preemptStopPoint_reads hrun h hr).trans ?_, fun rs hr hus => (preemptStopPoint_reads hrun h hr).trans ?_,
      fun d hr => preemptStopPoint_reads hrun h hr⟩
    all_goals simp only [leaveStopPoint, hus]
  · intro s s1 i p now ns x y hrun hx hph hmine hmoved hwork hm
    refine ⟨fun hrest => saveDone_port hrun hx hph hmine hmoved hwork hm hrest, fun hrest => ?_⟩
    exact (saveDone_port hrun hx hph hmine hmoved hwork hm rfl).trans (congrArg _ (if_neg (by simpa using hrest)))
  · intro s i now x hrun hstep hph hstage hlast hsd hwork
    have h : AtChunkEnd s i x := ⟨hstep, hph, hstage, hlast, hsd, hwork⟩
    exact ⟨chunkEnd_continues hrun h, fun l s1 rs us => chunkEnd_yields hrun h⟩
  · intro s s1 i p ns x hrun hx hph hmine hmoved hwork hm
    refine ⟨fun hrest => restoreDone_port hrun hx hph hmine hmoved hwork hm hrest, fun hrest => ?_⟩
    refine (restoreDone_port hrun hx hph hmine hmoved hwork hm rfl).trans ?_
    simp [hrest]
  · intro s q c v hq hen hc hmin hmax hown
    have hexec := sqSpillEnable_owned hq hen hc hmin hmax hown
    refine ⟨_, hexec, ?_, flag_setFlag_true rfl rfl _, (execSqSpillEnable_keeps q c v s).only rfl hexec⟩
    rw [flag_setFlag_ne (spillReady_key_ne c.val)]
    exact flag_setFlag_true rfl rfl _

end Sys2Proof.Machine
end

section
/-!
Virtual time of queues: what a charge adds to it, and what a queue takes when it gains eligible work (R259).
-/
namespace Sys2Proof.Machine

theorem queueOf_setQueue_of_used (s : State) (c q : Nat) {v : Queue} (h : v.ph ≠ .free) : queueOf (setQueue s c q v) c q = v :=
  queueOf_setQueue_self s c q fun hv => h (congrArg Queue.ph hv)

/-- The two counters that a charge advances after the queue stand outside the objects. -/
theorem queueOf_chargeTime {s : State} {c q : Nat} (ctx ns : Nat) (hph : (queueOf s c q).ph ≠ .free) :
    queueOf (chargeTime s c q ctx ns) c q = { queueOf s c q with
      vt := ((queueOf s c q).vt + ns * 1024 / max (queueOf s c q).share 1) % 2 ^ 64, used := (queueOf s c q).used + ns } := by
  simp only [chargeTime, beq_iff_eq, if_neg hph]
  refine (queueOf_congr ?_ c q).trans (queueOf_setQueue_of_used s c q hph)
  simp only [chargeCtx, addCtr_ob]

/-- The running minimum over a list that is not empty is the value of one of its members, and no member's value lies below it. -/
theorem exists_mem_foldl_min (f : Nat → Nat) (j : Nat) (js : List Nat) :
    ∃ i ∈ j :: js, js.foldl (fun a k => min a (f k)) (f j) = f i ∧ ∀ k ∈ j :: js, f i ≤ f k := by
  have hmin : ((j :: js).map f).min? = some (js.foldl (fun a k => min a (f k)) (f j)) := by
    rw [List.map_cons, List.min?_cons', List.foldl_map]
  obtain ⟨hmem, hle⟩ := List.min?_eq_some_iff.mp hmin
  obtain ⟨i, hi, hfi⟩ := List.mem_map.mp hmem
  exact ⟨i, hi, hfi.symm, fun k hk => hfi ▸ hle _ (List.mem_map_of_mem hk)⟩

/-- The other queues of a cove that hold eligible work, in the order in which `joinVt` goes through them. -/
def workingOthers (s : State) (c q : Nat) : List Nat := (List.range 64).filter (fun j => j != q && hasWork s c j)

theorem mem_workingOthers {s : State} {c q j : Nat} : j ∈ workingOthers s c q ↔ j < 64 ∧ j ≠ q ∧ hasWork s c j = true := by
  simp [workingOthers]

theorem vt_joinVt {s : State} {c q j : Nat} {js : List Nat} (hph : (queueOf s c q).ph ≠ .free) (h : workingOthers s c q = j :: js) :
    (queueOf (joinVt s c q) c q).vt = max (queueOf s c q).vt (js.foldl (fun a k => min a (queueOf s c k).vt) (queueOf s c j).vt) := by
  rw [workingOthers] at h
  simp only [joinVt, h]
  rw [queueOf_setQueue_of_used]
  exact hph

/-- When other queues work, the one that joins them takes at least the VT of one of them, and none of them has a lesser VT (R259). -/
theorem joinVt_takes_least {s : State} {c q : Nat} (hph : (queueOf s c q).ph ≠ .free) (hne : workingOthers s c q ≠ []) :
    ∃ j ∈ workingOthers s c q, (queueOf (joinVt s c q) c q).vt = max (queueOf s c q).vt (queueOf s c j).vt
      ∧ ∀ k ∈ workingOthers s c q, (queueOf s c j).vt ≤ (queueOf s c k).vt := by
  obtain ⟨i, is, his⟩ := List.exists_cons_of_ne_nil hne
  obtain ⟨j, hj, hleast, hle⟩ := exists_mem_foldl_min (fun k => (queueOf s c k).vt) i is
  rw [vt_joinVt hph his, his]
  exact ⟨j, hj, congrArg (max _) hleast, hle⟩

theorem gaining_joins {s : State} {c q : Nat} {f : State → State} (hold : hasWork s c q = false) (hnew : hasWork (f s) c q = true) :
    gaining s c q f = joinVt (f s) c q := by
  simp [gaining, hold, hnew]

/-- Settles O49: a charge by the queue it leaves, with SHARE at least 1; a gain by the least VT of the other queues that work. -/
theorem virtualTime : Obligations.VirtualTime := by
  unfold Obligations.VirtualTime
  refine ⟨fun s c q ctx ns hph hshare => ?_, fun s c q f hold hnew hph ⟨i, hi⟩ => ?_⟩
  · rw [queueOf_chargeTime ctx ns hph, max_eq_left hshare]
  · obtain ⟨j, hj, hvt, hle⟩ := joinVt_takes_least hph (List.ne_nil_of_mem (mem_workingOthers.mpr hi))
    obtain ⟨hlt, hne, hwork⟩ := mem_workingOthers.mp hj
    refine ⟨j, hlt, hne, hwork, ?_, fun k hk hkq hkw => hle k (mem_workingOthers.mpr ⟨hk, hkq, hkw⟩)⟩
    rw [gaining_joins hold hnew, hvt]

end Sys2Proof.Machine
end

section
/-!
Regulators: the window that ends and the one that starts, the urgency a master presents, and the charge (R278, R281–R283).
-/
namespace Sys2Proof.Machine

/-! ### The table of regulators -/

theorem setRegul_bw (s : State) (r : Nat) (v : Regul) : (setRegul s r v).bw = tsetD s.bw r (Regul.init r) v := rfl

theorem regulOf_congr {s t : State} (h : t.bw = s.bw) (r : Nat) : regulOf t r = regulOf s r := by
  simp only [regulOf, h]

theorem regulOf_setRegul_self {s : State} (h : s.bw.sorted = true) (r : Nat) (v : Regul) : regulOf (setRegul s r v) r = v :=
  tgetD_tsetD_self h _ _ _

theorem regulOf_setRegul_of_ne (s : State) {r : Nat} {v : Regul} (h : v ≠ Regul.init r) : regulOf (setRegul s r v) r = v :=
  tgetD_tsetD_of_ne _ _ _ h

/-! ### The end of a window (R278, R283) -/

theorem enterMissing_bw (s : State) (r : Nat) (ien : Bool) : (enterMissing s r ien).bw = s.bw :=
  (enterMissing_ext s r ien).same .bw rfl

/-- The monitor's judgement leaves the regulators, but for a new record of its own that has the same effective budget. -/
theorem judgeWindow_bw (s : State) (r : Nat) :
    (judgeWindow s r).bw = s.bw ∨ ∃ v : Regul, v.eff = (regulOf s r).eff ∧ (judgeWindow s r).bw = (setRegul s r v).bw := by
  unfold judgeWindow
  dsimp only
  split
  · exact .inl rfl
  · right
    split
    · refine ⟨{ (regulOf s r).extend (regulOf s r).missed with missing := true }, rfl, ?_⟩
      simp only [enterMissing_bw, setRegul_bw, apply_ite State.bw, incCtr_bw, ite_self]
    · split
      · refine ⟨{ (regulOf s r).extend (regulOf s r).missed with missing := false }, rfl, ?_⟩
        simp only [setRegul_bw, apply_ite State.bw, incCtr_bw, ite_self]
      · refine ⟨(regulOf s r).extend (regulOf s r).missed, rfl, ?_⟩
        simp only [setRegul_bw, apply_ite State.bw, incCtr_bw, ite_self]

theorem judgeWindow_sorted {s : State} (h : s.bw.sorted = true) (r : Nat) : (judgeWindow s r).bw.sorted = true := by
  obtain e | ⟨v, -, e⟩ := judgeWindow_bw s r
  · rw [e]; exact h
  · rw [e]; exact tsetD_sorted h _ _ _

theorem judgeWindow_eff {s : State} (h : s.bw.sorted = true) (r : Nat) : (regulOf (judgeWindow s r) r).eff = (regulOf s r).eff := by
  obtain e | ⟨v, hv, e⟩ := judgeWindow_bw s r
  · rw [regulOf_congr e]
  · rw [regulOf_congr e, regulOf_setRegul_self h, hv]

theorem regulOf_startWindow {s : State} (h : s.bw.sorted = true) (r : Nat) :
    regulOf (startWindow s r) r = { regulOf s r with
      credit := (regulOf s r).eff, held := false, got := 0, want := 0, judged := !regulFenced s r } :=
  regulOf_setRegul_self h r _

/-! ### The urgency a master presents (R281, R282) -/

theorem tfind_map {α β : Type} (f : α → β) (t : Tbl α) (k : Nat) : tfind (t.map fun e => (e.1, f e.2)) k = (tfind t k).map f := by
  induction t with
  | nil => rfl
  | cons e t ih =>
    simp only [List.map_cons, tfind]
    split
    · rfl
    · exact ih

/-- A transfer after its regulator's urgency has risen to 3: a waiting one is at level 1, the level of URG 3. -/
def Xfer.upgraded (s : State) (r : Nat) (x : Xfer) : Xfer :=
  if x.stage = .waiting && regOf s x.src = some r then { x with urg := 3 } else x

theorem Xfer.upgraded_waiting {s : State} {r : Nat} {x : Xfer} (hw : x.stage = .waiting) (hr : regOf s x.src = some r) :
    x.upgraded s r = { x with urg := 3 } := by
  simp [Xfer.upgraded, hw, hr]

theorem presentUrg_bw {s : State} {r : Nat} (hmay : mayUrge s r = true) (urg : Nat) :
    (presentUrg s r urg).bw = (setRegul s r { regulOf s r with urg := urg }).bw := by
  simp only [presentUrg, hmay, if_true, apply_ite State.bw, ite_self]

/-- Only a master with URG_EN presents a level, and no regulator has it before a chart names it. -/
theorem regulOf_presentUrg {s : State} {r : Nat} (hmay : mayUrge s r = true) (urg : Nat) :
    regulOf (presentUrg s r urg) r = { regulOf s r with urg := urg } := by
  have hen : (regulOf s r).par.urgEn = true := (Bool.and_eq_true_iff.1 hmay).1
  rw [regulOf_congr (presentUrg_bw hmay urg)]
  refine regulOf_setRegul_of_ne s fun e => ?_
  have hinit : (regulOf s r).par.urgEn = false := congrArg (fun v : Regul => v.par.urgEn) e
  exact Bool.false_ne_true (hinit.symm.trans hen)

theorem presentUrg_rise_xfers {s : State} {r : Nat} (hmay : mayUrge s r = true) (hold : (regulOf s r).urg ≠ 3) :
    (presentUrg s r 3).xl.xfers = s.xl.xfers.map fun e => (e.1, e.2.upgraded s r) := by
  simp only [presentUrg, hmay, if_true, decide_true, Bool.true_and, bne_iff_ne, ne_eq, hold, not_false_eq_true]
  rfl

theorem tfind_presentUrg_rise {s : State} {r id : Nat} {x : Xfer} (hmay : mayUrge s r = true) (hold : (regulOf s r).urg ≠ 3)
    (hx : tfind s.xl.xfers id = some x) (hw : x.stage = .waiting) (hr : regOf s x.src = some r) :
    tfind (presentUrg s r 3).xl.xfers id = some { x with urg := 3 } := by
  rw [presentUrg_rise_xfers hmay hold, tfind_map, hx, Option.map_some, Xfer.upgraded_waiting hw hr]

/-- Settles O3: a window's end by the record that `startWindow` leaves after a judgement that keeps the effective budget, the
urgency by `presentUrg`, and the recomputation by its domain. -/
theorem regulatorCommandsComplete : Obligations.RegulatorCommandsComplete := by
  unfold Obligations.RegulatorCommandsComplete
  refine ⟨fun s r hrun hs => ?_, fun s r b hmay hrun => ?_, fun s hrun => atDomain_running hrun⟩
  · refine ⟨_, atDomain_running hrun, ?_⟩
    simp only [regulOf_startWindow (judgeWindow_sorted hs r.val), judgeWindow_eff hs r.val, and_self]
  · refine ⟨_, atDomain_running hrun, ?_, fun h3 hold id x hx hw hr => ?_⟩
    · rw [regulOf_presentUrg hmay]
    · rw [h3]
      exact tfind_presentUrg_rise hmay hold hx hw hr

/-! ### The charge (R278) -/

/-- The counters that a charge advances after the regulator stand outside the regulators. -/
theorem takeUnits_bw (s : State) (r n : Nat) :
    (takeUnits s r n).bw = (setRegul s r { regulOf s r with
      credit := (regulOf s r).credit - n, got := (regulOf s r).got + n,
      held := (regulOf s r).held || (!(regulOf s r).unlimited && (regulOf s r).credit == n) }).bw := by
  refine ((countBytes_ext ..).same .bw rfl).trans ?_
  simp only [apply_ite State.bw, incCtr_bw, ite_self]

/-- A charge takes a unit of whatever credit the regulator has, unlimited or not. -/
theorem credit_of_charge {s t : State} {r : Nat} (h : s.bw.sorted = true) (hc : charge s r = some t) :
    (regulOf t r).credit = (regulOf s r).credit - 1 := by
  simp only [charge] at hc
  split at hc
  · cases hc
    rw [regulOf_congr (takeUnits_bw s r 1), regulOf_setRegul_self h]
  · cases hc

/-- Refutes O57: a regulator of unlimited credit that still has a unit from before its budget became 0 loses it at an issue, as
`charge` subtracts the unit for it too. Here it is sweep engine 31's, of class BG, whose parameters `postParams` can set to a budget of 0
in mid-window. -/
theorem not_creditIsTakenAtIssue : ¬ Obligations.CreditIsTakenAtIssue := by
  unfold Obligations.CreditIsTakenAtIssue
  intro h
  obtain ⟨-, -, hunlimited⟩ := h { State.reset with bw := [(255, { Regul.init 255 with credit := 1 })] } 255
  obtain ⟨t, hc, hkept⟩ := hunlimited rfl rfl
  have htaken := credit_of_charge rfl hc
  exact absurd (hkept.symm.trans htaken) (by decide)

end Sys2Proof.Machine
end

section
/-!
The beacon's table of sources, and the source that a claim takes from it (R292, R298).
-/
namespace Sys2Proof.Machine

/-! ### The table of sources -/

/-- A source with a bit that its reset settings have clear is listed. -/
theorem Src.ne_init {v : Src} (h : v.pending = true ∨ v.active = true ∨ v.en = true) : v ≠ Src.init := by
  rintro rfl
  simp [Src.init] at h

theorem srcOf_setSrc_of_ne (s : State) (i : Nat) {v : Src} (h : v ≠ Src.init) : srcOf (setSrc s i v) i = v :=
  tgetD_tsetD_of_ne _ _ _ h

theorem srcOf_setSrc_other (s : State) {i j : Nat} (v : Src) (h : j ≠ i) : srcOf (setSrc s i v) j = srcOf s j :=
  tgetD_tsetD_ne _ _ _ _ h

/-- A source found by its record, which is not the record of an unlisted one. -/
theorem mem_srcsWhere_of {s : State} {p : Nat → Src → Bool} {i : Nat} (hinit : p i Src.init = false) (h : p i (srcOf s i) = true) :
    i ∈ srcsWhere s p := by
  unfold srcOf tgetD at h
  cases hf : tfind s.bc.srcs i with
  | none =>
    rw [hf] at h
    exact absurd (hinit.symm.trans h) Bool.false_ne_true
  | some v =>
    rw [hf] at h
    exact List.mem_map.2 ⟨(i, v), List.mem_filter.2 ⟨mem_of_tfind hf, h⟩, rfl⟩

theorem mem_srcsWhere {s : State} (hs : s.bc.srcs.sorted = true) {p : Nat → Src → Bool} {i : Nat} (hinit : p i Src.init = false) :
    i ∈ srcsWhere s p ↔ p i (srcOf s i) = true := by
  refine ⟨fun h => ?_, mem_srcsWhere_of hinit⟩
  obtain ⟨e, he, rfl⟩ := List.mem_map.1 h
  obtain ⟨hmem, hp⟩ := List.mem_filter.1 he
  have hsrc : srcOf s e.1 = e.2 := by simp only [srcOf, tgetD, tfind_of_mem hs hmem, Option.getD_some]
  rwa [hsrc]

theorem srcsWhere_ascending {s : State} (hs : s.bc.srcs.sorted = true) (p : Nat → Src → Bool) : (srcsWhere s p).Pairwise (· < ·) :=
  List.pairwise_map.2 (((Tbl.sorted_iff _).1 hs).sublist List.filter_sublist)

/-! ### The source that a claim takes (R298) -/

/-- The sources that a claim on target `t` may take. -/
def claimable (s : State) (t : Nat) : List Nat := srcsWhere s fun _ x => x.pending && !x.held && x.route == some t

theorem mem_claimable {s : State} (hs : s.bc.srcs.sorted = true) {t i : Nat} :
    i ∈ claimable s t ↔ (srcOf s i).pending = true ∧ (srcOf s i).held = false ∧ (srcOf s i).route = some t := by
  rw [claimable, mem_srcsWhere hs rfl]
  simp [and_assoc]

theorem bestSrc_eq_argmin (s : State) (t : Nat) : bestSrc s t = (claimable s t).argmin fun i => (srcOf s i).prio := by
  refine congrArg (fun f => (claimable s t).foldl f none) (funext₂ fun b i => ?_)
  cases b with
  | none => rfl
  | some j => rfl

/-- In a list that rises, the first of the least by `f` is the least in number among them. -/
theorem argmin_of_ascending {l : List Nat} (hl : l.Pairwise (· < ·)) {f : Nat → Nat} {m : Nat} (h : l.argmin f = some m) :
    m ∈ l ∧ ∀ j ∈ l, f m < f j ∨ f m = f j ∧ m ≤ j := by
  obtain ⟨hm, hle, hfirst⟩ := List.argmin_eq_some_iff.1 h
  refine ⟨hm, fun j hj => (hle j hj).lt_or_eq.imp_right fun e => ⟨e, ?_⟩⟩
  rcases (hfirst j hj e.ge).lt_or_eq with hlt | heq
  · have hget := List.pairwise_iff_getElem.1 hl _ _ (List.idxOf_lt_length_of_mem hm) (List.idxOf_lt_length_of_mem hj) hlt
    simp only [List.getElem_idxOf] at hget
    exact hget.le
  · exact ((List.idxOf_inj hm).1 heq).le

/-- A source as a claim on target `t` leaves it. -/
def Src.claimed (x : Src) (t : Nat) : Src := { x with pending := false, active := true, svc := t, route := none }

theorem claimTgt_some {s : State} {t i : Nat} (h : bestSrc s t = some i) :
    claimTgt s t = (BitVec.ofNat 32 (2 ^ 31 + i), setSrc s i ((srcOf s i).claimed t)) := by
  simp only [claimTgt, h, Src.claimed]

theorem claimTgt_none {s : State} {t : Nat} (h : bestSrc s t = none) : claimTgt s t = (0, s) := by
  simp only [claimTgt, h]

/-- Settles O51: the source taken is the first of least PRIO in the list of those that may be taken, which rises. -/
theorem claimTakesTheBestSource : Obligations.ClaimTakesTheBestSource := by
  unfold Obligations.ClaimTakesTheBestSource
  refine fun s t hs => ⟨fun hnone => ?_, fun j hp hh hr => ?_⟩
  · have hempty : claimable s t = [] := List.eq_nil_iff_forall_not_mem.2 fun i hi => hnone i ((mem_claimable hs).1 hi)
    exact claimTgt_none (by rw [bestSrc_eq_argmin, hempty, List.argmin_nil])
  · have hj : j ∈ claimable s t := (mem_claimable hs).2 ⟨hp, hh, hr⟩
    obtain ⟨i, hi⟩ := Option.ne_none_iff_exists'.1 fun e =>
      List.ne_nil_of_mem hj (List.argmin_eq_none (f := fun i => (srcOf s i).prio).1 e)
    obtain ⟨hmem, hbest⟩ := argmin_of_ascending (srcsWhere_ascending hs _) hi
    obtain ⟨hpi, hhi, hri⟩ := (mem_claimable hs).1 hmem
    exact ⟨i, hpi, hhi, hri, hbest j hj, claimTgt_some ((bestSrc_eq_argmin s t).trans hi)⟩

end Sys2Proof.Machine
end

section
/-!
What a sub-step of the beacon does to the sources and the targets, and what the delivery after it leaves (R292–R297).
-/
namespace Sys2Proof.Machine

/-! ### Routing (R294, R295) -/

/-- The beacon of `t` is the beacon of `s` but for the route of source `i`. -/
def Reroutes (s : State) (i : Nat) (t : State) : Prop :=
  t.bc = s.bc ∨ ∃ r, t.bc = (setSrc s i { srcOf s i with route := r }).bc

theorem fallBack_reroutes (s : State) (i : Nat) : Reroutes s i (fallBack s i).1 := by
  unfold fallBack
  dsimp only
  split
  · exact .inr ⟨_, rfl⟩
  · exact .inl rfl

theorem routeSrc_reroutes (s : State) (i : Nat) : Reroutes s i (routeSrc s i).1 := by
  unfold routeSrc
  dsimp only
  split
  · split
    · exact .inr ⟨_, rfl⟩
    · exact .inl rfl
  · split
    · exact .inr ⟨_, rfl⟩
    · exact fallBack_reroutes s i

theorem retryRoute_reroutes (s : State) (i : Nat) : Reroutes s i (retryRoute s i).1 := by
  unfold retryRoute
  dsimp only
  split
  · split
    · exact .inr ⟨_, rfl⟩
    · exact .inl rfl
  · split
    · exact .inr ⟨_, rfl⟩
    · split
      · exact fallBack_reroutes s i
      · exact .inl rfl

theorem srcOf_congr {s t : State} (h : t.bc.srcs = s.bc.srcs) (j : Nat) : srcOf t j = srcOf s j := by
  simp only [srcOf, h]

section
variable {s t : State} {i : Nat} (h : Reroutes s i t)
include h

theorem Reroutes.tgts : t.bc.tgts = s.bc.tgts := by
  obtain e | ⟨r, e⟩ := h
  · rw [e]
  · rw [e]; rfl

theorem Reroutes.other {j : Nat} (hj : j ≠ i) : srcOf t j = srcOf s j := by
  obtain e | ⟨r, e⟩ := h
  · exact srcOf_congr (by rw [e]) j
  · exact (srcOf_congr (by rw [e]) j).trans (srcOf_setSrc_other _ _ hj)

theorem Reroutes.self (hp : (srcOf s i).pending = true) : ∃ r, srcOf t i = { srcOf s i with route := r } := by
  obtain e | ⟨r, e⟩ := h
  · exact ⟨_, srcOf_congr (by rw [e]) i⟩
  · exact ⟨r, (srcOf_congr (by rw [e]) i).trans (srcOf_setSrc_of_ne _ _ (Src.ne_init (.inl hp)))⟩

end

/-! ### Hold-off and raising (R292, R293) -/

/-- What hold-off does with a source: it leaves it, holds it, or releases it and may start the timer of its group (R293). -/
theorem holdoff_cases (s : State) (i : Nat) : (holdoff s i).1 = s ∨ (holdoff s i).1 = setSrc s i { srcOf s i with held := true }
    ∨ ∃ run, Reroutes { s with bc := { s.bc with running := run } } i (holdoff s i).1 := by
  unfold holdoff
  dsimp only
  split
  · exact .inl rfl
  · split
    · exact .inr (.inl rfl)
    · refine .inr (.inr ?_)
      split
      · exact ⟨s.bc.running, routeSrc_reroutes s i⟩
      · exact ⟨_, routeSrc_reroutes _ i⟩

theorem holdoff_tgts (s : State) (i : Nat) : (holdoff s i).1.bc.tgts = s.bc.tgts := by
  obtain e | e | ⟨run, h⟩ := holdoff_cases s i
  · rw [e]
  · rw [e]; rfl
  · exact h.tgts

theorem srcOf_holdoff_other (s : State) {i j : Nat} (hj : j ≠ i) : srcOf (holdoff s i).1 j = srcOf s j := by
  obtain e | e | ⟨run, h⟩ := holdoff_cases s i
  · rw [e]
  · rw [e]; exact srcOf_setSrc_other _ _ hj
  · exact h.other hj

theorem srcOf_holdoff_self {s : State} {i : Nat} (hp : (srcOf s i).pending = true) :
    ∃ h r, srcOf (holdoff s i).1 i = { srcOf s i with held := h, route := r } := by
  obtain e | e | ⟨run, h⟩ := holdoff_cases s i
  · exact ⟨_, _, congrArg (srcOf · i) e⟩
  · exact ⟨true, _, (congrArg (srcOf · i) e).trans (srcOf_setSrc_of_ne _ _ (Src.ne_init (.inl hp)))⟩
  · obtain ⟨r, e⟩ := h.self hp
    exact ⟨_, r, e⟩

/-- A source set pending that then enters hold-off keeps all but HELD and its route. -/
theorem srcOf_holdoff_setSrc (s : State) (i : Nat) {v : Src} (hp : v.pending = true) :
    ∃ h r, srcOf (holdoff (setSrc s i v) i).1 i = { v with held := h, route := r } := by
  have hset : srcOf (setSrc s i v) i = v := srcOf_setSrc_of_ne s i (Src.ne_init (.inl hp))
  have hself := srcOf_holdoff_self (s := setSrc s i v) (i := i) (by rwa [hset])
  rwa [hset] at hself

/-- A source in service, or one with EN 0, does not enter hold-off (R292). -/
theorem holdoff_waiting {s : State} {i : Nat} (h : (srcOf s i).active = true ∨ (srcOf s i).en = false) : holdoff s i = (s, false) :=
  if_pos (by simpa using h.symm)

theorem raiseCore_pending {s : State} {i : Nat} (hp : (srcOf s i).pending = true) : raiseCore s i = (s, false) :=
  if_pos (by simp [hp])

theorem raiseCore_new {s : State} {i : Nat} (hi : raisable s i = true) (hp : (srcOf s i).pending = false) :
    raiseCore s i = holdoff (setSrc s i { srcOf s i with pending := true }) i :=
  if_neg (by simp [hi, hp])

/-- The beacon's own source can always be raised. -/
theorem raisable_beacon (s : State) : raisable s 524 = true := rfl

theorem raiseCore_beacon_tgts (s : State) : (raiseCore s 524).1.bc.tgts = s.bc.tgts := by
  cases hp : (srcOf s 524).pending with
  | true => rw [raiseCore_pending hp]
  | false => rw [raiseCore_new (raisable_beacon s) hp, holdoff_tgts]; rfl

/-- Raising the beacon's own source leaves every source that is pending as it is. -/
theorem srcOf_raiseCore_beacon {s : State} {j : Nat} (hp : (srcOf s j).pending = true) : srcOf (raiseCore s 524).1 j = srcOf s j := by
  cases h524 : (srcOf s 524).pending with
  | true => rw [raiseCore_pending h524]
  | false =>
    have hj : j ≠ 524 := by
      rintro rfl
      exact Bool.false_ne_true (h524.symm.trans hp)
    rw [raiseCore_new (raisable_beacon s) h524, srcOf_holdoff_other _ hj, srcOf_setSrc_other _ _ hj]

/-! ### A step of the beacon and its delivery -/

/-- Source 524 is raised with a step that sets a BC_STATUS bit, and changes no source that the step leaves pending. -/
theorem srcOf_beaconStep {s : State} {f : State → State × Bool} {j : Nat} (h : (f s).2 = true → (srcOf (f s).1 j).pending = true) :
    srcOf (beaconStep s f) j = srcOf (f s).1 j := by
  unfold beaconStep
  dsimp only
  rw [srcOf_deliver]
  split
  · next hn => exact srcOf_raiseCore_beacon (h hn)
  · rfl

theorem tgtOf_congr {s t : State} (h : t.bc.tgts = s.bc.tgts) (k : Nat) : tgtOf t k = tgtOf s k := by
  simp only [tgtOf, h]

theorem tgtOf_setTgt_of_ne (s : State) (k : Nat) {v : Tgt} (h : v ≠ Tgt.init) : tgtOf (setTgt s k v) k = v :=
  tgetD_tsetD_of_ne _ _ _ h

/-- A message changes no setting of a target; it may set BADVEC (R297). -/
theorem tgtOf_sendLine (s : State) (t k : Nat) : ∃ b, tgtOf (sendLine s t) k = { tgtOf s k with badvec := b } := by
  unfold sendLine
  dsimp only
  split
  · split
    · exact ⟨_, rfl⟩
    · by_cases hk : k = t
      · subst hk
        refine ⟨true, tgtOf_setTgt_of_ne s k fun e => ?_⟩
        exact Bool.false_ne_true (congrArg Tgt.badvec e).symm
      · exact ⟨_, tgetD_tsetD_ne _ _ _ _ hk⟩
  · exact ⟨_, rfl⟩

theorem tgtOf_riseLine (s : State) (t k : Nat) : ∃ b, tgtOf (riseLine s t) k = { tgtOf s k with badvec := b } := by
  unfold riseLine
  split
  · exact tgtOf_sendLine s t k
  · exact ⟨_, rfl⟩

theorem tgtOf_deliver (s t : State) (k : Nat) : ∃ b, tgtOf (deliver s t) k = { tgtOf t k with badvec := b } := by
  have hrise : ∃ b, tgtOf ((List.range 64).foldl (fun x i => if lineReq t i && !lineReq s i then riseLine x i else x) t) k
      = { tgtOf t k with badvec := b } := by
    refine List.foldlRecOn (motive := fun x => ∃ b, tgtOf x k = { tgtOf t k with badvec := b }) _ _ ⟨_, rfl⟩ fun x ⟨_, hx⟩ i _ => ?_
    split
    · obtain ⟨b, e⟩ := tgtOf_riseLine x i k
      exact ⟨b, by rw [e, hx]⟩
    · exact ⟨_, hx⟩
  unfold deliver
  dsimp only
  split
  · exact hrise
  · exact hrise

theorem tgtOf_beaconStep (s : State) (f : State → State × Bool) (k : Nat) :
    ∃ b, tgtOf (beaconStep s f) k = { tgtOf (f s).1 k with badvec := b } := by
  unfold beaconStep
  dsimp only
  split
  · obtain ⟨b, e⟩ := tgtOf_deliver s (raiseCore (f s).1 524).1 k
    exact ⟨b, by rw [e, tgtOf_congr (raiseCore_beacon_tgts _)]⟩
  · exact tgtOf_deliver s (f s).1 k

/-- Without a change no line rises, and no attention is new. -/
theorem deliver_unchanged (s : State) : deliver s s = s := by
  simp [deliver]

/-- Settles O50: a raise of a pending source is an empty step, and one that may not be released stops at hold-off. -/
theorem raisesMerge : Obligations.RaisesMerge := by
  unfold Obligations.RaisesMerge
  refine fun s i hi => ⟨fun hp => ?_, pending_raiseSrc_self hi, fun hp hwait => ?_⟩
  · simp only [raiseSrc, beaconStep, raiseCore_pending hp, Bool.false_eq_true, if_false, deliver_unchanged]
  · have hset : srcOf (setSrc s i { srcOf s i with pending := true }) i = { srcOf s i with pending := true } :=
      srcOf_setSrc_of_ne _ _ (Src.ne_init (.inl rfl))
    have hcore : raiseCore s i = (setSrc s i { srcOf s i with pending := true }, false) := by
      rw [raiseCore_new hi hp, holdoff_waiting (by rwa [hset])]
    have hstep := srcOf_beaconStep (s := s) (f := (raiseCore · i)) (j := i) (by simp [hcore])
    exact hstep.trans ((congrArg (fun p => srcOf p.1 i) hcore).trans hset)

end Sys2Proof.Machine
end

section
/-!
The commands of the beacon: the end of a hold-off, the end of service, the settings of sources and targets, software raises (R290–R301).
-/
namespace Sys2Proof.Machine

/-! ### The end of a hold-off (R293) -/

/-- The state with the HELD bits of a list of sources cleared. -/
def unholdAll (s : State) (l : List Nat) : State := l.foldl (fun s i => setSrc s i { srcOf s i with held := false }) s

/-- A source that is pending and not held. -/
def Src.Released (x : Src) : Prop := x.pending = true ∧ x.held = false

theorem released_unholdAll {i : Nat} {l : List Nat} {s : State} (hp : (srcOf s i).pending = true)
    (h : i ∈ l ∨ (srcOf s i).held = false) : (srcOf (unholdAll s l) i).Released := by
  induction l generalizing s with
  | nil => exact ⟨hp, h.resolve_left List.not_mem_nil⟩
  | cons k l ih =>
    show (srcOf (unholdAll (setSrc s k { srcOf s k with held := false }) l) i).Released
    by_cases hk : i = k
    · subst hk
      have hset := srcOf_setSrc_of_ne s i (v := { srcOf s i with held := false }) (Src.ne_init (.inl hp))
      exact ih (by rw [hset]; exact hp) (.inr (by rw [hset]))
    · have hset := srcOf_setSrc_other s (v := { srcOf s k with held := false }) hk
      refine ih (by rwa [hset]) ?_
      rw [hset]
      exact h.imp_left fun hm => (List.mem_cons.1 hm).resolve_left hk

theorem Reroutes.released {s t : State} {i j : Nat} (h : Reroutes s i t) (hj : (srcOf s j).Released) : (srcOf t j).Released := by
  by_cases hji : j = i
  · subst hji
    obtain ⟨r, e⟩ := h.self hj.1
    rw [e]
    exact hj
  · rwa [h.other hji]

/-- What each sub-step keeps, the sub-steps on a list of sources keep. -/
theorem eachSrc_keeps {P : State → Prop} {f : State → Nat → State × Bool} (hf : ∀ s i, P s → P (f s i).1) (l : List Nat) {s : State}
    (h : P s) : P (eachSrc f l s).1 :=
  List.foldlRecOn (motive := fun a : State × Bool => P a.1) _ _ h fun a ha i _ => hf a.1 i ha

/-- What an expiry does while the timer runs: the held sources of the group lose HELD, and some of them are routed. -/
theorem expireHoldoff_running {s : State} {g : Nat} (h : tgetD s.bc.running g false = true) : ∃ rel t,
    t.bc.srcs = (unholdAll s (srcsWhere s fun i x => i / 16 == g && x.held)).bc.srcs
      ∧ expireHoldoff s g = beaconStep s fun _ => eachSrc routeSrc rel t := by
  unfold expireHoldoff
  rw [if_neg (by simp [h])]
  refine ⟨_, _, ?_, rfl⟩
  rfl

theorem released_expireHoldoff {s : State} {g i : Nat} (hrun : tgetD s.bc.running g false = true) (hg : i / 16 = g)
    (hp : (srcOf s i).pending = true) (hh : (srcOf s i).held = true) : (srcOf (expireHoldoff s g) i).Released := by
  have hi : i ∈ srcsWhere s fun i x => i / 16 == g && x.held := mem_srcsWhere_of (by simp [Src.init]) (by simp [hg, hh])
  obtain ⟨rel, t, hsrcs, e⟩ := expireHoldoff_running hrun
  have ht : (srcOf t i).Released := by
    rw [srcOf_congr hsrcs]
    exact released_unholdAll hp (.inl hi)
  have hrel := eachSrc_keeps (P := fun u => (srcOf u i).Released) (fun u k hu => (routeSrc_reroutes u k).released hu) rel ht
  rw [e, srcOf_beaconStep (f := fun _ => eachSrc routeSrc rel t) fun _ => hrel.1]
  exact hrel

/-! ### The end of service (R299) -/

theorem srcOf_sendLine_when (c : Bool) (s : State) (t j : Nat) : srcOf (if c then sendLine s t else s) j = srcOf s j := by
  cases c with
  | true => exact srcOf_sendLine s t j
  | false => rfl

/-- An enabled source whose service ends is not ACTIVE after it, and is pending after it if the step sets a BC_STATUS bit. -/
theorem endService_ends {s : State} {i : Nat} (hen : (srcOf s i).en = true) :
    (srcOf (endService s i).1 i).active = false ∧ ((endService s i).2 = true → (srcOf (endService s i).1 i).pending = true) := by
  cases hp : (srcOf s i).pending with
  | true =>
    obtain ⟨h, r, hself⟩ := srcOf_holdoff_setSrc s i (v := { srcOf s i with active := false }) hp
    have e : endService s i = holdoff (setSrc s i { srcOf s i with active := false }) i := if_pos hp
    rw [e, hself]
    exact ⟨rfl, fun _ => hp⟩
  | false =>
    have e : endService s i = (setSrc s i { srcOf s i with active := false }, false) := if_neg (by simp [hp])
    rw [e, srcOf_setSrc_of_ne s i (v := { srcOf s i with active := false }) (Src.ne_init (.inr (.inr hen)))]
    exact ⟨rfl, fun h => absurd h Bool.false_ne_true⟩

theorem active_eoiTgt {s : State} {t i : Nat} (ha : (srcOf s i).active = true) (ht : (srcOf s i).svc = t) (hen : (srcOf s i).en = true) :
    (srcOf (eoiTgt s t i) i).active = false := by
  obtain ⟨hend, hnote⟩ := endService_ends hen
  have e : eoiTgt s t i = if lineReq s t && lineReq (beaconStep s fun s => endService s i) t then
      sendLine (beaconStep s fun s => endService s i) t else beaconStep s fun s => endService s i := if_pos (by simp [ha, ht])
  rw [e, srcOf_sendLine_when, srcOf_beaconStep hnote]
  exact hend

/-! ### Software raises (R290) -/

theorem raisable_congr {s t : State} (h : t.plan = s.plan) (i : Nat) : raisable t i = raisable s i := by
  simp only [raisable, coveExists, h]

/-- A raise leaves the plan, and so which sources can be raised. -/
theorem raisable_raiseSrc (s : State) (i j : Nat) : raisable (raiseSrc s i) j = raisable s j :=
  raisable_congr ((raiseSrc_ext s i).same .plan rfl) j

theorem pending_raiseEach {f : Nat → Nat} {l : List Nat} {k : Nat} (hk : k ∈ l) {s : State} (hr : raisable s (f k) = true) :
    (srcOf (l.foldl (fun s i => raiseSrc s (f i)) s) (f k)).pending = true := by
  induction l generalizing s with
  | nil => exact absurd hk List.not_mem_nil
  | cons j l ih =>
    rcases List.mem_cons.1 hk with rfl | hk
    · exact List.foldlRecOn (motive := fun t => (srcOf t (f k)).pending = true) l _ (pending_raiseSrc_self hr)
        fun t ht i _ => pending_raiseSrc ht (f i)
    · exact ih hk (by rwa [raisable_raiseSrc])

theorem srcClass_software {c k : Nat} (hc : c < 16) (hk : k < 16) : srcClass (32 * c + 16 + k) = 0 := by
  have hlt : 32 * c + 16 + k < 512 := by omega
  have hmod : (32 * c + 16 + k) % 32 = 16 + k := by omega
  simp only [srcClass, if_pos hlt, hmod, if_neg (show 16 + k ≠ 0 by omega), if_neg (show ¬ 16 + k ≤ 2 by omega),
    if_neg (show ¬ 16 + k < 16 by omega)]

theorem raisable_software {s : State} {c k : Nat} (hc : c < 16) (hk : k < 16) (h : coveExists s c = true) :
    raisable s (32 * c + 16 + k) = true := by
  have hcove : srcCove (32 * c + 16 + k) = c := by unfold srcCove; omega
  simp [raisable, srcClass_software hc hk, hcove, h]

/-! ### Settings of sources and targets (R292, R296, R297) -/

/-- An enabled source takes the settings written, whether or not it enters hold-off with them. -/
theorem srcOf_cfgSrc (s : State) (i prio target : Nat) : ∃ h r,
    srcOf (cfgSrc s i prio true target) i = { srcOf s i with prio := prio, en := true, target := target, held := h, route := r } := by
  unfold cfgSrc
  dsimp only
  split
  · next hc =>
    simp only [Bool.and_eq_true] at hc
    obtain ⟨⟨⟨⟨-, hp⟩, -⟩, -⟩, -⟩ := hc
    obtain ⟨h, r, hself⟩ := srcOf_holdoff_setSrc s i (v := { srcOf s i with prio := prio, en := true, target := target }) hp
    refine ⟨h, r, (srcOf_beaconStep fun _ => ?_).trans hself⟩
    rw [hself]
    exact hp
  · exact ⟨_, _, srcOf_setSrc_of_ne s i (Src.ne_init (.inr (.inr rfl)))⟩

/-- A manager's write of the settings of a fault or management source, with a target that the source may name. -/
theorem writeSrcCfg_static {s : State} {q : Requester} {i v : Nat} (hq : qMgmt q = true) (hi : srcClass i = 1 ∨ srcClass i = 2)
    (hn : mayName s i (bits v 8 6) = true) : writeSrcCfg s q i v = cfgSrc s i (bits v 0 4) (bit v 4) (bits v 8 6) := by
  have h3 : srcClass i ≠ 3 := by omega
  have h0 : srcClass i ≠ 0 := by omega
  cases q with
  | vf c => exact absurd hq Bool.false_ne_true
  | ibpin | pf => simp only [writeSrcCfg, if_neg h3, if_neg h0, if_pos hn]

theorem unroute_tgts (s : State) (i : Nat) : (unroute s i).1.bc.tgts = s.bc.tgts := by
  unfold unroute
  dsimp only
  split
  · rfl
  · split
    · exact (routeSrc_reroutes _ i).tgts
    · exact (fallBack_reroutes _ i).tgts

theorem endService_tgts (s : State) (i : Nat) : (endService s i).1.bc.tgts = s.bc.tgts := by
  unfold endService
  dsimp only
  split
  · exact holdoff_tgts _ i
  · rfl

theorem eachSrc_tgts {f : State → Nat → State × Bool} (hf : ∀ s i, (f s i).1.bc.tgts = s.bc.tgts) (l : List Nat) (s : State) :
    (eachSrc f l s).1.bc.tgts = s.bc.tgts :=
  eachSrc_keeps (P := fun t => t.bc.tgts = s.bc.tgts) (fun t i ht => (hf t i).trans ht) l rfl

theorem retryAll_tgts (s : State) : (retryAll s).1.bc.tgts = s.bc.tgts :=
  eachSrc_tgts (fun t i => (retryRoute_reroutes t i).tgts) _ s

theorem withdrawTgt_tgts (s : State) (t : Nat) (byEn : Bool) : (withdrawTgt s t byEn).1.bc.tgts = s.bc.tgts :=
  (eachSrc_tgts endService_tgts _ _).trans (eachSrc_tgts unroute_tgts _ s)

/-- An enabled target takes the settings written: what is routed, withdrawn or sent with them changes at most BADVEC. -/
theorem tgtOf_cfgTgt (s : State) (t mode vector : Nat) : ∃ b,
    tgtOf (cfgTgt s t mode true vector) t = { tgtOf s t with mode := mode, en := true, vector := vector, badvec := b } := by
  have hset : tgtOf (setTgt s t { tgtOf s t with mode := mode, en := true, vector := vector }) t
      = { tgtOf s t with mode := mode, en := true, vector := vector } := by
    refine tgtOf_setTgt_of_ne _ _ fun e => ?_
    exact Bool.false_ne_true (congrArg Tgt.en e).symm
  unfold cfgTgt
  dsimp only
  split
  · obtain ⟨b, e⟩ := tgtOf_beaconStep s _ t
    exact ⟨b, by rw [e, tgtOf_congr ((retryAll_tgts _).trans (withdrawTgt_tgts _ t true)), hset]⟩
  · obtain ⟨b, e⟩ := tgtOf_beaconStep s _ t
    exact ⟨b, by rw [e, tgtOf_congr (retryAll_tgts _), hset]⟩

/-- A manager's write of the settings of a target, but for MODE 2 on a cove's target. -/
theorem writeTgtCfg_manager {s : State} {q : Requester} {t v : Nat} (hq : qMgmt q = true)
    (hm : ¬ (bits v 0 2 = 2 ∧ (tgtOwner s t).isSome = true)) :
    writeTgtCfg s q t v = cfgTgt s t (bits v 0 2) (bit v 2) (bits v 8 11) := by
  cases q with
  | vf c => exact absurd hq Bool.false_ne_true
  | ibpin | pf => exact if_neg (by simpa using hm)

theorem claimAs_best {s : State} {q : Requester} {t i : Nat} (hmay : mayTgt s q t = true) (hbest : bestSrc s t = some i) :
    claimAs s q t = emit (setSrc s i ((srcOf s i).claimed t)) (.regData q (BitVec.ofNat 32 (2 ^ 31 + i))) := by
  simp only [claimAs, hmay, claimTgt_some hbest, if_true]

theorem srcOf_emit (s : State) (o : Out) (j : Nat) : srcOf (emit s o) j = srcOf s j := rfl

theorem srcOf_setSrc_claimed (s : State) (i t : Nat) : srcOf (setSrc s i ((srcOf s i).claimed t)) i = (srcOf s i).claimed t :=
  srcOf_setSrc_of_ne s i (Src.ne_init (.inr (.inl rfl)))

theorem atHost_open {s : State} (h : hostClosed s = false) (q : Requester) (t : State) : atHost s q t = .next t := by
  simp [atHost, h]

/-- Settles O1: each command by the operation it performs while the beacon runs or the ports are open, and by what that operation leaves
of the source or the target it names. -/
theorem beaconCommandsComplete : Obligations.BeaconCommandsComplete := by
  unfold Obligations.BeaconCommandsComplete
  refine ⟨fun s src hrun hr => ⟨_, atDomain_running hrun, pending_raiseSrc_self hr⟩,
    fun s g i hrun ht hg _ hp hh => ⟨_, atDomain_running hrun, released_expireHoldoff ht hg hp hh⟩,
    fun s q t i hs hmay hbest => ?_, fun s q t v hs hmay ha ht hen => ?_, fun s q c v k hreach hk hv => ?_,
    fun s q src v hs hq hi hn hen => ?_, fun s q t v hs hq hm hen => ?_, fun s q on hq hml => ?_, fun s hrun hatt hpulse => ?_⟩
  · refine ⟨_, atHost_open hs q _, ?_⟩
    simp only [claimAs_best hmay hbest, srcOf_emit, srcOf_setSrc_claimed]
    exact ⟨rfl, rfl, rfl, rfl⟩
  · refine ⟨_, atHost_open hs q _, ?_⟩
    rw [if_pos hmay]
    exact active_eoiTgt ha ht hen
  · have ⟨_, hcove, _⟩ := hreach
    exact ⟨_, atWindow_reaches hreach _ _, pending_raiseEach (f := fun i => 32 * c.val + 16 + i)
      (List.mem_filter.2 ⟨List.mem_range.2 hk, hv⟩) (raisable_software c.isLt hk hcove)⟩
  · refine ⟨_, atHost_open hs q _, ?_⟩
    obtain ⟨h, r, e⟩ := srcOf_cfgSrc s src.val (bits v.toNat 0 4) (bits v.toNat 8 6)
    rw [writeSrcCfg_static hq hi hn, hen, e]
    exact ⟨rfl, rfl, rfl⟩
  · refine ⟨_, atHost_open hs q _, ?_⟩
    obtain ⟨b, e⟩ := tgtOf_cfgTgt s t.val (bits v.toNat 0 2) (bits v.toNat 8 11)
    rw [writeTgtCfg_manager hq hm, hen, e]
    exact ⟨rfl, rfl, rfl⟩
  · refine (atFabric_manages hq _).trans ?_
    rw [if_pos hml]
  · refine (atDomain_running hrun).trans ?_
    simp only [hatt, hpulse, Bool.and_self, if_true]

end Sys2Proof.Machine
end

section
/-!
A step, over every command and every state: it answers, keeps within the frame of its command, and never restores a blown fuse (R357).
-/
namespace Sys2Proof.Machine

/-- Settles O34: by the advance that every command makes. -/
theorem everyCommandAnswers : Obligations.EveryCommandAnswers := by
  unfold Obligations.EveryCommandAnswers
  intro c s
  obtain ⟨t, e, h⟩ := exec_advances c s
  obtain ⟨l, hl⟩ := h.out
  exact ⟨t, e, h.queue, l, hl.symm⟩

/-- Settles O58: the state that a command answers is the one it advances to within its frame. -/
theorem commandFrames : Obligations.CommandFrames := by
  unfold Obligations.CommandFrames
  intro c s t e
  obtain ⟨u, hu, h⟩ := exec_advances c s
  cases hu.symm.trans e
  exact h.only

/-- Settles O31: by the step's own equation. -/
theorem stepRunsFrontCommand : Obligations.StepRunsFrontCommand := fun _ _ _ => rfl

/-- Settles O32: the empty queue is the step's other case. -/
theorem stepIdlesOnEmptyQueue : Obligations.StepIdlesOnEmptyQueue := by
  unfold Obligations.StepIdlesOnEmptyQueue
  intro s h
  simp only [step, h]

/-- Settles O33: the table of words is empty, so a fetched word places nothing. -/
theorem noWordSpellsACommand : Obligations.NoWordSpellsACommand := fun _ _ => ⟨rfl, fun _ => rfl⟩

/-- A step leaves the state or runs one command, which keeps the fuses. -/
theorem step_keeps_fuses {s t : State} (e : step s = .next t) : s.lc.fuses.kept t.lc.fuses := by
  unfold step at e
  split at e
  · cases e
    exact Fuses.kept_refl _
  · rename_i c rest _
    obtain ⟨u, hu, h⟩ := exec_advances c { s with pending := rest }
    cases hu.symm.trans e
    exact h.fuse

/-- With T[3] blown a pattern of four fuses is none of the four states before Scrapped (R357). -/
theorem senseState_scrapped : ∀ t : Nat, t < 16 → t.testBit 3 = true → senseState t = (4, false) := by decide

/-- Settles O38: the codes by evaluation over the patterns, the blown fuses by the step's two cases. -/
theorem fusesStayBlown : Obligations.FusesStayBlown :=
  ⟨⟨rfl, rfl, rfl, rfl, senseState_scrapped, by decide⟩, fun _ _ => step_keeps_fuses⟩

/-- Settles O36: the tables hold nothing at reset, but for the two lifetime counters that have counted it. -/
theorem resetTablesCanonical : Obligations.ResetTablesCanonical := by
  unfold Obligations.ResetTablesCanonical
  exact ⟨rfl, rfl, rfl, rfl⟩

/-! ### The state at reset -/

/-- The register table lists nothing at reset, so a field reads as the reset value of its row. -/
theorem fld_reset (f : Fld) : fld State.reset f = f.rst := rfl

/-- The counters listed at reset are the lifetime counters of power-on and of fabric resets (R353). -/
theorem ctr_reset {n : Nat} (h0 : n ≠ lbCtr 0) (h1 : n ≠ lbCtr 1) : ctr State.reset n = 0 := by
  have e0 : 0x610024 ≠ n := h0.symm
  have e1 : 0x610024 + 2 ^ 32 ≠ n := h1.symm
  simp only [ctr, tgetD, State.reset, tfind, if_neg e0, if_neg e1, Option.getD_none]

/-- Settles O37: each table of the state at reset lists nothing but the two counters, so each place reads its default. -/
theorem resetValues : Obligations.ResetValues := by
  unfold Obligations.ResetValues
  exact ⟨fun _ _ off _ q f _ => fld_reset (rowFld q off f), fun _ => ctr_reset, rfl, rfl, fun _ => rfl, fun _ => rfl, fun _ _ => rfl,
    fun c => fld_reset (F.SQ_CFG_WDOG c)⟩

end Sys2Proof.Machine
end

section
/-!
The lifecycle: requests on LC_NEXT, the fuse programmer and the debug consent (R358–R360, R365).
-/
namespace Sys2Proof.Machine

/-! ### Requests (R358, R360) -/

variable {s : State} {q : Requester} {v : Word} {code k : Nat}

theorem lcNext_manages (h : Manages s q) : exec (.lcNext q v) s = .next (writeNext s (v.toNat % 8)) := atFabric_manages h _

theorem writeNext_refused (h : nextRefusal s code = some k) : writeNext s code = refuseNext s k := by rw [writeNext, h]

theorem writeNext_accepted (h : nextRefusal s code = none) : writeNext s code = acceptNext s code := by rw [writeNext, h]

/-- Code 4 is refused in Scrapped and with BADFUSE alone, whatever is pending. -/
theorem nextRefusal_scrap (s : State) :
    nextRefusal s 4 = if fld s F.LC_STATE_STATE = 4 ∨ flag s F.LC_STATE_BADFUSE = true then some 3 else none := by
  simp [nextRefusal]

theorem nextRefusal_pending (hc : code ≠ 4) (hp : flag s F.LC_STATUS_PENDING = true) : nextRefusal s code = some 2 := by
  simp [nextRefusal, hc, hp]

/-- Besides code 4 a state accepts the code of the next state, and Returned and Scrapped none. -/
theorem mem_nextCodes {st : Nat} (hc : code ≠ 4) : code ∈ nextCodes st ↔ code = st + 1 ∧ st < 3 := by
  match st with
  | 0 | 1 | 2 | 3 => simp [nextCodes, hc]
  | n + 4 => simp [nextCodes]

theorem nextRefusal_unaccepted (hc : code ≠ 4) (hp : flag s F.LC_STATUS_PENDING = false) :
    nextRefusal s code = if code = fld s F.LC_STATE_STATE + 1 ∧ fld s F.LC_STATE_STATE < 3 then none else some 1 := by
  simp [nextRefusal, hc, hp, mem_nextCodes hc]

theorem nextRefusal_code (h : nextRefusal s code = some k) : 0 < k ∧ k < 4 := by
  by_cases hc : code = 4
  · subst hc
    rw [nextRefusal_scrap] at h
    split at h
    · cases h
      decide
    · exact nomatch h
  · cases hp : flag s F.LC_STATUS_PENDING with
    | true =>
      rw [nextRefusal_pending hc hp] at h
      cases h
      decide
    | false =>
      rw [nextRefusal_unaccepted hc hp] at h
      split at h
      · exact nomatch h
      · cases h
        decide

/-- A refusal shows itself and its cause, and raises source 523 (R360). -/
theorem refuseNext_shows (s : State) (hk : 0 < k) (hk4 : k < 4) : flag (refuseNext s k) F.LC_STATUS_REFUSED = true
    ∧ fld (refuseNext s k) F.LC_STATUS_CODE = k ∧ (srcOf (refuseNext s k) 523).pending = true := by
  refine ⟨?_, ?_, pending_raiseSrc_self rfl⟩
  · refine (flag_congr ?_).trans (flag_setFlag_true rfl rfl s)
    exact (fld_raiseSrc (by decide) (by decide) (by decide) _).trans (fld_setFld_ne _ _ (by decide))
  · refine (fld_raiseSrc (by decide) (by decide) (by decide) _).trans (fld_setFld_of_ne_rst ?_ (Nat.ne_of_gt hk) _)
    show k < 16
    omega

theorem fld_refuseNext_code (s : State) (k : Nat) : fld (refuseNext s k) F.LC_NEXT_CODE = fld s F.LC_NEXT_CODE :=
  (fld_raiseSrc (by decide) (by decide) (by decide) _).trans
    ((fld_setFld_ne _ _ (by decide)).trans (fld_setFld_ne _ _ (by decide)))

/-- An accepted code shows PENDING and PROG_BUSY (R359). -/
theorem acceptNext_shows (s : State) (code : Nat) : flag (acceptNext s code) F.LC_STATUS_PENDING = true
    ∧ flag (acceptNext s code) F.LC_STATUS_PROG_BUSY = true := by
  refine ⟨?_, ?_⟩
  · refine (flag_congr ?_).trans (flag_setFlag_true rfl rfl s)
    exact (fld_setFld_ne _ _ (by decide)).trans (fld_setFld_ne _ _ (by decide))
  · exact (flag_congr (fld_setFld_ne _ _ (by decide))).trans (flag_setFlag_true rfl rfl _)

theorem acceptNext_lc (s : State) (code : Nat) : (acceptNext s code).lc = { s.lc with prog := s.lc.prog ++ [code] } := rfl

/-- Settles O54: by the cause of a refusal, case by case, and by what a refused and an accepted write leave. -/
theorem lifecycleRequests : Obligations.LifecycleRequests := by
  unfold Obligations.LifecycleRequests
  intro s q v hq
  refine ⟨fun k hk => ?_, fun hn => ?_, fun _ => ?_, fun _ hst hbad => ?_, fun hc hp hno => ?_, fun hc hp => nextRefusal_pending hc hp,
    fun hc hp => ?_⟩
  · obtain ⟨hpos, hlt⟩ := nextRefusal_code hk
    obtain ⟨href, hcode, hsrc⟩ := refuseNext_shows s hpos hlt
    exact ⟨_, (lcNext_manages hq).trans (congrArg _ (writeNext_refused hk)), href, hcode, hsrc,
      (refuseNext_ext s k).same .life rfl, fld_refuseNext_code s k⟩
  · exact ⟨_, (lcNext_manages hq).trans (congrArg _ (writeNext_accepted hn)), (acceptNext_shows s _).1, rfl, rfl⟩
  · rw [nextRefusal_scrap, ite_eq_left_iff]
    exact ⟨fun h => by_contra fun hn => (nomatch h hn), fun h hn => absurd h hn⟩
  · simp [nextRefusal_scrap, hst, hbad]
  · rw [nextRefusal_unaccepted hc hp, if_neg hno]
  · rw [nextRefusal_unaccepted hc hp]
    simp

/-! ### The fuse programmer and the debug consent (R325, R359, R365) -/

/-- With its masks and its fuse blown a transition ends with the state fuse set, whatever else it shows. -/
theorem programEnd_blown (s : State) {code : Nat} (rest : List Nat) {uid fwk : Bool} (h : masksBlown (blowMasks s.lc.fuses code uid fwk) code = true) :
    (programEnd s code rest uid fwk true).lc = { s.lc with fuses := blowState (blowMasks s.lc.fuses code uid fwk) code, prog := rest } := by
  simp only [programEnd, h, Bool.and_self, if_true]
  split
  · rfl
  · rfl

theorem fuseProgramDone_head {rest : List Nat} (hp : s.lc.prog = code :: rest) (uid fwk state : Bool) :
    exec (.fuseProgramDone uid fwk state) s = .next (programEnd s code rest uid fwk state) := by
  show execFuseProgramDone uid fwk state s = _
  rw [execFuseProgramDone, hp]

/-- Settles O4: an accepted code by what it shows, a programming by the fuses it leaves, OPEN by the write in Fielded. -/
theorem lifecycleCommandsComplete : Obligations.LifecycleCommandsComplete := by
  unfold Obligations.LifecycleCommandsComplete
  refine ⟨fun s q v hq hn => ?_, fun s uid fwk code rest hp hm => ?_, fun s q v hq hst => ?_⟩
  · obtain ⟨hpend, hbusy⟩ := acceptNext_shows s (bits v.toNat 0 3)
    exact ⟨_, (lcNext_manages hq).trans (congrArg _ (writeNext_accepted hn)), hpend, hbusy, rfl, (acceptNext_ext s _).only rfl⟩
  · refine ⟨_, fuseProgramDone_head hp uid fwk true, ?_⟩
    have e := programEnd_blown s rest hm
    exact ⟨congrArg LcSt.prog e, congrArg (·.fuses.t) e⟩
  · exact (atFabric_manages hq _).trans (by rw [if_pos hst])

end Sys2Proof.Machine
end

section
/-!
Sessions, the firmware's commit, the TRNG, bounce copies and migration (R313–R327).
-/
namespace Sys2Proof.Machine

/-! ### Keys of fields -/

/-- Two fields of one register at different bits. -/
theorem Fld.key_ne_of_lo {f g : Fld} (ho : f.off = g.off) (hl : f.lo ≠ g.lo) : f.key ≠ g.key := by
  unfold Fld.key
  omega

/-- Two fields of registers at different offsets. -/
theorem Fld.key_ne_of_off {f g : Fld} (ho : f.off ≠ g.off) (hf : f.lo < 32 := by simp) (hg : g.lo < 32 := by simp) : f.key ≠ g.key := by
  unfold Fld.key
  omega

/-! ### The responder (R313–R315) -/

section
variable {s : State} {c : CoveId}

theorem atLink_open (h : hostClosed s = false) (t : State) : atLink s t = .next t := by simp [atLink, h]

/-- A mailbox that is served answers what its request's meaning gives (R313). -/
theorem spdm_served (h : hostClosed s = false) (hs : spdmServes s c = true) (f : State → SpdmResp × State) :
    spdm s c f = .next (emit (f s).2 (.spdm c (f s).1)) := by
  unfold spdm
  simp only [hs, if_true]
  exact atLink_open h _

theorem spdmGetMeasurements_served (h : hostClosed s = false) (hs : spdmServes s c.val = true) (i : Byte) :
    exec (.spdmGetMeasurements c i) s = .next (emit (drawFree s 768).2 (.spdm c.val (.measurements (measurement s c.val i.toNat) (drawFree s 768).1))) := by
  show execSpdmGetMeasurements c i s = _
  rw [execSpdmGetMeasurements, spdm_served h hs]
  rfl

theorem sessionUp_of_session {x : Session} (h : sessionOf s c = some x) : sessionUp s c = x.up := by rw [sessionUp, h]

theorem sessionOf_setSession (s : State) (c : Nat) (x : Session) : sessionOf (setSession s c x) c = some x := tfind_tput_self _ _ _

/-- A direction's counter under a new key leaves the sessions (R318). -/
theorem sessionOf_freshCounter (s : State) (c : Nat) (toHost : Bool) (d : Nat) : sessionOf (freshCounter s c toHost) d = sessionOf s d := by
  have e : (freshCounter s c toHost).sc = s.sc := (freshCounter_ext s c toHost).same .sessions rfl
  rw [sessionOf, sessionOf, e]

theorem freshCounter_out (s : State) (c : Nat) (toHost : Bool) : (freshCounter s c toHost).out = s.out := by
  cases toHost with
  | false => rfl
  | true => rfl

theorem spdmKeyExchange_opens (h : hostClosed s = false) (hs : spdmServes s c.val = true) (hup : sessionUp s c.val = false)
    (ht : flag s F.FAB_SEC_STATUS_TRNG_FAIL = false) :
    exec (.spdmKeyExchange c) s = .next (emit (openExchange s c.val) (.spdm c.val (.keyExchange 60))) := by
  show execSpdmKeyExchange c s = _
  rw [execSpdmKeyExchange, spdm_served h hs]
  simp only [hup, ht]
  rfl

theorem spdmFinish_establishes {x : Session} (h : hostClosed s = false) (hs : spdmServes s c.val = true) (hx : sessionOf s c.val = some x)
    (hup : x.up = false) : exec (.spdmFinish c true) s = .next (emit (establish s c.val) (.spdm c.val .finish)) := by
  show execSpdmFinish c true s = _
  rw [execSpdmFinish, spdm_served h hs]
  simp only [hx, hup]
  rfl

/-- An established session keeps no ephemeral key (R326). -/
theorem sessionOf_establish (s : State) (c : Nat) :
    ∃ a b : BitVec 384, sessionOf (establish s c) c = some ⟨true, none, a, b, bounceKey a false, bounceKey b true⟩ := by
  refine ⟨(drawFree s 384).1, (drawFree (drawFree s 384).2 384).1, ?_⟩
  show sessionOf (freshCounter (freshCounter _ c false) c true) c = _
  rw [sessionOf_freshCounter, sessionOf_freshCounter]
  exact sessionOf_setSession _ c _

theorem establish_out (s : State) (c : Nat) : (establish s c).out = s.out := by
  show (freshCounter (freshCounter _ c false) c true).out = _
  rw [freshCounter_out, freshCounter_out]
  rfl

theorem flag_establish (s : State) (c : Nat) : flag (establish s c) (F.CV_SEC_STATUS_SESSION c) = true := flag_setFlag_true rfl rfl _

theorem spdmKeyUpdate_h2d {x : Session} (h : hostClosed s = false) (hs : spdmServes s c.val = true) (hx : sessionOf s c.val = some x)
    (hup : x.up = true) : exec (.spdmKeyUpdate c true false) s = .next (emit (updateKey s c.val false) (.spdm c.val .keyUpdated)) := by
  show execSpdmKeyUpdate c true false s = _
  rw [execSpdmKeyUpdate, spdm_served h hs]
  simp only [sessionUp_of_session hx, hup]
  rfl

theorem sessionOf_updateKey_h2d {s : State} {c : Nat} {x : Session} (hx : sessionOf s c = some x) : ∃ a : BitVec 384,
    sessionOf (updateKey s c false) c = some { x with reqSecret := a, kh := bounceKey a false } := by
  refine ⟨(drawFree s 384).1, ?_⟩
  simp only [updateKey, hx, sessionOf_freshCounter]
  exact sessionOf_setSession _ c _

theorem updateKey_out (s : State) (c : Nat) (toHost : Bool) : (updateKey s c toHost).out = s.out := by
  unfold updateKey
  split
  · rfl
  · rw [freshCounter_out]
    rfl

theorem spdmHeartbeat_up (h : hostClosed s = false) (hs : spdmServes s c.val = true) (hup : sessionUp s c.val = true) :
    exec (.spdmHeartbeat c) s = .next (emit s (.spdm c.val .heartbeat)) := by
  show execSpdmHeartbeat c s = _
  rw [execSpdmHeartbeat, spdm_served h hs]
  simp only [hup, if_true]

theorem spdmEndSession_up (h : hostClosed s = false) (hs : spdmServes s c.val = true) (hup : sessionUp s c.val = true) :
    exec (.spdmEndSession c) s = .next (emit (endSession s c.val) (.spdm c.val .ended)) := by
  show execSpdmEndSession c s = _
  rw [execSpdmEndSession, spdm_served h hs]
  simp only [hup, if_true]

theorem heartbeatLoss_up (hrun : running s 94 = true) (hup : sessionUp s c.val = true) :
    exec (.heartbeatLoss c) s = .next (endSession s c.val) := by
  show execHeartbeatLoss c s = _
  rw [execHeartbeatLoss, if_pos hup, atDomain_running hrun]

end

/-! ### The firmware's commit and the TRNG (R325, R327) -/

/-- An SVN that firmware runs at and the fuses do not hold yet is to be fused (R325). -/
theorem fwCommit_accepted {s : State} {v : Nat} (hrun : v ≤ fld s F.FAB_SEC_STATUS_RUN_SVN) (hlt : v < 256) (hs : isScrapped s = false)
    (hf : fld s F.FAB_SEC_STATUS_FUSED_SVN < v) : fwCommit s v =
      setFlag { s with sc := { s.sc with commit := some (max v (s.sc.commit.getD 0)) } } F.FAB_SEC_STATUS_COMMIT_BUSY true := by
  simp [fwCommit, Nat.not_lt.2 hrun, Nat.not_le.2 hlt, hs, Nat.not_le.2 hf]

/-- The state that the fusing of an SVN leaves (R325). -/
def svnFused (s : State) (v : Nat) : State :=
  setFlag (setFld { s with sc := { s.sc with commit := none } } F.FAB_SEC_STATUS_FUSED_SVN v) F.FAB_SEC_STATUS_COMMIT_BUSY false

theorem fwCommitDone_fuses {s : State} {v : Nat} (h : s.sc.commit = some v) : exec .fwCommitDone s = .next (svnFused s v) := by
  show execFwCommitDone s = _
  rw [execFwCommitDone, h]
  rfl

theorem fld_svnFused {s : State} (hs : Regs.wf s = true) (v : Nat) :
    fld (svnFused s v) F.FAB_SEC_STATUS_FUSED_SVN = v % 2 ^ F.FAB_SEC_STATUS_FUSED_SVN.w :=
  (fld_setFld_ne _ _ (by decide)).trans (fld_setFld_self (s := { s with sc := { s.sc with commit := none } }) hs _ _)

theorem flag_svnFused {s : State} (hs : Regs.wf s = true) (v : Nat) : flag (svnFused s v) F.FAB_SEC_STATUS_COMMIT_BUSY = false :=
  flag_setFlag_self ((setFld_ext { s with sc := { s.sc with commit := none } } _ _).regs hs) rfl false

/-- A change of the health test shows, and the start of a failure is counted (R327, R353). -/
theorem trngHealthChange_changed {s : State} {b : Bool} (hrun : running s 94 = true) (h : flag s F.FAB_SEC_STATUS_TRNG_FAIL = !b) :
    exec (.trngHealthChange b) s = .next (setFlag (if b then lbAdd s 20 1 else s) F.FAB_SEC_STATUS_TRNG_FAIL b) := by
  show execTrngHealthChange b s = _
  rw [execTrngHealthChange, h, if_neg (by simp), atDomain_running hrun]

/-- Settles O15: each request by the answer it is served with, the commit and the TRNG by the fields they set. -/
theorem sessionCommandsComplete : Obligations.SessionCommandsComplete := by
  unfold Obligations.SessionCommandsComplete
  refine ⟨fun s c hc hs => ⟨fun i => ?_, fun r => spdm_served hc hs (spdmAnswer · r), fun hup ht => ?_, fun x hx hup => ?_, fun x hx hup => ?_,
      spdmHeartbeat_up hc hs, spdmEndSession_up hc hs⟩, fun s c => heartbeatLoss_up, fun s q v hq hrun hlt hs hf => ?_,
    fun s v hv hs => ⟨_, fwCommitDone_fuses hv, rfl, fld_svnFused hs v, flag_svnFused hs v⟩, fun s hrun ht hs => ?_, fun s hrun ht => ?_⟩
  · have e := spdmGetMeasurements_served hc hs i
    exact ⟨_, e, (execSpdmGetMeasurements_keeps c i s).only rfl e, _, rfl⟩
  · exact ⟨_, spdmKeyExchange_opens hc hs hup ht, ⟨_, sessionOf_setSession _ c.val _⟩, rfl⟩
  · obtain ⟨a, b, e⟩ := sessionOf_establish s c.val
    refine ⟨_, spdmFinish_establishes hc hs hx hup, sessionUp_of_session (s := establish s c.val) e, fun y hy => ?_, flag_establish s c.val,
      congrArg _ (establish_out s c.val)⟩
    cases e.symm.trans hy
    rfl
  · exact ⟨_, spdmKeyUpdate_h2d hc hs hx hup, sessionOf_updateKey_h2d hx, congrArg _ (updateKey_out s c.val false)⟩
  · have e : exec (.fabFwCommit q v) s = _ := atFabric_manages hq _
    rw [fwCommit_accepted hrun hlt hs hf] at e
    exact ⟨_, e, rfl, flag_setFlag_true rfl rfl _⟩
  · exact ⟨_, trngHealthChange_changed hrun ht, flag_setFlag_self hs rfl false⟩
  · exact ⟨_, trngHealthChange_changed hrun ht, flag_setFlag_true rfl rfl _⟩

/-! ### Bounce copies (R317, R319) -/

theorem cvBxGo_queues {s : State} {q : Requester} {c : CoveId} {x : BxCopy} (h : Reaches s q c.val) (hup : sessionUp s c.val = true)
    (hn : (copiesOf s c.val).length < 16) (hx : stagedCopy s c.val = some x) :
    exec (.cvBxGo q c) s = .next (assignCopies (showCopies (setCopies (unclean s c.val) (s.sc.copies ++ [x])) c.val)) := by
  refine (atWindow_reaches h _ _).trans ?_
  simp only [bxGo, hup, Nat.not_le.2 hn, hx]
  rfl

/-- A copy whose cove is ACTIVE and whose session holds moves its next chunk (R317). -/
theorem bounceChunk_moves {s : State} {b : Fin 4} {x : BxCopy} {k : Session} {data : List Byte} (e : BitVec 256)
    (hrun : running s (88 + b.val) = true) (hx : copyOn s b.val = some x) (ho : x.orphan = false) (hd : x.toHost = true ∨ data.length = x.chunk)
    (hk : bxKilled s b.val = false) (ha : coveActive s x.cove = true) (hs : sessionOf s x.cove = some k) (hup : k.up = true)
    (hc : lastCounter s x.cove x.toHost < counterStop) :
    exec (.bounceChunk b data e false) s = .next (runWork s (moveChunk b.val x k data e)) := by
  have hst : coveSt s x.cove = 1 := by
    unfold coveActive at ha
    simp only [Bool.and_eq_true, beq_iff_eq] at ha
    exact ha.2
  have hq : quiescing s x.cove = false := by simp [quiescing, hst]
  have hlen : (!x.toHost && !false && data.length != x.chunk) = false := by
    rcases hd with h | h
    · simp [h]
    · simp [h]
  show execBounceChunk b data e false s = _
  simp only [execBounceChunk, hx, hlen]
  refine (atDomain_running hrun).trans ?_
  simp only [bounceChunk, hk, hq, ha, hs, ho, hup, Nat.not_le.2 hc]
  rfl

theorem bounceHostTimeout_ends {s : State} {b : Fin 4} {x : BxCopy} (hrun : running s (88 + b.val) = true) (hx : copyOn s b.val = some x) :
    exec (.bounceHostTimeout b) s = .next (endCopy s b.val x 5) := by
  show execBounceHostTimeout b s = _
  rw [execBounceHostTimeout, hx]
  exact atDomain_running hrun

/-! ### Migration (R320–R322) -/

/-- An operation that finds none running is latched with its number and shows BUSY. -/
theorem migWriteCtl_latches {s : State} {c : Nat} (h : flag s (F.CV_MIG_STATUS_BUSY c) = false) (op : Nat) :
    (∃ o : MigOp, tfind (migWriteCtl s c op).sc.mig c = some o ∧ o.op = op) ∧ flag (migWriteCtl s c op) (F.CV_MIG_STATUS_BUSY c) = true := by
  unfold migWriteCtl
  rw [if_neg (by rw [h]; decide)]
  exact ⟨⟨_, tfind_tput_self _ _ _, rfl⟩, flag_setFlag_true rfl rfl _⟩

theorem migOperationDone_ends {s : State} {c : CoveId} {o : MigOp} (hrun : running s 94 = true) (ho : tfind s.sc.mig c.val = some o)
    (chunks : List (List Byte × BitVec 256)) (fail : Option Nat) : exec (.migOperationDone c chunks fail) s =
      .next (endMig (migWork s c.val o chunks fail).2 c.val (migWork s c.val o chunks fail).1) := by
  show execMigOperationDone c chunks fail s = _
  simp only [execMigOperationDone, ho]
  exact atDomain_running hrun

/-- Settles O16: a copy and an operation by the command that moves each. -/
theorem copyCommandsComplete : Obligations.CopyCommandsComplete := by
  unfold Obligations.CopyCommandsComplete
  refine ⟨fun s q c x => cvBxGo_queues, fun s b x k data e hrun hx ho hd hk ha hs hup hc => bounceChunk_moves e hrun hx ho hd hk ha hs hup hc,
    fun s b x => bounceHostTimeout_ends, fun s q c hq hb => ?_, fun s c o chunks fail hrun ho => migOperationDone_ends hrun ho chunks fail⟩
  have h (op : Nat) := migWriteCtl_latches hb op
  exact ⟨⟨_, atFabric_manages hq _, h 1⟩, ⟨_, atFabric_manages hq _, h 2⟩, ⟨_, atFabric_manages hq _, h 3⟩, ⟨_, atFabric_manages hq _, h 4⟩⟩

end Sys2Proof.Machine
end

section
/-!
The fabric reset: its causes, what it keeps, the pins under it and its release (R353, R374–R376, R396).
-/
namespace Sys2Proof.Machine

/-! ### The pins (R374) -/

/-- A level that is low for every line of a bus makes the bus zero. -/
theorem foldl_setBit_false (n : Nat) : (List.range n).foldl (fun a t => setBit a t false) 0 = 0 :=
  List.foldlRecOn (motive := fun a : Nat => a = 0) _ _ rfl fun a ha t _ => by simp [ha, setBit]

theorem pinLevels_idle {s : State} (h : pinsIdle s = true) : PinsInReset (pinLevels s) := by
  refine ⟨rfl, rfl, ?_, ?_, ?_⟩
  all_goals
    simp only [pinLevels, h, Bool.not_true, Bool.and_false, Bool.false_and, foldl_setBit_false]
    rfl

theorem drivePins_out (s : State) : (drivePins s).out = .pins (pinLevels s) :: s.out := rfl

theorem pinsIdle_inReset {s : State} (h : s.lc.inReset = true) : pinsIdle s = true := by simp [pinsIdle, h]

theorem pinsIdle_asked (s : State) {r : RstCause} (hr : r = .por ∨ r = .pin) : pinsIdle (askReset s r) = true := by
  rcases hr with rfl | rfl
  · simp [pinsIdle, askReset]
  · simp [pinsIdle, askReset]

/-- NMI_OUT is low in a power-on reset, and keeps its level in another (R302). -/
theorem pinLevels_nmiOut (s : State) : (pinLevels s).nmiOut = (nmiOut s && !(s.lc.want ++ s.lc.noted).contains .por) := rfl

theorem pinLevels_por (s : State) : (pinLevels (askReset s .por)).nmiOut = false := by
  rw [pinLevels_nmiOut]
  simp [askReset]

theorem pinLevels_pin {s : State} (hw : .por ∉ s.lc.want) (hn : .por ∉ s.lc.noted) : (pinLevels (askReset s .pin)).nmiOut = nmiOut s := by
  rw [pinLevels_nmiOut]
  simp [askReset, hw, hn]
  rfl

/-! ### The causes (R375, R376) -/

theorem askReset_asks (s : State) (r : RstCause) : (askReset s r).lc.want = s.lc.want ++ [r] ∧ OnlyChanges [.life] s (askReset s r) :=
  ⟨rfl, (askReset_ext s r).only rfl⟩

/-- The causes asked for move to those noted. -/
def takeCauses (s : State) : State :=
  { s with lc := { s.lc with want := [], noted := s.lc.noted ++ s.lc.want, reload := s.lc.reload || s.lc.want.contains (.soft true) } }

theorem noteCauses_no_por {s : State} (h : .por ∉ s.lc.want) : noteCauses s = s.lc.want.foldl recordCause (takeCauses s) := by
  simp [noteCauses, h, takeCauses]

theorem recordCauses_ext (l : List RstCause) (s : State) : Ext 1 s (l.foldl recordCause s) :=
  .fold (fun _ _ => (recordCause_ext ..).mono rfl) (.refl _ _)

theorem recordCause_out (s : State) (r : RstCause) : (recordCause s r).out = s.out := by cases r <;> rfl

theorem noteCauses_out {s : State} (h : .por ∉ s.lc.want) : (noteCauses s).out = s.out := by
  rw [noteCauses_no_por h]
  have hstart : (takeCauses s).out = s.out := rfl
  exact List.foldlRecOn (motive := fun t => t.out = s.out) _ _ hstart
    fun t ht r _ => (recordCause_out t r).trans ht

theorem causeFld_w (r : RstCause) : (causeFld r).w = 1 := by cases r <;> rfl

theorem causeFld_rst {r : RstCause} (h : r ≠ .por) : (causeFld r).rst = 0 := by
  cases r with
  | por => exact absurd rfl h
  | pin | soft | pfFlr | link | cpShared | slack => rfl

theorem causeFld_off (r : RstCause) : (causeFld r).off = 0x404 := by cases r <;> rfl

theorem causeFld_lo_lt (r : RstCause) : (causeFld r).lo < 8 := by cases r <;> simp [causeFld]

theorem causeFld_ne_cove (r : RstCause) : (causeFld r).key ≠ F.FAB_RST_CAUSE_CP_COVE.key :=
  Fld.key_ne_of_lo (causeFld_off r) (Nat.ne_of_lt (causeFld_lo_lt r))

theorem causeFld_ne_of_off (r : RstCause) {f : Fld} (h : f.off ≠ 0x404) (hf : f.lo < 32 := by decide) : (causeFld r).key ≠ f.key :=
  Fld.key_ne_of_off (fun e => h (e.symm.trans (causeFld_off r))) (Nat.lt_trans (causeFld_lo_lt r) (by decide)) hf

theorem causeFld_survives (r : RstCause) : survives false ((causeFld r).key / 32) = true := by
  have hk : (causeFld r).key / 32 = 0x404 := by
    have := causeFld_lo_lt r
    rw [Fld.key, causeFld_off]
    omega
  rw [hk]
  rfl

/-- Setting a flag clears none. -/
theorem flag_setFlag_true_keeps {s : State} {f g : Fld} (hw : g.w = 1) (hr : g.rst = 0) (hf : flag s f = true) :
    flag (setFlag s g true) f = true := by
  by_cases hk : f.key = g.key
  · have hset : fld (setFlag s g true) f = 1 := by
      show tgetD (tsetD s.flds g.key g.rst (1 % 2 ^ g.w)) f.key f.rst = 1
      rw [hw, hr, hk]
      exact tgetD_tsetD_of_ne _ _ _ (by decide)
    rw [flag, hset]
    rfl
  · exact (flag_setFlag_ne hk s true).trans hf

/-- A cause recorded shows its bit. -/
theorem flag_recordCause_self {r : RstCause} (h : r ≠ .por) (s : State) : flag (recordCause s r) (causeFld r) = true := by
  have hset : flag (setFlag s (causeFld r) true) (causeFld r) = true := flag_setFlag_true (causeFld_w r) (causeFld_rst h) s
  unfold recordCause
  dsimp only
  split
  · exact (flag_congr (fld_setFld_ne _ _ (causeFld_ne_cove _))).trans hset
  · exact hset

theorem flag_recordCause_keeps {r : RstCause} {s : State} (hf : flag s (causeFld r) = true) {x : RstCause} (hx : x ≠ .por) :
    flag (recordCause s x) (causeFld r) = true := by
  have hset : flag (setFlag s (causeFld x) true) (causeFld r) = true := flag_setFlag_true_keeps (causeFld_w x) (causeFld_rst hx) hf
  unfold recordCause
  dsimp only
  split
  · exact (flag_congr (fld_setFld_ne _ _ (causeFld_ne_cove r))).trans hset
  · exact hset

/-- Every cause of a list that holds no power-on reset shows its bit. -/
theorem flag_recordCauses {r : RstCause} {l : List RstCause} (hl : .por ∉ l) (hr : r ∈ l) (s : State) :
    flag (l.foldl recordCause s) (causeFld r) = true := by
  have hne {x : RstCause} (hx : x ∈ l) : x ≠ .por := fun e => hl (e ▸ hx)
  obtain ⟨a, b, rfl⟩ := List.append_of_mem hr
  rw [List.foldl_append, List.foldl_cons]
  refine List.foldlRecOn (motive := fun t => flag t (causeFld r) = true) b recordCause (flag_recordCause_self (hne hr) _) fun t ht x hx => ?_
  exact flag_recordCause_keeps ht (hne (List.mem_append_right _ (List.mem_cons_of_mem _ hx)))

/-! ### The reset (R353, R372, R375, R376) -/

/-- A filter by key leaves what stands at a key that it keeps. -/
theorem tfind_filter_key {α : Type} (t : Tbl α) {p : Nat → Bool} {k : Nat} (h : p k = true) :
    tfind (t.filter fun e => p e.1) k = tfind t k := by
  induction t with
  | nil => rfl
  | cons e t ih =>
    obtain ⟨j, v⟩ := e
    by_cases hj : j = k
    · subst hj
      simp [h, tfind]
    · cases hp : p j with
      | true => simp [hp, tfind, hj, ih]
      | false => simp [hp, tfind, hj, ih]

/-- The outcome of slack is recorded where the reset ends a freeze (R372). -/
def noteFrozen (s : State) : State := if flag s F.SL_STATUS_FROZEN then setFld s F.SL_LAST_OUTCOME 2 else s

theorem noteFrozen_ext (s : State) : Ext 1 s (noteFrozen s) := .ite ((setFld_ext ..).mono rfl) (.refl _ _)

theorem noteFrozen_out (s : State) : (noteFrozen s).out = s.out := by
  unfold noteFrozen
  split
  · rfl
  · rfl

theorem fld_noteFrozen {f : Fld} (h : f.key ≠ F.SL_LAST_OUTCOME.key) (s : State) : fld (noteFrozen s) f = fld s f := by
  unfold noteFrozen
  split
  · exact fld_setFld_ne _ _ h
  · rfl

/-- With no fuse being programmed a reset takes the fuses and the SVN as they are. -/
theorem assertReset_idle {s : State} (hp : s.lc.prog = []) (hc : s.sc.commit = none) (por : Bool) : assertReset s por =
    drivePins (emit (underReset (noteFrozen s) por s.lc.fuses (fld (noteFrozen s) F.FAB_SEC_STATUS_FUSED_SVN)) (.internalReset true)) := by
  have hlc : (noteFrozen s).lc = s.lc := (noteFrozen_ext s).same .life rfl
  have hsc : (noteFrozen s).sc = s.sc := (noteFrozen_ext s).same .sessions rfl
  have hcut : cutProgram (noteFrozen s) = (s.lc.fuses, noteFrozen s) := by rw [cutProgram, hlc, hp]
  have hsvn : cutCommit (noteFrozen s) = (fld (noteFrozen s) F.FAB_SEC_STATUS_FUSED_SVN, noteFrozen s) := by
    simp only [cutCommit, hsc, hc]
  show drivePins (emit (underReset (cutCommit (cutProgram (noteFrozen s)).2).2 por (cutProgram (noteFrozen s)).1
    (cutCommit (cutProgram (noteFrozen s)).2).1) _) = _
  rw [hcut, hsvn]

/-- A register that survives reads under the reset as before. -/
theorem fld_underReset {s : State} {f : Fld} (hs : survives false (f.key / 32) = true) (hf : f.key ≠ F.FAB_SEC_STATUS_FUSED_SVN.key)
    (fuses : Fuses) (svn : Nat) : fld (underReset s false fuses svn) f = fld s f := by
  refine (fld_setFld_ne _ _ hf).trans ?_
  exact congrArg (·.getD f.rst) (tfind_filter_key s.flds (p := fun k => survives false (k / 32)) hs)

theorem isLifetime_lbCtr (i : Nat) : isLifetime (lbCtr i) = true := by
  have : lbCtr i % 2 ^ 32 = C.LB_CNT := by
    unfold lbCtr
    rw [Nat.add_mul_mod_self_left]
    rfl
  rw [isLifetime, this]
  rfl

/-- The lifetime counters go through a reset (R353). -/
theorem ctr_underReset (s : State) (fuses : Fuses) (svn i : Nat) : ctr (underReset s false fuses svn) (lbCtr i) = ctr s (lbCtr i) :=
  congrArg (·.getD 0) (tfind_filter_key s.ctrs (p := fun k => k == C.SL_CNT || isLifetime k) (by simp [isLifetime_lbCtr i]))

/-- The noted causes and nothing to program assert the reset at once (R376). -/
theorem fabricResetStart_asserts {s : State} {r : RstCause} (hin : s.lc.inReset = false) (hp : s.lc.prog = []) (hc : s.sc.commit = none)
    (hr : r ∈ s.lc.want) (hw : .por ∉ s.lc.want) (hn : s.lc.noted = []) :
    exec .fabricResetStart s = .next (assertReset (noteCauses s) false) := by
  have hlc : (noteCauses s).lc = (takeCauses s).lc := by
    rw [noteCauses_no_por hw]
    exact (recordCauses_ext _ _).same .life rfl
  have hsc : (noteCauses s).sc = s.sc := by
    rw [noteCauses_no_por hw]
    exact (recordCauses_ext _ _).same .sessions rfl
  have hnoted : (noteCauses s).lc.noted = s.lc.want := by rw [hlc, takeCauses, hn, List.nil_append]
  have hprog : (noteCauses s).lc.prog = [] := by rw [hlc]; exact hp
  show execFabricResetStart s = _
  simp [execFabricResetStart, hnoted, hin, programming, hprog, hsc, hc, List.ne_nil_of_mem hr, hw]

/-! ### The release (R334, R335, R353) -/

/-- The state in which the released reset has counted itself, with the fuses sensed. -/
def resetCounted (s : State) : State := countReset (senseFuses { s with lc := { s.lc with inReset := false, boot := 2 } })

theorem resetCounted_lc (s : State) : (resetCounted s).lc = { s.lc with inReset := false, boot := 2 } :=
  ((countReset_ext _).same .life rfl).trans ((senseFuses_ext _).same .life rfl)

/-- The state with the kept image of MG booted, where it is kept (R324, R335). -/
def bootKept (s : State) : State :=
  match s.lc.image with
  | some x => if keepsImage s x then bootImage s x else s
  | none => s

theorem bootKept_ctrs (s : State) : (bootKept s).ctrs = s.ctrs := by
  unfold bootKept
  split
  · split
    · exact (bootImage_ext s _).same .counters rfl
    · rfl
  · rfl

theorem bootKept_lc (s : State) : (bootKept s).lc = s.lc ∨ s.lc.image.isSome = true ∧ ∃ x, (bootKept s).lc = { s.lc with image := some x, boot := 3 } := by
  unfold bootKept
  split
  · next x hx =>
    split
    · refine .inr ⟨by rw [hx]; rfl, x, rfl⟩
    · exact .inl rfl
  · exact .inl rfl

theorem releaseReset_eq (s : State) : releaseReset s =
    finishFlrs (drivePins (emit { bootKept (resetCounted s) with lc := { (bootKept (resetCounted s)).lc with reload := false, noted := [] } }
      (.internalReset false))) := rfl

theorem releaseReset_lc (s : State) : (releaseReset s).lc = { (bootKept (resetCounted s)).lc with reload := false, noted := [] } := by
  rw [releaseReset_eq]
  exact (finishFlrs_ext _).same .life rfl

/-- A reset that is released has its lifetime count advanced by one (R353). -/
theorem ctr_releaseReset {s : State} (hs : Regs.wf s = true) : ctr (releaseReset s) (lbCtr 1) = min (ctr s (lbCtr 1) + 1) maxCtr := by
  have hsense : Regs.wf (senseFuses { s with lc := { s.lc with inReset := false, boot := 2 } }) = true := (senseFuses_ext _).regs hs
  have hkept : (releaseReset s).ctrs = (resetCounted s).ctrs := by
    rw [releaseReset_eq]
    exact ((finishFlrs_ext _).same .counters rfl).trans (bootKept_ctrs _)
  have h02 : lbCtr 1 ≠ lbCtr 0 ∧ lbCtr 1 ≠ lbCtr 2 := by decide
  rw [ctr_congr hkept]
  unfold resetCounted countReset
  dsimp only
  rw [ctr_lbAdd_ne h02.2]
  refine (ctr_addCtr_self ((lbAdd_ext ..).regs hsense) (lbCtr 1) 1).trans ?_
  rw [ctr_lbAdd_ne h02.1, ctr_congr ((senseFuses_ext _).same .counters rfl)]
  rfl

theorem fabricResetRelease_releases {s : State} (hin : s.lc.inReset = true) (hw : .por ∉ s.lc.want) :
    exec .fabricResetRelease s = .next (releaseReset (noteCauses s)) := by
  show execFabricResetRelease s = _
  simp [execFabricResetRelease, hin, hw]

/-- Settles O7: the causes by what they ask for, the reset by what `assertReset` keeps, the release by what `releaseReset` counts and begins. -/
theorem resetCommandsComplete : Obligations.ResetCommandsComplete := by
  unfold Obligations.ResetCommandsComplete
  refine ⟨fun s => ?_, fun s => ?_, fun s => ⟨_, rfl, askReset_asks s .pfFlr⟩, fun s => ⟨_, rfl, askReset_asks s .link⟩,
    fun s q v hq hgo hkey => ?_, fun s r hin hp hc hr hpor hw hn => ?_, fun s hin hw hs => ?_⟩
  · exact ⟨_, rfl, rfl, (execPorAssert_keeps s).only rfl rfl, _, rfl, pinLevels_idle (pinsIdle_asked s (.inl rfl)), pinLevels_por s⟩
  · exact ⟨_, rfl, rfl, (execFabRstNAssert_keeps s).only rfl rfl, _, rfl, pinLevels_idle (pinsIdle_asked s (.inr rfl)), pinLevels_pin⟩
  · refine ⟨_, atFabric_manages hq _, ?_⟩
    simp only [hgo, hkey, beq_self_eq_true, Bool.and_self, if_true]
    exact askReset_asks s _
  · have hnote := noteCauses_no_por hw
    have hx : Ext 1 (takeCauses s) (noteCauses s) := hnote ▸ recordCauses_ext _ _
    have hlc : (noteCauses s).lc = (takeCauses s).lc := hx.same .life rfl
    have hsc : (noteCauses s).sc = s.sc := hx.same .sessions rfl
    have hfuses : (noteCauses s).lc.fuses = s.lc.fuses := by rw [hlc]; rfl
    have hmem : (noteFrozen (noteCauses s)).mem.tpw = s.mem.tpw :=
      congrArg MemSt.tpw (((noteFrozen_ext _).same .mem rfl).trans (hx.same .mem rfl))
    have hreset := assertReset_idle (s := noteCauses s) (by rw [hlc]; exact hp) (by rw [hsc]; exact hc) false
    have hkeep := hx.trans (noteFrozen_ext (noteCauses s))
    refine ⟨_, fabricResetStart_asserts hin hp hc hr hw hn, ?_⟩
    rw [hreset]
    refine ⟨rfl, rfl, ?_, hfuses, hmem, rfl, rfl, rfl, fun i _ => ?_, _,
      congrArg (fun l => _ :: _ :: l) ?_, pinLevels_idle (pinsIdle_inReset rfl)⟩
    · refine (flag_congr ?_).trans (flag_recordCauses hw hr (takeCauses s))
      rw [← hnote]
      exact (fld_underReset (causeFld_survives r) (causeFld_ne_of_off r (by decide)) _ _).trans
        (fld_noteFrozen (causeFld_ne_of_off r (by decide)) _)
    · show ctr (underReset (noteFrozen (noteCauses s)) false (noteCauses s).lc.fuses
          (fld (noteFrozen (noteCauses s)) F.FAB_SEC_STATUS_FUSED_SVN)) (lbCtr i) = ctr s (lbCtr i)
      exact (ctr_underReset _ _ _ i).trans (ctr_congr (hkeep.same .counters rfl) _)
    · exact (noteFrozen_out _).trans (noteCauses_out hw)
  · have hx : Ext 1 (takeCauses s) (noteCauses s) := noteCauses_no_por hw ▸ recordCauses_ext _ _
    have hlc : (noteCauses s).lc = (takeCauses s).lc := hx.same .life rfl
    refine ⟨_, fabricResetRelease_releases hin hw, ?_⟩
    have hlcr := releaseReset_lc (noteCauses s)
    have hcnt : (resetCounted (noteCauses s)).lc = { (takeCauses s).lc with inReset := false, boot := 2 } := by rw [resetCounted_lc, hlc]
    have hctr : ctr (releaseReset (noteCauses s)) (lbCtr 1) = min (ctr s (lbCtr 1) + 1) maxCtr := by
      rw [ctr_releaseReset (hx.regs hs), ctr_congr (hx.same .counters rfl)]
      rfl
    show _ = false ∧ _ ∧ _ ∧ _ ∧ _
    rcases bootKept_lc (resetCounted (noteCauses s)) with e | ⟨himg, x, e⟩
    · rw [hlcr, e, hcnt]
      exact ⟨rfl, .inl rfl, fun h => absurd (show (2 : Nat) = 3 from h) (by decide), rfl, hctr⟩
    · rw [hcnt] at himg
      rw [hlcr, e, hcnt]
      exact ⟨rfl, .inr rfl, fun _ => himg, rfl, hctr⟩

end Sys2Proof.Machine
end

section
/-!
Clock sources, loops and muxes, and the islands' voltage, temperature and power (R330–R346).
-/
namespace Sys2Proof.Machine

/-! ### The clock monitor, loops and muxes (R330, R336, R337, R342) -/

section
variable {s : State}

theorem clockMonitorGate_outside {src : Fin 10} (hr : s.lc.inReset = false) (hc : counted s src.val = true)
    (hg : 4 ≤ src.val → thas s.ck.grace (src.val - 4) = false) : exec (.clockMonitorGate src false) s =
      if 1 ≤ tgetD s.ck.badGates src.val 0 then .next (failSource s src.val)
      else .next { s with ck := { s.ck with badGates := tput s.ck.badGates src.val 1 } } := by
  have hgrace : ¬(decide (4 ≤ src.val) && thas s.ck.grace (src.val - 4)) = true := by
    rw [Bool.and_eq_true, decide_eq_true_eq]
    exact fun h => Bool.false_ne_true ((hg h.1).symm.trans h.2)
  show execClockMonitorGate src false s = _
  simp only [execClockMonitorGate, hr, hc, Bool.not_true, Bool.or_self, Bool.false_eq_true, if_false]
  rw [if_neg hgrace]

theorem loopLocked_runs {p : Fin 6} (hen : (fld s F.CK_STATUS_EN).testBit p.val = true) (hl : (fld s F.CK_STATUS_LOCK).testBit p.val = false)
    (hf : s.ck.failed.contains p.val = false) (href : (loopPlan s p.val).ref = 0) (hxa : flag s F.CK_STATUS_XA_OK = true) :
    exec (.loopLocked p) s = .next (setFld (setFld s F.CK_STATUS_LOCK (setBit (fld s F.CK_STATUS_LOCK) p.val true))
      (F.CK_LOOP_MULT p.val) (loopPlan s p.val).mult) := by
  have hruns : srcRuns s 8 = true := hxa
  show execLoopLocked p s = _
  rw [execLoopLocked]
  simp only [hen, hl, hf, href, hruns, if_true]
  rfl

theorem muxSwitchDone_switches {d : DomainId} {tp : Bool} {src div : Nat} (hn : (domNow s (muxOf d tp)).next = some (src, div))
    (hold : srcRuns s (domNow s (muxOf d tp)).src = true) (hnew : srcRuns s src = true) :
    exec (.muxSwitchDone d tp) s = .next (setDom s (muxOf d tp) ⟨src, div, false, none⟩) := by
  show execMuxSwitchDone d tp s = _
  simp only [execMuxSwitchDone, hn, hold, hnew, Bool.and_self, if_true]

theorem muxSwitchTimeout_fails {d : DomainId} {tp : Bool} (hn : (domNow s (muxOf d tp)).next.isSome = true) {k : Nat}
    (hk : k = (domNow s (muxOf d tp)).src) : exec (.muxSwitchTimeout d tp) s =
      .next (failSource s (if k < 6 then 4 + k else if k = 6 then 2 else if k = 7 then 3 else k - 8)) := by
  subst hk
  exact if_neg (by simp [Option.isSome_iff_ne_none.1 hn])

theorem loopSlewStep_moves {p : Fin 6} {g : Nat} (hs : slackOn s = false) (hg : tfind s.ck.goal p.val = some g) : ∃ t,
    exec (.loopSlewStep p) s = .next t ∧ ∀ f, fld t f = fld (setFld s (F.CK_LOOP_MULT p.val)
      (if fld s (F.CK_LOOP_MULT p.val) < g then fld s (F.CK_LOOP_MULT p.val) + 1 else fld s (F.CK_LOOP_MULT p.val) - 1)) f := by
  show ∃ t, execLoopSlewStep p s = .next t ∧ _
  simp only [execLoopSlewStep, hs, hg, Bool.false_eq_true, if_false]
  refine ⟨_, rfl, fun f => ?_⟩
  generalize (if fld s (F.CK_LOOP_MULT p.val) < g then fld s (F.CK_LOOP_MULT p.val) + 1 else fld s (F.CK_LOOP_MULT p.val) - 1) = m
  split
  · rfl
  · rfl

theorem loopSlewStep_slack {p : Fin 6} (hs : slackOn s = true) : exec (.loopSlewStep p) s = .next s := by
  show execLoopSlewStep p s = _
  simp only [execLoopSlewStep, hs, if_true]

end

/-- Settles O9: each command takes the branch its condition names. -/
theorem clockCommandsComplete : Obligations.ClockCommandsComplete := by
  refine ⟨fun s src hr hc hg hb => ?_, fun s src hr hc hg hb => ?_, fun s p hl => if_pos hl,
    fun s p hen hl hf href hxa => loopLocked_runs hen hl hf href hxa, fun s d tp src div hn hold hnew => ?_,
    fun s d tp hn => ⟨fun hsrc => ?_, fun hsrc => ?_⟩, fun s p g hs hg _ _ hwf => ?_, fun s p hs => loopSlewStep_slack hs⟩
  · rw [clockMonitorGate_outside hr hc hg, if_neg (by omega)]
  · rw [clockMonitorGate_outside hr hc hg, if_pos hb]
  · exact ⟨_, muxSwitchDone_switches hn hold hnew, domNow_setDom_self .., fun m hm => domNow_setDom_ne _ _ hm, (setDom_ext ..).only rfl⟩
  · exact muxSwitchTimeout_fails hn hsrc.symm
  · rw [muxSwitchTimeout_fails hn rfl, if_pos hsrc]
  · obtain ⟨t, ht, hfld⟩ := loopSlewStep_moves hs hg
    exact ⟨t, ht, (hfld _).trans (fld_setFld_self hwf _ _)⟩

/-! ### Islands: reads after the updates of a transition -/

theorem islOf_setIsl_self (s : State) (i : Nat) (x : Isl) : islOf (setIsl s i x) i = x := by
  simp [islOf, setIsl, tgetD, tfind_tput_self]

theorem islOf_congr {s t : State} (h : t.ck = s.ck) (i : Nat) : islOf t i = islOf s i := by rw [islOf, islOf, h]

theorem writeMv_out (s : State) (i mv : Nat) : (writeMv s i mv).out = .avsWrite (Config.avsRail i) mv :: s.out := rfl

theorem opMv_congr {s t : State} (hp : t.plan = s.plan) {i : Nat} (hadd : fld t (F.FB_ISL_ADJ_ADD_MV i) = fld s (F.FB_ISL_ADJ_ADD_MV i))
    (hmax : fld t (F.VS_ISL_LIMIT_VMAX_MV i) = fld s (F.VS_ISL_LIMIT_VMAX_MV i)) (k : Nat) : opMv t i k = opMv s i k := by
  simp only [opMv, hp, hadd, hmax]

/-- The state in which a transition fixes the settings of its points: BUSY is set and the transition counted (R343). -/
def transitionBusy (s : State) (i : Nat) : State := lbAdd (incCtr (setFlag s (F.VS_ISL_STATE_BUSY i) true) C.VS_TRANS) 5 1

theorem transitionBusy_ck (s : State) (i : Nat) : (transitionBusy s i).ck = s.ck := (lbAdd_ext ..).same .clocks rfl

theorem transitionBusy_out (s : State) (i : Nat) : (transitionBusy s i).out = s.out := by
  unfold transitionBusy lbAdd
  dsimp only
  split <;> rfl

theorem opMv_transitionBusy (s : State) (i k : Nat) : opMv (transitionBusy s i) i k = opMv s i k := by
  have hfld {f : Fld} (hf : f.key ≠ (F.VS_ISL_STATE_BUSY i).key) : fld (transitionBusy s i) f = fld s f :=
    (fld_lbAdd ..).trans (((incCtr_ext ..).fld_eq rfl _).trans (fld_setFld_ne _ _ hf))
  have hplan : (transitionBusy s i).plan = s.plan := (lbAdd_ext ..).same .plan rfl
  refine opMv_congr hplan (hfld ?_) (hfld ?_) k
  · exact Fld.key_ne_of_off (by dsimp only; omega)
  · exact Fld.key_ne_of_off (by dsimp only; omega)

theorem startTransition_raises {s : State} {i b : Nat} (h : raises s i b = true) : startTransition s i b =
    writeMv (setIsl (transitionBusy s i) i { (islOf (transitionBusy s i) i).begun (transitionBusy s i) i b with ph := .raising }) i
      (opMv (transitionBusy s i) i b) := by
  simp only [startTransition, h, if_true]
  rfl

theorem raises_of_lt {s : State} {i b : Nat} (hst : (islOf s i).stale = false) (h : fld s (F.VS_ISL_STATE_OP i) < b) : raises s i b = true := by
  simp [raises, hst, h]

theorem islandTransitionStart_starts {s : State} {i : IslandId} (hrun : running s 94 = true) (hph : (islOf s i.val).ph = .idle)
    (hb : flag s (F.VS_ISL_STATE_BOOT i.val) = false) (h : fld s (F.VS_ISL_STATE_OP i.val) < fld s (F.VS_ISL_STATE_TARGET i.val)) :
    exec (.islandTransitionStart i) s = .next (startTransition s i.val (fld s (F.VS_ISL_STATE_TARGET i.val))) := by
  show execIslandTransitionStart i s = _
  simp only [execIslandTransitionStart, hph, hb]
  exact (if_neg (by simp [Nat.ne_of_gt h])).trans (atDomain_running hrun)

theorem freqChangeDone_ends_raise {s s1 : State} {i : IslandId} {r : SlateReport} (hrun : running s 94 = true)
    (hph : (islOf s i.val).ph = .frequency true) (hr : takeReport s (fun a => a == .dvfs i.val) = some (r, s1)) (ho : r.outcome = .done) :
    exec (.freqChangeDone i) s = .next (recompute (endTransition s1 i.val)) := by
  show execFreqChangeDone i s = _
  simp only [execFreqChangeDone, hph, hr, ho]
  exact atDomain_running hrun

theorem addMv_ck (s : State) (i : Nat) : (addMv s i).ck = s.ck := by
  unfold addMv
  dsimp only
  split <;> rfl

theorem endTransition_idle (s : State) (i : Nat) : (islOf (endTransition s i) i).ph = .idle := by
  unfold endTransition
  rw [islOf_congr (addMv_ck _ _)]
  exact congrArg Isl.ph (islOf_setIsl_self s i { islOf s i with ph := .idle, tries := 0 })

theorem voltageSettled_lowered {s : State} {i : IslandId} {mv : Nat} (hrun : running s 94 = true) (hph : (islOf s i.val).ph = .lowering)
    (hlo : (islOf s i.val).mv ≤ mv + 10) (hhi : mv ≤ (islOf s i.val).mv + 10) :
    exec (.voltageSettled i mv) s = .next (endTransition s i.val) := by
  show execVoltageSettled i mv s = _
  simp only [execVoltageSettled, hph]
  rw [atDomain_running hrun]
  simp only [settled, hlo, hhi, and_self, if_true, Bool.false_eq_true, if_false]

/-! ### Temperature and power -/

/-- A fold in which one element alone establishes `J` from `I`: the others keep each. -/
theorem foldl_once {α σ : Type} {g : σ → α → σ} {I J : σ → Prop} {a : α} (hI : ∀ t b, b ≠ a → I t → I (g t b))
    (hset : ∀ t, I t → J (g t a)) (hJ : ∀ t b, b ≠ a → J t → J (g t b)) {l : List α} (ha : a ∈ l) (hl : l.Nodup) {s : σ} (hs : I s) :
    J (l.foldl g s) := by
  induction l generalizing s with
  | nil => exact absurd ha List.not_mem_nil
  | cons b l ih =>
    obtain ⟨hb, hl⟩ := List.nodup_cons.1 hl
    rcases List.mem_cons.1 ha with rfl | ha
    · rw [List.foldl_cons]
      exact List.foldlRecOn (motive := J) _ _ (hset s hs) fun t ht c hc => hJ t c (fun e => hb (e ▸ hc)) ht
    · exact ih ha hl (hI s b (fun e => hb (e ▸ ha)) hs)

theorem fld_tjFold (temps : List Byte) {s : State} (hs : Regs.wf s = true) {i : Nat} (hi : i < 6) :
    fld ((List.range 6).foldl (fun s i => setFld s (F.VS_ISL_TEMP_TJ i) (hottest temps i)) s) (F.VS_ISL_TEMP_TJ i) =
      hottest temps i % 2 ^ (F.VS_ISL_TEMP_TJ i).w := by
  have hne (t : State) (b : Nat) (hb : b ≠ i) : fld (setFld t (F.VS_ISL_TEMP_TJ b) (hottest temps b)) (F.VS_ISL_TEMP_TJ i) = fld t (F.VS_ISL_TEMP_TJ i) :=
    fld_setFld_ne _ _ (Fld.key_ne_of_off (by dsimp only; omega))
  exact foldl_once (I := fun t => Regs.wf t = true) (J := fun t => fld t (F.VS_ISL_TEMP_TJ i) = hottest temps i % 2 ^ (F.VS_ISL_TEMP_TJ i).w) (fun t b _ ht => (setFld_ext ..).regs ht)
    (fun t ht => fld_setFld_self ht _ _) (fun t b hb ht => (hne t b hb).trans ht) (List.mem_range.2 hi) List.nodup_range hs

theorem retarget_thermal (s : State) (i : Nat) : (islOf (retarget s i) i).thermal = (islOf s i).thermal := by
  unfold retarget
  split
  · rfl
  · dsimp only
    split
    · split
      · rfl
      · show (islOf (setIsl s i _) i).thermal = _
        rw [islOf_setIsl_self]
    · rfl

theorem thermalCeilingStep_lowers {s : State} {i : IslandId} (hrun : running s 94 = true) (h : fld s F.VS_TJ_LIMIT ≤ fld s (F.VS_ISL_TEMP_TJ i.val)) :
    exec (.thermalCeilingStep i) s = .next (stepThermal s i.val true) := (if_pos h).trans (atDomain_running hrun)

theorem stepThermal_down (s : State) (i : Nat) : (islOf (stepThermal s i true) i).thermal = min (islOf s i).thermal (topOp s i) - 1 := by
  unfold stepThermal
  rw [retarget_thermal]
  exact congrArg Isl.thermal (islOf_setIsl_self s i _)

/-- What a sample does to one island (R346). -/
def throttleIsl (s : State) (i : Nat) : State :=
  let n := fld s (F.VS_ISL_THROT_INTERVALS i)
  let s := setFlag s (F.VS_ISL_THROT_NOW i) (throttled s i)
  if throttled s i then setFld s (F.VS_ISL_THROT_INTERVALS i) (min (n + 1) 65535) else s

theorem throttleIsl_ext (s : State) (i : Nat) : Ext 1 s (throttleIsl s i) :=
  .ite ((setFld_ext ..).seq rfl (setFld_ext ..)) (setFld_ext ..)

theorem throttleSample_samples {s : State} (hrun : running s 94 = true) : ∃ t, exec .throttleSample s = .next t
    ∧ ∀ f, fld t f = fld ((List.range 6).foldl throttleIsl s) f := by
  refine ⟨_, atDomain_running hrun, fun f => ?_⟩
  split
  · exact fld_lbAdd ..
  · rfl

theorem fld_throttleIsl_ne (s : State) {i b : Nat} (h : b ≠ i) {f : Fld} (hf : f.off = 0xF0014 + 0x100 * i) (hlo : f.lo < 32) :
    fld (throttleIsl s b) f = fld s f := by
  have hnow : f.key ≠ (F.VS_ISL_THROT_NOW b).key := Fld.key_ne_of_off (by rw [hf]; dsimp only; omega) hlo
  have hint : f.key ≠ (F.VS_ISL_THROT_INTERVALS b).key := Fld.key_ne_of_off (by rw [hf]; dsimp only; omega) hlo
  unfold throttleIsl
  dsimp only
  split
  · exact (fld_setFld_ne _ _ hint).trans (fld_setFld_ne _ _ hnow)
  · exact fld_setFld_ne _ _ hnow

theorem throttled_congr {s t : State} (hc : t.ck = s.ck) (hp : t.plan = s.plan) (i : Nat) : throttled t i = throttled s i := by
  have htop : topOp t i = topOp s i := by simp only [topOp, opCount, hp]
  rw [throttled, throttled, htop, islOf_congr hc]

theorem throttleIsl_shows {s : State} (hs : Regs.wf s = true) (i : Nat) : flag (throttleIsl s i) (F.VS_ISL_THROT_NOW i) = throttled s i
    ∧ (throttled s i = true → fld (throttleIsl s i) (F.VS_ISL_THROT_INTERVALS i) = min (fld s (F.VS_ISL_THROT_INTERVALS i) + 1) 65535) := by
  have hwf : Regs.wf (setFlag s (F.VS_ISL_THROT_NOW i) (throttled s i)) = true := (setFld_ext ..).regs hs
  have hnow : flag (setFlag s (F.VS_ISL_THROT_NOW i) (throttled s i)) (F.VS_ISL_THROT_NOW i) = throttled s i := flag_setFlag_self hs rfl _
  have hthr : throttled (setFlag s (F.VS_ISL_THROT_NOW i) (throttled s i)) i = throttled s i := throttled_congr rfl rfl i
  have hne : (F.VS_ISL_THROT_NOW i).key ≠ (F.VS_ISL_THROT_INTERVALS i).key := Fld.key_ne_of_lo rfl (by simp)
  unfold throttleIsl
  dsimp only
  rw [hthr]
  split
  case isTrue h =>
    refine ⟨?_, fun _ => fld_setFld_of_lt hwf _ ?_⟩
    · exact (flag_congr (fld_setFld_ne _ _ hne)).trans hnow
    · show min _ 65535 < 2 ^ 16
      omega
  case isFalse h => exact ⟨hnow, fun ht => absurd ht h⟩

theorem throttleFold_shows {s : State} (hs : Regs.wf s = true) {i : Nat} (hi : i < 6) :
    flag ((List.range 6).foldl throttleIsl s) (F.VS_ISL_THROT_NOW i) = throttled s i
    ∧ (throttled s i = true →
      fld ((List.range 6).foldl throttleIsl s) (F.VS_ISL_THROT_INTERVALS i) = min (fld s (F.VS_ISL_THROT_INTERVALS i) + 1) 65535) := by
  refine foldl_once
    (I := fun t => Ext 1 s t ∧ fld t (F.VS_ISL_THROT_INTERVALS i) = fld s (F.VS_ISL_THROT_INTERVALS i))
    (J := fun t => flag t (F.VS_ISL_THROT_NOW i) = throttled s i
      ∧ (throttled s i = true → fld t (F.VS_ISL_THROT_INTERVALS i) = min (fld s (F.VS_ISL_THROT_INTERVALS i) + 1) 65535))
    (fun t b hb ht => ?_) (fun t ht => ?_) (fun t b hb ht => ?_) (List.mem_range.2 hi) List.nodup_range ⟨.refl _ _, rfl⟩
  · exact ⟨ht.1.trans (throttleIsl_ext t b), (fld_throttleIsl_ne t hb rfl (by simp)).trans ht.2⟩
  · obtain ⟨hx, hn⟩ := ht
    have hthr : throttled t i = throttled s i := throttled_congr (hx.same .clocks rfl) (hx.same .plan rfl) i
    rw [← hthr, ← hn]
    exact throttleIsl_shows (hx.regs hs) i
  · rw [flag_congr (fld_throttleIsl_ne t hb rfl (by simp)), fld_throttleIsl_ne t hb rfl (by simp)]
    exact ht

/-- What the read of one island's power does (R346). -/
def readPowerIsl (watts : List (Option Nat)) (s : State) (i : Nat) : State :=
  let s := emit s (.pmbRead (Config.pmbAddr i))
  match (watts[i]?).getD none with
  | some w => setFld s (F.VS_ISL_PWR_WATTS i) (w / 5 * 5)
  | none => setFlag s F.VS_STATUS_PMB_ERR true

theorem readPower_eq (s : State) (watts : List (Option Nat)) : readPower s watts = (List.range 6).foldl (readPowerIsl watts) s := by
  unfold readPower readPowerIsl
  rfl

theorem readPowerIsl_ext (watts : List (Option Nat)) (s : State) (i : Nat) : Ext 1 s (readPowerIsl watts s i) := by
  unfold readPowerIsl
  dsimp only
  split
  · exact (setFld_ext ..).seq rfl ((emit_ext ..).mono rfl)
  · exact (setFld_ext ..).seq rfl ((emit_ext ..).mono rfl)

theorem fld_readPowerIsl_ne (watts : List (Option Nat)) (s : State) {i b : Nat} (h : b ≠ i) (hi : i < 6) :
    fld (readPowerIsl watts s b) (F.VS_ISL_PWR_WATTS i) = fld s (F.VS_ISL_PWR_WATTS i) := by
  unfold readPowerIsl
  dsimp only
  split
  · exact fld_setFld_ne _ _ (Fld.key_ne_of_off (by dsimp only; omega))
  · exact fld_setFld_ne _ _ (Fld.key_ne_of_off (by dsimp only; omega))

theorem readPower_reads {s : State} (hs : Regs.wf s = true) {watts : List (Option Nat)} {i w : Nat} (hi : i < 6) (hw : watts[i]? = some (some w)) :
    fld (readPower s watts) (F.VS_ISL_PWR_WATTS i) = w / 5 * 5 % 2 ^ (F.VS_ISL_PWR_WATTS i).w
      ∧ .pmbRead (Config.pmbAddr i) ∈ (readPower s watts).out := by
  rw [readPower_eq]
  refine foldl_once (I := fun t => Regs.wf t = true)
    (J := fun t => fld t (F.VS_ISL_PWR_WATTS i) = w / 5 * 5 % 2 ^ (F.VS_ISL_PWR_WATTS i).w ∧ .pmbRead (Config.pmbAddr i) ∈ t.out)
    (fun t b _ ht => (readPowerIsl_ext ..).regs ht) (fun t ht => ?_) (fun t b hb ht => ?_) (List.mem_range.2 hi) List.nodup_range hs
  · unfold readPowerIsl
    simp only [hw, Option.getD_some]
    exact ⟨fld_setFld_self ((emit_ext t _).regs ht) _ _, List.mem_cons_self⟩
  · exact ⟨(fld_readPowerIsl_ne watts t hb hi).trans ht.1, (readPowerIsl_ext watts t b).out.subset ht.2⟩

/-- Settles O10: the updates of a transition are read back from the island, and what a round over the islands writes for one
of them the rest of the round keeps. -/
theorem islandCommandsComplete : Obligations.IslandCommandsComplete := by
  refine ⟨fun s i hrun hph hst hb hlt => ?_, fun s i r s1 hrun hph hr ho => freqChangeDone_ends_raise hrun hph hr ho,
    fun s i mv hrun hph hlo hhi => ⟨_, voltageSettled_lowered hrun hph hlo hhi, endTransition_idle .., (endTransition_ext ..).only rfl⟩,
    fun s q hq => atFabric_manages hq _, fun s q i c v hq => atFabric_manages hq _, fun s q i v hq => atFabric_manages hq _,
    fun s q i v hq => atFabric_manages hq _, fun s temps i hrun hs hi => ?_,
    fun s i hrun h => ⟨_, thermalCeilingStep_lowers hrun h, stepThermal_down s i.val⟩, fun s i hrun hs hi => ?_,
    fun s ws i w hrun hs hi hw => ⟨_, atDomain_running hrun, readPower_reads hs hi hw⟩,
    fun s ws i w hrun hs hi hw => ⟨_, atDomain_running hrun, readPower_reads hs hi hw⟩⟩
  · refine ⟨_, islandTransitionStart_starts hrun hph hb hlt, ?_⟩
    rw [startTransition_raises (raises_of_lt hst hlt), opMv_transitionBusy]
    refine ⟨?_, ?_, congrArg (List.cons _) (transitionBusy_out s i.val)⟩
    · exact congrArg Isl.ph (islOf_setIsl_self ..)
    · exact congrArg Isl.dest (islOf_setIsl_self ..)
  · refine ⟨_, atDomain_running hrun, (((setCtr_ext ..).fld_eq rfl _).trans (fld_tjFold temps hs hi)), ?_⟩
    exact (execTjSample_keeps temps s).only rfl (atDomain_running hrun)
  · obtain ⟨t, ht, hfld⟩ := throttleSample_samples hrun
    refine ⟨t, ht, ?_⟩
    obtain ⟨hnow, hint⟩ := throttleFold_shows hs hi
    exact ⟨(flag_congr (hfld _)).trans hnow, fun h => (hfld _).trans (hint h)⟩

end Sys2Proof.Machine
end

section
/-!
Sensors, freeboard and the logbook (R347–R349, R352–R356).
-/
namespace Sys2Proof.Machine

section
variable {s : State}

theorem scarpMeasure_measures {rs : List Nat} (hrun : running s 97 = true) (h : s.ck.nextMeas ≤ poweredS s) : ∃ t,
    exec (.scarpMeasure rs) s = .next t ∧ t.ck.ratios = (storeRatios s rs).ck.ratios ∧ t.ck.nextMeas = poweredS s + 900 :=
  ⟨_, (if_neg (Nat.not_lt.2 h)).trans (atDomain_running hrun), rfl, rfl⟩

theorem replanPeriodic_asks (hrun : running s 94 = true) (h : fld64 s F.FB_NEXT_LO_SECONDS F.FB_NEXT_HI_SECONDS ≤ poweredS s) :
    exec .replanPeriodic s = .next (askReplan s) := (if_neg (Nat.not_lt.2 h)).trans (atDomain_running hrun)

/-- Start-up goes on to step 10 after its own replan (R334), which leaves what the replan shows. -/
def onToStep10 (t : State) : State := { t with lc := { t.lc with boot := 10 } }

theorem flag_onToStep10 (t : State) (f : Fld) : flag (onToStep10 t) f = flag t f := rfl

/-- A replan that has been asked for, or that start-up makes, goes on unless a chart keeps it waiting (R348, R349). -/
theorem freeboardReplan_replans {rs : List Nat} (hrun : running s 94 = true) (hask : s.ck.replan = true ∨ s.lc.boot = 9)
    (hfree : chartBusy s = false ∨ s.plan.soundHeld = true) : exec (.freeboardReplan rs) s =
      .next (if s.lc.boot = 9 then onToStep10 (replan (storeRatios s rs)) else replan (storeRatios s rs)) := by
  refine (if_neg ?_).trans ((if_neg ?_).trans (atDomain_running hrun))
  · rcases hask with h | h <;> simp [h]
  · rcases hfree with h | h <;> simp [h]

theorem freeboardReplan_defers {rs : List Nat} (hrun : running s 94 = true) (hask : s.ck.replan = true) (hb : chartBusy s = true)
    (hh : s.plan.soundHeld = false) : exec (.freeboardReplan rs) s = .next (setFlag s F.FB_STATUS_DEFERRED true) :=
  (if_neg (by simp [hask])).trans ((if_pos (by simp [hb, hh])).trans (atDomain_running hrun))

/-- The end of a replan shows it done and no longer deferred, and the entry it asks for leaves both (R348, R354). -/
theorem lbRequest_shows_done (hs : Regs.wf s = true) (k : Nat) :
    flag (lbRequest (setFlag (setFlag s F.FB_STATUS_DONE true) F.FB_STATUS_DEFERRED false) k) F.FB_STATUS_DONE = true
    ∧ flag (lbRequest (setFlag (setFlag s F.FB_STATUS_DONE true) F.FB_STATUS_DEFERRED false) k) F.FB_STATUS_DEFERRED = false := by
  have hwf : Regs.wf (setFlag s F.FB_STATUS_DONE true) = true := (setFld_ext ..).regs hs
  constructor
  · rw [flag_congr (fld_lbRequest (by decide) (by decide) (by decide) (by decide) _ k), flag_setFlag_ne (by decide)]
    exact flag_setFlag_self hs rfl true
  · rw [flag_congr (fld_lbRequest (by decide) (by decide) (by decide) (by decide) _ k)]
    exact flag_setFlag_self hwf rfl false

/-- What a replan does before it shows itself done: margins, ceilings, voltages, a calibration and the next one's time (R348, R349). -/
def replanned (s : State) : State :=
  let old := (List.range 6).map (fun i => fld s (F.FB_ISL_ADJ_CEIL i))
  let s := (List.range 6).foldl replanIsl s
  let s := if (List.range 6).map (fun i => fld s (F.FB_ISL_ADJ_CEIL i)) = old then s
    else raiseSrc (setFlag (retargetAll (recompute s)) F.FB_STATUS_CEILING true) 521
  let s := (List.range 6).foldl addMv s
  let s := startCal { s with ck := { s.ck with replan := false }, lb := { s.lb with replanS := poweredS s } }
  let s := setFld64 s F.FB_NEXT_LO_SECONDS F.FB_NEXT_HI_SECONDS (poweredS s + 604800)
  lbAdd s 6 1

theorem replan_eq (s : State) :
    replan s = lbRequest (setFlag (setFlag (replanned s) F.FB_STATUS_DONE true) F.FB_STATUS_DEFERRED false) 2 := by
  unfold replan replanned
  rfl

theorem replanned_ext (s : State) : Ext 1811 s (replanned s) := by
  unfold replanned
  exact (lbAdd_ext ..).after rfl <| (setFld64_ext ..).after rfl <| (startCal_ext ..).after rfl <| .withCkLb rfl
    (.fold (fun _ _ => (addMv_ext ..).mono rfl) (.unless (.fold (fun _ _ => (replanIsl_ext ..).mono rfl) (.refl _ _))
    ((raiseSrc_ext ..).after rfl <| (setFlag_ext ..).after rfl <| (retargetAll_ext ..).after rfl <| (recompute_ext ..).mono rfl)))

theorem replan_done (hs : Regs.wf s = true) : flag (replan s) F.FB_STATUS_DONE = true ∧ flag (replan s) F.FB_STATUS_DEFERRED = false := by
  rw [replan_eq]
  exact lbRequest_shows_done ((replanned_ext s).regs hs) 2

theorem logbookPeriodic_asks (hrun : running s 94 = true) (ho : flag s F.LB_STATUS_OPEN = true) (h : s.lb.entryS + 900 ≤ poweredS s) :
    exec .logbookPeriodic s = .next (lbRequest { s with lb := { s.lb with entryS := poweredS s } } 0) :=
  (if_neg (by simp [ho, h])).trans (atDomain_running hrun)

theorem lbStart_empty (h : s.lb.queue = []) : lbStart s = s := by
  rw [lbStart, h]
  split
  · rename_i hq
    exact nomatch hq
  · rfl

theorem logbookWriteDone_entry {k : Nat} (hrun : running s 94 = true) (ho : s.lb.op = .entry k) :
    exec (.logbookWriteDone true) s = .next (entryEnd s k true) := by
  show execLogbookWriteDone true s = _
  simp only [execLogbookWriteDone, ho]
  exact atDomain_running hrun

theorem entryEnd_programmed {k : Nat} (hq : s.lb.queue = []) (hs : Regs.wf s = true) :
    fld (entryEnd s k true) F.LB_SEQ_SEQ = (fld s F.LB_SEQ_SEQ + 1) % 2 ^ 32 ∧ flag (entryEnd s k true) F.LB_STATUS_SAFE = (k == 1)
      ∧ (entryEnd s k true).lb.op = .idle ∧ (entryEnd s k true).lb.used = s.lb.used + 1 := by
  have hwf : Regs.wf (setFld s F.LB_SEQ_SEQ (fld s F.LB_SEQ_SEQ + 1)) = true := (setFld_ext ..).regs hs
  have he : entryEnd s k true = { setFlag (setFlag (setFld s F.LB_SEQ_SEQ (fld s F.LB_SEQ_SEQ + 1)) F.LB_STATUS_SAFE (k == 1)) F.LB_STATUS_BUSY false with
      lb := { s.lb with op := .idle, used := s.lb.used + 1, seen := false } } := lbStart_empty hq
  have hfld (f : Fld) : fld (entryEnd s k true) f = fld (setFlag (setFlag (setFld s F.LB_SEQ_SEQ (fld s F.LB_SEQ_SEQ + 1))
      F.LB_STATUS_SAFE (k == 1)) F.LB_STATUS_BUSY false) f := by
    rw [he]
    rfl
  refine ⟨?_, ?_, by rw [he], by rw [he]⟩
  · rw [hfld, setFlag, setFlag, fld_setFld_ne _ _ (by decide), fld_setFld_ne _ _ (by decide)]
    exact fld_setFld_self hs _ _
  · rw [flag_congr (hfld _), flag_setFlag_ne (by decide)]
    exact flag_setFlag_self hwf rfl _

theorem lbHosttime_sets {q : Requester} {v : Word} (hq : Manages s q) : ∃ t, exec (.lbHosttime q v) s = .next t
    ∧ t.lb.utc = fld s F.LB_HOSTTIME_LO_SECONDS + 2 ^ 32 * v.toNat ∧ flag t F.LB_STATUS_UTC_VALID = true :=
  ⟨_, atFabric_manages hq _, rfl, flag_setFlag_true rfl rfl _⟩

theorem secondTick_counts (hrun : running s 96 = true) (hs : Regs.wf s = true) : ∃ t, exec .secondTick s = .next t
    ∧ ctr t C.LB_POWERED = min (ctr s C.LB_POWERED + 1) maxCtr := by
  refine ⟨_, atDomain_running hrun, (?_ : _ = ctr (incCtr s C.LB_POWERED) C.LB_POWERED).trans (ctr_addCtr_self hs _ 1)⟩
  split <;> rfl

end

/-- Settles O11: a replan is its margins and then its three marks, which the entry it asks for leaves; an entry programmed with
none waiting leaves the logbook idle. -/
theorem logbookCommandsComplete : Obligations.LogbookCommandsComplete := by
  refine ⟨fun s rs hrun h => ?_, fun s hrun h => replanPeriodic_asks hrun h, fun s q hq => atFabric_manages hq _,
    fun s rs hrun hask hb hfree => ?_, fun s rs hrun hb hs hfree => ?_, fun s rs hrun hask hb hh => freeboardReplan_defers hrun hask hb hh,
    fun s hrun ho h => logbookPeriodic_asks hrun ho h, fun s q hq => atFabric_manages hq _, fun s q hq => atFabric_manages hq _,
    fun s k hrun ho hq hs => ⟨_, logbookWriteDone_entry hrun ho, entryEnd_programmed hq hs⟩, fun s q v hq => ?_,
    fun s hrun hs => secondTick_counts hrun hs⟩
  · obtain ⟨t, ht, hr, hn⟩ := scarpMeasure_measures (rs := rs) hrun h
    exact ⟨t, ht, hr, hn, (execScarpMeasure_keeps rs s).only rfl ht⟩
  · rw [freeboardReplan_replans hrun (.inl hask) hfree, if_neg hb]
  · refine ⟨onToStep10 (replan (storeRatios s rs)), (freeboardReplan_replans hrun (.inr hb) hfree).trans (congrArg _ (if_pos hb)), rfl, ?_⟩
    rw [flag_onToStep10, flag_onToStep10]
    exact replan_done ((storeRatios_ext s rs).regs hs)
  · obtain ⟨t, ht, hu, hv⟩ := lbHosttime_sets (v := v) hq
    exact ⟨t, ht, hu, hv, (execLbHosttime_keeps q v s).only rfl ht⟩

end Sys2Proof.Machine
end

section
/-!
The JTAG port, scan segments, array dumps and the memory instrument (R363–R366).
-/
namespace Sys2Proof.Machine

/-! ### The boundary-scan register (R363) -/

theorem b2n_add_two_mul_testBit_zero (b : Bool) (a : Nat) : (b2n b + 2 * a).testBit 0 = b := by
  cases b <;> simp [b2n, Nat.testBit_zero]

theorem b2n_add_two_mul_testBit_succ (b : Bool) (a i : Nat) : (b2n b + 2 * a).testBit (i + 1) = a.testBit i := by
  have hdiv : (b2n b + 2 * a) / 2 = a := by cases b <;> simp only [b2n, if_true, if_false, Bool.false_eq_true] <;> omega
  rw [Nat.testBit_succ, hdiv]

theorem testBit_ofBits {l : List Bool} {i : Nat} {b : Bool} (h : l[i]? = some b) : (ofBits l).testBit i = b := by
  induction l generalizing i with
  | nil => exact nomatch h
  | cons c l ih =>
    cases i with
    | zero =>
      obtain rfl : c = b := Option.some.inj h
      exact b2n_add_two_mul_testBit_zero c _
    | succ i => exact (b2n_add_two_mul_testBit_succ c _ i).trans (ih h)

theorem capture_length (l : List (Option Bool)) (s : State) : (capture s l).1.length = l.length := by
  induction l generalizing s with
  | nil => rfl
  | cons c l ih =>
    cases c with
    | none => exact congrArg (· + 1) (ih _)
    | some b => exact congrArg (· + 1) (ih s)

theorem capture_out (l : List (Option Bool)) (s : State) : (capture s l).2.out = s.out := by
  induction l generalizing s with
  | nil => rfl
  | cons c l ih =>
    cases c with
    | none => exact (ih _).trans rfl
    | some b => exact ih s

/-- A cell whose level is known is captured as it is. -/
theorem capture_known {l : List (Option Bool)} {i : Nat} {b : Bool} (h : l[i]? = some (some b)) (s : State) : (capture s l).1[i]? = some b := by
  induction l generalizing i s with
  | nil => exact nomatch h
  | cons c l ih =>
    cases i with
    | zero =>
      obtain rfl : c = some b := Option.some.inj h
      rfl
    | succ i =>
      cases c with
      | none => exact ih h _
      | some a => exact ih h s

theorem bitsOf_length (w v : Nat) : (bitsOf w v).length = w := by simp [bitsOf]

theorem pinCells_length (s : State) : (pinCells s).length = 107 := by
  simp only [pinCells, inCells, knownCells, openCells, List.length_append, List.length_map, List.length_range, List.length_replicate, bitsOf_length]

/-- The instruction in force does not reach the pins. -/
theorem pinLevels_instruction (s : State) (n : Nat) (o : List Out) : pinLevels { setIr s n with out := o } = pinLevels s := by
  have hidle : pinsIdle { setIr s n with out := o } = pinsIdle s := rfl
  have hcp (c : Nat) : cpInReset { setIr s n with out := o } c = cpInReset s c := rfl
  have hirq (i : Nat) : beaconIrq { setIr s n with out := o } i = beaconIrq s i := rfl
  have hnmi : nmiOut { setIr s n with out := o } = nmiOut s := rfl
  simp only [pinLevels, hidle, hcp, hirq, hnmi]
  rfl

theorem pinCells_instruction (s : State) (n : Nat) (o : List Out) : pinCells { setIr s n with out := o } = pinCells s := by
  simp only [pinCells, pinLevels_instruction]
  rfl

theorem boundaryScan_eq (s : State) : boundaryScan s =
    { emit (capture s (pinCells s)).2 (.tdo (capture s (pinCells s)).1.length (ofBits (capture s (pinCells s)).1)) with
      freeCtr := (capture s (pinCells s)).2.freeCtr + 1
      lc := { (capture s (pinCells s)).2.lc with bsr := bitsOf (capture s (pinCells s)).1.length (drawFree (capture s (pinCells s)).2 (capture s (pinCells s)).1.length).1.toNat } } := by
  unfold boundaryScan
  rcases capture s (pinCells s) with ⟨cells, t⟩
  rfl

/-- What a scan of the register leaves: it holds a bit per cell, and the captured pins are shifted out. -/
theorem boundaryScan_scans (s : State) : (boundaryScan s).lc.ir = s.lc.ir ∧ (boundaryScan s).lc.bsr.length = 107
    ∧ ∃ v : Nat, (boundaryScan s).out = .tdo 107 v :: s.out ∧ ∀ (i : Nat) (b : Bool), (pinCells s)[i]? = some (some b) → v.testBit i = b := by
  have hlen : (capture s (pinCells s)).1.length = 107 := (capture_length ..).trans (pinCells_length s)
  have hlc : (capture s (pinCells s)).2.lc = s.lc := (capture_ext _ s).same .life rfl
  have hout : (capture s (pinCells s)).2.out = s.out := capture_out ..
  have hknown (i : Nat) (b : Bool) (h : (pinCells s)[i]? = some (some b)) := testBit_ofBits (capture_known h s)
  rw [boundaryScan_eq]
  generalize capture s (pinCells s) = c at *
  have hir : c.2.lc.ir = s.lc.ir := congrArg LcSt.ir hlc
  refine ⟨hir, (bitsOf_length ..).trans hlen, ofBits c.1, ?_, hknown⟩
  show Out.tdo c.1.length _ :: c.2.out = _
  rw [hlen, hout]

theorem jtagSamplePreload_scans (s : State) : ∃ t, exec .jtagSamplePreload s = .next t ∧ t.lc.ir = 1 ∧ t.lc.bsr.length = 107
    ∧ ∃ v : Nat, t.out = .tdo 107 v :: s.out ∧ ∀ (i : Nat) (b : Bool), (pinCells s)[i]? = some (some b) → v.testBit i = b := by
  obtain ⟨hir, hlen, v, hout, hv⟩ := boundaryScan_scans (setIr s 1)
  have hone : (boundaryScan (setIr s 1)).lc.ir = 1 := hir.trans rfl
  rw [show pinCells (setIr s 1) = pinCells s from pinCells_instruction s 1 s.out] at hv
  exact ⟨boundaryScan (setIr s 1), rfl, hone, hlen, v, hout, hv⟩

theorem jtagExtest_scans {s : State} (h : isMakerOrIntegrator s = true) : ∃ t, exec .jtagExtest s = .next t ∧ t.lc.ir = 0 ∧ t.lc.bsr.length = 107
    ∧ ∃ v : Nat, t.out = .boundary (outPlaces.flatMap (fun p => (t.lc.bsr.drop p.1).take p.2)) :: .tdo 107 v
          :: .boundary (outPlaces.flatMap (fun p => (s.lc.bsr.drop p.1).take p.2)) :: s.out
      ∧ ∀ (i : Nat) (b : Bool), (pinCells s)[i]? = some (some b) → v.testBit i = b := by
  have hexec : exec .jtagExtest s = .next (driveCells (boundaryScan (driveCells (setIr s 0)))) := congrArg Host.Outcome.next (if_pos h)
  obtain ⟨hir, hlen, v, hout, hv⟩ := boundaryScan_scans (driveCells (setIr s 0))
  rw [show pinCells (driveCells (setIr s 0)) = pinCells s from pinCells_instruction s 0 _] at hv
  generalize boundaryScan (driveCells (setIr s 0)) = b at *
  exact ⟨_, hexec, hir, hlen, v, congrArg (List.cons _) hout, hv⟩

/-! ### Instructions (R363) -/

theorem jtagIjtag_selects {s : State} (h : networkOpen s = true) : exec .jtagIjtag s = .next (setIr s 0x10) := by
  have hs : isScrapped s = false := by
    cases hs : isScrapped s with
    | false => rfl
    | true => simp [networkOpen, hs] at h
  show execJtagIjtag s = _
  simp only [execJtagIjtag, hs, h, Bool.false_eq_true, if_false, if_true]

theorem setHold_running {s : State} (h : s.lc.inReset = false) (b : Bool) : setHold s b = setFlag s F.SL_STATUS_HOLD b :=
  if_neg (by simp [h])

/-! ### Scan segments and dumps (R364) -/

/-- The state after the flops of a segment have been shifted out: the values shifted in are written, if there are any. -/
def scanned (s : State) (d : Nat) (ctl : List CtlFlop) (n : Nat) : Option (List Nat) → State
  | some vs => scanWrite s d ctl n vs
  | none => s

section
variable {s : State} {d : DomainId} (hf : flag s F.SL_STATUS_FROZEN = true) (hn : networkSelected s = true) (hd : dataOpen s = true)
include hf hn

theorem scanSegmentAccess_open (ctl : List CtlFlop) (n : Nat) (w : Option (List Nat)) (hd : dataOpen s = true) :
    exec (.scanSegmentAccess d ctl n w) s =
      .next (emit (scanned (dataBits (ctlsBits s d ctl).2 d n).2 d ctl n w)
        (.scanOut ((ctlsBits s d ctl).1 ++ (dataBits (ctlsBits s d ctl).2 d n).1))) := by
  show execScanSegmentAccess d ctl n w s = _
  simp only [execScanSegmentAccess, hf, hn, hd, Bool.not_true, Bool.or_self, Bool.false_eq_true, if_false, if_true]
  cases w with
  | none => rfl
  | some vs => rfl

theorem arrayDumpAccess_open (a : DumpArr) (hd : dataOpen s = true) :
    exec (.arrayDumpAccess a none) s = .next (emit (arrayBits s a).2 (.scanOut (arrayBits s a).1)) := by
  show execArrayDumpAccess a none s = _
  simp only [execArrayDumpAccess, hf, hn, hd, Bool.not_true, Bool.or_self, Bool.false_eq_true, if_false]

end

theorem dataBits_out (s : State) (d n : Nat) : (dataBits s d n).2.out = s.out := rfl

theorem dataBits_none (s : State) (d : Nat) : (dataBits s d 0).1 = [] := rfl

/-- The flops that a freeze has shown are shifted out as they are, and kept. -/
theorem dataBits_known {s : State} {d n : Nat} (h : n ≤ (tgetD s.lc.flops d []).length) : (dataBits s d n).1 = (tgetD s.lc.flops d []).take n
    ∧ tgetD (dataBits s d n).2.lc.flops d [] = tgetD s.lc.flops d [] := by
  have hz : n - (tgetD s.lc.flops d []).length = 0 := Nat.sub_eq_zero_of_le h
  have hall (v : Nat) : tgetD s.lc.flops d [] ++ bitsOf (n - (tgetD s.lc.flops d []).length) v = tgetD s.lc.flops d [] := by
    rw [hz]
    exact List.append_nil _
  simp only [dataBits, hall]
  refine ⟨trivial, ?_⟩
  rw [tgetD, tfind_tput_self]
  rfl

theorem tfind_dataWrite_all {s : State} {d : Nat} {vs : List Nat} (h : vs.length = (tgetD s.lc.flops d []).length) :
    tfind (dataWrite s d vs).lc.flops d = some (vs.map (· % 2 == 1)) := by
  refine (tfind_tput_self ..).trans (congrArg some ?_)
  rw [← h, List.drop_eq_nil_of_le (Nat.le_of_eq h.symm), List.append_nil, List.take_of_length_le (by simp)]

theorem dataOpen_congr {s t : State} (h : t.flds = s.flds) : dataOpen t = dataOpen s := by
  unfold dataOpen isMakerOrIntegrator scrubbed flag fld
  rw [h]

theorem scanWrite_data {s : State} (hd : dataOpen s = true) (d n : Nat) (vs : List Nat) : scanWrite s d [] n vs = dataWrite s d (vs.take n) := by
  unfold scanWrite
  dsimp only
  rw [List.zip_nil_left, List.foldl_nil, ite_self]
  exact if_pos hd

/-- Outside Fielded a group of control flops takes its value, and a write without data flops leaves the rest. -/
theorem scanWrite_ctl {s : State} (hl : fld s F.LC_STATE_STATE ≠ 2) (d : Nat) (x : CtlFlop) (v : Nat) :
    (scanWrite s d [x] 0 [v]).flds = (ctlWrite d s (x, v)).flds ∧ (scanWrite s d [x] 0 [v]).out = (ctlWrite d s (x, v)).out
      ∧ (scanWrite s d [x] 0 [v]).lc.ctlFlops = (ctlWrite d s (x, v)).lc.ctlFlops ∧ Ext 2048 (ctlWrite d s (x, v)) (scanWrite s d [x] 0 [v]) := by
  have he : scanWrite s d [x] 0 [v] = if dataOpen (ctlWrite d s (x, v)) then dataWrite (ctlWrite d s (x, v)) d [] else ctlWrite d s (x, v) := by
    unfold scanWrite
    dsimp only
    rw [if_neg hl]
    rfl
  rw [he]
  split
  · exact ⟨rfl, rfl, rfl, dataWrite_ext ..⟩
  · exact ⟨rfl, rfl, rfl, .refl _ _⟩

section
variable {s : State} {d : DomainId} (hf : flag s F.SL_STATUS_FROZEN = true) (hn : networkSelected s = true) (hd : dataOpen s = true)
include hf hn hd

theorem scanSegment_reads {n : Nat} (h : n ≤ (tgetD s.lc.flops d.val []).length) : ∃ t, exec (.scanSegmentAccess d [] n none) s = .next t
    ∧ t.out = .scanOut ((tgetD s.lc.flops d.val []).take n) :: s.out ∧ Ext 2048 s t := by
  refine ⟨_, scanSegmentAccess_open hf hn [] n none hd, ?_, (emit_ext ..).after rfl (dataBits_ext ..)⟩
  rw [← (dataBits_known h).1]
  rfl

theorem scanSegment_writes {vs : List Nat} (h : vs.length = (tgetD s.lc.flops d.val []).length) :
    ∃ t, exec (.scanSegmentAccess d [] vs.length (some vs)) s = .next t ∧ t.out = .scanOut (tgetD s.lc.flops d.val []) :: s.out
      ∧ tfind t.lc.flops d.val = some (vs.map (· % 2 == 1)) ∧ Ext 2048 s t := by
  obtain ⟨hbits, hkeep⟩ := dataBits_known (Nat.le_of_eq h)
  have hwrite : scanWrite (dataBits s d.val vs.length).2 d.val [] vs.length vs = dataWrite (dataBits s d.val vs.length).2 d.val vs := by
    have hopen : dataOpen (dataBits s d.val vs.length).2 = true := (dataOpen_congr rfl).trans hd
    rw [scanWrite_data hopen, List.take_length]
  have hexec := scanSegmentAccess_open hf hn [] vs.length (some vs) hd (d := d)
  rw [show ctlsBits s d.val [] = ([], s) from rfl] at hexec
  dsimp only [scanned] at hexec
  rw [hwrite, hbits, h, List.take_length, ← h] at hexec
  exact ⟨_, hexec, rfl, tfind_dataWrite_all (h.trans (congrArg List.length hkeep.symm)), (emit_ext ..).after rfl ((dataWrite_ext ..).after rfl (dataBits_ext ..))⟩

/-- A scan that writes one group of control flops, whose value the state holds, and no data flop. -/
theorem scanSegment_writes_ctl {x : CtlFlop} {u : Nat} (hx : ctlHeld s d.val x = some u) (v : Nat) :
    exec (.scanSegmentAccess d [x] 0 (some [v])) s = .next (emit (scanWrite (dataBits s d.val 0).2 d.val [x] 0 [v]) (.scanOut (bitsOf (ctlWidth x) u))) := by
  have hctl : ctlsBits s d.val [x] = (bitsOf (ctlWidth x) u, s) := by simp only [ctlsBits, ctlBits, hx, List.append_nil]
  rw [scanSegmentAccess_open hf hn [x] 0 (some [v]) hd, hctl]
  dsimp only [scanned]
  rw [dataBits_none, List.append_nil]

theorem scanSegment_writes_other {p : BitVec 32} {w x : Nat} (hl : fld s F.LC_STATE_STATE ≠ 2)
    (hx : tfind s.lc.ctlFlops (d.val * 2 ^ 32 + p.toNat) = some x) (v : Nat) : ∃ t, exec (.scanSegmentAccess d [.other p w] 0 (some [v])) s = .next t
      ∧ t.out = .scanOut (bitsOf w x) :: s.out ∧ tfind t.lc.ctlFlops (d.val * 2 ^ 32 + p.toNat) = some (v % 2 ^ w) ∧ Ext 2048 s t := by
  obtain ⟨-, hout, hctl, hext⟩ := scanWrite_ctl (s := (dataBits s d.val 0).2) hl d.val (.other p w) v
  have hown : Ext 2048 (dataBits s d.val 0).2 (ctlWrite d.val (dataBits s d.val 0).2 (.other p w, v)) := .withLc rfl rfl (.refl _ _)
  refine ⟨_, scanSegment_writes_ctl hf hn hd (x := .other p w) hx v, congrArg (List.cons _) hout, ?_,
    (emit_ext ..).after rfl (((dataBits_ext ..).trans hown).trans hext)⟩
  exact (congrArg (tfind · _) hctl).trans (tfind_tput_self ..)

theorem scanSegment_writes_field {off low w : Nat} {f : Nat × Nat × Nat × AccCode} (hl : fld s F.LC_STATE_STATE ≠ 2) (hoff : flopDomain off = d.val)
    (hfl : ctlFld off low w = some f) (hs : Regs.wf s = true) (v : Nat) : ∃ t, exec (.scanSegmentAccess d [.field off low w] 0 (some [v])) s = .next t
      ∧ fld t (rowFld .ibpin off f) = v % 2 ^ w ∧ t.out = .scanOut (bitsOf w (fieldRead s .ibpin off (viewOf s off) f)) :: s.out ∧ Ext 2049 s t := by
  have hx : ctlHeld s d.val (.field off low w) = some (fieldRead s .ibpin off (viewOf s off) f) := by
    simp only [ctlHeld, hoff, hfl, if_true, Option.map_some]
  have hown : ctlWrite d.val (dataBits s d.val 0).2 (.field off low w, v) = setFld (dataBits s d.val 0).2 (rowFld .ibpin off f) v := by
    simp only [ctlWrite, hoff, hfl, if_true]
  have hw : f.2.1 = w := by
    unfold ctlFld at hfl
    split at hfl
    · have hfound := List.find?_some hfl
      exact beq_iff_eq.1 (Bool.and_eq_true_iff.1 hfound).2
    · exact nomatch hfl
  obtain ⟨hfld, hout, -, hext⟩ := scanWrite_ctl (s := (dataBits s d.val 0).2) hl d.val (.field off low w) v
  rw [hown] at hfld hout hext
  have hset : fld (setFld (dataBits s d.val 0).2 (rowFld .ibpin off f) v) (rowFld .ibpin off f) = v % 2 ^ f.2.1 :=
    fld_setFld_self ((dataBits_ext ..).regs hs) _ _
  rw [hw] at hset
  refine ⟨_, scanSegment_writes_ctl hf hn hd hx v, ?_, congrArg (List.cons _) hout,
    (emit_ext ..).after rfl (hext.after rfl ((setFld_ext ..).after rfl ((dataBits_ext ..).mono rfl)))⟩
  exact (congrArg (tgetD · _ _) hfld).trans hset

end

/-! ### The memory instrument (R366) -/

section
variable {s : State} (hn : networkSelected s = true) (hw : instrWorks s = true)
include hn hw

theorem instrAccess_works {fpa : Nat} {p : Nat × Nat} (hp : instrPlace s fpa = some p) (read : Bool) (f : State → Nat → Nat → State) :
    instrAccess s fpa read f = .next (f (takeTurn (addCtr s C.BW_FAB_UNREG 64)
      ⟨16, 0x9000, fpa, if read then .read else .write 0 0, none, .demand⟩) p.1 p.2) := by
  unfold instrAccess
  simp only [hn, hw, hp, Bool.not_true, Bool.false_eq_true, if_false]

end

theorem rawRead_out (s : State) (n sda : Nat) : (rawRead s n sda).out =
    .memInstr false (lineBytes (rawLine s n (sda / 64)).data ++ toBytes 8 (rawLine s n (sda / 64)).pin.toNat
      ++ toBytes 8 (lineWord (mdcFetch s n (metaLine s sda)).1.raw.data (sda / 64 % 8)).toNat) :: (mdcFetch s n (metaLine s sda)).2.out := by
  unfold rawRead
  rfl

/-- Settles O6: the pins are captured cell by cell, and a scan writes its groups after it has shifted out what they held. -/
theorem jtagCommandsComplete : Obligations.JtagCommandsComplete := by
  refine ⟨fun s => rfl, fun s h => ?_, fun s => ?_, fun s => rfl, fun s h => jtagIjtag_selects h,
    fun s h => congrArg Host.Outcome.next (setHold_running (s := setIr s 0x11) h true), fun s h => congrArg Host.Outcome.next (setHold_running (s := setIr s 0x12) h false), fun s => rfl,
    fun s => ⟨_, rfl, rfl, rfl⟩, fun s d n hf hn hd h => ?_, fun s d vs hf hn hd h => ?_, fun s d p w v x hf hn hd hl hx => ?_,
    fun s d off low w v f hf hn hd hl hoff hfl hs => ?_, fun s b w hf hn hd => arrayDumpAccess_open hf hn (.tidepool b w) hd,
    fun s u fpa p hn hw hp hu => ?_, fun s u fpa d pin inl p hn hw hp hu => ?_⟩
  · obtain ⟨t, ht, hir, hlen, hv⟩ := jtagExtest_scans h
    exact ⟨t, ht, hir, hlen, hv, (execJtagExtest_keeps s).only rfl ht⟩
  · obtain ⟨t, ht, hir, hlen, hv⟩ := jtagSamplePreload_scans s
    exact ⟨t, ht, hir, hlen, hv, (execJtagSamplePreload_keeps s).only rfl ht⟩
  · obtain ⟨t, ht, hout, hx⟩ := scanSegment_reads hf hn hd h
    exact ⟨t, ht, hout, hx.only rfl⟩
  · obtain ⟨t, ht, hout, hfl, hx⟩ := scanSegment_writes hf hn hd h
    exact ⟨t, ht, hout, hfl, hx.only rfl⟩
  · obtain ⟨t, ht, hout, hfl, hx⟩ := scanSegment_writes_other hf hn hd hl hx (w := w) v
    exact ⟨t, ht, hout, hfl, hx.only rfl⟩
  · obtain ⟨t, ht, hfld, hout, hx⟩ := scanSegment_writes_field hf hn hd hl hoff hfl hs v
    exact ⟨t, ht, hfld, hout, hx.only rfl⟩
  · subst hu
    exact ⟨_, instrAccess_works hn hw hp true rawRead, _, rfl, rawRead_out ..⟩
  · subst hu
    exact instrAccess_works hn hw hp false (rawWrite d pin inl)

end Sys2Proof.Machine
end

section
/-!
A clear of an engine port that is late (R391).
-/
namespace Sys2Proof.Machine

/-- A port whose clear is late: its bit of CLRFAIL is set and the clear waits for a later one (R391). -/
def clearLate (s : State) (p : Nat) : State :=
  let f := F.FAB_ARR_CLRFAIL_CLRFAIL (p / 32)
  setFld { s with en := { s.en with clearing := tput s.en.clearing p 2 } } f (setBit (fld s f) (p % 32) true)

theorem arrayClearTimeout_raises {s : State} {p : Fin 128} {c : Nat} (hrun : running s (unitDomain p.val) = true)
    (hk : tgetD s.en.clearing p.val 0 = 1) (ho : ownerOf s kEP p.val = some c) :
    exec (.arrayClearTimeout p) s = .next (raiseSrc (clearLate s p.val) (576 + c)) := by
  refine (if_neg (by simp [hk])).trans ((atDomain_running hrun).trans ?_)
  rw [ho]
  rfl

/-- A raise of a source that may not be raised is an empty step (R291). -/
theorem raiseSrc_unraisable {s : State} {i : Nat} (h : raisable s i = false) : raiseSrc s i = s := by
  have hcore : raiseCore s i = (s, false) := if_pos (by simp [h])
  rw [raiseSrc, beaconStep, hcore]
  exact deliver_unchanged s

/-- A state whose engine port 0, in the midst of a clear, has an owner that is none of the 16 coves. -/
def portOfNoCove : State :=
  { State.reset with plan := { State.reset.plan with owner := [(resKey kEP 0, 16)] }, en := { State.reset.en with clearing := [(0, 1)] } }

/-- Refutes O30: the attention source of a late clear is promised for every owner that the table gives the port, and the sources
from 592 on are reserved (R291). In `portOfNoCove` the owner is 16: source 592 is not raised. -/
theorem not_portCommandsComplete : ¬ Obligations.PortCommandsComplete := by
  unfold Obligations.PortCommandsComplete
  rintro ⟨-, -, -, -, -, -, -, hclear⟩
  have hrun : running portOfNoCove (unitDomain (0 : Fin 128).val) = true := rfl
  obtain ⟨-, -, hlate⟩ := hclear portOfNoCove 0 hrun
  obtain ⟨t, ht, -, hpending⟩ := hlate rfl
  have hexec := arrayClearTimeout_raises (p := 0) (c := 16) hrun rfl rfl
  rw [raiseSrc_unraisable (i := 576 + 16) rfl] at hexec
  obtain rfl : clearLate portOfNoCove 0 = t := Host.Outcome.next.inj (hexec.symm.trans ht)
  have hraised : (srcOf (clearLate portOfNoCove 0) (576 + 16)).pending = true := hpending 16 rfl
  exact Bool.false_ne_true hraised

end Sys2Proof.Machine
end

section
/-!
The staging buffer, sounding and the apply (R50–R61, R68, R335).
-/
namespace Sys2Proof.Machine

/-! ### The staging buffer (R50–R53) -/

section
variable {s : State} {q : Requester}

/-- The holder of the buffer, and any requester while none holds it, passes the guard (R50). -/
theorem chGuard_passes (h : fld s F.CH_STATUS_HOLDER = 0 ∨ fld s F.CH_STATUS_HOLDER = holderNo q) (f : State → State) : chGuard s q f = f s :=
  if_neg (by rcases h with h | h <;> simp [h])

theorem holderNo_lt (q : Requester) : holderNo q < 4 := by
  cases q with
  | ibpin => exact (by decide : 1 < 4)
  | pf => exact (by decide : 2 < 4)
  | vf c => exact (by decide : 0 < 4)

theorem bits_one_of_not_bit {v i : Nat} (h : bit v i = false) : bits v i 1 = 0 := by
  unfold bit at h
  rw [Nat.testBit_eq_decide_div_mod_eq, decide_eq_false_iff_not] at h
  unfold bits
  rw [Nat.shiftRight_eq_div_pow]
  omega

/-- A claim: LOADING, held by the claimer, with nothing written yet (R50, R51). -/
def claimed (s : State) (q : Requester) : State :=
  let s := setFlag (setFld (setFld (setFld s F.CH_STATUS_STATE 1) F.CH_STATUS_HOLDER (holderNo q)) F.CH_WPTR_PTR 0) F.CH_STATUS_VALID false
  { s with plan := { s.plan with staging := [] } }

theorem chCtlWrite_claims {v : Nat} (hv : bit v 0 = true) (hst : fld s F.CH_STATUS_STATE = 0) (hh : fld s F.CH_STATUS_HOLDER = 0) :
    chCtlWrite s q v = claimed s q := by
  refine (chGuard_passes (.inl hh) _).trans ?_
  simp only [hst, hv]
  rfl

theorem claimed_shows (hs : Regs.wf s = true) : fld (claimed s q) F.CH_STATUS_STATE = 1 ∧ fld (claimed s q) F.CH_STATUS_HOLDER = holderNo q
    ∧ fld (claimed s q) F.CH_WPTR_PTR = 0 := by
  have h1 : Regs.wf (setFld s F.CH_STATUS_STATE 1) = true := (setFld_ext ..).regs hs
  have h2 : Regs.wf (setFld (setFld s F.CH_STATUS_STATE 1) F.CH_STATUS_HOLDER (holderNo q)) = true := (setFld_ext ..).regs h1
  have hfld (f : Fld) : fld (claimed s q) f = fld (setFlag (setFld (setFld (setFld s F.CH_STATUS_STATE 1) F.CH_STATUS_HOLDER (holderNo q))
      F.CH_WPTR_PTR 0) F.CH_STATUS_VALID false) f := rfl
  simp only [hfld, setFlag]
  refine ⟨?_, ?_, ?_⟩
  · rw [fld_setFld_ne _ _ (by decide), fld_setFld_ne _ _ (by decide), fld_setFld_ne _ _ (by decide)]
    exact fld_setFld_of_lt hs _ (by decide)
  · rw [fld_setFld_ne _ _ (by decide), fld_setFld_ne _ _ (by decide)]
    exact fld_setFld_of_lt h1 _ (holderNo_lt q)
  · rw [fld_setFld_ne _ _ (by decide)]
    exact fld_setFld_of_lt h2 _ (by decide)

/-- A write of CH_CTL by the holder while LOADING sets SRC, and then enables the image, or releases the buffer (R53). -/
theorem chCtlWrite_loading {v : Nat} (hst : fld s F.CH_STATUS_STATE = 1) (hh : fld s F.CH_STATUS_HOLDER = holderNo q) :
    chCtlWrite s q v = if bit v 2 then enableImage (setFld s F.CH_CTL_SRC (bits v 4 1))
      else if bit v 1 then setFld (setFld (setFld s F.CH_CTL_SRC (bits v 4 1)) F.CH_STATUS_STATE 0) F.CH_STATUS_HOLDER 0
      else setFld s F.CH_CTL_SRC (bits v 4 1) := by
  refine (chGuard_passes (.inr hh) _).trans ?_
  simp only [hst]
  rfl

theorem released_shows (hs : Regs.wf s = true) : fld (setFld (setFld s F.CH_STATUS_STATE 0) F.CH_STATUS_HOLDER 0) F.CH_STATUS_STATE = 0
    ∧ fld (setFld (setFld s F.CH_STATUS_STATE 0) F.CH_STATUS_HOLDER 0) F.CH_STATUS_HOLDER = 0 := by
  have h1 : Regs.wf (setFld s F.CH_STATUS_STATE 0) = true := (setFld_ext ..).regs hs
  refine ⟨?_, fld_setFld_of_lt h1 _ (by decide)⟩
  rw [fld_setFld_ne _ _ (by decide)]
  exact fld_setFld_of_lt hs _ (by decide)

/-- A written image of a length that CH_LEN allows is sounded (R52, R53). -/
theorem enableImage_written (hsrc : flag s F.CH_CTL_SRC = false) (hsc : isScrapped s = false) (hfw : flag s F.FAB_SEC_STATUS_FW_FAIL = false)
    (hlen : fld s F.CH_LEN_LEN ≤ 1048576) (hmod : fld s F.CH_LEN_LEN % 8 = 0) (hptr : fld s F.CH_WPTR_PTR = fld s F.CH_LEN_LEN) :
    enableImage s = beginSounding s := by
  have hfits : ¬(decide (1048576 < fld s F.CH_LEN_LEN) || fld s F.CH_LEN_LEN % 8 != 0 || (!false && fld s F.CH_WPTR_PTR != fld s F.CH_LEN_LEN)) = true := by
    simp [hmod, hptr, hlen]
  unfold enableImage
  simp only [hsrc, hsc, hfw]
  exact (if_neg Bool.false_ne_true).trans (if_neg hfits)

theorem beginSounding_shows (s : State) : fld (beginSounding s) F.CH_STATUS_STATE = 3
    ∧ (beginSounding s).plan.soundHeld = !flag s F.CK_STATUS_UP := by
  have hup : flag (setFld s F.CH_STATUS_STATE 3) F.CK_STATUS_UP = flag s F.CK_STATUS_UP := flag_congr (fld_setFld_ne _ _ (by decide))
  have hstate : fld (setFld s F.CH_STATUS_STATE 3) F.CH_STATUS_STATE = 3 := fld_setFld_of_ne_rst (by decide) (by decide) s
  exact ⟨hstate, congrArg (!·) hup⟩

theorem wdataWrite_stores {v : Nat} (hst : fld s F.CH_STATUS_STATE = 1) (hh : fld s F.CH_STATUS_HOLDER = holderNo q)
    (hp : fld s F.CH_WPTR_PTR + 4 ≤ 1048576) : wdataWrite s q v =
      { setFld s F.CH_WPTR_PTR (fld s F.CH_WPTR_PTR + 4) with plan := { s.plan with staging := s.plan.staging ++ toBytes 4 v } } := by
  refine (chGuard_passes (.inr hh) _).trans ((if_neg ?_).trans rfl)
  simp [chLoading, hst, hp]

end

/-! ### Sounding and the apply (R53, R60, R61, R68) -/

section
variable {s : State} {m : Image} {a : Apply} (hrun : running s 94 = true)
include hrun

theorem soundingDone_judges (hst : fld s F.CH_STATUS_STATE = 3) (hh : s.plan.soundHeld = false) (bad : Bool) :
    exec (.soundingDone bad) s = .next (soundImage s bad) := (if_neg (by simp [hst, hh])).trans (atDomain_running hrun)

theorem soundingTimeout_refuses (hst : fld s F.CH_STATUS_STATE = 3) (hh : s.plan.soundHeld = false) :
    exec .soundingTimeout s = .next (refuseImage s ⟨0x7F, 0, 3, false⟩) := (if_neg (by simp [hst, hh])).trans (atDomain_running hrun)

theorem soundingStart_begins (hh : s.plan.soundHeld = true) (hup : flag s F.CK_STATUS_UP = true) :
    exec .soundingStart s = .next { s with plan := { s.plan with soundHeld := false } } :=
  (if_neg (by simp [hh, hup])).trans (atDomain_running hrun)

theorem applyStart_begins (ha : s.plan.apply = some a) (hm : decodeImage s (imageBytes s) = .ok m) (hst : a.step = .accepted)
    (ht : flag s F.FAB_SEC_STATUS_TRNG_FAIL = false) : exec .applyStart s = .next (beginApply s a m) := by
  show execApplyStart s = _
  simp only [execApplyStart, ha, hm]
  exact (if_neg (by simp [hst, ht])).trans (atDomain_running hrun)

theorem applyContinue_fills (ha : s.plan.apply = some a) (hm : decodeImage s (imageBytes s) = .ok m) (hst : a.step = .loops)
    (hl : loopsRun s = true) : ∃ t, exec .applyContinue s = .next t ∧ t.plan.apply = some { a with step := .filling } := by
  show ∃ t, execApplyContinue s = .next t ∧ _
  simp only [execApplyContinue, ha, hm]
  exact ⟨_, (if_neg (by simp [hst, hl])).trans (atDomain_running hrun), rfl⟩

theorem applyFinish_finishes (ha : s.plan.apply = some a) (hm : decodeImage s (imageBytes s) = .ok m) (hst : a.step = .filling)
    (hf : s.plan.fills.any (fun f => f.2 == .apply) = false) : exec .applyFinish s = .next (finishApply s a m) := by
  show execApplyFinish s = _
  simp only [execApplyFinish, ha, hm]
  exact (if_neg (by simp [hst, hf])).trans (atDomain_running hrun)

end

theorem soundImage_accepts {s : State} {m : Image} (hm : decodeImage s (imageBytes s) = .ok m) (hj : judgeImage s m = none) :
    soundImage s false = acceptImage s m := by simp only [soundImage, hm, hj, Bool.false_eq_true, if_false]

theorem soundImage_refuses {s : State} {m : Image} {f : Fail} (hm : decodeImage s (imageBytes s) = .ok m) (hj : judgeImage s m = some f) (bad : Bool) :
    soundImage s bad = refuseImage s f := by simp only [soundImage, hm, hj]

/-- Settles O17: the writes of CH_CTL and CH_WDATA pass the guard of the holder, and each further command takes the one branch
that its stage of the image leaves. -/
theorem chartCommandsComplete : Obligations.ChartCommandsComplete := by
  refine ⟨fun s q v hq hs hv hst hh => ?_, fun s q v hq hs h1 h2 hst hh => ?_, fun s q v hq hs h2 h4 hst hh hsc hfw hlen hmod hptr => ?_,
    fun s q v hq hst hh hp => ?_, fun s img hrun hst hlen => (if_neg (by simp [hst, hlen])).trans (atDomain_running hrun),
    fun s hrun hst => (if_neg (by simp [hst])).trans (atDomain_running hrun), fun s hrun hh hup => soundingStart_begins hrun hh hup,
    fun s m hrun hst hh hm hj => ?_, fun s m f bad hrun hst hh hm hj => ?_, fun s hrun hst hh => soundingTimeout_refuses hrun hst hh,
    fun s a m hrun ha hm hst ht => applyStart_begins hrun ha hm hst ht, fun s a m hrun ha hm hst hl => applyContinue_fills hrun ha hm hst hl,
    fun s a m hrun ha hm hst hf => applyFinish_finishes hrun ha hm hst hf⟩
  · have hexec : exec (.chClaim q v) s = .next (claimed s q) := (atFabric_manages hq _).trans (congrArg _ (chCtlWrite_claims hv hst hh))
    obtain ⟨h1, h2, h3⟩ := claimed_shows (q := q) hs
    exact ⟨_, hexec, h1, h2, h3, rfl, (Ext.withPlan rfl ((setFlag_ext ..).after rfl <| (setFld_ext ..).after rfl <| (setFld_ext ..).after rfl <|
      (setFld_ext ..).mono rfl) : Ext 9 s _).only rfl⟩
  · have hexec : exec (.chRelease q v) s = .next (setFld (setFld (setFld s F.CH_CTL_SRC (bits v.toNat 4 1)) F.CH_STATUS_STATE 0) F.CH_STATUS_HOLDER 0) := by
      refine (atFabric_manages hq _).trans (congrArg _ ((chCtlWrite_loading hst hh).trans ?_))
      rw [h1, h2]
      rfl
    obtain ⟨hstate, hholder⟩ := released_shows (s := setFld s F.CH_CTL_SRC (bits v.toNat 4 1)) ((setFld_ext ..).regs hs)
    exact ⟨_, hexec, hstate, hholder, ((setFld_ext ..).after rfl <| (setFld_ext ..).after rfl (setFld_ext ..)).only rfl⟩
  · have hsrc : flag (setFld s F.CH_CTL_SRC (bits v.toNat 4 1)) F.CH_CTL_SRC = false := by
      rw [bits_one_of_not_bit h4]
      exact flag_setFlag_self hs rfl false
    have hfld {f : Fld} (hf : f.key ≠ F.CH_CTL_SRC.key) : fld (setFld s F.CH_CTL_SRC (bits v.toNat 4 1)) f = fld s f := fld_setFld_ne _ _ hf
    have hexec : exec (.chEn q v) s = .next (beginSounding (setFld s F.CH_CTL_SRC (bits v.toNat 4 1))) := by
      refine (atFabric_manages hq _).trans (congrArg _ ((chCtlWrite_loading hst hh).trans ?_))
      rw [h2]
      refine enableImage_written hsrc ?_ ((flag_congr (hfld (by decide))).trans hfw) ?_ ?_ ?_
      · rw [isScrapped, hfld (by decide)]
        exact hsc
      · rw [hfld (by decide)]
        exact hlen
      · rw [hfld (by decide)]
        exact hmod
      · rw [hfld (by decide), hfld (by decide)]
        exact hptr
    obtain ⟨hstate, hheld⟩ := beginSounding_shows (setFld s F.CH_CTL_SRC (bits v.toNat 4 1))
    refine ⟨_, hexec, hstate, hheld.trans (congrArg (!·) (flag_congr (hfld (by decide)))), ?_⟩
    exact ((beginSounding_ext ..).after rfl ((setFld_ext ..).mono rfl)).only rfl
  · have hexec := (atFabric_manages hq _).trans (congrArg _ (wdataWrite_stores (v := v.toNat) hst hh hp))
    refine ⟨_, hexec, rfl, ?_, (Ext.withPlan rfl ((setFld_ext ..).mono rfl) : Ext 9 s _).only rfl⟩
    exact fld_setFld_of_ne_rst (show _ < 2 ^ 21 by omega) (show _ ≠ 0 by omega) s
  · exact (soundingDone_judges hrun hst hh false).trans (congrArg _ (soundImage_accepts hm hj))
  · exact (soundingDone_judges hrun hst hh bad).trans (congrArg _ (soundImage_refuses hm hj bad))

end Sys2Proof.Machine
end

section
/-!
Release, placement, tiles and the watchdog (R234, R235, R241, R247–R263).
-/
namespace Sys2Proof.Machine

/-! ### Release and retirement (R234, R235, R241, R250) -/

/-- The state in which the head of a queue has become a run (R234). -/
def headReleased (s : State) (c q : Nat) (e : QEntry) (rest : List QEntry) (s1 : State) : State :=
  let r : Run := ⟨c, q, e, !e.graph, if e.graph then [] else [e.target], false, false, none, none, false, 0⟩
  { setQueue s1 c q { queueOf s c q with fifo := rest } with sq := { s1.sq with runs := s1.sq.runs ++ [r] } }

section
variable {s : State} {c : CoveId} {k : Idx64} (hrun : running s 94 = true)
include hrun

section
variable {e : QEntry} {rest : List QEntry} (ha : coveActive s c.val = true) (hph : (queueOf s c.val k.val).ph = .active)
  (hq : (queueOf s c.val k.val).fifo = e :: rest)
include ha hph hq

theorem queueHeadRelease_free (hw : e.wev = none) (hres : isResident s c.val e.ctx = true) (hroom : (runsOf s c.val k.val).length < 4)
    (hsteps : releasedSteps s c.val < 256) : exec (.queueHeadRelease c k) s = .next (headReleased s c.val k.val e rest s) := by
  show execQueueHeadRelease c k s = _
  simp only [execQueueHeadRelease, hq, hw]
  exact (if_neg (by simp [ha, hph])).trans ((if_pos (by simp [hres, hroom, hsteps])).trans (atDomain_running hrun))

section
variable {ev tgt v : Nat} {s1 : State} (hw : e.wev = some (ev, tgt)) (hv : evValue s c.val ev = (some v, s1))
include hw hv

theorem queueHeadRelease_early (hlt : v < tgt) : exec (.queueHeadRelease c k) s = .next s1 := by
  show execQueueHeadRelease c k s = _
  simp only [execQueueHeadRelease, hq, hw, hv]
  exact (if_neg (by simp [ha, hph])).trans ((if_neg (by simp [hlt])).trans (atDomain_running hrun))

theorem queueHeadRelease_due (hle : tgt ≤ v) (hres : isResident s c.val e.ctx = true) (hroom : (runsOf s c.val k.val).length < 4)
    (hsteps : releasedSteps s c.val < 256) : exec (.queueHeadRelease c k) s = .next (headReleased s c.val k.val e rest s1) := by
  show execQueueHeadRelease c k s = _
  simp only [execQueueHeadRelease, hq, hw, hv]
  exact (if_neg (by simp [ha, hph])).trans ((if_pos (by simp [hle, hres, hroom, hsteps])).trans (atDomain_running hrun))

end
end

theorem entryRetire_retires {r : Run} {rest : List Run} (hph : (queueOf s c.val k.val).ph = .active) (hr : runsOf s c.val k.val = r :: rest)
    (hf : r.finished = true) (hb : (stepsWhere s (fun x => x.entry == r.ent.id)).any (fun e => e.2.busy) = false) (now : Nat) :
    exec (.entryRetire c k now) s = .next (retrySlots (retireRun s c.val k.val r now)) := by
  show execEntryRetire c k now s = _
  simp only [execEntryRetire, hr]
  exact (if_pos (by simp only [hf, hph, hb]; rfl)).trans (atDomain_running hrun)

section
variable (ha : coveActive s c.val = true) (hph : (queueOf s c.val k.val).ph = .active)
include ha hph

theorem stepRelease_places {i : Nat} (hi : unplacedOf s c.val k.val = some i) (now : Nat) (far : Bool) :
    exec (.stepRelease c k now far) s = .next (placeStep s c.val i far) := by
  refine (if_neg (by simp [ha, hph])).trans ?_
  rw [hi]
  exact atDomain_running hrun

theorem stepRelease_continues {r : Run} (hi : unplacedOf s c.val k.val = none) (hr : nextRun s c.val k.val = some r)
    (hres : isResident s c.val r.ent.ctx = true) (now : Nat) (far : Bool) : exec (.stepRelease c k now far) s =
      .next (runWork s (if r.opened then releaseNext s c.val k.val r now far else openRun c.val r)) := by
  refine (if_neg (by simp [ha, hph])).trans ?_
  simp only [hi, hr, hres]
  exact atDomain_running hrun

end
end

/-- An entry without further steps ends (R241, R250). -/
theorem runWork_releaseNext_ends {r : Run} (h : r.todo = []) (s : State) (c q now : Nat) (far : Bool) :
    runWork s (releaseNext s c q r now far) = endRun s r.ent.id := by
  unfold releaseNext
  rw [h]
  exact runWork_ok rfl

/-! ### Tiles and the watchdog (R254, R258, R262) -/

/-- The port and the switch time that a tile's start takes leave the engines' tiles. -/
theorem takePort_engines (s : State) (u i now : Nat) : (takePort s u i now).sq.engines = s.sq.engines := by
  unfold takePort
  dsimp only
  generalize ht : (if (occupant s u).isNone then { s with sq := { s.sq with ports := tput s.sq.ports u (i, now) } } else s) = t
  have he : t.sq.engines = s.sq.engines := by
    rw [← ht]
    split <;> rfl
  rw [← he]
  unfold noteSwitch
  split
  · dsimp only
    split
    · rfl
    · split
      · rfl
      · split <;> rfl
  · rfl

theorem engOf_startTile (s : State) (c u : Nat) (k : Cand) (now : Nat) :
    engOf (startTile s c u k now) u = some ⟨k.step, k.tile, false, false, none, 0⟩ := by
  have hset (t : State) : engOf (setEng t u ⟨k.step, k.tile, false, false, none, 0⟩) u = some ⟨k.step, k.tile, false, false, none, 0⟩ := tfind_tput_self ..
  have hslot (t : State) (ctx : Nat) : engOf (useSlot t c ctx) u = engOf t u := by
    have hsq : (useSlot t c ctx).sq = t.sq := (useSlot_ext ..).same .sched rfl
    rw [engOf, hsq, engOf]
  unfold startTile
  dsimp only
  split
  · rw [engOf, takePort_engines]
    exact (hslot _ _).trans (hset _)
  · exact (hslot _ _).trans (hset _)

section
variable {s : State} {u : BitVec 16} {e : Eng} {x : Step}

theorem engineTileBoundary_starts {c : Nat} {k : Cand} (hrun : running s (unitDomain u.toNat) = true) (ho : unitOwner s u.toNat = some c)
    (ht : takesTile s c u.toNat = true) (hk : pickTile s c u.toNat = some k) (now : Nat) :
    exec (.engineTileBoundary u now) s = .next (startTile s c u.toNat k now) := by
  show execEngineTileBoundary u now s = _
  simp only [execEngineTileBoundary, ho, ht, hk]
  exact atDomain_running hrun

variable (he : engOf s u.toNat = some e) (hx : stepOf s e.step = some x)
include he hx

theorem tileComplete_charges {f : TileEnd} (hrun : running s (unitDomain u.toNat) = true) (hf : e.fin = some f)
    (hd : s.en.deliver.any (fun d => d.src == u.toNat) = false) (ns : Nat) : exec (.tileComplete u ns) s =
      .next (retrySlots (settleStep (dropTile (chargeTime s x.cove x.queue x.ctx ns) u.toNat (f == .error || e.expired != 0)) e.step)) := by
  show execTileComplete u ns s = _
  simp only [execTileComplete, he, hf, hx, hd]
  exact atDomain_running hrun

theorem tileWatchdog_expires (hrun : running s 94 = true) (h0 : e.expired = 0) (hend : tileEnded s u.toNat e = false)
    (hp : paused s u.toNat = false) : exec (.tileWatchdog u) s =
      .next (sqNote (incCtr (incCtr (setEng s u.toNat { e with expired := 1, abort := decide (u.toNat / 4096 ≠ 4) })
        (C.SQ_CV_WDOG x.cove)) C.SQ_WDOG) e.step 0x30 1 u.toNat) := by
  show execTileWatchdog u s = _
  simp only [execTileWatchdog, he, hx]
  exact (if_neg (by simp [h0, hend, hp])).trans (atDomain_running hrun)

theorem tileWatchdogLimit2_resets (hrun : running s 94 = true) (h1 : e.expired = 1) (hend : tileEnded s u.toNat e = false)
    (hb : unitBusy s u.toNat = false) (hr : replaying s u.toNat = false) (ns : Nat) : exec (.tileWatchdogLimit2 ⟨u, ns⟩) s =
      .next (retrySlots (remapUnit (resetEngine s u.toNat x ns) x.cove u.toNat)) := by
  show execTileWatchdogLimit2 ⟨u, ns⟩ s = _
  simp only [execTileWatchdogLimit2, he, hx]
  exact (if_neg (by simp [h1, hend, hb, hr])).trans (atDomain_running hrun)

end

/-- Settles O25: each command takes the branch its conditions leave, and the port that a tile's start takes leaves the tile on
its engine. -/
theorem schedulerCommandsComplete : Obligations.SchedulerCommandsComplete := by
  refine ⟨fun s c k e rest hrun ha hph hq hw hres hroom hsteps => ?_, fun s c k e rest ev tgt v s1 hrun ha hph hq hw hv => ⟨fun hlt => ?_, fun hle hres hroom hsteps => ?_⟩,
    fun s c k now r rest hrun hph hr hf hb => entryRetire_retires hrun hph hr hf hb now,
    fun s c k now far r hrun ha hph hi hr hres => ?_, fun s c k now far i hrun ha hph hi => stepRelease_places hrun ha hph hi now far,
    fun s u now c k hrun ho ht hk => ⟨_, engineTileBoundary_starts hrun ho ht hk now, engOf_startTile ..⟩,
    fun s u ns e f x hrun he hf hx hd => tileComplete_charges he hx hrun hf hd ns,
    fun s u e x hrun he hx h0 hend hp => tileWatchdog_expires he hx hrun h0 hend hp,
    fun s u ns e x hrun he hx h1 hend hb hr => tileWatchdogLimit2_resets he hx hrun h1 hend hb hr ns⟩
  · exact ⟨_, queueHeadRelease_free hrun ha hph hq hw hres hroom hsteps, _, rfl, rfl, rfl, rfl, rfl, rfl⟩
  · exact queueHeadRelease_early hrun ha hph hq hw hv hlt
  · exact ⟨_, queueHeadRelease_due hrun ha hph hq hw hv hle hres hroom hsteps, _, rfl, rfl, rfl, rfl⟩
  · have hgo := stepRelease_continues hrun ha hph hi hr hres now far
    refine ⟨fun ho => ?_, fun ho => ?_, fun ho ht => ?_⟩
    · rw [hgo, if_neg (by simp [ho])]
    · rw [hgo, if_pos ho]
    · rw [hgo, if_pos ho, runWork_releaseNext_ends ht]

end Sys2Proof.Machine
end

section
/-!
Shoal engines (R164–R189).
-/
namespace Sys2Proof.Machine

/-- A command of a gather that runs does its work. -/
theorem atGather_runs {s u : State} {n c : Nat} {t : OnTile} {g : Gather} (h : GatherRuns s n c t g) {f : Nat → OnTile → Gather → Option State}
    (hf : f c t g = some u) : atGather s n f = .next u := by
  obtain ⟨ht, hg, ho, hw⟩ := h
  simp only [atGather, ht, hg, ho, hf]
  exact atDomain_running hw

/-- A bag after its last occurrence: to be replayed where the guard asks for it, and ready otherwise (R180, R185). -/
def bagPooled (g : Gather) (b : Nat) : Bag :=
  let x := tgetD g.bags b (Bag.new g.tbl.dim)
  if g.guardFires x then { x with ph := .replay } else { x with ph := .ready, acc := g.settled b x.acc }

section
variable {s : State} {n : Idx64} {t : OnTile} {c : Nat}

theorem gatherTileStart_starts (ht : newTile s (gpUnit n.val) = some t) (ho : unitOwner s (gpUnit n.val) = some c) (hw : Works s (gpUnit n.val)) :
    exec (.gatherTileStart n) s =
      .next (if t.eng.abort then endTile s (gpUnit n.val) .aborted else runWork s (startGather c n.val t)) := by
  show execGatherTileStart n s = _
  simp only [execGatherTileStart, ht, ho]
  exact abortOrWork_works hw _ _

variable {g : Gather} (h : GatherRuns s n.val c t g)
include h

theorem dedupPass_builds (hd : g.passDue = true) (hs : sliceTurn s n.val t = true) (hh : g.tbl.hash = true → running s (80 + n.val / 8) = true) :
    exec (.dedupPass n) s = .next (runWork s (dedupPass c n.val g)) := by
  refine atGather_runs h (if_pos ?_)
  rw [hd, hs]
  cases hash : g.tbl.hash with
  | false => rfl
  | true => exact hh hash

theorem rowFetchDone_arrives {s1 : State} {row : BitVec 40} {f : Fetched} (hr : tfind g.rows row.toNat = some none) (hl : thas g.lost row.toNat = false)
    (hf : fetchRow (engWho c (gpUnit n.val) g.ctx) g row.toNat s = .ok (f, s1)) :
    exec (.rowFetchDone n row) s = .next (arriveRow s1 c n.val g row.toNat f) := by
  refine atGather_runs h ((if_pos (by simp [hr, hl])).trans ?_)
  exact congrArg some (runWork_ok ((work_bind hf).trans rfl))

theorem rowPool_pools {pos : BitVec 17} {b : Nat} {r : Option Nat} {l : List Word} (hr : tfind g.occ pos.toNat = some r)
    (hb : g.bagOf pos.toNat = some b) (hnext : g.next? r = true) (hl : g.yields r = some l) :
    exec (.rowPool n pos) s = .next (runWork s (poolAt c n.val g pos.toNat b r l)) := by
  refine atGather_runs h ?_
  simp only [hr, hb, hnext, hl]
  rfl

theorem bagEnd_ends {bag : BitVec 12} (hb : bag.toNat < g.cmd.nbag) (he : g.emitted ≤ bag.toNat)
    (hp : (tgetD g.bags bag.toNat (Bag.new g.tbl.dim)).ph = .pooling)
    (hlen : (tgetD g.bags bag.toNat (Bag.new g.tbl.dim)).occs.length = g.bagLen bag.toNat) : exec (.bagEnd n bag) s =
      .next (if t.eng.abort then endTile s (gpUnit n.val) .aborted
        else setGather s n.val { g with bags := tput g.bags bag.toNat (bagPooled g bag.toNat) }) := by
  refine atGather_runs h ((if_neg (by simp [hb, he, hp, hlen])).trans ?_)
  split
  · rfl
  · rfl

theorem bagReplayDone_replays {bag : BitVec 12} {x : Bag} (hx : tfind g.bags bag.toNat = some x) (hp : x.ph = .replay) :
    exec (.bagReplayDone n bag) s = .next (runWork s (replayBag c n.val g bag.toNat x)) := by
  refine atGather_runs h ?_
  simp only [hx, hp]
  rfl

theorem bagOutput_emits {x : Bag} (hx : tfind g.bags g.emitted = some x) (hp : x.ph = .ready) : exec (.bagOutput n) s =
      .next (if t.eng.abort then endTile s (gpUnit n.val) .aborted else runWork s (emitBag c n.val t g x)) := by
  refine atGather_runs h ?_
  simp only [hx, hp]
  cases t.eng.abort
  · rfl
  · rfl

end

/-! ### Pooling (R180, R181) -/

/-- The gather once an occurrence of weight `w` has been pooled into its bag (R180, R181). -/
def pooledWith (g : Gather) (b pos : Nat) (r : Option Nat) (l : List Word) (w : Word) : Gather :=
  Gather.pooled { g with bags := tput g.bags b ((tgetD g.bags b (Bag.new g.tbl.dim)).pool g.cmd.mode
    ⟨r, l, w, (r.map (thas g.lost)).getD false⟩) } pos

/-- An occurrence is pooled in the state that the reading of its weight has reached. -/
theorem runWork_poolAt {s s1 : State} {c n pos b : Nat} {g : Gather} {w : Word} (hw : readWeight (engWho c (gpUnit n) g.ctx) g pos s = .ok (.ok w, s1))
    (r : Option Nat) (l : List Word) : runWork s (poolAt c n g pos b r l) =
      incCtr (incCtr (setFill s1 n (pooledWith g b pos r l w)) (C.GP_CV_ROWS c)) (C.GP_ROWS n) :=
  runWork_ok ((work_bind hw).trans rfl)

theorem readWeight_unweighted {g : Gather} (h : g.cmd.mode ≠ 2) (w : Who) (pos : Nat) (s : State) : readWeight w g pos s = .ok (.ok 0, s) := by
  rw [readWeight, if_neg h]
  rfl

theorem readWeight_weighted {g : Gather} {w : Who} {pos : Nat} {s s1 : State} {b : List Byte} (h : g.cmd.mode = 2)
    (hb : readAt w (g.cmd.wgt + 4 * pos) 4 s = .ok (.ok b, s1)) : readWeight w g pos s = .ok (.ok (BitVec.ofNat 32 (leAt b 0 4)), s1) := by
  rw [readWeight, if_pos h]
  exact (work_bind hb).trans rfl

/-- Settles O27: a command of a gather that runs takes the branch its conditions leave, and pools with the weight that it has read. -/
theorem gatherCommandsComplete : Obligations.GatherCommandsComplete := by
  refine ⟨fun s n t c ht ho hw => gatherTileStart_starts ht ho hw, fun s n t g c h hd hs hh => dedupPass_builds h hd hs hh,
    fun s s1 n t g c row f h hr hl hf => rowFetchDone_arrives h hr hl hf,
    fun s n t g c b pos r l h hr hb hnext hl => ⟨fun hm => ?_, fun hm w s1 hread => ?_⟩,
    fun s n t g c bag h hb he hp hlen => ⟨fun ha => ?_, fun ha hg => ?_, fun ha hg => ?_⟩,
    fun s n t g c bag x h hx hp => bagReplayDone_replays h hx hp, fun s n t g c x h hx hp => bagOutput_emits h hx hp,
    fun s q k hq => ⟨?_, fun hs => ?_, fun hs => ?_⟩⟩
  · rw [rowPool_pools h hr hb hnext hl, runWork_poolAt (readWeight_unweighted hm ..)]
    rfl
  · rw [rowPool_pools h hr hb hnext hl, runWork_poolAt (readWeight_weighted hm hread), pooledWith, hm]
  · rw [bagEnd_ends h hb he hp hlen, if_pos ha]
  · rw [bagEnd_ends h hb he hp hlen, if_neg (Bool.eq_false_iff.1 ha), bagPooled, if_pos hg]
  · rw [bagEnd_ends h hb he hp hlen, if_neg (Bool.eq_false_iff.1 ha), bagPooled, if_neg (Bool.eq_false_iff.1 hg)]
  · exact atFabric_manages hq _
  · exact (atFabric_manages hq _).trans (congrArg Host.Outcome.next (if_pos hs))
  · exact (atFabric_manages hq _).trans (congrArg Host.Outcome.next (if_neg (Bool.eq_false_iff.1 hs)))

end Sys2Proof.Machine
end

section
/-!
Live tables: slot operations, delta tiles, flips, drains, limbo and compaction (R193–R207).
-/
namespace Sys2Proof.Machine

/-! ### Slot operations (R193, R194, R203) -/

/-- A slot operation is taken while none runs. -/
theorem slotOp_taken {s t : State} {q : Requester} {f : State → State} (hq : Manages s q) (hb : s.en.bind = none) (h : f s = t) :
    slotOp s q f = .next t := by
  rw [slotOp, hb, ← h]
  exact atFabric_manages hq _

section
variable {s : State} {q : Requester} {c : CoveId} {slot : Idx64}

theorem tuBind_binds (hq : Manages s q) (hb : s.en.bind = none) {e : Fin 8} (hc : coveExists s c.val = true) (ho : ownerOf s kTU e.val = some c.val)
    (ht : tabOf s c.val slot.val = none) (ctx : BitVec 12) : exec (.tuBind q c slot ctx e) s =
      .next (setFlag { s with en := { s.en with
        bind := some ⟨1, c.val, slot.val, ctx.toNat, e.val, fld64 s F.TU_BIND_DESC_LO_DVA_LO F.TU_BIND_DESC_HI_DVA_HI⟩ } } F.TU_BIND_STATUS_BUSY true) := by
  show execTuBind q c slot ctx e s = _
  unfold execTuBind
  exact slotOp_taken hq hb ((if_neg (by simp [ht])).trans (if_neg (by simp [hc, ho])))

theorem tuBindDone_completes {s1 t : State} {b : Bind} (hb : s.en.bind = some b) (hw : Works s (tuUnit b.eng)) (h : bindWork s b s = .ok (t, s1)) :
    exec .tuBindDone s = .next t := by
  have hwork : slotWork s b (bindWork s b) = t := by rw [slotWork, h]
  show execTuBindDone s = _
  simp only [execTuBindDone, hb, hwork]
  exact atDomain_running hw

variable {x : TSlot} (hq : Manages s q) (hb : s.en.bind = none) (hx : tabOf s c.val slot.val = some x)
include hq hb hx

theorem tuUnbind_bound : exec (.tuUnbind q c slot) s =
    .next (if slotPinned s c.val slot.val x then bindEnd s 4 else bindEnd (dropSlot s c.val slot.val) 0) := by
  show execTuUnbind q c slot s = _
  unfold execTuUnbind
  exact slotOp_taken hq hb (by rw [hx])

theorem tuDiscardPending_bound : exec (.tuDiscardPending q c slot) s = .next (if slotPinned s c.val slot.val x then bindEnd s 4
    else slotWork s ⟨3, c.val, slot.val, x.ctx, x.eng, x.desc⟩ (doDiscard c.val slot.val x)) := by
  show execTuDiscardPending q c slot s = _
  unfold execTuDiscardPending
  exact slotOp_taken hq hb (by rw [hx])

theorem tuCompactNow_bound : exec (.tuCompactNow q c slot) s = .next (bindEnd (startFold s c.val slot.val false) 0) := by
  show execTuCompactNow q c slot s = _
  unfold execTuCompactNow
  exact slotOp_taken hq hb (by rw [hx])

end

/-! ### Delta tiles (R201, R202) -/

section
variable {s : State} {n : Fin 8} {t : OnTile} {c : Nat} (ho : unitOwner s (tuUnit n.val) = some c) (hw : Works s (tuUnit n.val))
include ho hw

theorem deltaTileStart_starts (ht : newTile s (tuUnit n.val) = some t) : exec (.deltaTileStart n) s = .next (runWork s (startDelta c n.val t)) := by
  show execDeltaTileStart n s = _
  simp only [execDeltaTileStart, ht, ho]
  exact atDomain_running hw

theorem deltaRecord_applies {d : Delta} {x : TSlot} (ht : liveTile s (tuUnit n.val) = some t) (hd : deltaOf s n.val = some d)
    (hx : tabOf s c d.tslot = some x) : exec (.deltaRecord n) s = .next (runWork s (applyRecord c n.val d x)) := by
  show execDeltaRecord n s = _
  simp only [execDeltaRecord, ht, hd, ho, hx]
  exact atDomain_running hw

end

/-! ### Flips (R204) -/

/-- The flip that the registers name. -/
def flipAsked (s : State) : Flip :=
  ⟨fld64 s F.TU_FLIP_MASK_LO F.TU_FLIP_MASK_HI, fld64 s F.TU_FLIP_TGT_LO F.TU_FLIP_TGT_HI, fld s F.TU_FLIP_EVENT,
    fld64 s F.TU_FLIP_VAL_LO F.TU_FLIP_VAL_HI, false⟩

section
variable {s : State} {c : CoveId}

theorem tuFlipGo_takes {q : Requester} (hq : Manages s q) (h : flipRefusal s c.val (fld64 s F.TU_FLIP_MASK_LO F.TU_FLIP_MASK_HI) = none) :
    exec (.tuFlipGo q c) s = .next { s with en := { s.en with flips := tput s.en.flips c.val (flipAsked s) } } := by
  refine (atFabric_manages hq _).trans (congrArg Host.Outcome.next ?_)
  rw [h]
  rfl

theorem tuFlipGo_refuses {q : Requester} {k : Nat} (hq : Manages s q)
    (h : flipRefusal s c.val (fld64 s F.TU_FLIP_MASK_LO F.TU_FLIP_MASK_HI) = some k) : exec (.tuFlipGo q c) s =
      .next (setFld (setFlag s (F.TU_FLIP_STATUS_REFUSED c.val) true) (F.TU_FLIP_STATUS_CODE c.val) k) := by
  refine (atFabric_manages hq _).trans ?_
  rw [h]

variable {f : Flip} (hf : tfind s.en.flips c.val = some f)
include hf

theorem flipArm_arms {e : Nat} (he : flipEngine s c.val f.mask = some e) (ha : f.armed = false) (hp : flipPinned s c.val f.mask = false)
    (hd : (maskSlots f.mask).any (deltaRuns s c.val) = false) (hrun : running s (unitDomain (tuUnit e)) = true) : exec (.flipArm c) s =
      .next (armEntry { s with en := { s.en with flips := tput s.en.flips c.val { f with armed := true } } }
        ⟨c.val, .flip c.val, f.target, flipTaps s c.val⟩) := by
  show execFlipArm c s = _
  simp only [execFlipArm, hf, he]
  exact (if_neg (by simp only [ha, hp, hd]; exact Bool.false_ne_true)).trans (atDomain_running hrun)

theorem flipOutcome_ends {s1 : State} {r : SlateReport} (hrun : running s 94 = true) (hr : takeReport s (fun a => a == .flip c.val) = some (r, s1)) :
    exec (.flipOutcome c) s = .next (flipEnd s1 c.val f r) := by
  show execFlipOutcome c s = _
  simp only [execFlipOutcome, hf, hr]
  exact atDomain_running hrun

end

/-! ### Drains, limbo and compaction (R206, R207) -/

/-- The count of the edge that a pair has drained: one that it has received and not yet acknowledged is not its own yet. -/
def drainedCount (s : State) (p : Nat) : Nat := if (tapOf s (128 + p)).recv.isSome then (tapOf s (128 + p)).count - 1 else (tapOf s (128 + p)).count

theorem pairDrainAck_acks {s : State} {p : Fin 32} (hrun : running s (32 + p.val) = true) (hs : (tapOf s (128 + p.val)).resync = false)
    (hx : ∀ e ∈ s.xl.xfers, e.2.eng = true → e.2.src ≠ gpUnit (2 * p.val) ∧ e.2.src ≠ gpUnit (2 * p.val + 1)) : exec (.pairDrainAck p) s =
      .next { s with en := { s.en with drained := tput s.en.drained p.val (drainedCount s p.val) } } := by
  have hidle : s.xl.xfers.any (fun e => e.2.eng && (e.2.src == gpUnit (2 * p.val) || e.2.src == gpUnit (2 * p.val + 1))) = false := by
    rw [List.any_eq_false]
    intro e he hb
    simp only [Bool.and_eq_true, Bool.or_eq_true, beq_iff_eq] at hb
    obtain ⟨h0, h1⟩ := hx e he hb.1
    exact hb.2.elim h0 h1
  show execPairDrainAck p s = _
  simp only [execPairDrainAck, hidle, hs]
  exact atDomain_running hrun

theorem limboRelease_frees {s s1 : State} {n : Fin 8} {rest : List Limbo} (hw : Works s (tuUnit n.val)) (hl : tgetD s.en.limbo n.val [] ≠ [])
    (hf : freeLimbo (tgetD s.en.limbo n.val []) s = .ok (rest, s1)) : exec (.limboRelease n) s =
      .next { s1 with en := { s1.en with limbo := tsetD s1.en.limbo n.val [] rest } } := by
  show execLimboRelease n s = _
  unfold execLimboRelease
  cases hq : tgetD s.en.limbo n.val [] with
  | nil => exact absurd hq hl
  | cons l ls =>
    rw [hq] at hf
    exact (atDomain_running hw).trans (congrArg Host.Outcome.next (runWork_ok ((work_bind hf).trans rfl)))

section
variable {s : State} {c : CoveId} {slot : Idx64} {x : TSlot} (hx : tabOf s c.val slot.val = some x) (hw : Works s (tuUnit x.eng))
include hx hw

theorem compactionMoveDone_asks (hf : x.folding = none) (hc : x.compacting = true) :
    exec (.compactionMoveDone c slot) s = .next (runWork s (askFold c.val slot.val x)) := by
  show execCompactionMoveDone c slot s = _
  simp only [execCompactionMoveDone, hx, hf, hc]
  exact atDomain_running hw

theorem compactionMoveDone_clears {f : Fold} {s1 : State} {y : TSlot} (hf : x.folding = some f) (hd : f.done = true) (hl : limboFull s x.eng = false)
    (h1 : runWork s (clearFold c.val slot.val x f) = s1) (hy : tabOf s1 c.val slot.val = some y) : exec (.compactionMoveDone c slot) s =
      .next (if y.folding.isNone && y.compacting then runWork s1 (askFold c.val slot.val y) else s1) := by
  show execCompactionMoveDone c slot s = _
  simp only [execCompactionMoveDone, hx, hf, hd, hl, h1, hy]
  exact atDomain_running hw

end

/-- Settles O28: each command of a slot, a tile or a flip takes the branch its conditions leave. -/
theorem tableCommandsComplete : Obligations.TableCommandsComplete := by
  refine ⟨fun s q c slot ctx e hq hb hc ho ht => ?_, fun s s1 t b hb hw h => tuBindDone_completes hb hw h,
    fun s q c slot x hq hb hx => ⟨fun hp => ?_, fun hp => ?_, fun hp => ?_, tuCompactNow_bound hq hb hx⟩,
    fun s n t c ht ho hw => deltaTileStart_starts ho hw ht, fun s n t d c x ht hd ho hx hw => deltaRecord_applies ho hw ht hd hx,
    fun s q c hq => ⟨fun h => ?_, fun k h => tuFlipGo_refuses hq h⟩,
    fun s c f e hf he ha hp hd hrun => flipArm_arms hf he ha hp hd hrun, fun s s1 c f r hrun hf hr => flipOutcome_ends hf hrun hr,
    fun s p hrun hs hx => ?_, fun s s1 n rest hw hl hf => limboRelease_frees hw hl hf,
    fun s c slot x hx hw => ⟨fun hf hc => compactionMoveDone_asks hx hw hf hc, fun f s1 y hf hd hl h1 hy => compactionMoveDone_clears hx hw hf hd hl h1 hy⟩⟩
  · exact ⟨_, tuBind_binds hq hb hc ho ht ctx, flag_setFlag_true rfl rfl _, rfl,
      ((setFlag_ext ..).after rfl (Ext.withEn rfl (.refl 16385 s)) : Ext 16385 s _).only rfl⟩
  · rw [tuUnbind_bound hq hb hx, if_neg (Bool.eq_false_iff.1 hp)]
  · rw [tuUnbind_bound hq hb hx, if_pos hp]
  · rw [tuDiscardPending_bound hq hb hx, if_neg (Bool.eq_false_iff.1 hp)]
  · exact ⟨_, tuFlipGo_takes hq h, tfind_tput_self .., (Ext.withEn rfl (.refl 16384 s) : Ext 16384 s _).only rfl⟩
  · exact ⟨_, pairDrainAck_acks hrun hs hx, tfind_tput_self .., (Ext.withEn rfl (.refl 16384 s) : Ext 16384 s _).only rfl⟩

end Sys2Proof.Machine
end

section
/-!
What a write of a cove's bitmap leaves as it was, whether it is cached, written back or fails (R157–R160).
-/
namespace Sys2Proof.Machine

/-- A write of a field of another register leaves a cove's state as it was. -/
theorem coveSt_setFld {c : Nat} {g : Fld} (hg : 0xD0008 + 0x80 * c ≠ g.off) (hl : g.lo < 32 := by simp) (s : State) (v : Nat) :
    coveSt (setFld s g v) c = coveSt s c := fld_setFld_ne _ _ (Fld.key_ne_of_off hg (by simp) hl)

theorem coveSt_setFlag {c : Nat} {g : Fld} (hg : 0xD0008 + 0x80 * c ≠ g.off) (hl : g.lo < 32 := by simp) (s : State) (b : Bool) :
    coveSt (setFlag s g b) c = coveSt s c := coveSt_setFld hg hl _ _

theorem Ext.coveSt {m : Nat} {s t : State} (h : Ext m s t) (hm : m.testBit 0 = false) (c : Nat) : Machine.coveSt t c = Machine.coveSt s c :=
  h.fld_eq hm _

theorem coveSt_raiseSrc {c i : Nat} (hc : c < 16) (hi : srcClass i ≠ 0) (s : State) : coveSt (raiseSrc s i) c = coveSt s c :=
  fld_raiseSrc (Fld.key_ne_of_off (by dsimp only; omega)) (Fld.key_ne_of_off (by dsimp only; omega)) hi s

/-- The numbers of the epochs and the states of the coves, which no write of a bitmap changes. -/
structure DlLeaves (s t : State) : Prop where
  epochs : t.xl.dlEpochs = s.xl.dlEpochs
  states : ∀ c < 16, coveSt t c = coveSt s c

theorem DlLeaves.refl (s : State) : DlLeaves s s := ⟨rfl, fun _ _ => rfl⟩

theorem DlLeaves.trans {s t u : State} (h : DlLeaves s t) (k : DlLeaves t u) : DlLeaves s u :=
  ⟨k.epochs.trans h.epochs, fun c hc => (k.states c hc).trans (h.states c hc)⟩

theorem DlLeaves.ite {p : Prop} [Decidable p] {s t u : State} (h : DlLeaves s t) (k : DlLeaves s u) : DlLeaves s (if p then t else u) := by
  split
  · exact h
  · exact k

theorem DlLeaves.foldl {α : Type} {g : State → α → State} (h : ∀ t a, DlLeaves t (g t a)) (l : List α) (s : State) : DlLeaves s (l.foldl g s) :=
  List.foldlRecOn (motive := DlLeaves s) _ _ (.refl s) fun t ht a _ => ht.trans (h t a)

theorem dlFail_leaves (s : State) (d : Nat) : DlLeaves s (dlFail s d) where
  epochs := (congrArg XlSt.dlEpochs ((raiseSrc_ext _ 515).same .xl rfl)).trans rfl
  states c hc := by
    have away {k : Nat} (hk : k % 0x40 ≠ 8) : 0xD0008 + 0x80 * c ≠ k := by omega
    refine (coveSt_raiseSrc hc (by decide) _).trans ?_
    rw [coveSt_setFld (away (by dsimp only; omega)), coveSt_setFld (away (by dsimp only; omega)), coveSt_setFlag (away (by dsimp only; omega)),
      coveSt_setFlag (away (by dsimp only; omega)), coveSt_setFlag (away (by dsimp only; omega))]
    rfl

theorem dlWriteBack_leaves (s : State) (d : DirtyLine) : DlLeaves s (dlWriteBack s d) := by
  have hw : DlLeaves s (hostWrite s d.addr (lineBytes (d.data ||| d.marks))).2 :=
    ⟨congrArg XlSt.dlEpochs ((hostWrite_ext ..).same .xl rfl), fun c _ => (hostWrite_ext ..).coveSt rfl c⟩
  unfold dlWriteBack
  dsimp only
  split
  · exact hw
  · exact hw.trans (dlFail_leaves ..)

theorem dlPut_leaves (s : State) (d : DirtyLine) : DlLeaves s (dlPut s d) := by
  have hadd (t : State) : DlLeaves t (if dlTakes t d then
      emit { t with xl := { t.xl with dlc := t.xl.dlc ++ [d] } } (.hostRead 0 (d.addr % 2 ^ 64) 64) else t) := .ite ⟨rfl, fun _ _ => rfl⟩ (.refl t)
  unfold dlPut
  refine .ite ⟨rfl, fun _ _ => rfl⟩ (.ite (hadd s) ?_)
  dsimp only
  split
  · next e _ =>
    have hdrop : DlLeaves s { s with xl := { s.xl with dlc := s.xl.dlc.erase e } } := ⟨rfl, fun _ _ => rfl⟩
    exact hdrop.trans ((dlWriteBack_leaves _ e).trans (hadd _))
  · exact ⟨rfl, fun _ _ => rfl⟩

theorem markDirty_leaves (s : State) (client cove ctx dva fpa : Nat) (dl : Bool) (acc : Access) (r : Resp) :
    DlLeaves s (markDirty s client cove ctx dva fpa dl acc r) := by
  have hmark (t : State) (page : Nat) : DlLeaves t (dlMark t cove page) := dlPut_leaves ..
  have hset (l : List Leaf) : DlLeaves s (setTlb s client l) := ⟨rfl, fun _ _ => rfl⟩
  exact .ite (.refl s) (.ite (.refl s) ((hset _).trans (hmark ..)))

theorem markXfer_leaves (s : State) (x : Xfer) (r : Resp) : DlLeaves s (markXfer s x r) := by
  unfold markXfer
  split
  · split
    · exact markDirty_leaves ..
    · exact .refl s
  · exact .refl s

theorem markPerformed_leaves (s : State) (c : Nat) : DlLeaves s (markPerformed s c) := by
  refine .foldl (fun t e => ?_) _ s
  dsimp only
  split
  · next r _ =>
    have hset (u : State) (x : Xfer) : DlLeaves u (setXfer u e.1 x) := ⟨rfl, fun _ _ => rfl⟩
    exact .ite ((markXfer_leaves t e.2 r).trans (hset ..)) (.refl t)
  · exact .refl t

end Sys2Proof.Machine
end

section
/-!
A cove reset leaves the cove RESETTING with its command processor in reset (R310, R394): no part of the reset writes the cove's state again.
-/
namespace Sys2Proof.Machine

section
variable {c : Nat} (hc : c < 16)
include hc

theorem coveSt_resetFlip (s : State) : coveSt (resetFlip s c) c = coveSt s c := by
  have ho (t : State) (v : Nat) : coveSt (setFld t (F.TU_FLIP_STATUS_OUTCOME c) v) c = coveSt t c := coveSt_setFld (by dsimp only; omega) (by simp) _ _
  unfold resetFlip
  split
  · rfl
  · split
    · rename_i r t ht
      have hr : coveSt t c = coveSt s c := (takeReport_ext ht).coveSt rfl c
      split
      · exact (ho ..).trans hr
      · dsimp only
        rw [setFld64, coveSt_setFld (by dsimp only; omega), coveSt_setFld (by dsimp only; omega), coveSt_setFlag (by dsimp only; omega), ho, hr]
    · exact ho ..

theorem coveSt_resetTide (s : State) : coveSt (resetTide s c) c = coveSt s c := by
  have hf : coveSt (resetFlip (cancelSlate s c) c) c = coveSt s c := (coveSt_resetFlip hc _).trans ((cancelSlate_ext ..).coveSt rfl c)
  have hg : Ext 16 (resetFlip (cancelSlate s c) c) (resetTide s c) := .withTide rfl (.fold (fun _ _ => (setTap_ext ..).mono rfl)
    (.ite ((setMaster_ext ..).mono rfl) (.refl _ _)))
  exact (hg.coveSt rfl c).trans hf

theorem coveSt_resetObjects (s : State) : coveSt (resetObjects s c) c = coveSt s c := by
  simp only [resetObjects]
  rw [coveSt_setFlag (by dsimp only; omega), coveSt_setFlag (by dsimp only; omega), coveSt_setFlag (by dsimp only; omega),
    coveSt_setFld (by dsimp only; omega), coveSt_setFld (by dsimp only; omega), coveSt_setFld (by dsimp only; omega),
    coveSt_setFld (by dsimp only; omega), coveSt_setFlag (by dsimp only; omega), coveSt_setFlag (by dsimp only; omega),
    coveSt_setFlag (by dsimp only; omega), coveSt_setFlag (by dsimp only; omega), coveSt_setFlag (by dsimp only; omega)]
  rfl

theorem coveSt_dlToggle (s : State) (on : Bool) (base : Nat) : coveSt (dlToggle s c on base) c = coveSt s c := by
  refine Eq.trans ?_ ((markPerformed_leaves s c).states c hc)
  have away {k : Nat} (hk : k % 0x40 ≠ 8) : 0xD0008 + 0x80 * c ≠ k := by omega
  refine (coveSt_setFld (away (by dsimp only; omega)) (by simp) _ _).trans ?_
  rw [coveSt_setFld (away (by dsimp only; omega)), coveSt_setFlag (away (by dsimp only; omega)), coveSt_setFlag (away (by dsimp only; omega)),
    coveSt_setFlag (away (by dsimp only; omega))]

theorem coveSt_resetXlate (s : State) : coveSt (resetXlate s c) c = coveSt s c := by
  have hd : coveSt (dropCoveXlate s c) c = coveSt s c := (dropCoveXlate_ext ..).coveSt rfl c
  have hq (t : State) : coveSt (setFld (setFld t (F.XL_WQ_PROD_PROD c) 0) (F.XL_WQ_CONS_CONS c) 0) c = coveSt t c := by
    rw [coveSt_setFld (by dsimp only; omega), coveSt_setFld (by dsimp only; omega)]
  unfold resetXlate
  dsimp only
  split
  · exact (coveSt_dlToggle hc ..).trans ((hq _).trans hd)
  · exact (hq _).trans hd

theorem coveSt_resetSecurity (s : State) : coveSt (resetSecurity s c) c = coveSt s c := by
  refine ((assignCopies_ext _).coveSt rfl c).trans ?_
  have hend : coveSt (endSession s c) c = coveSt s c := coveSt_setFlag (by dsimp only; omega) (by simp) _ _
  dsimp only [showCopies]
  rw [coveSt_setFld (by dsimp only; omega), coveSt_setFlag (by dsimp only; omega), coveSt_setFlag (by dsimp only; omega),
    coveSt_setFlag (by dsimp only; omega), coveSt_setFlag (by dsimp only; omega), (setCopies_ext ..).coveSt rfl, hend]

theorem coveSt_clearCoveSrcs (s : State) (removal : Bool) : coveSt (clearCoveSrcs s c removal) c = coveSt s c := by
  unfold clearCoveSrcs coveSt
  generalize List.range 32 = l
  refine (fld_foldl_of_step (fun t k => ?_) l _).trans ?_
  · rfl
  exact coveSt_setFld (by dsimp only; omega) (by simp) _ _

theorem coveSt_resetBeacon (s : State) (removal : Bool) : coveSt (resetBeacon s c removal) c = coveSt s c := by
  unfold resetBeacon beaconStep coveSt
  generalize List.range 64 = l
  dsimp only
  rw [fld_deliver, if_neg Bool.false_ne_true, fld_foldl_of_step fun t a => by split <;> rfl]
  exact coveSt_clearCoveSrcs hc s removal

theorem coveSt_clearRequests (s : State) : coveSt (clearRequests s c) c = coveSt s c := by
  have hreq : ∀ t : State, ∀ i ∈ List.range 6, coveSt (setFlag t (F.VS_COVE_REQ_VALID i c) false) c = coveSt t c := fun t i hi =>
    coveSt_setFlag (by dsimp only; omega) (by simp) _ _
  have hre : ∀ t : State, ∀ i, coveSt (retarget t i) c = coveSt t c := fun t i => by
    unfold retarget
    dsimp only
    split
    · rfl
    · rw [coveSt_setFld (by dsimp only; omega), coveSt_setFld (by dsimp only; omega)]
      split
      · split <;> rfl
      · rfl
  exact (fld_foldl_of_step hre _ _).trans
    (List.foldlRecOn (motive := fun t => coveSt t c = coveSt s c) _ _ rfl fun t ht i hi => (hreq t i hi).trans ht)

theorem coveSt_showScale (s : State) : coveSt (showScale s c) c = coveSt s c := by
  have hsrc : srcClass (32 * c + 2) ≠ 0 := by
    have hlt : 32 * c + 2 < 512 := by omega
    have hk : (32 * c + 2) % 32 = 2 := by omega
    simp [srcClass, hlt, hk]
  have hrt : coveSt (showRtbw s c) c = coveSt s c := coveSt_setFld (by dsimp only; omega) (by simp) _ _
  have hraise (t : State) (b : Bool) (k : Nat) : coveSt (raiseSrc (setFlag (setFlag (setFld t (F.BW_CV_STATUS_SCALE c) k) (F.BW_CV_STATUS_SCALED c) b)
      (F.BW_CV_STATUS_SCALE_CHG c) true) (32 * c + 2)) c = coveSt t c := by
    rw [coveSt_raiseSrc hc hsrc, coveSt_setFlag (by dsimp only; omega), coveSt_setFlag (by dsimp only; omega), coveSt_setFld (by dsimp only; omega)]
  unfold showScale
  dsimp only
  split
  · exact hrt
  · split
    · rw [coveSt_raiseSrc hc (by decide), coveSt_setFlag (by dsimp only; omega), hraise, hrt]
    · rw [hraise, hrt]

/-- Nothing that a cove reset does to the parts of the cove changes the cove's state. -/
theorem coveSt_resetParts (s : State) : coveSt (resetParts s c false) c = coveSt s c := by
  unfold resetParts
  rw [(retrySlots_ext _).coveSt rfl, (emit_ext ..).coveSt rfl, (Ext.withSc rfl (.refl 32768 _) : Ext 32768 _ _).coveSt rfl,
    if_neg Bool.false_ne_true, coveSt_showScale hc, coveSt_clearRequests hc, (clearCounters_ext ..).coveSt rfl, (clearBanks_ext ..).coveSt rfl, (resetReguls_ext ..).coveSt rfl,
    coveSt_resetBeacon hc, coveSt_resetSecurity hc, coveSt_resetXlate hc, coveSt_resetObjects hc, (resetWork_ext ..).coveSt rfl,
    coveSt_resetTide hc]

theorem coveSt_setCoveSt {s : State} (hs : Regs.wf s = true) {v : Nat} (hv : v < 8) : coveSt (setCoveSt s c v) c = v :=
  (coveSt_setFld (by dsimp only; omega) (by simp) _ _).trans (fld_setFld_of_lt hs _ hv)

theorem coveSt_beginReset {s : State} (hs : Regs.wf s = true) (scrub : Bool) : coveSt (beginReset s c scrub) c = 4 := by
  have hm : Ext 32769 s (if thas s.sc.mig c then endMigration s c 11 else s) := .ite (endMigration_ext ..) (.refl _ _)
  have hp := (coveSt_resetParts hc _).trans (coveSt_setCoveSt hc (hm.regs hs) (v := 4) (by decide))
  unfold beginReset
  dsimp only
  split
  · exact ((scrubCove_ext ..).coveSt rfl c).trans hp
  · exact hp

end

theorem cpRst_resetParts (s : State) (c : Nat) (removal : Bool) : thas (resetParts s c removal).sc.cpRst c = true := by
  refine (congrArg (fun x : SecSt => thas x.cpRst c) ((retrySlots_ext _).same .sessions rfl)).trans ?_
  exact (thas_tput ..).trans (by simp)

theorem cpRst_scrubCove (s : State) (c : Nat) : (scrubCove s c).sc.cpRst = s.sc.cpRst := by
  unfold scrubCove
  refine List.foldlRecOn (motive := fun t : State => t.sc.cpRst = s.sc.cpRst) _ _ rfl fun t ht e _ => ?_
  dsimp only
  split
  · next kid _ =>
    have htake (u : State) : (takeScrub u e.1 kid).sc = u.sc := (takeScrub_ext ..).same .sessions rfl
    rw [htake]
    exact ht
  · exact ht

theorem cpRst_beginReset (s : State) (c : Nat) (scrub : Bool) : thas (beginReset s c scrub).sc.cpRst c = true := by
  unfold beginReset
  dsimp only
  split
  · rw [cpRst_scrubCove]
    exact cpRst_resetParts ..
  · exact cpRst_resetParts ..

end Sys2Proof.Machine
end

section
/-!
Quiesce, cove reset, the reset of a virtual function and the hang of a command processor (R305–R307, R310, R311, R394, R395).
-/
namespace Sys2Proof.Machine

/-- The class of a cove's attention source (R291). -/
theorem srcClass_attnSrc {c : Nat} (hc : c < 16) : srcClass (attnSrc c) = 2 := by
  have h1 : ¬ attnSrc c < 512 := by unfold attnSrc; omega
  have h2 : ¬ attnSrc c ≤ 524 := by unfold attnSrc; omega
  have h3 : 544 ≤ attnSrc c ∧ attnSrc c < 592 := by unfold attnSrc; omega
  simp [srcClass, h1, h2, h3]

/-- A flag beside the state in the manager's register leaves the state. -/
theorem coveSt_setFlag_beside {c : Nat} {g : Fld} (ho : g.off = 0xD0008 + 0x80 * c) (hl : g.lo ≠ 0) (s : State) (b : Bool) :
    coveSt (setFlag s g b) c = coveSt s c := fld_setFld_ne _ _ (Fld.key_ne_of_lo ho.symm hl.symm)

section
variable {c : CoveId} (s : State)

theorem coveSt_attend : coveSt (raiseSrc s (attnSrc c.val)) c.val = coveSt s c.val :=
  coveSt_raiseSrc c.isLt (by rw [srcClass_attnSrc c.isLt]; decide) s

/-- A raise of the cove's attention source leaves a flag of the manager's register. -/
theorem flag_attend {f : Fld} (ho : f.off = 0xD0008 + 0x80 * c.val) (hl : f.lo < 32) : flag (raiseSrc s (attnSrc c.val)) f = flag s f := by
  have hc : c.val < 16 := c.isLt
  refine flag_congr (fld_raiseSrc (Fld.key_ne_of_off ?_ hl) (Fld.key_ne_of_off ?_ hl) (by rw [srcClass_attnSrc hc]; decide) s)
  · dsimp only
    omega
  · dsimp only
    omega

end

/-! ### Quiesce and release (R305–R307) -/

section
variable {s : State} {q : Requester} {c : CoveId} {v : Word}

theorem cvQuiesceReq_begins (hq : Manages s q) (hreq : bit v.toNat 0 = true) (hrel : bit v.toNat 2 = false) (hst : coveSt s c.val = 1) :
    exec (.cvQuiesceReq q c v) s = .next (beginQuiesce s c.val (bit v.toNat 1)) := by
  refine (atFabric_manages hq _).trans (congrArg Host.Outcome.next ?_)
  simp [quiesceWrite, hreq, hrel, hst]

theorem beginQuiesce_finish (hs : Regs.wf s = true) :
    coveSt (beginQuiesce s c.val false) c.val = 2 ∧ quiesceAbort (beginQuiesce s c.val false) c.val = false := by
  have hc : c.val < 16 := c.isLt
  have hk {f : Fld} : fld (beginQuiesce s c.val false) f = fld (setFlag (setCoveSt s c.val 2) (F.CV_MGR_STATUS_ABORT c.val) false) f :=
    (cancelStarts_ext ..).fld_eq rfl f
  refine ⟨hk.trans ((coveSt_setFlag_beside rfl (by simp) _ _).trans (coveSt_setCoveSt hc hs (by decide))), ?_⟩
  exact (flag_congr hk).trans (flag_setFlag_self ((setCoveSt_ext ..).regs hs) rfl false)

theorem cvQuiesceRelease_releases (hq : Manages s q) (hreq : bit v.toNat 0 = false) (hrel : bit v.toNat 2 = true) (hst : coveSt s c.val = 3)
    (ha : quiesceAbort s c.val = false) (hb : chartBusy s = false) : exec (.cvQuiesceRelease q c v) s = .next (releaseCove s c.val) := by
  refine (atFabric_manages hq _).trans (congrArg Host.Outcome.next ?_)
  simp [quiesceWrite, hreq, hrel, hst, ha, hb]

theorem coveSt_nextStart (t : State) : coveSt (nextStart t c.val) c.val = coveSt t c.val := by
  have hc : c.val < 16 := c.isLt
  have harm (u : State) (r : ArmReq) : coveSt (armEntry u r) c.val = coveSt u c.val := by
    unfold armEntry
    dsimp only
    split
    · rfl
    · show coveSt (if r.tide < 16 then setFlag u (F.TD_SLATE_FULL_SEEN r.tide) true else u) c.val = _
      split
      · exact coveSt_setFlag (by dsimp only; omega) (by simp) _ _
      · rfl
  unfold nextStart
  dsimp only
  generalize (if coveActive t c.val then (groupOf t.sq.starts c.val).waiting.take 32 else []) = now
  split
  · rfl
  · exact (harm ..).trans rfl

theorem coveSt_releaseCove (hs : Regs.wf s = true) : coveSt (releaseCove s c.val) c.val = 1 := by
  have h1 : coveSt (setCoveSt s c.val 1) c.val = 1 := coveSt_setCoveSt c.isLt hs (by decide)
  refine ((assignCopies_ext _).coveSt rfl _).trans ?_
  split
  · exact h1
  · exact (coveSt_nextStart _).trans h1

/-- A drained cove that no reset awaits is QUIESCED with ACK, and asks for attention (R306). -/
def ackQuiesce (s : State) (c : Nat) : State := raiseSrc (setFlag (setCoveSt s c 3) (F.CV_MGR_STATUS_ACK c) true) (attnSrc c)

theorem quiesceAck_acks (hrun : running s 94 = true) (hst : quiescing s c.val = true) (hd : quiesceDrained s c.val = true)
    (ha : thas s.sc.auto c.val = false) : exec (.quiesceAck c) s = .next (ackQuiesce s c.val) := by
  refine (if_neg (by simp [hst, hd])).trans ((atDomain_running hrun).trans (congrArg Host.Outcome.next ?_))
  exact if_neg (Bool.eq_false_iff.1 ha)

theorem ackQuiesce_shows (hs : Regs.wf s = true) :
    coveSt (ackQuiesce s c.val) c.val = 3 ∧ flag (ackQuiesce s c.val) (F.CV_MGR_STATUS_ACK c.val) = true := by
  refine ⟨(coveSt_attend _).trans ?_, (flag_attend _ rfl (by simp)).trans (flag_setFlag_true rfl rfl _)⟩
  exact (coveSt_setFlag_beside rfl (by simp) _ _).trans (coveSt_setCoveSt c.isLt hs (by decide))

theorem quiesceStuck_marks (hrun : running s 94 = true) (hst : quiescing s c.val = true) :
    exec (.quiesceStuck c) s = .next (raiseSrc (setFlag s (F.CV_MGR_STATUS_STUCK c.val) true) (attnSrc c.val)) :=
  (if_neg (by simp [hst])).trans (atDomain_running hrun)

/-! ### Cove reset (R310) -/

theorem cvResetGo_resets (hq : Manages s q) (hv : v.getLsbD 0 = true) (hst : coveSt s c.val = 3) :
    exec (.cvResetGo q c v) s = .next (beginReset s c.val (v.getLsbD 1)) :=
  (atFabric_manages hq _).trans (congrArg Host.Outcome.next ((if_neg (by simp [hv])).trans (if_pos hst)))

/-- The cove after its reset: ACTIVE with CLEAN set, and the reset counted in its own register and in the lifetime counter (R310). -/
def coveReset (s : State) (c : Nat) : State :=
  lbAdd (setFld (setFlag (setCoveSt s c 1) (F.CV_MGR_STATUS_CLEAN c) true) (F.CV_STATE_RESETS c) (min (fld s (F.CV_STATE_RESETS c) + 1) 65535)) 16 1

theorem coveResetDone_completes (hrun : running s 94 = true) (hst : coveSt s c.val = 4) (hw : resetWaits s c.val = false)
    (hp : thas s.sc.cpRst c.val = false) (hm : thas s.tide.masters c.val = false) (hf : thas s.sc.flr c.val = false) :
    exec (.coveResetDone c) s = .next (raiseSrc (coveReset s c.val) (attnSrc c.val)) := by
  have htide : (coveReset s c.val).tide = s.tide := rfl
  have hre : restartTide (coveReset s c.val) c.val = coveReset s c.val := if_pos (by rw [htide, hm]; rfl)
  have hsc : (raiseSrc (coveReset s c.val) (attnSrc c.val)).sc = s.sc := (raiseSrc_ext ..).same .sessions rfl
  refine (if_neg (by simp [hst, hw, hp])).trans ((atDomain_running hrun).trans (congrArg Host.Outcome.next ?_))
  show endFlr (raiseSrc (restartTide (coveReset s c.val) c.val) (attnSrc c.val)) c.val = _
  rw [hre]
  exact if_neg (by rw [hsc, hf]; decide)

theorem coveReset_shows (hs : Regs.wf s = true) : coveSt (coveReset s c.val) c.val = 1
    ∧ flag (coveReset s c.val) (F.CV_MGR_STATUS_CLEAN c.val) = true ∧ ctr (coveReset s c.val) (lbCtr 16) = min (ctr s (lbCtr 16) + 1) maxCtr := by
  have hc : c.val < 16 := c.isLt
  have hk {f : Fld} (hf : f.key ≠ (F.CV_STATE_RESETS c.val).key) :
      fld (coveReset s c.val) f = fld (setFlag (setCoveSt s c.val 1) (F.CV_MGR_STATUS_CLEAN c.val) true) f :=
    (fld_lbAdd ..).trans (fld_setFld_ne _ _ hf)
  refine ⟨(hk (Fld.key_ne_of_off (by dsimp only; omega))).trans ((coveSt_setFlag_beside rfl (by simp) _ _).trans
    (coveSt_setCoveSt hc hs (by decide))), (flag_congr (hk (Fld.key_ne_of_off (by dsimp only; omega)))).trans (flag_setFlag_true rfl rfl _), ?_⟩
  exact ctr_addCtr_self ((setFld_ext ..).regs ((setFld_ext ..).regs ((setCoveSt_ext ..).regs hs))) _ _

/-! ### The reset of a virtual function (R311) -/

theorem vfFlr_acts (h : hostClosed s = false) : exec (.vfFlr c) s = .next (actFlr s c.val) :=
  congrArg Host.Outcome.next (if_neg (Bool.eq_false_iff.1 h))

theorem actFlr_noCove (hc : coveExists s c.val = false) :
    actFlr s c.val = emit { s with sc := { s.sc with flr := tdel s.sc.flr c.val } } (.flrDone c.val) := if_pos (by simp [hc])

/-- The FLR of a cove that is RESETTING waits for that reset. -/
theorem actFlr_resetting (hc : coveExists s c.val = true) (hst : coveSt s c.val = 4) :
    actFlr s c.val = { s with sc := { s.sc with flr := tput s.sc.flr c.val true } } := by
  have h4 : coveSt { s with sc := { s.sc with flr := tput s.sc.flr c.val true } } c.val = 4 := hst
  simp [actFlr, forceReset, hc, h4]

theorem flrResetStuck_marks (hrun : running s 94 = true) (hf : thas s.sc.flr c.val = true) (hc : coveExists s c.val = true)
    (hst : coveSt s c.val ≠ 1) : exec (.flrResetStuck c) s = .next (setFlag s (F.CV_MGR_STATUS_STUCK c.val) true) :=
  (if_neg (by simp [hf, hc, hst])).trans (atDomain_running hrun)

/-! ### Hangs of the command processor (R394, R395) -/

theorem cpHang_acts (h : hostClosed s = false) (hc : coveExists s c.val = true) (hst : coveSt s c.val ≠ 4) (shared : Bool) :
    exec (.cpHang c shared) s = .next (if shared then askReset s (.cpShared c.val) else ownHang s c.val) := by
  obtain ⟨hr, hk⟩ := hostClosed_eq_false.1 h
  refine (if_neg (by simp [hr])).trans ((if_neg (by simp [hk])).trans (congrArg Host.Outcome.next ?_))
  exact if_neg (by simp [hc, hst])

theorem cpHang_own (h : hostClosed s = false) (hc : coveExists s c.val = true) (hst : coveSt s c.val ≠ 4) :
    exec (.cpHang c false) s = .next (ownHang s c.val) := cpHang_acts h hc hst false

theorem cpHang_shared (h : hostClosed s = false) (hc : coveExists s c.val = true) (hst : coveSt s c.val ≠ 4) :
    exec (.cpHang c true) s = .next (askReset s (.cpShared c.val)) := cpHang_acts h hc hst true

/-- A hang of the processor's own during an apply shows its bit and waits. -/
theorem ownHang_waits (happly : fld s F.CH_STATUS_STATE = 4) (hs : Regs.wf s = true) :
    (fld (ownHang s c.val) F.FAB_CP_STATUS_HANG).testBit c.val = true ∧ thas (ownHang s c.val).sc.hangs c.val = true := by
  have hc : c.val < 16 := c.isLt
  have hraise {f : Fld} (h1 : f.key ≠ F.BC_STATUS_NOTGT.key) (h2 : f.key ≠ F.BC_STATUS_STRAND.key) (t : State) :
      fld (raiseSrc t (attnSrc c.val)) f = fld t f := fld_raiseSrc h1 h2 (by rw [srcClass_attnSrc hc]; decide) t
  obtain ⟨t, ht⟩ : ∃ t, raiseSrc (setFld s F.FAB_CP_STATUS_HANG (fld s F.FAB_CP_STATUS_HANG ||| 2 ^ c.val)) (attnSrc c.val) = t := ⟨_, rfl⟩
  have hst : fld t F.CH_STATUS_STATE = 4 := by
    rw [← ht, hraise (by decide) (by decide), fld_setFld_ne _ _ (by decide), happly]
  have hhang : fld t F.FAB_CP_STATUS_HANG = (fld s F.FAB_CP_STATUS_HANG ||| 2 ^ c.val) % 2 ^ 16 := by
    rw [← ht, hraise (by decide) (by decide), fld_setFld_self hs]
  have hown : ownHang s c.val = { t with sc := { t.sc with hangs := tput t.sc.hangs c.val false } } := by
    unfold ownHang
    dsimp only
    rw [ht]
    exact if_pos hst
  rw [hown]
  refine ⟨?_, (thas_tput ..).trans (by simp)⟩
  show (fld t F.FAB_CP_STATUS_HANG).testBit c.val = true
  rw [hhang, Nat.testBit_mod_two_pow, Nat.testBit_or, Nat.testBit_two_pow_self]
  simp [hc]

/-- The state after the release of a command processor's reset, whose CP_IDLE is high (R394). -/
def releaseCp (s : State) (c : Nat) : State :=
  emit { s with sc := { s.sc with cpRst := tdel s.sc.cpRst c }, env := { s.env with cpIdle := tput s.env.cpIdle c true } } (.cpReset c false)

theorem cpResetRelease_releases (hrun : running s 94 = true) (hp : thas s.sc.cpRst c.val = true)
    (hw : coveSt s c.val ≠ 4 ∨ resetWaits s c.val = false) : exec (.cpResetRelease c) s = .next (releaseCp s c.val) := by
  refine (if_neg ?_).trans (atDomain_running hrun)
  rcases hw with hw | hw <;> simp [hp, hw]

theorem releaseCp_only (c : Nat) : OnlyChanges [.sessions, .env] s (releaseCp s c) := by
  intro p hp
  cases p with
  | sessions | env => exact absurd (by simp) hp
  | _ => rfl

end

/-- Settles O14, by the equation of each command; that a cove reset leaves the cove RESETTING is `coveSt_beginReset`. -/
theorem coveStateCommandsComplete : Obligations.CoveStateCommandsComplete := by
  unfold Obligations.CoveStateCommandsComplete
  refine ⟨fun s q c v hq hreq hrel hst => ⟨cvQuiesceReq_begins hq hreq hrel hst, fun ha hs => ?_⟩, fun s q c v hq hreq hrel hst ha hb hs => ?_,
    fun s c hrun hst hd ha hs => ?_, fun s c hrun hst => ?_, fun s q c v hq hv hst hs => ?_, fun s c hrun hst hw hp hm hf hs => ?_,
    fun s c h hc => by rw [vfFlr_acts h, actFlr_noCove hc], fun s c h hc hst => by rw [vfFlr_acts h, actFlr_resetting hc hst],
    fun s c h _ => vfFlr_acts h,
    fun s c hrun hf hc hst => flrResetStuck_marks hrun hf hc hst, fun s c h hc hst => ?_, fun s c h hc hst => ⟨cpHang_own h hc hst,
      fun happly hs => ⟨_, cpHang_own h hc hst, ownHang_waits happly hs⟩⟩, fun s c hrun hp hw => ?_⟩
  · exact ⟨_, (cvQuiesceReq_begins hq hreq hrel hst).trans (by rw [ha]), beginQuiesce_finish hs⟩
  · exact ⟨_, cvQuiesceRelease_releases hq hreq hrel hst ha hb, rfl, coveSt_releaseCove hs⟩
  · exact ⟨_, quiesceAck_acks hrun hst hd ha, rfl, ackQuiesce_shows hs⟩
  · refine ⟨_, quiesceStuck_marks hrun hst, rfl, (flag_attend _ rfl (by simp)).trans (flag_setFlag_true rfl rfl _), fun hr => ?_⟩
    exact pending_raiseSrc_self hr
  · exact ⟨_, cvResetGo_resets hq hv hst, rfl, coveSt_beginReset c.isLt hs _, cpRst_beginReset ..⟩
  · obtain ⟨hactive, hclean, hcount⟩ := coveReset_shows (c := c) hs
    exact ⟨_, coveResetDone_completes hrun hst hw hp hm hf, (coveSt_attend _).trans hactive, (flag_attend _ rfl (by simp)).trans hclean,
      fun hr => pending_raiseSrc_self hr, (ctr_congr ((raiseSrc_ext ..).same .counters rfl) _).trans hcount⟩
  · exact ⟨_, cpHang_shared h hc hst, rfl, (askReset_ext ..).only rfl⟩
  · exact ⟨_, cpResetRelease_releases hrun hp hw, rfl, rfl, (thas_tput ..).trans (by simp), releaseCp_only _⟩

end Sys2Proof.Machine
end

section
/-!
The lines of a request, and a miss that the walker takes (R138, R140, R275).
-/
namespace Sys2Proof.Machine

/-! ### The lines of a request (R275) -/

/-- The part of line `k` of a request, counted from the line of its first byte: its DVA and its length. -/
def linePiece (dva len k : Nat) : Nat × Nat :=
  (max ((dva / 64 + k) * 64) dva, min ((dva / 64 + k) * 64 + 64) (dva + len) - max ((dva / 64 + k) * 64) dva)

/-- How many lines a request meets. -/
def lineCount (dva len : Nat) : Nat := (dva + len - 1) / 64 - dva / 64 + 1

theorem splitLines_one {dva len : Nat} {acc : Access} (h : acc ≠ .read ∨ dva % 64 + len ≤ 64) : splitLines dva len acc = [(dva, len)] := by
  refine if_neg fun hb => ?_
  simp only [Bool.and_eq_true, beq_iff_eq, decide_eq_true_eq] at hb
  obtain ⟨hread, hlen⟩ := hb
  exact h.elim (fun h => h hread) (Nat.not_le.2 hlen)

section
variable {dva len : Nat} (h : 64 < dva % 64 + len)
include h

theorem splitLines_many : splitLines dva len .read = (List.range (lineCount dva len)).map (linePiece dva len) := by
  have hne : len ≠ 0 := by omega
  rw [splitLines, if_pos (by simp [h]), linesOf, if_neg hne, List.map_map]
  rfl

/-- Each part lies in one line and within the request, and is not empty. -/
theorem linePiece_within {k : Nat} (hk : k < lineCount dva len) : 0 < (linePiece dva len k).2
    ∧ (linePiece dva len k).1 % 64 + (linePiece dva len k).2 ≤ 64 ∧ dva ≤ (linePiece dva len k).1
    ∧ (linePiece dva len k).1 + (linePiece dva len k).2 ≤ dva + len := by
  unfold lineCount at hk
  unfold linePiece
  dsimp only
  omega

/-- The first `n` parts of a request reach the end of the last of their lines, or of the request. -/
theorem sum_linePiece {n : Nat} (hn : n ≤ lineCount dva len) :
    ((List.range n).map fun k => (linePiece dva len k).2).sum = min ((dva / 64 + n) * 64) (dva + len) - dva := by
  induction n with
  | zero =>
    rw [List.range_zero, List.map_nil, List.sum_nil]
    omega
  | succ n ih =>
    rw [List.range_succ, List.map_append, List.sum_append, ih (by omega)]
    unfold lineCount at hn
    simp only [linePiece, List.map_cons, List.map_nil, List.sum_cons, List.sum_nil]
    omega

theorem sum_splitLines : ((splitLines dva len .read).map (·.2)).sum = len := by
  rw [splitLines_many h, List.map_map]
  refine (sum_linePiece h (Nat.le_refl _)).trans ?_
  unfold lineCount
  omega

theorem splitLines_within : ∀ x ∈ splitLines dva len .read, 0 < x.2 ∧ x.1 % 64 + x.2 ≤ 64 ∧ dva ≤ x.1 ∧ x.1 + x.2 ≤ dva + len := by
  rw [splitLines_many h]
  intro x hx
  obtain ⟨k, hk, rfl⟩ := List.mem_map.1 hx
  exact linePiece_within h (List.mem_range.1 hk)

end

/-! ### Requests (R138) -/

/-- A client of a cove looks its request up line by line; a bounce or sweep engine does so for the cove it serves. -/
theorem translateRequest_looksUp {s : State} {src : BitVec 16} {c : CoveId} {k cl : Nat} (hrun : running s (unitDomain src.toNat) = true)
    (hserved : src.toNat / 4096 = 6 ∨ src.toNat / 4096 = 7 → k = c.val)
    (hown : src.toNat / 4096 ≠ 6 → src.toNat / 4096 ≠ 7 → unitOwner s src.toNat = some k) (hcl : unitClient src.toNat = some cl)
    (hk : coveExists s k = true) (ctx : BitVec 12) (dva : BitVec 64) (len : Nat) (acc : Access) :
    exec (.translateRequest src c ctx dva len acc) s =
      .next ((splitLines dva.toNat len acc).foldl (requestLine src.toNat k cl ctx.toNat acc) s) := by
  have htag : (if src.toNat / 4096 = 6 || src.toNat / 4096 = 7 then some c.val else unitOwner s src.toNat) = some k := by
    split
    · next hs => rw [hserved (by simpa using hs)]
    · next hs =>
      have hne : ¬ src.toNat / 4096 = 6 ∧ ¬ src.toNat / 4096 = 7 := by simpa using hs
      exact hown hne.1 hne.2
  show execTranslateRequest src c ctx dva len acc s = _
  unfold execTranslateRequest
  dsimp only
  rw [htag, hcl]
  exact (if_neg (by simp [hk])).trans (atDomain_running hrun)

/-- A line whose lookup hits adds its transfer, ready. -/
theorem requestLine_hit {s s1 : State} {u c cl ctx dva len fpa : Nat} {acc : Access} {dl : Bool}
    (h : lookup s cl c ctx dva len acc = (.hit fpa dl, s1)) : requestLine u c cl ctx acc s (dva, len) =
      addXfer s1 ⟨c, u, some cl, ctx, dva, len, acc, fpa, dl, 1, 0, false, false, none, false, 0, .ready⟩ := by
  unfold requestLine
  rw [h]
  rfl

/-! ### Walks (R140) -/

theorem admitMisses_none {s : State} (h : ∀ e ∈ s.xl.xfers, e.2.stage ≠ .queueing) : admitMisses s = s := by
  refine List.foldlRecOn (motive := fun t => t = s) _ _ rfl fun t ht e he => ?_
  rw [ht]
  exact if_neg (by simpa using h e he)

/-- The state after the walker has taken a miss and begun its walk at an entry. -/
def beginWalk (s : State) (m : Miss) (rest : List Miss) (level addr : Nat) : State :=
  let t := setWalk (incCtr (incCtr { s with xl := { s.xl with missq := rest } } C.XL_WALK_CNT) (C.XL_CV_MISS m.cove)) s.xl.nextWalk
    ⟨m.cove, m.ctx, m.dva, level, addr, false⟩
  emit { t with xl := { t.xl with nextWalk := s.xl.nextWalk + 1 } } (.hostRead 0 (addr % 2 ^ 64) 8)

section
variable {s : State}

theorem walkStart_begins {m : Miss} {rest : List Miss} (hrun : running s 92 = true) (hq : s.xl.missq = m :: rest) (hw : s.xl.walks = [])
    (hm : missWaits s m = true) (hx : ∀ e ∈ s.xl.xfers, e.2.stage ≠ .queueing) : exec .walkStart s =
      .next (beginWalk s m rest (walkStartAt s m.cove m.ctx m.dva).1 (walkStartAt s m.cove m.ctx m.dva).2) := by
  have hadmit : admitMisses { s with xl := { s.xl with missq := rest } } = { s with xl := { s.xl with missq := rest } } := admitMisses_none hx
  have hwait : missWaits { s with xl := { s.xl with missq := rest } } m = true := hm
  show execWalkStart s = _
  unfold execWalkStart
  rw [hq]
  dsimp only
  rw [if_neg (by simp [hw, hrun]), hadmit, if_neg (by rw [hwait, hw]; exact Bool.false_ne_true)]
  rfl

section
variable {w : Nat} {k : Walk} (hrun : running s 92 = true) (hw : tfind s.xl.walks w = some k)
include hrun hw

theorem walkReadDone_steps (e : Dword) : exec (.walkReadDone w (some e)) s = .next (stepWalk s w k e.toNat) := by
  show execWalkReadDone w (some e) s = _
  unfold execWalkReadDone
  rw [hw]
  exact atDomain_running hrun

theorem walkReadDone_fails : exec (.walkReadDone w none) s = .next (endWalk (incCtr s C.XL_WALK_ERR) w 6) := by
  show execWalkReadDone w none s = _
  unfold execWalkReadDone
  rw [hw]
  exact atDomain_running hrun

end

theorem walkTimeout_fails {w : Nat} (hrun : running s 92 = true) (hw : thas s.xl.walks w = true) :
    exec (.walkTimeout w) s = .next (endWalk (incCtr s C.XL_WALK_ERR) w 6) := (if_pos hw).trans (atDomain_running hrun)

theorem transferComplete_returns {id : Nat} {x : Xfer} {r : Resp} (hx : tfind s.xl.xfers id = some x) (hst : x.stage = .done r)
    (hrun : running s (unitDomain x.src) = true) :
    exec (.transferComplete id) s = .next (emit (delXfer (markXfer s x r) id) (.xferDone id r)) := by
  show execTransferComplete id s = _
  unfold execTransferComplete
  rw [hx]
  dsimp only
  rw [hst]
  exact atDomain_running hrun

end

end Sys2Proof.Machine
end

section
/-!
Invalidations and the wrack queue's registers (R142–R149, R152).
-/
namespace Sys2Proof.Machine

theorem invsOf_setInvs (s : State) (c : Nat) {l : List Inv} (h : l ≠ []) : invsOf (setInvs s c l) c = l := tgetD_tsetD_of_ne _ _ _ h

section
variable {s : State} {q : Requester} {c : CoveId}

/-- The invalidation that the staging registers describe (R143). -/
def stagedInv (s : State) (c : Nat) : Inv where
  base := 2 ^ 16 * fld s (F.XL_INV_BASE_LO_DVA_LO c) + 2 ^ 32 * fld s (F.XL_INV_BASE_HI_DVA_HI c)
  pages := if fld s (F.XL_INV_LEN_PAGES c) = 0 then 2 ^ 32 else fld s (F.XL_INV_LEN_PAGES c)
  ctx := if flag s (F.XL_INV_SCOPE_ALL c) then none else some (fld s (F.XL_INV_SCOPE_CTX c))
  event := fld s (F.XL_INV_EVENT_EVENT c)
  value := fld64 s (F.XL_INV_VAL_LO_VALUE c) (F.XL_INV_VAL_HI_VALUE c)
  slow := false
  await := participants s c

theorem xlInvGo_takes (hq : Manages s q) (hc : coveExists s c.val = true) (h : (invsOf s c.val).length < 16) :
    exec (.xlInvGo q c) s = .next (setInvs (dropInv s c.val (stagedInv s c.val)) c.val (invsOf s c.val ++ [stagedInv s c.val])) :=
  (atDriver_manages hq hc _ _).trans (congrArg Host.Outcome.next (if_neg (Nat.not_le.2 h)))

/-- The acknowledgement of the last participant ends the one outstanding invalidation. -/
theorem invAck_ends {cl : Fin 228} {i : Inv} (hrun : running s 92 = true) (hcl : running s (clientDomain cl.val) = true)
    (hi : invsOf s c.val = [i]) (ha : i.await = [cl.val]) (hb : invBusy s c.val cl.val i = false) : exec (.invAck c cl) s =
      .next (signalEvent (setInvs (setInvs s c.val [{ i with await := [] }]) c.val []) c.val i.event i.value 3) := by
  have hread : invsOf (setInvs s c.val [{ i with await := [] }]) c.val = [{ i with await := [] }] := invsOf_setInvs _ _ (List.cons_ne_nil _ _)
  have hl : (invsOf s c.val).map (fun i => if invBusy s c.val cl.val i then i else { i with await := i.await.filter (· != cl.val) }) =
      [{ i with await := [] }] := by
    simp [hi, hb, ha]
  show execInvAck c cl s = _
  unfold execInvAck
  dsimp only
  rw [hl, if_pos hrun]
  refine (atDomain_running hcl).trans (congrArg Host.Outcome.next ?_)
  show finishInvs 1 _ _ = _
  unfold finishInvs
  rw [hread]
  rfl

theorem firstSlow_ne_nil {l : List Inv} (h : l ≠ []) : firstSlow l ≠ [] := by
  cases l with
  | nil => exact absurd rfl h
  | cons i l =>
    unfold firstSlow
    split
    · exact List.cons_ne_nil _ _
    · exact List.cons_ne_nil _ _

/-- The state after an invalidation is reported slow (R147). -/
def reportSlow (s : State) (c : Nat) : State := raiseSrc (setFlag (setInvs s c (firstSlow (invsOf s c))) (F.XL_INV_STATUS_SLOW c) true) 515

theorem invSlow_reports (hrun : running s 92 = true) (h : (invsOf s c.val).any (fun i => !i.slow) = true) :
    exec (.invSlow c) s = .next (reportSlow s c.val) := (if_pos h).trans (atDomain_running hrun)

theorem invsOf_reportSlow {c : Nat} (h : invsOf s c ≠ []) : invsOf (reportSlow s c) c = firstSlow (invsOf s c) := by
  have hx : (reportSlow s c).xl = (setInvs s c (firstSlow (invsOf s c))).xl := (raiseSrc_ext ..).same .xl rfl
  have hsame : invsOf (reportSlow s c) c = invsOf (setInvs s c (firstSlow (invsOf s c))) c := congrArg (fun x : XlSt => tgetD x.invs c []) hx
  rw [hsame, invsOf_setInvs _ _ (firstSlow_ne_nil h)]

theorem xlWqCons_takes (hq : Manages s q) (hc : coveExists s c.val = true) {v : Word}
    (h : (fld s (F.XL_WQ_PROD_PROD c.val) + 65536 - v.toNat % 65536) % 65536 ≤ 256) :
    exec (.xlWqCons q c v) s = .next (setFld s (F.XL_WQ_CONS_CONS c.val) (v.toNat % 65536)) :=
  (atDriver_manages hq hc _ _).trans (congrArg Host.Outcome.next (if_pos h))

theorem xlWqReplay_replays (hq : Manages s q) (hc : coveExists s c.val = true) (ctx : BitVec 12) :
    exec (.xlWqReplay q c ctx) s = .next ((heldOf s c.val ctx.toNat).foldl replayXfer s) := atDriver_manages hq hc _ _

end

end Sys2Proof.Machine
end

section
/-!
The dirty log's epochs, its line fills and the end of a swap (R157–R160).
-/
namespace Sys2Proof.Machine

/-! ### Swap and stop (R159) -/

section
variable {s : State} {q : Requester} {c : CoveId}

/-- The host address of the next bitmap. -/
def dlNext (s : State) (c : Nat) : Nat := fld s (F.XL_DL_NEXT_LO_ADDR_LO c) * 2 ^ 12 + 2 ^ 32 * fld s (F.XL_DL_NEXT_HI_ADDR_HI c)

section
variable (hq : Manages s q) (hc : coveExists s c.val = true) (hb : flag s (F.XL_DL_STATUS_BUSY c.val) = false)
include hq hc hb

theorem xlDlSwap_toggles : exec (.xlDlSwap q c) s = .next (dlToggle s c.val true (dlNext s c.val)) :=
  (atFabric_manages hq _).trans (congrArg Host.Outcome.next (if_neg (by simp [hc, hb])))

theorem xlDlStop_toggles : exec (.xlDlStop q c) s = .next (dlToggle s c.val false 0) :=
  (atFabric_manages hq _).trans (congrArg Host.Outcome.next (if_neg (by simp [hc, hb])))

end

theorem dlEpoch_dlToggle (s : State) (c : Nat) (on : Bool) (base : Nat) : dlEpoch (dlToggle s c on base) c = dlEpoch s c + 1 := by
  have he : dlEpoch (markPerformed s c) c = dlEpoch s c := congrArg (fun t => tgetD t c 0) (markPerformed_leaves s c).epochs
  calc dlEpoch (dlToggle s c on base) c = dlEpoch (markPerformed s c) c + 1 := tgetD_tsetD_of_ne _ _ _ (Nat.succ_ne_zero _)
    _ = dlEpoch s c + 1 := by rw [he]

theorem status_dlToggle (hs : Regs.wf s = true) (c : Nat) (on : Bool) (base : Nat) :
    dlOn (dlToggle s c on base) c = on ∧ flag (dlToggle s c on base) (F.XL_DL_STATUS_BUSY c) = true := by
  obtain ⟨t, ht⟩ : ∃ t, setFlag (markPerformed s c) (F.XL_DL_STATUS_EPOCH c) (!flag (markPerformed s c) (F.XL_DL_STATUS_EPOCH c)) = t := ⟨_, rfl⟩
  have hwf : Regs.wf t = true := by
    rw [← ht]
    exact (setFld_ext ..).regs ((markPerformed_ext ..).regs hs)
  have hread {f : Fld} (ho : f.off = 0x31024 + 0x40 * c) (hl : f.lo < 32) : flag (dlToggle s c on base) f =
      flag (setFlag (setFlag t (F.XL_DL_STATUS_ON c) on) (F.XL_DL_STATUS_BUSY c) true) f := by
    rw [← ht]
    refine flag_congr ((fld_setFld_ne _ _ (Fld.key_ne_of_off ?_ hl)).trans (fld_setFld_ne _ _ (Fld.key_ne_of_off ?_ hl)))
    · rw [ho]
      dsimp only
      omega
    · rw [ho]
      dsimp only
      omega
  have hne : (F.XL_DL_STATUS_ON c).key ≠ (F.XL_DL_STATUS_BUSY c).key := Fld.key_ne_of_lo rfl (by simp)
  refine ⟨(hread rfl (by simp)).trans ((flag_setFlag_ne hne _ _).trans (flag_setFlag_self hwf rfl on)), ?_⟩
  exact (hread rfl (by simp)).trans (flag_setFlag_true rfl rfl _)

end

/-! ### Line fills (R158) -/

/-- A line of the cache with the data read for it, where it is the one that waits for them. -/
def DirtyLine.fill (x : DirtyLine) (c addr : Nat) (d : Line) : DirtyLine :=
  if x.cove = c ∧ x.addr = addr ∧ x.filled = false then { x with filled := true, data := d } else x

/-- The state with the data of a bitmap line that has arrived. -/
def fillDirty (s : State) (c addr : Nat) (d : Line) : State :=
  { s with xl := { s.xl with dlc := s.xl.dlc.map (·.fill c addr d) } }

theorem dirtyLogLineFill_fills {s : State} (hrun : running s 92 = true) (c : CoveId) (a : BitVec 64) (d : Line) :
    exec (.dirtyLogLineFill c a d) s = .next (dlAdmit (fillDirty s c.val a.toNat d)) := by
  have hfill : (fun x : DirtyLine => if x.cove == c.val && x.addr == a.toNat && !x.filled then { x with filled := true, data := d } else x) =
      (·.fill c.val a.toNat d) := by
    funext x
    simp [DirtyLine.fill, and_assoc]
  show atDomain s 92 (dlAdmit { s with xl := { s.xl with dlc := s.xl.dlc.map _ } }) = _
  rw [hfill]
  exact atDomain_running hrun

theorem dlAdmit_none {s : State} (h : s.xl.dlWait = []) : dlAdmit s = s := by
  unfold dlAdmit
  rw [h]
  show { s with xl := { s.xl with dlWait := [] } } = s
  rw [← h]

/-! ### The end of a swap (R159) -/

/-- The write of a cached line back to its bitmap, with its marks. -/
def DirtyLine.writeBack (d : DirtyLine) : Out := .hostWrite 0 (d.addr % 2 ^ 64) (lineBytes (d.data ||| d.marks))

/-- The cached lines of the bitmap that a cove's log has left. -/
def leftLines (c : Nat) (l : List DirtyLine) : List DirtyLine := l.filter (fun d => d.cove == c && d.old)

theorem mem_leftLines {c : Nat} {l : List DirtyLine} {d : DirtyLine} : d ∈ leftLines c l ↔ d ∈ l ∧ d.cove = c ∧ d.old = true := by
  simp [leftLines]

/-- No cached line of cove `c` is of a bitmap left. -/
def NoneLeft (c : Nat) (l : List DirtyLine) : Prop := ∀ d ∈ l, d.cove = c → d.old = false

theorem NoneLeft.subset {c : Nat} {l m : List DirtyLine} (h : NoneLeft c l) (hs : ∀ d ∈ m, d ∈ l) : NoneLeft c m := fun d hd => h d (hs d hd)

theorem dlWriteBack_sends {s : State} (h : s.env.hostWriteFails = false) (d : DirtyLine) : dlWriteBack s d = emit s d.writeBack := by
  unfold dlWriteBack hostWrite
  rw [h]
  rfl

theorem dlc_dlWriteBack (s : State) (d : DirtyLine) : ∀ x ∈ (dlWriteBack s d).xl.dlc, x ∈ s.xl.dlc := by
  cases h : s.env.hostWriteFails with
  | false =>
    rw [dlWriteBack_sends h]
    exact fun x hx => hx
  | true =>
    have hfail : dlWriteBack s d = dlFail s d.cove := by
      unfold dlWriteBack hostWrite
      rw [h]
      rfl
    have hxl : (dlFail s d.cove).xl = (dlDrop s (fun x => x.cove == d.cove)).xl := (raiseSrc_ext _ 515).same .xl rfl
    rw [hfail, hxl]
    exact fun x hx => List.mem_of_mem_filter hx

theorem NoneLeft.dlPut {c : Nat} {s : State} (h : NoneLeft c s.xl.dlc) {d : DirtyLine} (hd : d.cove = c → d.old = false) :
    NoneLeft c (dlPut s d).xl.dlc := by
  have hadd {t : State} (ht : NoneLeft c t.xl.dlc) : NoneLeft c (if dlTakes t d then
      emit { t with xl := { t.xl with dlc := t.xl.dlc ++ [d] } } (.hostRead 0 (d.addr % 2 ^ 64) 64) else t).xl.dlc := by
    split
    · intro x hx
      rcases List.mem_append.1 hx with hx | hx
      · exact ht x hx
      · rw [List.mem_singleton.1 hx]
        exact hd
    · exact ht
  unfold Machine.dlPut
  dsimp only
  split
  · intro x hx
    obtain ⟨y, hy, rfl⟩ := List.mem_map.1 hx
    split
    · exact h y hy
    · exact h y hy
  · split
    · exact hadd h
    · split
      · exact hadd ((h.subset fun _ hx => List.mem_of_mem_erase hx).subset (dlc_dlWriteBack _ _))
      · exact h

theorem NoneLeft.dlAdmit {c : Nat} {s : State} (h : NoneLeft c s.xl.dlc) (hw : NoneLeft c s.xl.dlWait) : NoneLeft c (dlAdmit s).xl.dlc :=
  List.foldlRecOn (motive := fun t : State => NoneLeft c t.xl.dlc) _ _ h fun _ ht d hd => ht.dlPut (hw d hd)

/-- The lines written back, one after another, while the host answers. -/
theorem writeBacks_send {c : Nat} (l : List DirtyLine) {s : State} (hb : flag s (F.XL_DL_STATUS_BUSY c) = true) (hw : s.env.hostWriteFails = false) :
    l.foldl (fun s d => if flag s (F.XL_DL_STATUS_BUSY c) then dlWriteBack s d else s) s =
      { s with out := (l.map DirtyLine.writeBack).reverse ++ s.out } := by
  induction l generalizing s with
  | nil => rfl
  | cons d l ih =>
    rw [List.foldl_cons, if_pos hb, dlWriteBack_sends hw, ih (s := emit s d.writeBack) hb hw]
    simp [emit]

/-- The state with the lines of the left bitmap written back. -/
def leftWritten (s : State) (c : Nat) : State :=
  { dlDrop s (fun d => d.cove == c && d.old) with out := ((leftLines c s.xl.dlc).map DirtyLine.writeBack).reverse ++ s.out }

/-- The state at the end of a swap: the lines written back, the marks that waited admitted, and DONE shown. -/
def endSwap (s : State) (c : Nat) : State :=
  raiseSrc (setFlag (setFlag (dlAdmit (leftWritten s c)) (F.XL_DL_STATUS_BUSY c) false) (F.XL_DL_STATUS_DONE c) true) 515

section
variable {s : State} {c : CoveId}

theorem dirtyLogSwapDone_ends (hrun : running s 92 = true) (hb : flag s (F.XL_DL_STATUS_BUSY c.val) = true)
    (hf : ∀ d ∈ s.xl.dlc, d.cove = c.val → d.old = true → d.filled = true) (hw : NoneLeft c.val s.xl.dlWait) (he : s.env.hostWriteFails = false) :
    exec (.dirtyLogSwapDone c) s = .next (endSwap s c.val) := by
  have hfilled : (leftLines c.val s.xl.dlc).any (fun d => !d.filled) = false := by
    rw [List.any_eq_false]
    intro d hd hn
    obtain ⟨hmem, hcove, hold⟩ := mem_leftLines.1 hd
    simp [hf d hmem hcove hold] at hn
  have hwait : leftLines c.val s.xl.dlWait = [] := List.filter_eq_nil_iff.2 fun d hd hn => by
    simp only [Bool.and_eq_true, beq_iff_eq] at hn
    rw [hw d hd hn.1] at hn
    exact Bool.false_ne_true hn.2
  have hwrite : (leftLines c.val s.xl.dlc).foldl (fun s d => if flag s (F.XL_DL_STATUS_BUSY c.val) then dlWriteBack s d else s)
      (dlDrop s (fun d => d.cove == c.val && d.old)) = leftWritten s c.val := writeBacks_send _ hb he
  have hb1 : flag (leftWritten s c.val) (F.XL_DL_STATUS_BUSY c.val) = true := hb
  show (if !flag s (F.XL_DL_STATUS_BUSY c.val) || (leftLines c.val s.xl.dlc).any (fun d => !d.filled) || !(leftLines c.val s.xl.dlWait).isEmpty
    then _ else _) = _
  rw [if_neg (by simp only [hb, hfilled, hwait]; exact Bool.false_ne_true)]
  refine (atDomain_running hrun).trans (congrArg Host.Outcome.next ?_)
  show (if flag ((leftLines c.val s.xl.dlc).foldl _ _) (F.XL_DL_STATUS_BUSY c.val) then _ else _) = _
  rw [hwrite, if_pos hb1]
  show raiseSrc (setFlag (setFlag (dlAdmit ((leftLines c.val s.xl.dlc).foldl _ _)) _ _) _ _) 515 = _
  rw [hwrite]
  rfl

/-- A field of the dirty log's status is not touched by the raise of its source. -/
theorem flag_raiseDl {f : Fld} (ho : f.off = 0x31024 + 0x40 * c.val) (hl : f.lo < 32) (t : State) : flag (raiseSrc t 515) f = flag t f := by
  have hc : c.val < 16 := c.isLt
  refine flag_congr (fld_raiseSrc (Fld.key_ne_of_off ?_ hl) (Fld.key_ne_of_off ?_ hl) (by decide) t)
  · rw [ho]
    dsimp only
    omega
  · rw [ho]
    dsimp only
    omega

theorem done_endSwap : flag (endSwap s c.val) (F.XL_DL_STATUS_DONE c.val) = true :=
  (flag_raiseDl rfl (by simp) _).trans (flag_setFlag_true rfl rfl _)

theorem busy_endSwap (hs : Regs.wf s = true) : flag (endSwap s c.val) (F.XL_DL_STATUS_BUSY c.val) = false := by
  have hwf : Regs.wf (dlAdmit (leftWritten s c.val)) = true := (dlAdmit_ext _).regs hs
  have hne : (F.XL_DL_STATUS_BUSY c.val).key ≠ (F.XL_DL_STATUS_DONE c.val).key := Fld.key_ne_of_lo rfl (by simp)
  exact (flag_raiseDl rfl (by simp) _).trans ((flag_setFlag_ne hne _ _).trans (flag_setFlag_self hwf rfl false))

theorem written_endSwap {d : DirtyLine} (hd : d ∈ s.xl.dlc) (hc : d.cove = c.val) (ho : d.old = true) : d.writeBack ∈ (endSwap s c.val).out := by
  have hext : Ext 321 (leftWritten s c.val) (endSwap s c.val) :=
    (raiseSrc_ext ..).after rfl <| (setFlag_ext ..).after rfl <| (setFlag_ext ..).after rfl <| dlAdmit_ext _
  refine hext.out.subset (List.mem_append_left _ (List.mem_reverse.2 (List.mem_map_of_mem ?_)))
  exact mem_leftLines.2 ⟨hd, hc, ho⟩

theorem noneLeft_endSwap (hw : NoneLeft c.val s.xl.dlWait) : NoneLeft c.val (endSwap s c.val).xl.dlc := by
  have hxl : (endSwap s c.val).xl = (dlAdmit (leftWritten s c.val)).xl := (raiseSrc_ext _ 515).same .xl rfl
  rw [hxl]
  refine NoneLeft.dlAdmit (fun d hd hc => ?_) (hw.subset fun d hd => List.mem_of_mem_filter hd)
  have hkept : (!(d.cove == c.val && d.old)) = true := (List.mem_filter.1 hd).2
  simpa [hc] using hkept

theorem dirtyLogHostError_fails (hrun : running s 92 = true) (hon : dlOn s c.val = true) :
    exec (.dirtyLogHostError c) s = .next (dlFail s c.val) := (if_neg (by simp [hon])).trans (atDomain_running hrun)

end

/-- Settles O20, by the equation of each command; the lines that a swap leaves behind are followed through `NoneLeft`. -/
theorem translationCommandsComplete : Obligations.TranslationCommandsComplete := by
  unfold Obligations.TranslationCommandsComplete
  refine ⟨fun s src c ctx dva len acc k cl fpa dl s1 hrun hserved hown hcl hk hone hit => ?_,
    fun s src c ctx dva len k cl hrun hserved hown hcl hk hlen =>
      ⟨translateRequest_looksUp hrun hserved hown hcl hk ctx dva len .read, sum_splitLines hlen, splitLines_within hlen⟩,
    fun s m rest hrun hq hw hm hx => ⟨_, walkStart_begins hrun hq hw hm hx, rfl, tfind_tput_self .., rfl⟩,
    fun s w k e hrun hw => walkReadDone_steps hrun hw e, fun s w k hrun hw => walkReadDone_fails hrun hw,
    fun s w hrun hw => walkTimeout_fails hrun hw, fun s id x r hx hst hrun => transferComplete_returns hx hst hrun,
    fun s q c hq hc h => ?_, fun s c cl i hrun hcl hi ha hb _ => invAck_ends hrun hcl hi ha hb, fun s c hrun h => ?_,
    fun s q c v hq hc h => xlWqCons_takes hq hc h, fun s q c ctx hq hc => ⟨xlWqReplay_replays hq hc ctx, xlWqKill_manages hq hc ctx⟩,
    fun s q c hq hs hc hb => ⟨⟨_, xlDlSwap_toggles hq hc hb, dlEpoch_dlToggle .., status_dlToggle hs ..⟩,
      ⟨_, xlDlStop_toggles hq hc hb, dlEpoch_dlToggle .., status_dlToggle hs ..⟩⟩,
    fun s c a d hrun => ?_, fun s c hrun hb hf hw he => ?_,
    fun s c hrun hon => ⟨_, dirtyLogHostError_fails hrun hon, pending_raiseSrc_self rfl⟩⟩
  · rw [translateRequest_looksUp hrun hserved hown hcl hk, splitLines_one hone]
    exact congrArg Host.Outcome.next (requestLine_hit hit)
  · exact ⟨_, xlInvGo_takes hq hc h, stagedInv s c.val, invsOf_setInvs _ _ (by simp), rfl, ((setInvs_ext ..).after rfl (dropInv_ext ..)).only rfl⟩
  · have hne : invsOf s c.val ≠ [] := by
      intro e
      rw [e] at h
      exact Bool.false_ne_true h
    exact ⟨_, invSlow_reports hrun h, invsOf_reportSlow hne, pending_raiseSrc_self rfl⟩
  · refine ⟨_, dirtyLogLineFill_fills hrun c a d, fillDirty s c.val a.toNat d, rfl, fun hwait => dlAdmit_none hwait, rfl, List.length_map .., fun j x hj => ?_,
      (Ext.withXl rfl (.refl 64 s) : Ext 64 s _).only rfl⟩
    exact (List.getElem?_map ..).trans (congrArg (Option.map _) hj)
  · exact ⟨_, dirtyLogSwapDone_ends hrun hb hf hw he, pending_raiseSrc_self rfl, done_endSwap, busy_endSwap,
      fun d hd hc ho => written_endSwap hd hc ho, noneLeft_endSwap hw⟩

end Sys2Proof.Machine
end
